-- ==== Sys2Proof/Word.lean ====
section
/-!
DEFINITION. The word types of the Dravub Y8 and their plainest arithmetic (spec/00_scope.md R3, R4, R8;
spec/04_sequencer.md R86).
-/
namespace Sys2Proof

/-- A 64-bit register, address or doubleword (R86). -/
abbrev Word := BitVec 64

/-- The unit of memory (R125). -/
abbrev Byte := BitVec 8

/-- A sparse table: key and value pairs, keys rising.  A key that is not listed has the table's default. -/
abbrev Tab (α : Type) := List (Nat × α)

/-- The entry of `k`, or `d` where none is listed. -/
def tget {α : Type} (d : α) : Tab α → Nat → α
  | [], _ => d
  | (k', v) :: r, k => if k = k' then v else tget d r k

/-- The entry of `k`, if one is listed. -/
def tfind {α : Type} : Tab α → Nat → Option α
  | [], _ => none
  | (k', v) :: r, k => if k = k' then some v else tfind r k

/-- The table with `v` at `k`. -/
def tset {α : Type} : Tab α → Nat → α → Tab α
  | [], k, v => [(k, v)]
  | (k', v') :: r, k, v =>
    if k = k' then (k, v) :: r
    else if k < k' then (k, v) :: (k', v') :: r
    else (k', v') :: tset r k v

/-- The table without `k`. -/
def tdel {α : Type} : Tab α → Nat → Tab α
  | [], _ => []
  | (k', v') :: r, k => if k = k' then tdel r k else (k', v') :: tdel r k

end Sys2Proof
end

