-- ==== Sys2Proof/Syntax.lean ====
section
/-!
DEFINITION. The syntax of the Dravub Y8's steps: the operands of the instruction words of spec/02_encoding.md
(R41 to R49, R55), the messages that the events carry, and the ONE inductive of all steps.
-/
namespace Sys2Proof

/-- A g register number, g0 to g7 (R45). -/
abbrev GReg := BitVec 3
/-- A vector register number, v0 to v31 (R45). -/
abbrev VReg := BitVec 5
/-- A mask register number, k0 to k7 (R45). -/
abbrev KReg := BitVec 3

/-- The orderings of R7. -/
inductive MemOrd where
  | rlx | acq | rel | ar
  deriving DecidableEq, Repr

/-- The scopes of R7; codes 6 and 7 are illegal. -/
inductive Scope where
  | fib | bay | die | pkg | dom | sys
  deriving DecidableEq, Repr

/-- The vector types of R55. -/
inductive Ty where
  | f32 | bf16 | f16 | e4m3 | e5m2 | i32 | i16 | i8
  deriving DecidableEq, Repr

/-- The rounding modes of R55. -/
inductive Rm where
  | rne | rz | rd | ru
  deriving DecidableEq, Repr

/-- The gutter directions of R55. -/
inductive Dir where
  | east | west
  deriving DecidableEq, Repr

/-- The access sizes of R42. -/
inductive Sz where
  | b | h | w | d
  deriving DecidableEq, Repr

/-- The sizes of an atomic, OPT[1:0] 0b10 and 0b11 (R48). -/
inductive AtSz where
  | w | d
  deriving DecidableEq, Repr

/-- The fence kinds of R48; kind 0b00 is illegal. -/
inductive FenceKind where
  | acq | rel | full
  deriving DecidableEq, Repr

/-- The fault causes of R408. -/
inductive Cause where
  | illegal | ifetch | align | quota | range | lstack | vframe | trap | fstate | bstate | vnobind | gaddr
  | xlate | perm | aperture | domain | memerr | engine | cistern | desc | panel | mreject
  deriving DecidableEq, Repr

/-- The reasons for which a context ends (R427). -/
inductive EndReason where
  | double | watchdog | remote | restore | cellar | group | host | faults
  deriving DecidableEq, Repr

/-- A spawn request (R173): entry address, argument, and a priority whose value 7 means none. -/
structure SpawnReq where
  entry : Word
  arg : Word
  pri : BitVec 3
  deriving DecidableEq, Repr

/-- A fabric packet (R334): the 512-bit header flit and the payload bytes of its LEN payload flits. -/
structure Packet where
  hdr : BitVec 512
  payload : List Byte
  deriving DecidableEq, Repr

/-- Where a packet is inside the package (R331, R337): the switch (IO die 0 or 1), and the port and virtual channel whose
ingress buffer holds it; none where it comes from this package, which may have had it on an escape channel before a link failed
(R338, R349): 1 ESC0, 2 ESC1, 0 on none. -/
structure Hop where
  sw : Nat
  inp : Option (Nat × Nat)
  esc : Nat := 0
  deriving DecidableEq, Repr

/-- A switch-plan entry (R445): timestamp, rectangle in the layout of R225, context, mode and resident index. -/
structure PlanEntry where
  time : Word
  rect : BitVec 26
  ctxid : BitVec 32
  mode : BitVec 2
  index : BitVec 2
  deriving DecidableEq, Repr

/-- A remote matrix command in the mesh (R319, R320): the block, the semaphore, and who sent it. -/
structure MrMsg where
  target : Nat
  asid : Nat
  key : BitVec 32
  word : BitVec 32
  opA : Word
  opB : Word
  sem : Nat
  oBay : Nat
  oSlot : Nat
  oGen : BitVec 23
  uid : Nat
  deriving DecidableEq, Repr

/-- A pending engine or cistern fault (R412), with the generation at issue (R432) and the ring entry whose PEND bit
it holds (R418). -/
structure PFault where
  hcause : Word
  hval : Word
  hseq : Word
  gen : BitVec 23
  eng : Option (Nat × Nat × Nat)
  deriving DecidableEq, Repr

/-- A request to a cistern unit (R399 to R401): the entry's handle, the count or descriptor, the issuer, and a name that
rises with the issue (R400). -/
structure CistMsg where
  asid : Nat
  handle : Word
  count : Nat
  desc : List Word
  sem : Nat
  oBay : Nat
  oSlot : Nat
  oGen : BitVec 23
  uid : Nat
  id : Nat
  deriving DecidableEq, Repr

/-- Where a patrol scrub reads (R458, R460): a code word of a data memory by its key, a register or mask of a vector context, a line
of an instruction cache, or a bay's fibre state, semaphore file, port entries or cistern table (1 to 4). -/
inductive ErrLoc where
  | mem (key : Nat)
  | vec (bay idx v r : Nat)
  | icache (bay key : Nat)
  | control (bay what : Nat)
  deriving DecidableEq, Repr

/-- What a patrol scrub finds there (R458, R459): nothing new, an error that the code corrects, one that it cannot correct; or, the
model's own, that such an error arises with nothing to find it yet. -/
inductive ErrFind where
  | nothing
  | corrected
  | uncorrectable
  | arises
  deriving DecidableEq, Repr

/-- A front-end packet as the chaining engine hands it on (R437): its queue, TAG and command block address, and the HEAD at which it
stood, which tells it from every other packet of the queue. -/
structure HostPkt where
  queue : Nat
  tag : BitVec 16
  blk : Nat
  num : BitVec 32
  deriving DecidableEq, Repr

/-- The steps of the Dravub Y8: one constructor for each row of spec/opcode_table.json.  The first 221 are
the instruction words of R41 to R49; the others are the events that come about between them (spec/95).  Each
constructor names its rule. -/
inductive Instr where
  /-- R96: Writes the sum of ga and gb to gd. -/
  | add (d : GReg) (a : GReg) (b : GReg)
  /-- R96: Writes ga minus gb to gd. -/
  | sub (d : GReg) (a : GReg) (b : GReg)
  /-- R96: Writes the bitwise and of ga and gb to gd. -/
  | and (d : GReg) (a : GReg) (b : GReg)
  /-- R96: Writes the bitwise or of ga and gb to gd. -/
  | or (d : GReg) (a : GReg) (b : GReg)
  /-- R96: Writes the bitwise exclusive or of ga and gb to gd. -/
  | xor (d : GReg) (a : GReg) (b : GReg)
  /-- R96: Writes ga and not gb to gd. -/
  | andn (d : GReg) (a : GReg) (b : GReg)
  /-- R96: Shifts ga left by gb[5:0] into gd. -/
  | sll (d : GReg) (a : GReg) (b : GReg)
  /-- R96: Shifts ga right logically by gb[5:0] into gd. -/
  | srl (d : GReg) (a : GReg) (b : GReg)
  /-- R96: Shifts ga right arithmetically by gb[5:0] into gd. -/
  | sra (d : GReg) (a : GReg) (b : GReg)
  /-- R96: Rotates ga left by gb[5:0] into gd. -/
  | rol (d : GReg) (a : GReg) (b : GReg)
  /-- R96: Writes 1 to gd if ga is signed-less than gb, else 0. -/
  | slt (d : GReg) (a : GReg) (b : GReg)
  /-- R96: Writes 1 to gd if ga is unsigned-less than gb, else 0. -/
  | sltu (d : GReg) (a : GReg) (b : GReg)
  /-- R96: Writes 1 to gd if ga equals gb, else 0. -/
  | seq (d : GReg) (a : GReg) (b : GReg)
  /-- R96: Writes the signed minimum of ga and gb to gd. -/
  | min (d : GReg) (a : GReg) (b : GReg)
  /-- R96: Writes the signed maximum of ga and gb to gd. -/
  | max (d : GReg) (a : GReg) (b : GReg)
  /-- R96: Writes the unsigned minimum of ga and gb to gd. -/
  | minu (d : GReg) (a : GReg) (b : GReg)
  /-- R96: Writes the unsigned maximum of ga and gb to gd. -/
  | maxu (d : GReg) (a : GReg) (b : GReg)
  /-- R96: Shifts ga left by an immediate amount into gd. -/
  | slli (d : GReg) (a : GReg) (h : BitVec 6)
  /-- R96: Shifts ga right logically by an immediate amount into gd. -/
  | srli (d : GReg) (a : GReg) (h : BitVec 6)
  /-- R96: Shifts ga right arithmetically by an immediate amount into gd. -/
  | srai (d : GReg) (a : GReg) (h : BitVec 6)
  /-- R96: Writes ga to gd if the old gd is non-zero, else gb. -/
  | sel (d : GReg) (a : GReg) (b : GReg)
  /-- R96: Writes the 32-bit sum of ga and gb, sign-extended, to gd. -/
  | addw (d : GReg) (a : GReg) (b : GReg)
  /-- R96: Writes the 32-bit difference of ga and gb, sign-extended, to gd. -/
  | subw (d : GReg) (a : GReg) (b : GReg)
  /-- R97: Adds a sign-extended 20-bit immediate to ga into gd. -/
  | addi (d : GReg) (a : GReg) (i : BitVec 20)
  /-- R97: Ands ga with a sign-extended immediate into gd. -/
  | andi (d : GReg) (a : GReg) (i : BitVec 20)
  /-- R97: Ors ga with a sign-extended immediate into gd. -/
  | ori (d : GReg) (a : GReg) (i : BitVec 20)
  /-- R97: Exclusive-ors ga with a sign-extended immediate into gd. -/
  | xori (d : GReg) (a : GReg) (i : BitVec 20)
  /-- R97: Writes 1 to gd if ga is signed-less than the immediate. -/
  | slti (d : GReg) (a : GReg) (i : BitVec 20)
  /-- R97: Writes 1 to gd if ga is unsigned-less than the extended immediate. -/
  | sltiu (d : GReg) (a : GReg) (i : BitVec 20)
  /-- R98: Loads a sign-extended 23-bit immediate into gd. -/
  | limm (d : GReg) (i : BitVec 23)
  /-- R98: Shifts gd left by 23 and ors in a 23-bit immediate. -/
  | lshi (d : GReg) (i : BitVec 23)
  /-- R99: Writes the low 64 bits of ga times gb to gd. -/
  | mul (d : GReg) (a : GReg) (b : GReg)
  /-- R99: Writes the high 64 bits of the signed product to gd. -/
  | mulh (d : GReg) (a : GReg) (b : GReg)
  /-- R99: Writes the high 64 bits of the unsigned product to gd. -/
  | mulhu (d : GReg) (a : GReg) (b : GReg)
  /-- R99: Writes the sign-extended 32-bit product of the low words to gd. -/
  | mulw (d : GReg) (a : GReg) (b : GReg)
  /-- R99: Starts a signed division on the shared divider, marking gd empty. -/
  | div (d : GReg) (a : GReg) (b : GReg)
  /-- R99: Starts an unsigned division on the shared divider, marking gd empty. -/
  | divu (d : GReg) (a : GReg) (b : GReg)
  /-- R99: Starts a signed remainder on the shared divider, marking gd empty. -/
  | rem (d : GReg) (a : GReg) (b : GReg)
  /-- R99: Starts an unsigned remainder on the shared divider, marking gd empty. -/
  | remu (d : GReg) (a : GReg) (b : GReg)
  /-- R101: Writes the number of one bits of ga to gd. -/
  | popc (d : GReg) (a : GReg)
  /-- R101: Writes the count of leading zero bits of ga to gd. -/
  | clz (d : GReg) (a : GReg)
  /-- R101: Writes the count of trailing zero bits of ga to gd. -/
  | ctz (d : GReg) (a : GReg)
  /-- R101: Writes ga with its bytes reversed to gd. -/
  | bswap (d : GReg) (a : GReg)
  /-- R101: Extracts a bit field of ga selected by gb into gd. -/
  | bext (d : GReg) (a : GReg) (b : GReg)
  /-- R101: Inserts ga into a bit field of the old gd selected by gb. -/
  | bins (d : GReg) (a : GReg) (b : GReg)
  /-- R101: Sign-extends the low n bits of ga into gd. -/
  | sext (d : GReg) (a : GReg) (n : BitVec 6)
  /-- R101: Zero-extends the low n bits of ga into gd. -/
  | zext (d : GReg) (a : GReg) (n : BitVec 6)
  /-- R102: Writes the instruction's address plus a word offset to gd. -/
  | addpc (d : GReg) (i : BitVec 20)
  /-- R103: Writes ga plus gb shifted left by 0 to 3 to gd. -/
  | lea (d : GReg) (a : GReg) (b : GReg) (h : BitVec 2)
  /-- R103: Converts mesh coordinates ga, gb into a bay number, faulting RANGE when out of range. -/
  | bayn (d : GReg) (a : GReg) (b : GReg)
  /-- R103: Forms the aperture address of scratchpad byte ga of bay gb. -/
  | baya (d : GReg) (a : GReg) (b : GReg)
  /-- R104: Branches when ga equals gb. -/
  | beq (a : GReg) (b : GReg) (o : BitVec 17)
  /-- R104: Branches when ga differs from gb. -/
  | bne (a : GReg) (b : GReg) (o : BitVec 17)
  /-- R104: Branches when ga is signed-less than gb. -/
  | blt (a : GReg) (b : GReg) (o : BitVec 17)
  /-- R104: Branches when ga is signed-greater or equal to gb. -/
  | bge (a : GReg) (b : GReg) (o : BitVec 17)
  /-- R104: Branches when ga is unsigned-less than gb. -/
  | bltu (a : GReg) (b : GReg) (o : BitVec 17)
  /-- R104: Branches when ga is unsigned-greater or equal to gb. -/
  | bgeu (a : GReg) (b : GReg) (o : BitVec 17)
  /-- R104: Branches when bit gb[5:0] of ga is clear. -/
  | bbc (a : GReg) (b : GReg) (o : BitVec 17)
  /-- R104: Branches when bit gb[5:0] of ga is set. -/
  | bbs (a : GReg) (b : GReg) (o : BitVec 17)
  /-- R105: Jumps by a 26-bit word offset. -/
  | jmp (o : BitVec 26)
  /-- R105: Writes the return address to g7 and jumps by a word offset. -/
  | call (o : BitVec 26)
  /-- R105: Jumps to the address in ga, faulting ALIGN when misaligned. -/
  | jr (a : GReg)
  /-- R105: Jumps to ga and writes the return address to g7. -/
  | callr (a : GReg)
  /-- R107: Pushes a hardware loop at a level with an immediate pass count. -/
  | loop (l : BitVec 2) (n : BitVec 10) (e : BitVec 10)
  /-- R107: Pushes a hardware loop at a level with the pass count in ga. -/
  | loopReg (l : BitVec 2) (a : GReg) (e : BitVec 10)
  /-- R109: Leaves loop level lvl and every inner loop, continuing after its body. -/
  | lbrk (l : BitVec 2)
  /-- R109: Writes the remaining pass count of a loop level to gd. -/
  | lcnt (d : GReg) (l : BitVec 2)
  /-- R111: Opens a replay frame of the next n vector instructions with an immediate count. -/
  | vrep (n : BitVec 4) (c : BitVec 10) (s : BitVec 2) (t : BitVec 2) (u : BitVec 2)
  /-- R111: Opens a replay frame of the next n vector instructions with the count in ga. -/
  | vrepReg (n : BitVec 4) (a : GReg) (s : BitVec 2) (t : BitVec 2) (u : BitVec 2)
  /-- R117: Does nothing; PC follows the loop-end rule. -/
  | nop
  /-- R117: Enters handler mode with cause TRAP and the code in HVAL. -/
  | trap (i : BitVec 14)
  /-- R117: Waits for the access ring, then returns from handler mode to HPC. -/
  | hret
  /-- R115: Copies a system register into gd. -/
  | sysrd (d : GReg) (n : BitVec 14)
  /-- R115: Writes ga to a system register under its access rule. -/
  | syswr (a : GReg) (n : BitVec 14)
  /-- R119: Sets an event counter's source, clears it and assigns it to the context. -/
  | evsel (a : GReg) (c : BitVec 3)
  /-- R119: Reads an event counter assigned to the issuing context. -/
  | evrd (d : GReg) (c : BitVec 3)
  /-- R118: Writes the device-wide time base to gd. -/
  | time (d : GReg)
  /-- R120: Starts removing a range of lines of the context from the bay's instruction cache. -/
  | icinv (a : GReg) (l : BitVec 14)
  /-- R176: Places a spawn request on the issuing bay and returns the handle or 0. -/
  | fspawn (d : GReg) (a : GReg) (b : GReg)
  /-- R176: Sends a spawn message to the bay in gd, or spawns locally. -/
  | fspawnb (d : GReg) (a : GReg) (b : GReg)
  /-- R183: Waits for outstanding work, frees the slot and decrements the live count. -/
  | fexit
  /-- R179: Writes the issuing fibre's handle to gd. -/
  | fid (d : GReg)
  /-- R181: Sets the fibre's base priority from ga. -/
  | fpri (a : GReg)
  /-- R182: Clears the waiting count and makes the fibre not ready for 64 cycles. -/
  | fyield
  /-- R187: Migrates the fibre to bay ga of the same context. -/
  | fgo (a : GReg)
  /-- R188: Moves the fibre to the tail of its bay's cellar ring. -/
  | fpark
  /-- R180: Writes the context's scheduling state on the bay to gd. -/
  | fctx (d : GReg)
  /-- R218: Writes the remaining contract budget of the period to gd. -/
  | cbudget (d : GReg)
  /-- R199: Posts ga[23:0] to a semaphore, with optional release. -/
  | spost (a : GReg) (x : BitVec 10) (r : MemOrd) (p : Scope)
  /-- R199: Takes ga units from a semaphore or queues until served. -/
  | swait (a : GReg) (x : BitVec 10) (r : MemOrd) (p : Scope)
  /-- R199: Tries to take ga units from a semaphore without blocking. -/
  | stry (a : GReg) (b : GReg) (x : BitVec 10) (r : MemOrd) (p : Scope)
  /-- R199: Reads a semaphore's value, overflow and queue state into gb. -/
  | sread (b : GReg) (x : BitVec 10)
  /-- R199: Sets a semaphore's value, clears OVF and serves its queue. -/
  | sinit (a : GReg) (x : BitVec 10)
  /-- R229: Counts an arrival on a barrier channel and writes the ticket. -/
  | barr (x : BitVec 10) (r : MemOrd) (p : Scope)
  /-- R229: Waits for the phase named by the ticket to complete. -/
  | bwait (x : BitVec 10) (r : MemOrd) (p : Scope)
  /-- R229: Arrives on a barrier channel and waits for the phase. -/
  | bsync (x : BitVec 10) (r : MemOrd) (p : Scope)
  /-- R226: Sets or clears the bay's membership of a barrier channel. -/
  | bmask (a : GReg) (x : BitVec 10)
  /-- R232: Writes a barrier channel's state to gb. -/
  | bstat (b : GReg) (x : BitVec 10)
  /-- R237: Pushes ga to the neighbour's gutter queue, blocking for a credit. -/
  | qpush (a : GReg) (r : Dir)
  /-- R237: Pops a word from a gutter queue into gd, blocking when empty. -/
  | qpop (d : GReg) (r : Dir)
  /-- R237: Tries to push ga to the neighbour and writes success to gd. -/
  | qpusht (d : GReg) (a : GReg) (r : Dir)
  /-- R237: Tries to pop a word into gd and writes success to gb. -/
  | qpopt (d : GReg) (b : GReg) (r : Dir)
  /-- R237: Pops a gutter word and forwards it onward in one cycle. -/
  | qfwd (d : GReg) (r : Dir)
  /-- R238: Writes the gutter status of a direction to gd. -/
  | qstat (d : GReg) (r : Dir)
  /-- R140: Loads from the local scratchpad into gd, marking it empty until data lands. -/
  | ldl (d : GReg) (a : GReg) (s : Sz) (z : Bool) (o : BitVec 17)
  /-- R140: Stores gd to the local scratchpad. -/
  | stl (d : GReg) (a : GReg) (s : Sz) (o : BitVec 17)
  /-- R140: Issues a global load into gd through the access ring. -/
  | ldg (d : GReg) (a : GReg) (s : Sz) (z : Bool) (o : BitVec 17)
  /-- R140: Issues a global store of gd through the access ring. -/
  | stg (d : GReg) (a : GReg) (s : Sz) (o : BitVec 17)
  /-- R141: Atomically adds gb and returns the old value in gd. -/
  | aadd (d : GReg) (a : GReg) (b : GReg) (g : Bool) (r : MemOrd) (p : Scope) (s : AtSz)
  /-- R141: Atomically ands gb and returns the old value. -/
  | aand (d : GReg) (a : GReg) (b : GReg) (g : Bool) (r : MemOrd) (p : Scope) (s : AtSz)
  /-- R141: Atomically ors gb and returns the old value. -/
  | aor (d : GReg) (a : GReg) (b : GReg) (g : Bool) (r : MemOrd) (p : Scope) (s : AtSz)
  /-- R141: Atomically exclusive-ors gb and returns the old value. -/
  | axor (d : GReg) (a : GReg) (b : GReg) (g : Bool) (r : MemOrd) (p : Scope) (s : AtSz)
  /-- R141: Atomic signed minimum returning the old value. -/
  | amin (d : GReg) (a : GReg) (b : GReg) (g : Bool) (r : MemOrd) (p : Scope) (s : AtSz)
  /-- R141: Atomic signed maximum returning the old value. -/
  | amax (d : GReg) (a : GReg) (b : GReg) (g : Bool) (r : MemOrd) (p : Scope) (s : AtSz)
  /-- R141: Atomic unsigned minimum returning the old value. -/
  | aminu (d : GReg) (a : GReg) (b : GReg) (g : Bool) (r : MemOrd) (p : Scope) (s : AtSz)
  /-- R141: Atomic unsigned maximum returning the old value. -/
  | amaxu (d : GReg) (a : GReg) (b : GReg) (g : Bool) (r : MemOrd) (p : Scope) (s : AtSz)
  /-- R141: Atomically swaps in gb and returns the old value. -/
  | aswap (d : GReg) (a : GReg) (b : GReg) (g : Bool) (r : MemOrd) (p : Scope) (s : AtSz)
  /-- R141: Atomic compare-and-swap against gd, returning the old value. -/
  | acas (d : GReg) (a : GReg) (b : GReg) (g : Bool) (r : MemOrd) (p : Scope) (s : AtSz)
  /-- R141: No-return atomic add of gb. -/
  | stadd (a : GReg) (b : GReg) (g : Bool) (r : MemOrd) (p : Scope) (s : AtSz)
  /-- R141: No-return atomic and of gb. -/
  | stand (a : GReg) (b : GReg) (g : Bool) (r : MemOrd) (p : Scope) (s : AtSz)
  /-- R141: No-return atomic or of gb. -/
  | stor (a : GReg) (b : GReg) (g : Bool) (r : MemOrd) (p : Scope) (s : AtSz)
  /-- R141: No-return atomic exclusive-or of gb. -/
  | stxor (a : GReg) (b : GReg) (g : Bool) (r : MemOrd) (p : Scope) (s : AtSz)
  /-- R141: No-return atomic signed minimum. -/
  | stmin (a : GReg) (b : GReg) (g : Bool) (r : MemOrd) (p : Scope) (s : AtSz)
  /-- R141: No-return atomic signed maximum. -/
  | stmax (a : GReg) (b : GReg) (g : Bool) (r : MemOrd) (p : Scope) (s : AtSz)
  /-- R141: No-return atomic unsigned minimum. -/
  | stminu (a : GReg) (b : GReg) (g : Bool) (r : MemOrd) (p : Scope) (s : AtSz)
  /-- R141: No-return atomic unsigned maximum. -/
  | stmaxu (a : GReg) (b : GReg) (g : Bool) (r : MemOrd) (p : Scope) (s : AtSz)
  /-- R152: Waits for the ring and local accesses, takes deferred faults, then orders at a scope. -/
  | fence (k : FenceKind) (p : Scope)
  /-- R153: A fence that also waits for accesses to be performed at their physical bytes. -/
  | fencea (k : FenceKind) (p : Scope)
  /-- R253: Binds and clears the lowest free vector context of the set. -/
  | vbind
  /-- R253: Waits for the queue to drain and frees the bound vector context. -/
  | vfree
  /-- R253: Waits until every earlier vector entry has performed its effects. -/
  | vdrain
  /-- R254: Writes gb into every selected lane of vd. -/
  | vsplat (d : VReg) (b : GReg) (t : Ty) (k : KReg)
  /-- R254: Writes gb into lane gi of vd. -/
  | vins (d : VReg) (i : GReg) (b : GReg) (t : Ty)
  /-- R254: Returns a lane of va, or NSTAT, to gb after earlier entries complete. -/
  | vget (i : GReg) (a : VReg) (b : GReg) (t : Ty)
  /-- R255: Queues a 256-byte scratchpad load into vd. -/
  | vld (d : VReg) (a : GReg) (k : KReg) (o : BitVec 10)
  /-- R255: Queues a strided load of eight 32-byte chunks into vd. -/
  | vlds (d : VReg) (a : GReg) (b : GReg) (k : KReg) (o : BitVec 10)
  /-- R255: Queues a load of one 32-byte chunk into all eight chunks of vd. -/
  | vldb (d : VReg) (a : GReg) (k : KReg) (o : BitVec 10)
  /-- R255: Queues a 256-byte store of vd to scratchpad. -/
  | vst (d : VReg) (a : GReg) (k : KReg) (o : BitVec 10)
  /-- R255: Queues a strided store of vd's chunks to scratchpad. -/
  | vsts (d : VReg) (a : GReg) (b : GReg) (k : KReg) (o : BitVec 10)
  /-- R256: Lane-wise floating-point add. -/
  | vadd (d : VReg) (a : VReg) (b : VReg) (t : Ty) (k : KReg)
  /-- R256: Lane-wise floating-point subtract. -/
  | vsub (d : VReg) (a : VReg) (b : VReg) (t : Ty) (k : KReg)
  /-- R256: Lane-wise floating-point multiply. -/
  | vmul (d : VReg) (a : VReg) (b : VReg) (t : Ty) (k : KReg)
  /-- R256: Lane-wise fused multiply-add into vd. -/
  | vfma (d : VReg) (a : VReg) (b : VReg) (t : Ty) (k : KReg)
  /-- R256: Lane-wise fused d minus a times b. -/
  | vfms (d : VReg) (a : VReg) (b : VReg) (t : Ty) (k : KReg)
  /-- R256: Lane-wise floating-point minimum. -/
  | vmin (d : VReg) (a : VReg) (b : VReg) (t : Ty) (k : KReg)
  /-- R256: Lane-wise floating-point maximum. -/
  | vmax (d : VReg) (a : VReg) (b : VReg) (t : Ty) (k : KReg)
  /-- R256: Lane-wise absolute value. -/
  | vabs (d : VReg) (a : VReg) (t : Ty) (k : KReg)
  /-- R256: Lane-wise negation. -/
  | vneg (d : VReg) (a : VReg) (t : Ty) (k : KReg)
  /-- R84: Lane-wise reciprocal square root estimate. -/
  | vrsq (d : VReg) (a : VReg) (k : KReg)
  /-- R84: Lane-wise reciprocal estimate. -/
  | vrcp (d : VReg) (a : VReg) (k : KReg)
  /-- R84: Lane-wise base-2 exponential estimate. -/
  | vexp2 (d : VReg) (a : VReg) (k : KReg)
  /-- R84: Lane-wise base-2 logarithm estimate. -/
  | vlog2 (d : VReg) (a : VReg) (k : KReg)
  /-- R256: Lane-wise correctly rounded square root. -/
  | vsqrt (d : VReg) (a : VReg) (k : KReg)
  /-- R256: Lane-wise correctly rounded division. -/
  | vdiv (d : VReg) (a : VReg) (b : VReg) (k : KReg)
  /-- R256: Adds scalar gb to every lane. -/
  | vadds (d : VReg) (a : VReg) (b : GReg) (t : Ty) (k : KReg)
  /-- R256: Multiplies every lane by scalar gb. -/
  | vmuls (d : VReg) (a : VReg) (b : GReg) (t : Ty) (k : KReg)
  /-- R256: Fused multiply by scalar gb and add vd. -/
  | vfmas (d : VReg) (a : VReg) (b : GReg) (t : Ty) (k : KReg)
  /-- R257: Lane-wise integer add. -/
  | viadd (d : VReg) (a : VReg) (b : VReg) (t : Ty) (k : KReg)
  /-- R257: Lane-wise integer subtract. -/
  | visub (d : VReg) (a : VReg) (b : VReg) (t : Ty) (k : KReg)
  /-- R257: Lane-wise integer multiply, low bits. -/
  | vimul (d : VReg) (a : VReg) (b : VReg) (t : Ty) (k : KReg)
  /-- R257: Lane-wise signed minimum. -/
  | vimin (d : VReg) (a : VReg) (b : VReg) (t : Ty) (k : KReg)
  /-- R257: Lane-wise signed maximum. -/
  | vimax (d : VReg) (a : VReg) (b : VReg) (t : Ty) (k : KReg)
  /-- R257: Lane-wise unsigned minimum. -/
  | viminu (d : VReg) (a : VReg) (b : VReg) (t : Ty) (k : KReg)
  /-- R257: Lane-wise unsigned maximum. -/
  | vimaxu (d : VReg) (a : VReg) (b : VReg) (t : Ty) (k : KReg)
  /-- R257: Lane-wise bitwise and. -/
  | vand (d : VReg) (a : VReg) (b : VReg) (t : Ty) (k : KReg)
  /-- R257: Lane-wise bitwise or. -/
  | vor (d : VReg) (a : VReg) (b : VReg) (t : Ty) (k : KReg)
  /-- R257: Lane-wise bitwise exclusive or. -/
  | vxor (d : VReg) (a : VReg) (b : VReg) (t : Ty) (k : KReg)
  /-- R257: Lane-wise shift left. -/
  | vshl (d : VReg) (a : VReg) (b : VReg) (t : Ty) (k : KReg)
  /-- R257: Lane-wise logical shift right. -/
  | vshr (d : VReg) (a : VReg) (b : VReg) (t : Ty) (k : KReg)
  /-- R257: Lane-wise arithmetic shift right. -/
  | vsar (d : VReg) (a : VReg) (b : VReg) (t : Ty) (k : KReg)
  /-- R257: Adds scalar gb to every integer lane. -/
  | viadds (d : VReg) (a : VReg) (b : GReg) (t : Ty) (k : KReg)
  /-- R257: Writes each lane's index into vd. -/
  | vidx (d : VReg) (t : Ty) (k : KReg)
  /-- R258: Writes lane-wise equality into mask kd. -/
  | vcmpeq (d : KReg) (a : VReg) (b : VReg) (t : Ty) (k : KReg)
  /-- R258: Writes lane-wise less-than into mask kd. -/
  | vcmplt (d : KReg) (a : VReg) (b : VReg) (t : Ty) (k : KReg)
  /-- R258: Writes lane-wise less-or-equal into mask kd. -/
  | vcmple (d : KReg) (a : VReg) (b : VReg) (t : Ty) (k : KReg)
  /-- R259: Selects lanes of va or vb by a mask. -/
  | vsel (d : VReg) (a : VReg) (b : VReg) (t : Ty) (k : KReg)
  /-- R259: Reduces va by sum in the fixed tree into every lane. -/
  | vrsum (d : VReg) (a : VReg) (t : Ty) (k : KReg)
  /-- R259: Reduces va by maximum into every lane. -/
  | vrmax (d : VReg) (a : VReg) (t : Ty) (k : KReg)
  /-- R259: Reduces va by minimum into every lane. -/
  | vrmin (d : VReg) (a : VReg) (t : Ty) (k : KReg)
  /-- R259: Permutes lanes of va by indices in vb. -/
  | vshuf (d : VReg) (a : VReg) (b : VReg) (t : Ty) (k : KReg)
  /-- R259: Broadcasts lane gb of va to selected lanes. -/
  | vbcast (d : VReg) (a : VReg) (b : GReg) (t : Ty) (k : KReg)
  /-- R259: Rotates the lanes of va by gb. -/
  | vrot (d : VReg) (a : VReg) (b : GReg) (t : Ty) (k : KReg)
  /-- R258: Ands two mask registers. -/
  | kand (d : KReg) (a : KReg) (b : KReg)
  /-- R258: Ors two mask registers. -/
  | kor (d : KReg) (a : KReg) (b : KReg)
  /-- R258: Inverts a mask register. -/
  | knot (d : KReg) (a : KReg)
  /-- R260: Converts lanes between types with a rounding mode. -/
  | vcvt (d : VReg) (a : VReg) (m : Rm) (s : Ty) (t : Ty) (k : KReg)
  /-- R261: Converts FP32 lanes to BF16 with stochastic rounding. -/
  | vcvtsr (d : VReg) (a : VReg) (b : VReg) (k : KReg)
  /-- R262: Fills I32 lanes with mix32 of the key and counter. -/
  | vrng (d : VReg) (b : GReg) (k : KReg)
  /-- R263: Packs the low halves or quarters of two registers. -/
  | vpack (d : VReg) (a : VReg) (b : VReg) (t : Ty)
  /-- R263: Moves part q of va into the low bytes of vd. -/
  | vunpk (d : VReg) (a : VReg) (q : BitVec 2) (t : Ty)
  /-- R264: Converts lanes to packed E2M1 elements. -/
  | vcvtn4 (d : VReg) (a : VReg) (m : Rm) (t : Ty) (k : KReg)
  /-- R264: Converts packed E2M1 elements to a wider type. -/
  | vcvtw4 (d : VReg) (a : VReg) (t : Ty) (k : KReg)
  /-- R270: Places a copy command with its descriptor in the copy port. -/
  | cpy (a : GReg) (x : BitVec 10) (r : MemOrd) (p : Scope)
  /-- R286: Places a multicast copy command in the copy port. -/
  | cpym (a : GReg) (x : BitVec 10) (r : MemOrd) (p : Scope)
  /-- R269: Tries to place a copy command, writing its sequence number or 0 to gb. -/
  | cpyt (a : GReg) (b : GReg) (x : BitVec 10) (r : MemOrd) (p : Scope)
  /-- R291: Writes the state of a copy command to gb. -/
  | cpyq (a : GReg) (b : GReg)
  /-- R306: Places a matrix pass on a tile in the matrix port. -/
  | mpass (c : BitVec 6) (a : GReg) (b : GReg) (f : BitVec 4) (s : BitVec 10)
  /-- R308: Places a command that zeroes a tile and its SAT flag. -/
  | mzero (c : BitVec 6) (s : BitVec 10)
  /-- R303: Places a command that writes a weight panel from scratchpad. -/
  | mldw (m : BitVec 2) (a : GReg) (b : GReg) (s : BitVec 10)
  /-- R309: Places a command that writes a tile image to scratchpad. -/
  | mrd (c : BitVec 6) (a : GReg) (s : BitVec 10)
  /-- R309: Places a command that loads a tile image from scratchpad. -/
  | mwr (c : BitVec 6) (a : GReg) (s : BitVec 10)
  /-- R320: Sends a matrix command block to another bay's matrix port. -/
  | mrcmd (a : GReg) (b : GReg) (s : BitVec 10)
  /-- R318: Sets the grant register for remote matrix commands. -/
  | mgrant (a : GReg) (b : GReg)
  /-- R310: Places a rendezvous moving a tile quarter into a vector register. -/
  | vtld (c : BitVec 6) (v : VReg) (q : BitVec 2)
  /-- R310: Places a rendezvous moving a vector register into a tile quarter. -/
  | vtst (c : BitVec 6) (v : VReg) (q : BitVec 2)
  /-- R367: Places a remote put of LEN bytes in the fabric port. -/
  | rput (a : GReg) (x : BitVec 10) (r : MemOrd) (p : Scope)
  /-- R368: Places an 8-byte remote put of gb in the fabric port. -/
  | rputi (a : GReg) (b : GReg) (x : BitVec 10) (r : MemOrd) (p : Scope)
  /-- R367: Places a remote get of LEN bytes in the fabric port. -/
  | rget (a : GReg) (x : BitVec 10) (r : MemOrd) (p : Scope)
  /-- R368: Places a remote semaphore post in the fabric port. -/
  | rsig (a : GReg) (b : GReg) (x : BitVec 10) (r : MemOrd) (p : Scope)
  /-- R369: Places a remote atomic in the fabric port. -/
  | ramo (a : GReg) (x : BitVec 10) (r : MemOrd) (p : Scope)
  /-- R370: Places a remote spawn in the fabric port. -/
  | rspawn (a : GReg) (x : BitVec 10) (r : MemOrd) (p : Scope)
  /-- R375: Places a consignment read from owner to consignee in the fabric port. -/
  | crd (a : GReg) (x : BitVec 10) (r : MemOrd) (p : Scope)
  /-- R377: Places a consignment read to every member of a group. -/
  | crdg (a : GReg) (x : BitVec 10) (r : MemOrd) (p : Scope)
  /-- R379: Writes the state of a fabric command to gb. -/
  | crdq (a : GReg) (b : GReg)
  /-- R373: Waits until every earlier remote write is acknowledged, then fences. -/
  | flush (p : Scope)
  /-- R373: Waits for earlier remote writes toward one chip, then fences. -/
  | flushc (a : GReg) (p : Scope)
  /-- R374: Writes stream state toward a chip and free port entries to gd. -/
  | strmq (d : GReg) (a : GReg)
  /-- R399: Sends a cistern arming descriptor to its unit. -/
  | carm (a : GReg) (b : GReg) (x : BitVec 10)
  /-- R400: Sends a count to a signal-mode cistern. -/
  | cadd (a : GReg) (b : GReg) (r : MemOrd) (p : Scope)
  /-- R401: Requests a cistern's state word into gb. -/
  | cread (a : GReg) (b : GReg)
  /-- R401: Requests a cistern's state word and sets it IDLE. -/
  | cdisarm (a : GReg) (b : GReg)
  /-- R120: The last line of an ICINV is gone and the instruction retires. -/
  | icinvDone
  /-- R140: The value of a load or returning atomic arrives, filling its register and freeing its ring entry. -/
  | loadDataReturn
  /-- R100: The divider delivers its result to gd and becomes free. -/
  | divideComplete
  /-- R145: A store or no-return atomic is accepted and its ring entry freed. -/
  | accessAccepted
  /-- R146: A global access's fault becomes known and is recorded against the fibre. -/
  | accessFaultRecorded
  /-- R130: A global access reaches its home eave station, is translated and forwarded. -/
  | globalAccessAtStation
  /-- R134: A translation walk ends with a leaf or an XLATE or MEMERR fault. -/
  | pageWalkComplete
  /-- R142: An atomic is performed indivisibly at its atomic unit. -/
  | atomicAtUnit
  /-- R139: An aperture access reaches the target bay and is checked and performed. -/
  | apertureAccess
  /-- R121: A 64-byte instruction-cache line fill returns, or fails with MEMERR for its sharers. -/
  | instructionLineFill
  /-- R412: A fibre takes the oldest pending engine or cistern fault at its next issue opportunity. -/
  | pendingFaultTaken
  /-- R415: A fault fibre is placed in the freed fault slot and enters handler mode. -/
  | faultFibreStart
  /-- R177: A spawn message reaches its bay, is placed and acknowledged. -/
  | spawnMessageArrival
  /-- R184: A spawn or migration acknowledgement reaches the sender and ends its live-count share. -/
  | spawnAckArrival
  /-- R187: A fibre migrating by FGO arrives and is placed at the target bay. -/
  | migrationArrival
  /-- R206: The controller evicts the longest-blocked evictable fibre to the cellar. -/
  | fibreEviction
  /-- R208: The head cellar record is restored into a reserved slot. -/
  | cellarRestore
  /-- R182: 64 bay cycles after FYIELD the fibre may become ready again. -/
  | fyieldDelayExpiry
  /-- R190: A ready fibre's waiting count reaches 4,096 and its effective priority becomes 7. -/
  | waitingCountThreshold
  /-- R210: At a plan timestamp, mode 0 stops the active context and activates a resident one. -/
  | planEntryActivate
  /-- R210: At a plan timestamp, mode 1 stops, saves a resident context and restores a saved one. -/
  | planEntryRestore
  /-- R210: At a plan timestamp, mode 2 stops and saves the active context. -/
  | planEntrySave
  /-- R419: Every stop class has completed and the bay's state of the context is captured. -/
  | stateCapture
  /-- R422: The incoming resident context's state is loaded and parked items are released. -/
  | residentSwitchComplete
  /-- R423: A bay image has been written with its page tags. -/
  | saveComplete
  /-- R426: A bay image has been read and verified, or the context ends with RESTORE. -/
  | restoreComplete
  /-- R217: A new period of a real-time contract begins. -/
  | contractPeriodStart
  /-- R214: A best-effort context's BEQ turn ends and the next one runs. -/
  | bestEffortQuantumExpiry
  /-- R227: A phase completion arrives from the tree, updating channel state and waking waiters. -/
  | barrierPhaseComplete
  /-- R235: A gutter word is placed in the neighbour's queue. -/
  | gutterWordArrival
  /-- R235: A credit returns to the sender after a pop at the receiver. -/
  | gutterCreditReturn
  /-- R249: A vector context executes its head queue entry or frame position on the shared datapath. -/
  | vectorEntryExecute
  /-- R279: The copy engine takes a command, freeing its port entry and checking descriptor and extent. -/
  | copyCommandBegin
  /-- R280: Every write of a copy segment has been performed. -/
  | copySegmentWritten
  /-- R293: A per-access fault on a global side stops a copy command. -/
  | copyAccessFault
  /-- R21: A copy command has performed all its effects and posts its semaphore. -/
  | copyCommandComplete
  /-- R287: The combined acknowledgement for a CPYM tile arrives and the semaphore is posted. -/
  | cpymTileAck
  /-- R313: The matrix engine begins the next command in sequence order. -/
  | matrixCommandBegin
  /-- R312: A matrix command's effects become visible and its completion is posted. -/
  | matrixCommandComplete
  /-- R311: A VTLD or VTST transfers once both matrix and vector sides have reached it. -/
  | rendezvousTransfer
  /-- R321: A remote matrix command reaches the target bay and is admitted or rejected. -/
  | mrcmdArrival
  /-- R320: The acceptance or rejection of an MRCMD reaches the issuing fibre. -/
  | mrcmdAckArrival
  /-- R197: A semaphore post arrives over the mesh and is applied. -/
  | meshPostArrival
  /-- R366: The fabric endpoint begins a command, checks its descriptor and sends packets. -/
  | fabricCommandBegin
  /-- R356: A PUT packet arrives at its target and is checked, placed, counted and acknowledged. -/
  | put
  /-- R368: A PUTI packet arrives and its 8 bytes are placed. -/
  | puti
  /-- R359: A GETQ arrives at the owner, which reads and answers with GETR. -/
  | getq
  /-- R367: A GETR response arrives and its bytes are written on the local side. -/
  | getr
  /-- R360: A SIG packet arrives and its semaphore is posted. -/
  | sig
  /-- R369: An AMO packet arrives and the atomic is performed at the owner. -/
  | amo
  /-- R369: An AMOR response arrives with the old value of a remote atomic. -/
  | amor
  /-- R370: A SPAWN packet arrives and the spawn request is admitted and placed. -/
  | spawn
  /-- R138: A remote-page load arrives at the owner and is answered with GETR. -/
  | pld
  /-- R138: A remote-page store arrives at the owner and is placed. -/
  | pst
  /-- R138: A remote-page atomic arrives at the owner and is performed. -/
  | pamo
  /-- R375: A consignment request arrives at the owner, which checks it and sends CDATA. -/
  | crq
  /-- R375: Consignment data arrives at the consignee and is checked, placed and counted. -/
  | cdata
  /-- R371: A CDONE reaches the requester, completing or failing the consignment. -/
  | cdone
  /-- R376: A CSTOP reaches the owner, which stops sending consignment data. -/
  | cstop
  /-- R353: An answer ACK reaches the sender and drops acknowledged packets. -/
  | ackAnswer
  /-- R383: A kind-2 ACK reaches the target, which resets its window and WPLACED. -/
  | ackResynchronise
  /-- R383: A kind-3 ACK reaches the sender, ending the torn state of the stream. -/
  | ackResynchronised
  /-- R381: A REFUSE reaches the requester and its context ends as a failed remote operation. -/
  | refuse
  /-- R344: A group arrival is counted at a group entry and forwarded or turned into BDOWN. -/
  | bup
  /-- R344: A group completion is forwarded to children and completes the phase on members. -/
  | bdown
  /-- R345: A combined acknowledgement is merged at a group entry and passed up. -/
  | gack
  /-- R346: A TSYNC packet arrives and the time offset is measured and corrected. -/
  | tsync
  /-- R346: Every 10 µs a package exchanges TSYNC with its parent. -/
  | tsyncInterval
  /-- R347: After 1 s of valid TSYNC a package becomes locked. -/
  | timeLock
  /-- R347: After 1 ms without valid TSYNC a package becomes unlocked. -/
  | timeUnlock
  /-- R354: A held packet is performed once its release count and dependency are met. -/
  | heldPacketPerform
  /-- R353: An unanswered sequenced packet is sent again after the retransmission interval. -/
  | retransmissionTimeout
  /-- R383: A stream times out and is torn down, ending affected contexts. -/
  | streamTimeout
  /-- R357: An evicted stream state has been fetched and waiting packets proceed. -/
  | streamStateFetchComplete
  /-- R338: A switch routes a packet on a virtual channel, detouring around failed links. -/
  | packetForward
  /-- R333: An uncorrectable flit is discarded and replayed from the sender's buffer. -/
  | flitReplay
  /-- R348: A port enters RETRAIN after a replay burst or loss of lane lock, rerouting traffic. -/
  | portRetrain
  /-- R348: Retraining succeeds and the port returns to ACTIVE at some width. -/
  | portTrained
  /-- R348: A port that cannot train at 8 lanes within 10 ms enters DOWN. -/
  | portDown
  /-- R399: The cistern unit checks and arms an entry, then posts the semaphore. -/
  | carmAtUnit
  /-- R400: The cistern unit applies a CADD count to a signal-mode entry. -/
  | caddAtUnit
  /-- R401: The cistern unit answers a CREAD with the entry's state. -/
  | creadAtUnit
  /-- R401: The cistern unit answers a CDISARM and sets the entry IDLE. -/
  | cdisarmAtUnit
  /-- R401: A cistern state word reaches the waiting fibre and is written to gb. -/
  | cisternAnswer
  /-- R394: A cistern spawn waiting for a cellar record is placed once one frees. -/
  | cisternSpawnRetry
  /-- R430: The silence count reaches the window and the context ends with WATCHDOG. -/
  | watchdogFire
  /-- R427: A package stops and discards the context on every bay after a reason to end it. -/
  | contextEnd
  /-- R185: With live count zero and no commands outstanding, the launch ends and its record is written. -/
  | launchEnd
  /-- R436: A doorbell write makes the front end read a queue's TAIL. -/
  | dbell
  /-- R441: Creates a context with its tables, windows and groups on every package. -/
  | contextCreate
  /-- R442: Ends a context with reason HOST and frees its CTXID and ASID. -/
  | contextDestroy
  /-- R444: Checks and starts a launch, creating the context on bays and placing fibres. -/
  | launch
  /-- R442: Writes or closes a window entry on a chip. -/
  | windowOpen
  /-- R448: Arms a cistern as a CARM on behalf of the context. -/
  | cisternArm
  /-- R448: Posts a semaphore of the context from the host. -/
  | signal
  /-- R448: Runs a copy descriptor on the front end's copy engine. -/
  | copy
  /-- R445: Checks a set of plan entries and sends them to their bays. -/
  | switchPlan
  /-- R442: Drops a translation range at every eave station of the partition. -/
  | invalidate
  /-- R449: The host advances ERRHEAD, letting waiting error and completion records be written. -/
  | errheadWrite
  /-- R435: A host write to a register-page register without its own behaviour. -/
  | registerWrite
  /-- R168: A host read or write reaches device memory over the Companion Link. -/
  | hostAccess
  /-- R453: Returns a signed attestation report for a host nonce. -/
  | attest
  /-- R454: Changes the life-cycle state and wipes the device. -/
  | lcset
  /-- R461: Stages, verifies and activates a firmware image while contexts run. -/
  | update
  /-- R461: A new image that fails to start within 1 s is abandoned for the previous slot. -/
  | updateStartTimeout
  /-- R462: Fences a bay, ending every context resident on it. -/
  | mailboxFence
  /-- R463: Self-tests and wipes a fenced bay and clears the fence if it passes. -/
  | readmit
  /-- R451: Sets a fabric port to FENCED or releases it. -/
  | portset
  /-- R457: Reads eave-station and port counters for management. -/
  | ctrrd
  /-- R455: A reset verifies the boot stages and starts a wipe of all device memory. -/
  | reset
  /-- R455: The wipe finishes and the front end becomes ready. -/
  | wipeComplete
  /-- R459: An uncorrectable control-state error fences its bay. -/
  | controlStateError
  /-- R460: A scrub reads and corrects a memory location. -/
  | patrolScrub
  /-- R466: Near a power or temperature limit, matrix passes and vector issue are held. -/
  | powerThrottle
  /-- R466: A junction reaching 110 °C resets and wipes the device. -/
  | junctionShutdown
  /-- R50: A fibre reaches a fetched word that decodes as no instruction and raises ILLEGAL with HVAL set to the word. -/
  | illegalWord
  /-- R349: Management firmware finishes rebuilding a group tree edge along a C or D detour, or drops a lost member, releasing held BUP and BDOWN and counting a lost member as failed. -/
  | groupTreeRebuild
  /-- R461: The harts finish restarting on the new firmware image, and queue reading resumes from each HEAD. -/
  | updateRestartComplete
  /-- R348: A port that is DOWN for lack of a partner sees a Y8 partner appear and starts training. -/
  | linkPartnerArrival
  deriving DecidableEq, Repr

/-- An event with its particulars: which bay, fibre, packet or unit it concerns (`cpymWritten` is a CPYM write that reaches a
member, R286, `fabricPiece` a flit of a command's packet that is staged, R342).  The machine's state holds the
particulars of what is in flight (an event has no operand bits), and `Ev.instr` names the event's row. -/
inductive Ev where
  | icinvDone (u : Nat) (a : Word) (n : Nat)
  | loadDataReturn (u : Nat) (d : GReg) (v : Word) (rid : Nat)
  | divideComplete (bay u : Nat) (d : GReg) (v : Word)
  | accessAccepted (u rid : Nat)
  | accessFaultRecorded (u rid : Nat) (c : Cause)
  | globalAccessAtStation (u rid : Nat)
  | pageWalkComplete (u rid : Nat)
  | atomicAtUnit (u rid pa : Nat)
  | apertureAccess (u rid : Nat)
  | instructionLineFill (bay asid : Nat) (line : Word)
  | pendingFaultTaken (bay idx slot : Nat)
  | faultFibreStart (asid : Nat)
  | spawnMessageArrival (bay asid : Nat) (r : SpawnReq) (sender : Nat)
  | spawnAckArrival (asid sender : Nat)
  | migrationArrival (bay asid u : Nat)
  | fibreEviction (bay idx : Nat)
  | cellarRestore (bay idx : Nat)
  | fyieldDelayExpiry (u : Nat)
  | waitingCountThreshold (bay idx slot : Nat)
  | planEntryActivate (e : PlanEntry)
  | planEntryRestore (e : PlanEntry)
  | planEntrySave (e : PlanEntry)
  | stateCapture (bay : Nat)
  | residentSwitchComplete (bay idx : Nat)
  | saveComplete (bay asid : Nat)
  | restoreComplete (bay asid idx : Nat)
  | contractPeriodStart (asid : Nat)
  | bestEffortQuantumExpiry (bay : Nat)
  | barrierPhaseComplete (asid chan bay : Nat)
  | gutterWordArrival (bay asid : Nat) (dir : Dir) (v : Word)
  | gutterCreditReturn (bay asid : Nat) (dir : Dir)
  | vectorEntryExecute (bay idx v : Nat)
  | copyCommandBegin (bay idx : Nat)
  | copySegmentWritten (bay idx seq : Nat)
  | copyAccessFault (bay idx seq : Nat) (c : Cause) (v : Word)
  | copyCommandComplete (bay idx seq : Nat)
  | cpymTileAck (bay idx seq : Nat)
  | matrixCommandBegin (bay idx : Nat)
  | matrixCommandComplete (bay idx : Nat)
  | rendezvousTransfer (bay idx : Nat)
  | mrcmdArrival (m : MrMsg)
  | mrcmdAckArrival (m : MrMsg) (reason : Nat)
  | meshPostArrival (bay asid sem n : Nat) (fault : Option (Nat × PFault))
  | fabricCommandBegin (bay idx : Nat)
  | put (p : Packet)
  | puti (p : Packet)
  | getq (p : Packet)
  | getr (p : Packet)
  | sig (p : Packet)
  | amo (p : Packet)
  | amor (p : Packet)
  | spawn (p : Packet)
  | pld (p : Packet)
  | pst (p : Packet)
  | pamo (p : Packet)
  | crq (p : Packet)
  | cdata (p : Packet)
  | cdone (p : Packet)
  | cstop (p : Packet)
  | ackAnswer (p : Packet)
  | ackResynchronise (p : Packet)
  | ackResynchronised (p : Packet)
  | refuse (p : Packet)
  | bup (p : Packet)
  | bdown (p : Packet)
  | gack (p : Packet)
  | tsync (p : Packet)
  | tsyncInterval
  | timeLock
  | timeUnlock
  | heldPacketPerform (src seq : Nat)
  | retransmissionTimeout (dst seq : Nat)
  | streamTimeout (dst : Nat)
  | streamStateFetchComplete (chip : Nat) (sender : Bool)
  | packetForward (p : Packet) (h : Hop)
  | flitReplay (port : Nat)
  | portRetrain (port : Nat)
  | portTrained (port lanes : Nat) (full : Bool)
  | portDown (port : Nat)
  | carmAtUnit (m : CistMsg)
  | caddAtUnit (m : CistMsg)
  | creadAtUnit (m : CistMsg)
  | cdisarmAtUnit (m : CistMsg)
  | cisternAnswer (u : Nat) (d : GReg) (ans : Option Word) (handle : Word)
  | cisternSpawnRetry (bay asid : Nat) (r : SpawnReq) (unit key : Nat)
  | watchdogFire (asid : Nat)
  | contextEnd (asid : Nat) (reason : EndReason) (bay : Nat) (secs : List Word)
  | launchEnd (asid : Nat)
  | dbell (queue : Nat)
  | contextCreate (h : HostPkt)
  | contextDestroy (h : HostPkt)
  | launch (h : HostPkt)
  | windowOpen (h : HostPkt)
  | cisternArm (h : HostPkt)
  | signal (h : HostPkt)
  | copy (h : HostPkt)
  | switchPlan (h : HostPkt)
  | invalidate (h : HostPkt)
  | errheadWrite (v : Word)
  | registerWrite (off : Nat) (v : Word)
  | hostAccess (addr : Nat) (wr : Option (List Byte))
  | attest (nonce : List Byte)
  | lcset (code : Nat)
  | update (version : Nat) (image : List Byte)
  | updateStartTimeout
  | mailboxFence (bay : Nat)
  | readmit (bay : Nat) (pass : Bool)
  | portset (port : Nat) (fence : Bool)
  | ctrrd (unit ctr : Nat)
  | reset
  | wipeComplete
  | controlStateError (bay what : Nat)
  | patrolScrub (loc : ErrLoc) (found : ErrFind)
  | powerThrottle (hold : Bool)
  | junctionShutdown
  | illegalWord (w : BitVec 32)
  | groupTreeRebuild (asid grp : Nat) (lost : Option Nat)
  | updateRestartComplete
  | linkPartnerArrival (port : Nat)
  | planStep (e : PlanEntry) (bay : Nat) (go : Bool)
  | cpymWritten (bay idx seq member pos kind : Nat) (ps : List (Word × List Byte))
  | fabricPiece (bay idx seq : Nat)
  deriving DecidableEq, Repr

/-- The row of spec/opcode_table.json that an event belongs to. -/
def Ev.instr : Ev → Instr
  | .icinvDone .. => .icinvDone
  | .loadDataReturn .. => .loadDataReturn
  | .divideComplete .. => .divideComplete
  | .accessAccepted .. => .accessAccepted
  | .accessFaultRecorded .. => .accessFaultRecorded
  | .globalAccessAtStation .. => .globalAccessAtStation
  | .pageWalkComplete .. => .pageWalkComplete
  | .atomicAtUnit .. => .atomicAtUnit
  | .apertureAccess .. => .apertureAccess
  | .instructionLineFill .. => .instructionLineFill
  | .pendingFaultTaken .. => .pendingFaultTaken
  | .faultFibreStart .. => .faultFibreStart
  | .spawnMessageArrival .. => .spawnMessageArrival
  | .spawnAckArrival .. => .spawnAckArrival
  | .migrationArrival .. => .migrationArrival
  | .fibreEviction .. => .fibreEviction
  | .cellarRestore .. => .cellarRestore
  | .fyieldDelayExpiry .. => .fyieldDelayExpiry
  | .waitingCountThreshold .. => .waitingCountThreshold
  | .planEntryActivate .. => .planEntryActivate
  | .planEntryRestore .. => .planEntryRestore
  | .planEntrySave .. => .planEntrySave
  | .stateCapture .. => .stateCapture
  | .residentSwitchComplete .. => .residentSwitchComplete
  | .saveComplete .. => .saveComplete
  | .restoreComplete .. => .restoreComplete
  | .contractPeriodStart .. => .contractPeriodStart
  | .bestEffortQuantumExpiry .. => .bestEffortQuantumExpiry
  | .barrierPhaseComplete .. => .barrierPhaseComplete
  | .gutterWordArrival .. => .gutterWordArrival
  | .gutterCreditReturn .. => .gutterCreditReturn
  | .vectorEntryExecute .. => .vectorEntryExecute
  | .copyCommandBegin .. => .copyCommandBegin
  | .copySegmentWritten .. => .copySegmentWritten
  | .copyAccessFault .. => .copyAccessFault
  | .copyCommandComplete .. => .copyCommandComplete
  | .cpymTileAck .. => .cpymTileAck
  | .matrixCommandBegin .. => .matrixCommandBegin
  | .matrixCommandComplete .. => .matrixCommandComplete
  | .rendezvousTransfer .. => .rendezvousTransfer
  | .mrcmdArrival .. => .mrcmdArrival
  | .mrcmdAckArrival .. => .mrcmdAckArrival
  | .meshPostArrival .. => .meshPostArrival
  | .fabricCommandBegin .. => .fabricCommandBegin
  | .put .. => .put
  | .puti .. => .puti
  | .getq .. => .getq
  | .getr .. => .getr
  | .sig .. => .sig
  | .amo .. => .amo
  | .amor .. => .amor
  | .spawn .. => .spawn
  | .pld .. => .pld
  | .pst .. => .pst
  | .pamo .. => .pamo
  | .crq .. => .crq
  | .cdata .. => .cdata
  | .cdone .. => .cdone
  | .cstop .. => .cstop
  | .ackAnswer .. => .ackAnswer
  | .ackResynchronise .. => .ackResynchronise
  | .ackResynchronised .. => .ackResynchronised
  | .refuse .. => .refuse
  | .bup .. => .bup
  | .bdown .. => .bdown
  | .gack .. => .gack
  | .tsync .. => .tsync
  | .tsyncInterval => .tsyncInterval
  | .timeLock => .timeLock
  | .timeUnlock => .timeUnlock
  | .heldPacketPerform .. => .heldPacketPerform
  | .retransmissionTimeout .. => .retransmissionTimeout
  | .streamTimeout .. => .streamTimeout
  | .streamStateFetchComplete .. => .streamStateFetchComplete
  | .packetForward .. => .packetForward
  | .flitReplay .. => .flitReplay
  | .portRetrain .. => .portRetrain
  | .portTrained .. => .portTrained
  | .portDown .. => .portDown
  | .carmAtUnit .. => .carmAtUnit
  | .caddAtUnit .. => .caddAtUnit
  | .creadAtUnit .. => .creadAtUnit
  | .cdisarmAtUnit .. => .cdisarmAtUnit
  | .cisternAnswer .. => .cisternAnswer
  | .cisternSpawnRetry .. => .cisternSpawnRetry
  | .watchdogFire .. => .watchdogFire
  | .contextEnd .. => .contextEnd
  | .launchEnd .. => .launchEnd
  | .dbell .. => .dbell
  | .contextCreate .. => .contextCreate
  | .contextDestroy .. => .contextDestroy
  | .launch .. => .launch
  | .windowOpen .. => .windowOpen
  | .cisternArm .. => .cisternArm
  | .signal .. => .signal
  | .copy .. => .copy
  | .switchPlan .. => .switchPlan
  | .invalidate .. => .invalidate
  | .errheadWrite .. => .errheadWrite
  | .registerWrite .. => .registerWrite
  | .hostAccess .. => .hostAccess
  | .attest .. => .attest
  | .lcset .. => .lcset
  | .update .. => .update
  | .updateStartTimeout => .updateStartTimeout
  | .mailboxFence .. => .mailboxFence
  | .readmit .. => .readmit
  | .portset .. => .portset
  | .ctrrd .. => .ctrrd
  | .reset => .reset
  | .wipeComplete => .wipeComplete
  | .controlStateError .. => .controlStateError
  | .patrolScrub .. => .patrolScrub
  | .powerThrottle .. => .powerThrottle
  | .junctionShutdown => .junctionShutdown
  | .illegalWord .. => .illegalWord
  | .groupTreeRebuild .. => .groupTreeRebuild
  | .updateRestartComplete => .updateRestartComplete
  | .linkPartnerArrival .. => .linkPartnerArrival
  | .cpymWritten .. => .cpymTileAck
  | .fabricPiece .. => .fabricCommandBegin
  | .planStep e _ _ => if e.mode = 0 then .planEntryActivate else if e.mode = 1 then .planEntryRestore else .planEntrySave

end Sys2Proof
end

