-- ==== Sys2Proof/Machine/Regs.lean ====
section
/-!
DEFINITION. The g registers that each instruction names (spec/04_sequencer.md R90; the fields of R46 to R49): as a
source, as store data, as a base address, as the old value, or as a destination.  CALL and CALLR write g7 (R105).
-/
namespace Sys2Proof.Machine

/-- The g registers that an instruction names (R90). -/
def namedRegs : Instr → List GReg
  | .add d a b => [d, a, b]
  | .sub d a b => [d, a, b]
  | .and d a b => [d, a, b]
  | .or d a b => [d, a, b]
  | .xor d a b => [d, a, b]
  | .andn d a b => [d, a, b]
  | .sll d a b => [d, a, b]
  | .srl d a b => [d, a, b]
  | .sra d a b => [d, a, b]
  | .rol d a b => [d, a, b]
  | .slt d a b => [d, a, b]
  | .sltu d a b => [d, a, b]
  | .seq d a b => [d, a, b]
  | .min d a b => [d, a, b]
  | .max d a b => [d, a, b]
  | .minu d a b => [d, a, b]
  | .maxu d a b => [d, a, b]
  | .slli d a _ => [d, a]
  | .srli d a _ => [d, a]
  | .srai d a _ => [d, a]
  | .sel d a b => [d, a, b]
  | .addw d a b => [d, a, b]
  | .subw d a b => [d, a, b]
  | .addi d a _ => [d, a]
  | .andi d a _ => [d, a]
  | .ori d a _ => [d, a]
  | .xori d a _ => [d, a]
  | .slti d a _ => [d, a]
  | .sltiu d a _ => [d, a]
  | .limm d _ => [d]
  | .lshi d _ => [d]
  | .mul d a b => [d, a, b]
  | .mulh d a b => [d, a, b]
  | .mulhu d a b => [d, a, b]
  | .mulw d a b => [d, a, b]
  | .div d a b => [d, a, b]
  | .divu d a b => [d, a, b]
  | .rem d a b => [d, a, b]
  | .remu d a b => [d, a, b]
  | .popc d a => [d, a]
  | .clz d a => [d, a]
  | .ctz d a => [d, a]
  | .bswap d a => [d, a]
  | .bext d a b => [d, a, b]
  | .bins d a b => [d, a, b]
  | .sext d a _ => [d, a]
  | .zext d a _ => [d, a]
  | .addpc d _ => [d]
  | .lea d a b _ => [d, a, b]
  | .bayn d a b => [d, a, b]
  | .baya d a b => [d, a, b]
  | .beq a b _ => [a, b]
  | .bne a b _ => [a, b]
  | .blt a b _ => [a, b]
  | .bge a b _ => [a, b]
  | .bltu a b _ => [a, b]
  | .bgeu a b _ => [a, b]
  | .bbc a b _ => [a, b]
  | .bbs a b _ => [a, b]
  | .call _ => [7]
  | .jr a => [a]
  | .callr a => [a, 7]
  | .loopReg _ a _ => [a]
  | .lcnt d _ => [d]
  | .vrepReg _ a _ _ _ => [a]
  | .sysrd d _ => [d]
  | .syswr a _ => [a]
  | .evsel a _ => [a]
  | .evrd d _ => [d]
  | .time d => [d]
  | .icinv a _ => [a]
  | .fspawn d a b => [d, a, b]
  | .fspawnb d a b => [d, a, b]
  | .fid d => [d]
  | .fpri a => [a]
  | .fgo a => [a]
  | .fctx d => [d]
  | .cbudget d => [d]
  | .spost a _ _ _ => [a]
  | .swait a _ _ _ => [a]
  | .stry a b _ _ _ => [a, b]
  | .sread b _ => [b]
  | .sinit a _ => [a]
  | .bmask a _ => [a]
  | .bstat b _ => [b]
  | .qpush a _ => [a]
  | .qpop d _ => [d]
  | .qpusht d a _ => [d, a]
  | .qpopt d b _ => [d, b]
  | .qfwd d _ => [d]
  | .qstat d _ => [d]
  | .ldl d a _ _ _ => [d, a]
  | .stl d a _ _ => [d, a]
  | .ldg d a _ _ _ => [d, a]
  | .stg d a _ _ => [d, a]
  | .aadd d a b _ _ _ _ => [d, a, b]
  | .aand d a b _ _ _ _ => [d, a, b]
  | .aor d a b _ _ _ _ => [d, a, b]
  | .axor d a b _ _ _ _ => [d, a, b]
  | .amin d a b _ _ _ _ => [d, a, b]
  | .amax d a b _ _ _ _ => [d, a, b]
  | .aminu d a b _ _ _ _ => [d, a, b]
  | .amaxu d a b _ _ _ _ => [d, a, b]
  | .aswap d a b _ _ _ _ => [d, a, b]
  | .acas d a b _ _ _ _ => [d, a, b]
  | .stadd a b _ _ _ _ => [a, b]
  | .stand a b _ _ _ _ => [a, b]
  | .stor a b _ _ _ _ => [a, b]
  | .stxor a b _ _ _ _ => [a, b]
  | .stmin a b _ _ _ _ => [a, b]
  | .stmax a b _ _ _ _ => [a, b]
  | .stminu a b _ _ _ _ => [a, b]
  | .stmaxu a b _ _ _ _ => [a, b]
  | .vsplat _ b _ _ => [b]
  | .vins _ i b _ => [i, b]
  | .vget i _ b _ => [i, b]
  | .vld _ a _ _ => [a]
  | .vlds _ a b _ _ => [a, b]
  | .vldb _ a _ _ => [a]
  | .vst _ a _ _ => [a]
  | .vsts _ a b _ _ => [a, b]
  | .vadds _ _ b _ _ => [b]
  | .vmuls _ _ b _ _ => [b]
  | .vfmas _ _ b _ _ => [b]
  | .viadds _ _ b _ _ => [b]
  | .vbcast _ _ b _ _ => [b]
  | .vrot _ _ b _ _ => [b]
  | .vrng _ b _ => [b]
  | .cpy a _ _ _ => [a]
  | .cpym a _ _ _ => [a]
  | .cpyt a b _ _ _ => [a, b]
  | .cpyq a b => [a, b]
  | .mpass _ a b _ _ => [a, b]
  | .mldw _ a b _ => [a, b]
  | .mrd _ a _ => [a]
  | .mwr _ a _ => [a]
  | .mrcmd a b _ => [a, b]
  | .mgrant a b => [a, b]
  | .rput a _ _ _ => [a]
  | .rputi a b _ _ _ => [a, b]
  | .rget a _ _ _ => [a]
  | .rsig a b _ _ _ => [a, b]
  | .ramo a _ _ _ => [a]
  | .rspawn a _ _ _ => [a]
  | .crd a _ _ _ => [a]
  | .crdg a _ _ _ => [a]
  | .crdq a b => [a, b]
  | .flushc a _ => [a]
  | .strmq d a => [d, a]
  | .carm a b _ => [a, b]
  | .cadd a b _ _ => [a, b]
  | .cread a b => [a, b]
  | .cdisarm a b => [a, b]
  | .jmp .. | .loop .. | .lbrk .. | .vrep .. | .nop | .trap .. | .hret | .fexit | .fyield | .fpark | .barr ..
  | .bwait .. | .bsync .. | .fence .. | .fencea .. | .vbind | .vfree | .vdrain | .vadd .. | .vsub ..
  | .vmul .. | .vfma .. | .vfms .. | .vmin .. | .vmax .. | .vabs .. | .vneg .. | .vrsq .. | .vrcp ..
  | .vexp2 .. | .vlog2 .. | .vsqrt .. | .vdiv .. | .viadd .. | .visub .. | .vimul .. | .vimin .. | .vimax ..
  | .viminu .. | .vimaxu .. | .vand .. | .vor .. | .vxor .. | .vshl .. | .vshr .. | .vsar .. | .vidx ..
  | .vcmpeq .. | .vcmplt .. | .vcmple .. | .vsel .. | .vrsum .. | .vrmax .. | .vrmin .. | .vshuf ..
  | .kand .. | .kor .. | .knot .. | .vcvt .. | .vcvtsr .. | .vpack .. | .vunpk .. | .vcvtn4 .. | .vcvtw4 ..
  | .mzero .. | .vtld .. | .vtst .. | .flush .. | .icinvDone | .loadDataReturn | .divideComplete
  | .accessAccepted | .accessFaultRecorded | .globalAccessAtStation | .pageWalkComplete | .atomicAtUnit
  | .apertureAccess | .instructionLineFill | .pendingFaultTaken | .faultFibreStart | .spawnMessageArrival
  | .spawnAckArrival | .migrationArrival | .fibreEviction | .cellarRestore | .fyieldDelayExpiry
  | .waitingCountThreshold | .planEntryActivate | .planEntryRestore | .planEntrySave | .stateCapture
  | .residentSwitchComplete | .saveComplete | .restoreComplete | .contractPeriodStart
  | .bestEffortQuantumExpiry | .barrierPhaseComplete | .gutterWordArrival | .gutterCreditReturn
  | .vectorEntryExecute | .copyCommandBegin | .copySegmentWritten | .copyAccessFault | .copyCommandComplete
  | .cpymTileAck | .matrixCommandBegin | .matrixCommandComplete | .rendezvousTransfer | .mrcmdArrival
  | .mrcmdAckArrival | .meshPostArrival | .fabricCommandBegin | .put | .puti | .getq | .getr | .sig | .amo
  | .amor | .spawn | .pld | .pst | .pamo | .crq | .cdata | .cdone | .cstop | .ackAnswer | .ackResynchronise
  | .ackResynchronised | .refuse | .bup | .bdown | .gack | .tsync | .tsyncInterval | .timeLock | .timeUnlock
  | .heldPacketPerform | .retransmissionTimeout | .streamTimeout | .streamStateFetchComplete | .packetForward
  | .flitReplay | .portRetrain | .portTrained | .portDown | .carmAtUnit | .caddAtUnit | .creadAtUnit
  | .cdisarmAtUnit | .cisternAnswer | .cisternSpawnRetry | .watchdogFire | .contextEnd | .launchEnd | .dbell
  | .contextCreate | .contextDestroy | .launch | .windowOpen | .cisternArm | .signal | .copy | .switchPlan
  | .invalidate | .errheadWrite | .registerWrite | .hostAccess | .attest | .lcset | .update
  | .updateStartTimeout | .mailboxFence | .readmit | .portset | .ctrrd | .reset | .wipeComplete
  | .controlStateError | .patrolScrub | .powerThrottle | .junctionShutdown | .illegalWord | .groupTreeRebuild
  | .updateRestartComplete | .linkPartnerArrival => []

end Sys2Proof.Machine
end

