-- ==== Sys2Proof/Config.lean ====
section
/-!
DEFINITION. What one implementation fixes and what the spec leaves open: free values, which nothing can evaluate.
-/
namespace Sys2Proof.Config

/-- The free choice among the things that may happen next (R2, R10, R22, R129, R340: orders and delays that the spec
leaves open), applied to the state's step counter (log entry 1). -/
opaque pick : Nat → Nat

/-- A free 64-bit value, one for each place of the counter `free` of the state, where the spec gives a result no value
(log entry 3). -/
opaque freeWord : Nat → BitVec 64

/-! ### Events of a bay's arrays that the counters count and no rule brings about (R456; log entry 75) -/

/-- How many scratchpad bank conflicts a bay has in the cycle of a step (code 0x000B). -/
opaque conflicts : Nat → Nat → Nat
/-- Which of the events of R457 a counter counts, by its unit and number: management selects it (R457; log entry 35). -/
opaque counterSel : Nat → Nat → Nat
/-- How many memory errors are corrected in a bay's arrays in the cycle of a step (code 0x000F). -/
opaque corrected : Nat → Nat → Nat

/-! ### What management firmware fixes at bring-up (R329, R346, R353, R383, R436; log entries 30 and 36) -/

/-- The chip ID of the package. -/
opaque chipId : BitVec 22
/-- The sizes NA, NB, NC and ND of the system, each minus 1, before they are brought into their ranges. -/
opaque dims : Nat × Nat × Nat × Nat
/-- The chip ID of the time root, before it is brought into the system's sizes, and the count that the host sets there before
any context exists (R346). -/
opaque timeRoot : BitVec 22 × BitVec 64
/-- Whether the package replaces another (R464), and the group entries of its position that firmware gives it: the ASID, the group
and the members' box in the layout of R441 (R343, R464 item 3; log entry 85). -/
opaque replaces : Bool × List (Nat × Nat × BitVec 64)
/-- What a unit of another package answers to a packet that names it, by step and chip ID: 0 for done, or one of the refusals that
depend on its state (R448; log entry 86). -/
opaque peerAnswer : Nat → Nat → Nat
/-- Whether another package, by its chip ID, is locked at a step (R347; log entry 72). -/
opaque peerLocked : Nat → Nat → Bool
/-- The members of a group of a context that this package does not hold, by the requester's chip ID, its ASID and the group's
index: the owner of a consignment to such a group has them from no field of a packet (R377; log entry 20). -/
opaque groupMembers : Nat → Nat → Nat → List Nat
/-- How many command queues are registered. -/
opaque queueCount : Nat
/-- Of each queue: the address of its header, its slot count, and base and length of its arena. -/
opaque queue : Nat → Nat × Nat × Nat × Nat

/-- The retransmission interval and the stream timeout in ns (R353, R383), before they are brought into their ranges. -/
opaque intervals : Nat × Nat

/-! ### Save images (R423 to R426; log entry 43) -/

/-- The 4,096 bytes of page k of the part of an image that holds a context's state on a bay outside its scratchpad, weight
buffer and tiles: the spec gives that part no layout (R423). -/
opaque imageRest {α : Type} : α → Nat → List (BitVec 8)
/-- The HBM stack, by its eave station, that holds a page of an image in the save pool, by the image and the page (R423, R457; log
entry 35). -/
opaque poolStation : Nat → Nat → Nat
/-- Whether the n-th save meets an uncorrectable write error, and at which page (R426). -/
opaque saveError : Nat → Option Nat
/-- The pages of the n-th image that hold an uncorrectable error when it is read (R426). -/
opaque imageError : Nat → List Nat

/-! ### What the management complex computes (R452, R453; log entry 31) -/

/-- Whether an image verifies: its ECDSA signature, under the Kenrak key whose fused SHA-384 digest is given (R452).  The layout of a
signed image is the firmware's own. -/
opaque verifies : BitVec 384 → List (BitVec 8) → Bool

/-- The front-end image of a firmware version. -/
opaque frontImage : Nat → List (BitVec 8)
/-- The identity certificate of a key, signed at PROVISIONED under the Kenrak key. -/
opaque certificate : BitVec 384 → List (BitVec 8)
/-- The signature over a report under the identity key. -/
opaque signature : BitVec 384 → List (BitVec 8) → BitVec 768

end Sys2Proof.Config
end

