-- ==== Sys2Proof/WellFormed.lean ====
section
/-!
DEFINITION. Which instructions are well formed: the field values that R46 to R49 exclude and R50 item 5 traps
(spec/02_encoding.md).  Events carry no word and are always well formed.
-/
namespace Sys2Proof

/-- The float types that vector arithmetic takes, TY 0 to 2 (R49). -/
def Ty.isF32Class : Ty → Bool
  | .f32 | .bf16 | .f16 => true
  | .e4m3 | .e5m2 | .i32 | .i16 | .i8 => false

/-- The integer types, TY 5 to 7 (R49). -/
def Ty.isInt : Ty → Bool
  | .i32 | .i16 | .i8 => true
  | .f32 | .bf16 | .f16 | .e4m3 | .e5m2 => false

/-- The types of VPACK and VUNPK, TY 1, 2, 6 and 7 (R49). -/
def Ty.isPack : Ty → Bool
  | .bf16 | .f16 | .i16 | .i8 => true
  | .f32 | .e4m3 | .e5m2 | .i32 => false

/-- The assigned system-register numbers (R114). -/
def sysRegAssigned (n : Nat) : Bool :=
  n ≤ 5 || n == 0x10 || n == 0x11 || n == 0x12 || (0x40 ≤ n && n ≤ 0x7F)

/-- The instruction holds no value that R46 to R49 exclude (R50 item 5). -/
def Instr.wf : Instr → Bool
  | .loop _ _ e => e != 0
  | .loopReg _ _ e => e != 0
  | .sysrd _ n => sysRegAssigned n.toNat
  | .syswr _ n => sysRegAssigned n.toNat
  | .icinv _ l => l != 0
  | .vadd _ _ _ t _ => t.isF32Class
  | .vsub _ _ _ t _ => t.isF32Class
  | .vmul _ _ _ t _ => t.isF32Class
  | .vfma _ _ _ t _ => t.isF32Class
  | .vfms _ _ _ t _ => t.isF32Class
  | .vmin _ _ _ t _ => t.isF32Class
  | .vmax _ _ _ t _ => t.isF32Class
  | .vabs _ _ t _ => t.isF32Class
  | .vneg _ _ t _ => t.isF32Class
  | .vadds _ _ _ t _ => t.isF32Class
  | .vmuls _ _ _ t _ => t.isF32Class
  | .vfmas _ _ _ t _ => t.isF32Class
  | .viadd _ _ _ t _ => t.isInt
  | .visub _ _ _ t _ => t.isInt
  | .vimul _ _ _ t _ => t.isInt
  | .vimin _ _ _ t _ => t.isInt
  | .vimax _ _ _ t _ => t.isInt
  | .viminu _ _ _ t _ => t.isInt
  | .vimaxu _ _ _ t _ => t.isInt
  | .vand _ _ _ t _ => t.isInt
  | .vor _ _ _ t _ => t.isInt
  | .vxor _ _ _ t _ => t.isInt
  | .vshl _ _ _ t _ => t.isInt
  | .vshr _ _ _ t _ => t.isInt
  | .vsar _ _ _ t _ => t.isInt
  | .viadds _ _ _ t _ => t.isInt
  | .vidx _ t _ => t.isInt
  | .vcmpeq _ _ _ t _ => (t.isF32Class || t.isInt)
  | .vcmplt _ _ _ t _ => (t.isF32Class || t.isInt)
  | .vcmple _ _ _ t _ => (t.isF32Class || t.isInt)
  | .vsel _ _ _ _ k => k != 0
  | .vrsum _ _ t _ => (t.isF32Class || t.isInt)
  | .vrmax _ _ t _ => (t.isF32Class || t.isInt)
  | .vrmin _ _ t _ => (t.isF32Class || t.isInt)
  | .vcvt _ _ _ s t _ => t != s
  | .vpack _ _ _ t => t.isPack
  | .vunpk _ _ q t => (t.isPack && (t == .i8 || q.toNat < 2))
  | .vcvtn4 _ _ _ t _ => (!t.isInt)
  | .vcvtw4 _ _ t _ => (!t.isInt)
  | .mpass _ _ _ f _ => f.toNat < 12
  | .mldw m _ _ _ => m.toNat < 3
  | .add .. | .sub .. | .and .. | .or .. | .xor .. | .andn .. | .sll .. | .srl .. | .sra .. | .rol ..
  | .slt .. | .sltu .. | .seq .. | .min .. | .max .. | .minu .. | .maxu .. | .slli .. | .srli .. | .srai ..
  | .sel .. | .addw .. | .subw .. | .addi .. | .andi .. | .ori .. | .xori .. | .slti .. | .sltiu ..
  | .limm .. | .lshi .. | .mul .. | .mulh .. | .mulhu .. | .mulw .. | .div .. | .divu .. | .rem .. | .remu ..
  | .popc .. | .clz .. | .ctz .. | .bswap .. | .bext .. | .bins .. | .sext .. | .zext .. | .addpc ..
  | .lea .. | .bayn .. | .baya .. | .beq .. | .bne .. | .blt .. | .bge .. | .bltu .. | .bgeu .. | .bbc ..
  | .bbs .. | .jmp .. | .call .. | .jr .. | .callr .. | .lbrk .. | .lcnt .. | .vrep .. | .vrepReg ..
  | .nop .. | .trap .. | .hret .. | .evsel .. | .evrd .. | .time .. | .fspawn .. | .fspawnb .. | .fexit ..
  | .fid .. | .fpri .. | .fyield .. | .fgo .. | .fpark .. | .fctx .. | .cbudget .. | .spost .. | .swait ..
  | .stry .. | .sread .. | .sinit .. | .barr .. | .bwait .. | .bsync .. | .bmask .. | .bstat .. | .qpush ..
  | .qpop .. | .qpusht .. | .qpopt .. | .qfwd .. | .qstat .. | .ldl .. | .stl .. | .ldg .. | .stg ..
  | .aadd .. | .aand .. | .aor .. | .axor .. | .amin .. | .amax .. | .aminu .. | .amaxu .. | .aswap ..
  | .acas .. | .stadd .. | .stand .. | .stor .. | .stxor .. | .stmin .. | .stmax .. | .stminu .. | .stmaxu ..
  | .fence .. | .fencea .. | .vbind .. | .vfree .. | .vdrain .. | .vsplat .. | .vins .. | .vget .. | .vld ..
  | .vlds .. | .vldb .. | .vst .. | .vsts .. | .vrsq .. | .vrcp .. | .vexp2 .. | .vlog2 .. | .vsqrt ..
  | .vdiv .. | .vshuf .. | .vbcast .. | .vrot .. | .kand .. | .kor .. | .knot .. | .vcvtsr .. | .vrng ..
  | .cpy .. | .cpym .. | .cpyt .. | .cpyq .. | .mzero .. | .mrd .. | .mwr .. | .mrcmd .. | .mgrant ..
  | .vtld .. | .vtst .. | .rput .. | .rputi .. | .rget .. | .rsig .. | .ramo .. | .rspawn .. | .crd ..
  | .crdg .. | .crdq .. | .flush .. | .flushc .. | .strmq .. | .carm .. | .cadd .. | .cread .. | .cdisarm ..
  | .icinvDone | .loadDataReturn | .divideComplete | .accessAccepted | .accessFaultRecorded
  | .globalAccessAtStation | .pageWalkComplete | .atomicAtUnit | .apertureAccess | .instructionLineFill
  | .pendingFaultTaken | .faultFibreStart | .spawnMessageArrival | .spawnAckArrival | .migrationArrival
  | .fibreEviction | .cellarRestore | .fyieldDelayExpiry | .waitingCountThreshold | .planEntryActivate
  | .planEntryRestore | .planEntrySave | .stateCapture | .residentSwitchComplete | .saveComplete
  | .restoreComplete | .contractPeriodStart | .bestEffortQuantumExpiry | .barrierPhaseComplete
  | .gutterWordArrival | .gutterCreditReturn | .vectorEntryExecute | .copyCommandBegin | .copySegmentWritten
  | .copyAccessFault | .copyCommandComplete | .cpymTileAck | .matrixCommandBegin | .matrixCommandComplete
  | .rendezvousTransfer | .mrcmdArrival | .mrcmdAckArrival | .meshPostArrival | .fabricCommandBegin | .put
  | .puti | .getq | .getr | .sig | .amo | .amor | .spawn | .pld | .pst | .pamo | .crq | .cdata | .cdone
  | .cstop | .ackAnswer | .ackResynchronise | .ackResynchronised | .refuse | .bup | .bdown | .gack | .tsync
  | .tsyncInterval | .timeLock | .timeUnlock | .heldPacketPerform | .retransmissionTimeout | .streamTimeout
  | .streamStateFetchComplete | .packetForward | .flitReplay | .portRetrain | .portTrained | .portDown
  | .carmAtUnit | .caddAtUnit | .creadAtUnit | .cdisarmAtUnit | .cisternAnswer | .cisternSpawnRetry
  | .watchdogFire | .contextEnd | .launchEnd | .dbell | .contextCreate | .contextDestroy | .launch
  | .windowOpen | .cisternArm | .signal | .copy | .switchPlan | .invalidate | .errheadWrite | .registerWrite
  | .hostAccess | .attest | .lcset | .update | .updateStartTimeout | .mailboxFence | .readmit | .portset
  | .ctrrd | .reset | .wipeComplete | .controlStateError | .patrolScrub | .powerThrottle | .junctionShutdown
  | .illegalWord | .groupTreeRebuild | .updateRestartComplete | .linkPartnerArrival => true

end Sys2Proof
end

