-- ==== Sys2Proof/Decode.lean ====
section
/-!
DEFINITION. The decoder of instruction words, total and rejecting by name (R41 to R50), and the encoder, written from
the same encoding tables (spec/02_encoding.md R44 to R49).
-/
namespace Sys2Proof

/-- Why a word is no instruction (R50, items 1 to 6). -/
inductive Reject where
  /-- item 1: the major is unassigned -/
  | unassignedMajor
  /-- item 2: the FN, FN2, FN4 or FN6 value is not listed -/
  | unlistedFn
  /-- items 3 and 6: a reserved field, or Z of a store, is not zero -/
  | reservedField
  /-- item 4: a scope of 6 or 7 -/
  | badScope
  /-- item 5: fence kind 0b00 -/
  | badKind
  /-- item 5: any other excluded value -/
  | excludedValue
  deriving DecidableEq, Repr

/-- The two-bit code of an ordering (R7). -/
def MemOrd.code : MemOrd → BitVec 2
  | .rlx => 0 | .acq => 1 | .rel => 2 | .ar => 3
/-- The ordering of a code (R7). -/
def MemOrd.ofCode (c : BitVec 2) : MemOrd :=
  if c = 0 then .rlx else if c = 1 then .acq else if c = 2 then .rel else .ar
/-- The code of a scope (R7). -/
def Scope.code : Scope → BitVec 3
  | .fib => 0 | .bay => 1 | .die => 2 | .pkg => 3 | .dom => 4 | .sys => 5
/-- The scope of a code; 6 and 7 are illegal (R7). -/
def Scope.ofCode (c : BitVec 3) : Option Scope :=
  if c = 0 then some .fib else if c = 1 then some .bay else if c = 2 then some .die
  else if c = 3 then some .pkg else if c = 4 then some .dom else if c = 5 then some .sys else none
/-- The TY code (R55). -/
def Ty.code : Ty → BitVec 3
  | .f32 => 0 | .bf16 => 1 | .f16 => 2 | .e4m3 => 3 | .e5m2 => 4 | .i32 => 5 | .i16 => 6 | .i8 => 7
/-- The type of a TY code (R55). -/
def Ty.ofCode (c : BitVec 3) : Ty :=
  if c = 0 then .f32 else if c = 1 then .bf16 else if c = 2 then .f16 else if c = 3 then .e4m3
  else if c = 4 then .e5m2 else if c = 5 then .i32 else if c = 6 then .i16 else .i8
/-- The rounding-mode code (R55). -/
def Rm.code : Rm → BitVec 2
  | .rne => 0 | .rz => 1 | .rd => 2 | .ru => 3
/-- The rounding mode of a code (R55). -/
def Rm.ofCode (c : BitVec 2) : Rm :=
  if c = 0 then .rne else if c = 1 then .rz else if c = 2 then .rd else .ru
/-- The direction bit, OPT[0] (R236). -/
def Dir.code : Dir → BitVec 1
  | .east => 0 | .west => 1
/-- The direction of OPT[0] (R236). -/
def Dir.ofCode (c : BitVec 1) : Dir := if c = 0 then .east else .west
/-- The SZ code (R42). -/
def Sz.code : Sz → BitVec 2
  | .b => 0 | .h => 1 | .w => 2 | .d => 3
/-- The size of an SZ code (R42). -/
def Sz.ofCode (c : BitVec 2) : Sz :=
  if c = 0 then .b else if c = 1 then .h else if c = 2 then .w else .d
/-- Bit 0 of an atomic's size, whose bit 1 is always 1 (R48). -/
def AtSz.code : AtSz → BitVec 1
  | .w => 0 | .d => 1
/-- The size of an atomic's OPT[0] (R48). -/
def AtSz.ofCode (c : BitVec 1) : AtSz := if c = 0 then .w else .d
/-- The kind of a fence (R48). -/
def FenceKind.code : FenceKind → BitVec 2
  | .acq => 1 | .rel => 2 | .full => 3
/-- The fence kind of IMM14[4:3]; 0b00 is illegal (R48). -/
def FenceKind.ofCode (c : BitVec 2) : Option FenceKind :=
  if c = 1 then some .acq else if c = 2 then some .rel else if c = 3 then some .full else none

/-- The instruction where its reserved fields are zero (R50 item 3). -/
def need (ok : Bool) (i : Instr) : Except Reject Instr := if ok then .ok i else .error .reservedField

/-- Major 0x01 (R46 to R49): ADD, SUB, AND, OR and so on. -/
def decodeMajor01 (w : BitVec 32) : Except Reject Instr :=
  match (w.extractLsb' 10 7).toNat with
  | 0x0 => need ((w.extractLsb' 0 10) == 0) (.add (w.extractLsb' 23 3) (w.extractLsb' 20 3) (w.extractLsb' 17 3))
  | 0x1 => need ((w.extractLsb' 0 10) == 0) (.sub (w.extractLsb' 23 3) (w.extractLsb' 20 3) (w.extractLsb' 17 3))
  | 0x2 => need ((w.extractLsb' 0 10) == 0) (.and (w.extractLsb' 23 3) (w.extractLsb' 20 3) (w.extractLsb' 17 3))
  | 0x3 => need ((w.extractLsb' 0 10) == 0) (.or (w.extractLsb' 23 3) (w.extractLsb' 20 3) (w.extractLsb' 17 3))
  | 0x4 => need ((w.extractLsb' 0 10) == 0) (.xor (w.extractLsb' 23 3) (w.extractLsb' 20 3) (w.extractLsb' 17 3))
  | 0x5 => need ((w.extractLsb' 0 10) == 0) (.andn (w.extractLsb' 23 3) (w.extractLsb' 20 3) (w.extractLsb' 17 3))
  | 0x6 => need ((w.extractLsb' 0 10) == 0) (.sll (w.extractLsb' 23 3) (w.extractLsb' 20 3) (w.extractLsb' 17 3))
  | 0x7 => need ((w.extractLsb' 0 10) == 0) (.srl (w.extractLsb' 23 3) (w.extractLsb' 20 3) (w.extractLsb' 17 3))
  | 0x8 => need ((w.extractLsb' 0 10) == 0) (.sra (w.extractLsb' 23 3) (w.extractLsb' 20 3) (w.extractLsb' 17 3))
  | 0x9 => need ((w.extractLsb' 0 10) == 0) (.rol (w.extractLsb' 23 3) (w.extractLsb' 20 3) (w.extractLsb' 17 3))
  | 0xa => need ((w.extractLsb' 0 10) == 0) (.slt (w.extractLsb' 23 3) (w.extractLsb' 20 3) (w.extractLsb' 17 3))
  | 0xb => need ((w.extractLsb' 0 10) == 0) (.sltu (w.extractLsb' 23 3) (w.extractLsb' 20 3) (w.extractLsb' 17 3))
  | 0xc => need ((w.extractLsb' 0 10) == 0) (.seq (w.extractLsb' 23 3) (w.extractLsb' 20 3) (w.extractLsb' 17 3))
  | 0xd => need ((w.extractLsb' 0 10) == 0) (.min (w.extractLsb' 23 3) (w.extractLsb' 20 3) (w.extractLsb' 17 3))
  | 0xe => need ((w.extractLsb' 0 10) == 0) (.max (w.extractLsb' 23 3) (w.extractLsb' 20 3) (w.extractLsb' 17 3))
  | 0xf => need ((w.extractLsb' 0 10) == 0) (.minu (w.extractLsb' 23 3) (w.extractLsb' 20 3) (w.extractLsb' 17 3))
  | 0x10 => need ((w.extractLsb' 0 10) == 0) (.maxu (w.extractLsb' 23 3) (w.extractLsb' 20 3) (w.extractLsb' 17 3))
  | 0x11 => need ((w.extractLsb' 17 3) == 0 && (w.extractLsb' 6 4) == 0) (.slli (w.extractLsb' 23 3) (w.extractLsb' 20 3) (w.extractLsb' 0 6))
  | 0x12 => need ((w.extractLsb' 17 3) == 0 && (w.extractLsb' 6 4) == 0) (.srli (w.extractLsb' 23 3) (w.extractLsb' 20 3) (w.extractLsb' 0 6))
  | 0x13 => need ((w.extractLsb' 17 3) == 0 && (w.extractLsb' 6 4) == 0) (.srai (w.extractLsb' 23 3) (w.extractLsb' 20 3) (w.extractLsb' 0 6))
  | 0x14 => need ((w.extractLsb' 0 10) == 0) (.sel (w.extractLsb' 23 3) (w.extractLsb' 20 3) (w.extractLsb' 17 3))
  | 0x15 => need ((w.extractLsb' 0 10) == 0) (.addw (w.extractLsb' 23 3) (w.extractLsb' 20 3) (w.extractLsb' 17 3))
  | 0x16 => need ((w.extractLsb' 0 10) == 0) (.subw (w.extractLsb' 23 3) (w.extractLsb' 20 3) (w.extractLsb' 17 3))
  | _ => .error .unlistedFn

/-- Major 0x0A (R46 to R49): MUL, MULH, MULHU, MULW and so on. -/
def decodeMajor0A (w : BitVec 32) : Except Reject Instr :=
  match (w.extractLsb' 10 7).toNat with
  | 0x0 => need ((w.extractLsb' 0 10) == 0) (.mul (w.extractLsb' 23 3) (w.extractLsb' 20 3) (w.extractLsb' 17 3))
  | 0x1 => need ((w.extractLsb' 0 10) == 0) (.mulh (w.extractLsb' 23 3) (w.extractLsb' 20 3) (w.extractLsb' 17 3))
  | 0x2 => need ((w.extractLsb' 0 10) == 0) (.mulhu (w.extractLsb' 23 3) (w.extractLsb' 20 3) (w.extractLsb' 17 3))
  | 0x3 => need ((w.extractLsb' 0 10) == 0) (.mulw (w.extractLsb' 23 3) (w.extractLsb' 20 3) (w.extractLsb' 17 3))
  | 0x4 => need ((w.extractLsb' 0 10) == 0) (.div (w.extractLsb' 23 3) (w.extractLsb' 20 3) (w.extractLsb' 17 3))
  | 0x5 => need ((w.extractLsb' 0 10) == 0) (.divu (w.extractLsb' 23 3) (w.extractLsb' 20 3) (w.extractLsb' 17 3))
  | 0x6 => need ((w.extractLsb' 0 10) == 0) (.rem (w.extractLsb' 23 3) (w.extractLsb' 20 3) (w.extractLsb' 17 3))
  | 0x7 => need ((w.extractLsb' 0 10) == 0) (.remu (w.extractLsb' 23 3) (w.extractLsb' 20 3) (w.extractLsb' 17 3))
  | _ => .error .unlistedFn

/-- Major 0x0B (R46 to R49): POPC, CLZ, CTZ, BSWAP and so on. -/
def decodeMajor0B (w : BitVec 32) : Except Reject Instr :=
  match (w.extractLsb' 10 7).toNat with
  | 0x0 => need ((w.extractLsb' 17 3) == 0 && (w.extractLsb' 0 10) == 0) (.popc (w.extractLsb' 23 3) (w.extractLsb' 20 3))
  | 0x1 => need ((w.extractLsb' 17 3) == 0 && (w.extractLsb' 0 10) == 0) (.clz (w.extractLsb' 23 3) (w.extractLsb' 20 3))
  | 0x2 => need ((w.extractLsb' 17 3) == 0 && (w.extractLsb' 0 10) == 0) (.ctz (w.extractLsb' 23 3) (w.extractLsb' 20 3))
  | 0x3 => need ((w.extractLsb' 17 3) == 0 && (w.extractLsb' 0 10) == 0) (.bswap (w.extractLsb' 23 3) (w.extractLsb' 20 3))
  | 0x4 => need ((w.extractLsb' 0 10) == 0) (.bext (w.extractLsb' 23 3) (w.extractLsb' 20 3) (w.extractLsb' 17 3))
  | 0x5 => need ((w.extractLsb' 0 10) == 0) (.bins (w.extractLsb' 23 3) (w.extractLsb' 20 3) (w.extractLsb' 17 3))
  | 0x6 => need ((w.extractLsb' 17 3) == 0 && (w.extractLsb' 6 4) == 0) (.sext (w.extractLsb' 23 3) (w.extractLsb' 20 3) (w.extractLsb' 0 6))
  | 0x7 => need ((w.extractLsb' 17 3) == 0 && (w.extractLsb' 6 4) == 0) (.zext (w.extractLsb' 23 3) (w.extractLsb' 20 3) (w.extractLsb' 0 6))
  | _ => .error .unlistedFn

/-- Major 0x0D (R46 to R49): LEA, BAYN, BAYA. -/
def decodeMajor0D (w : BitVec 32) : Except Reject Instr :=
  match (w.extractLsb' 10 7).toNat with
  | 0x0 => need ((w.extractLsb' 2 8) == 0) (.lea (w.extractLsb' 23 3) (w.extractLsb' 20 3) (w.extractLsb' 17 3) (w.extractLsb' 0 2))
  | 0x1 => need ((w.extractLsb' 0 10) == 0) (.bayn (w.extractLsb' 23 3) (w.extractLsb' 20 3) (w.extractLsb' 17 3))
  | 0x2 => need ((w.extractLsb' 0 10) == 0) (.baya (w.extractLsb' 23 3) (w.extractLsb' 20 3) (w.extractLsb' 17 3))
  | _ => .error .unlistedFn

/-- Major 0x10 (R46 to R49): BEQ, BNE, BLT, BGE and so on. -/
def decodeMajor10 (w : BitVec 32) : Except Reject Instr :=
  match (w.extractLsb' 17 3).toNat with
  | 0x0 => .ok (.beq (w.extractLsb' 23 3) (w.extractLsb' 20 3) (w.extractLsb' 0 17))
  | 0x1 => .ok (.bne (w.extractLsb' 23 3) (w.extractLsb' 20 3) (w.extractLsb' 0 17))
  | 0x2 => .ok (.blt (w.extractLsb' 23 3) (w.extractLsb' 20 3) (w.extractLsb' 0 17))
  | 0x3 => .ok (.bge (w.extractLsb' 23 3) (w.extractLsb' 20 3) (w.extractLsb' 0 17))
  | 0x4 => .ok (.bltu (w.extractLsb' 23 3) (w.extractLsb' 20 3) (w.extractLsb' 0 17))
  | 0x5 => .ok (.bgeu (w.extractLsb' 23 3) (w.extractLsb' 20 3) (w.extractLsb' 0 17))
  | 0x6 => .ok (.bbc (w.extractLsb' 23 3) (w.extractLsb' 20 3) (w.extractLsb' 0 17))
  | 0x7 => .ok (.bbs (w.extractLsb' 23 3) (w.extractLsb' 20 3) (w.extractLsb' 0 17))
  | _ => .error .unlistedFn

/-- Major 0x13 (R46 to R49): JR, CALLR. -/
def decodeMajor13 (w : BitVec 32) : Except Reject Instr :=
  match (w.extractLsb' 10 7).toNat with
  | 0x0 => need ((w.extractLsb' 23 3) == 0 && (w.extractLsb' 17 3) == 0 && (w.extractLsb' 0 10) == 0) (.jr (w.extractLsb' 20 3))
  | 0x1 => need ((w.extractLsb' 23 3) == 0 && (w.extractLsb' 17 3) == 0 && (w.extractLsb' 0 10) == 0) (.callr (w.extractLsb' 20 3))
  | _ => .error .unlistedFn

/-- Major 0x14 (R46 to R49): LOOP, LOOP_REG. -/
def decodeMajor14 (w : BitVec 32) : Except Reject Instr :=
  match (w.extractLsb' 23 1).toNat with
  | 0x0 => need ((w.extractLsb' 20 3) == 0) (.loop (w.extractLsb' 24 2) (w.extractLsb' 10 10) (w.extractLsb' 0 10))
  | 0x1 => need ((w.extractLsb' 10 10) == 0) (.loopReg (w.extractLsb' 24 2) (w.extractLsb' 20 3) (w.extractLsb' 0 10))
  | _ => .error .unlistedFn

/-- Major 0x15 (R46 to R49): LBRK, LCNT. -/
def decodeMajor15 (w : BitVec 32) : Except Reject Instr :=
  match (w.extractLsb' 10 7).toNat with
  | 0x0 => need ((w.extractLsb' 17 9) == 0 && (w.extractLsb' 2 8) == 0) (.lbrk (w.extractLsb' 0 2))
  | 0x1 => need ((w.extractLsb' 17 6) == 0 && (w.extractLsb' 2 8) == 0) (.lcnt (w.extractLsb' 23 3) (w.extractLsb' 0 2))
  | _ => .error .unlistedFn

/-- Major 0x16 (R46 to R49): VREP, VREP_REG. -/
def decodeMajor16 (w : BitVec 32) : Except Reject Instr :=
  match (w.extractLsb' 21 1).toNat with
  | 0x0 => need ((w.extractLsb' 18 3) == 0 && (w.extractLsb' 0 2) == 0) (.vrep (w.extractLsb' 22 4) (w.extractLsb' 8 10) (w.extractLsb' 6 2) (w.extractLsb' 4 2) (w.extractLsb' 2 2))
  | 0x1 => need ((w.extractLsb' 8 10) == 0 && (w.extractLsb' 0 2) == 0) (.vrepReg (w.extractLsb' 22 4) (w.extractLsb' 18 3) (w.extractLsb' 6 2) (w.extractLsb' 4 2) (w.extractLsb' 2 2))
  | _ => .error .unlistedFn

/-- Major 0x18 (R46 to R49): FSPAWN, FSPAWNB, FEXIT, FID and so on. -/
def decodeMajor18 (w : BitVec 32) : Except Reject Instr :=
  match (w.extractLsb' 10 7).toNat with
  | 0x0 => need ((w.extractLsb' 0 10) == 0) (.fspawn (w.extractLsb' 23 3) (w.extractLsb' 20 3) (w.extractLsb' 17 3))
  | 0x1 => need ((w.extractLsb' 0 10) == 0) (.fspawnb (w.extractLsb' 23 3) (w.extractLsb' 20 3) (w.extractLsb' 17 3))
  | 0x2 => need ((w.extractLsb' 17 9) == 0 && (w.extractLsb' 0 10) == 0) (.fexit)
  | 0x3 => need ((w.extractLsb' 17 6) == 0 && (w.extractLsb' 0 10) == 0) (.fid (w.extractLsb' 23 3))
  | 0x4 => need ((w.extractLsb' 23 3) == 0 && (w.extractLsb' 17 3) == 0 && (w.extractLsb' 0 10) == 0) (.fpri (w.extractLsb' 20 3))
  | 0x5 => need ((w.extractLsb' 17 9) == 0 && (w.extractLsb' 0 10) == 0) (.fyield)
  | 0x6 => need ((w.extractLsb' 23 3) == 0 && (w.extractLsb' 17 3) == 0 && (w.extractLsb' 0 10) == 0) (.fgo (w.extractLsb' 20 3))
  | 0x7 => need ((w.extractLsb' 17 9) == 0 && (w.extractLsb' 0 10) == 0) (.fpark)
  | 0x8 => need ((w.extractLsb' 17 6) == 0 && (w.extractLsb' 0 10) == 0) (.fctx (w.extractLsb' 23 3))
  | 0x9 => need ((w.extractLsb' 17 6) == 0 && (w.extractLsb' 0 10) == 0) (.cbudget (w.extractLsb' 23 3))
  | _ => .error .unlistedFn

/-- Major 0x19 (R46 to R49): SPOST, SWAIT, STRY, SREAD and so on. -/
def decodeMajor19 (w : BitVec 32) : Except Reject Instr :=
  match (w.extractLsb' 0 5).toNat with
  | 0x0 => (Scope.ofCode (w.extractLsb' 5 3)).elim (.error .badScope) fun p => need ((w.extractLsb' 20 3) == 0) (.spost (w.extractLsb' 23 3) (w.extractLsb' 10 10) (MemOrd.ofCode (w.extractLsb' 8 2)) p)
  | 0x1 => (Scope.ofCode (w.extractLsb' 5 3)).elim (.error .badScope) fun p => need ((w.extractLsb' 20 3) == 0) (.swait (w.extractLsb' 23 3) (w.extractLsb' 10 10) (MemOrd.ofCode (w.extractLsb' 8 2)) p)
  | 0x2 => (Scope.ofCode (w.extractLsb' 5 3)).elim (.error .badScope) fun p => .ok (.stry (w.extractLsb' 23 3) (w.extractLsb' 20 3) (w.extractLsb' 10 10) (MemOrd.ofCode (w.extractLsb' 8 2)) p)
  | 0x3 => need ((w.extractLsb' 23 3) == 0 && (w.extractLsb' 5 5) == 0) (.sread (w.extractLsb' 20 3) (w.extractLsb' 10 10))
  | 0x4 => need ((w.extractLsb' 20 3) == 0 && (w.extractLsb' 5 5) == 0) (.sinit (w.extractLsb' 23 3) (w.extractLsb' 10 10))
  | _ => .error .unlistedFn

/-- Major 0x1A (R46 to R49): BARR, BWAIT, BSYNC, BMASK and so on. -/
def decodeMajor1A (w : BitVec 32) : Except Reject Instr :=
  match (w.extractLsb' 0 5).toNat with
  | 0x0 => (Scope.ofCode (w.extractLsb' 5 3)).elim (.error .badScope) fun p => need ((w.extractLsb' 20 6) == 0) (.barr (w.extractLsb' 10 10) (MemOrd.ofCode (w.extractLsb' 8 2)) p)
  | 0x1 => (Scope.ofCode (w.extractLsb' 5 3)).elim (.error .badScope) fun p => need ((w.extractLsb' 20 6) == 0) (.bwait (w.extractLsb' 10 10) (MemOrd.ofCode (w.extractLsb' 8 2)) p)
  | 0x2 => (Scope.ofCode (w.extractLsb' 5 3)).elim (.error .badScope) fun p => need ((w.extractLsb' 20 6) == 0) (.bsync (w.extractLsb' 10 10) (MemOrd.ofCode (w.extractLsb' 8 2)) p)
  | 0x3 => need ((w.extractLsb' 20 3) == 0 && (w.extractLsb' 5 5) == 0) (.bmask (w.extractLsb' 23 3) (w.extractLsb' 10 10))
  | 0x4 => need ((w.extractLsb' 23 3) == 0 && (w.extractLsb' 5 5) == 0) (.bstat (w.extractLsb' 20 3) (w.extractLsb' 10 10))
  | _ => .error .unlistedFn

/-- Major 0x1B (R46 to R49): QPUSH, QPOP, QPUSHT, QPOPT and so on. -/
def decodeMajor1B (w : BitVec 32) : Except Reject Instr :=
  match (w.extractLsb' 10 7).toNat with
  | 0x0 => need ((w.extractLsb' 23 3) == 0 && (w.extractLsb' 17 3) == 0 && (w.extractLsb' 1 9) == 0) (.qpush (w.extractLsb' 20 3) (Dir.ofCode (w.extractLsb' 0 1)))
  | 0x1 => need ((w.extractLsb' 17 6) == 0 && (w.extractLsb' 1 9) == 0) (.qpop (w.extractLsb' 23 3) (Dir.ofCode (w.extractLsb' 0 1)))
  | 0x2 => need ((w.extractLsb' 17 3) == 0 && (w.extractLsb' 1 9) == 0) (.qpusht (w.extractLsb' 23 3) (w.extractLsb' 20 3) (Dir.ofCode (w.extractLsb' 0 1)))
  | 0x3 => need ((w.extractLsb' 20 3) == 0 && (w.extractLsb' 1 9) == 0) (.qpopt (w.extractLsb' 23 3) (w.extractLsb' 17 3) (Dir.ofCode (w.extractLsb' 0 1)))
  | 0x4 => need ((w.extractLsb' 17 6) == 0 && (w.extractLsb' 1 9) == 0) (.qfwd (w.extractLsb' 23 3) (Dir.ofCode (w.extractLsb' 0 1)))
  | 0x5 => need ((w.extractLsb' 17 6) == 0 && (w.extractLsb' 1 9) == 0) (.qstat (w.extractLsb' 23 3) (Dir.ofCode (w.extractLsb' 0 1)))
  | _ => .error .unlistedFn

/-- Major 0x24 (R46 to R49): AADD, AAND, AOR, AXOR and so on. -/
def decodeMajor24 (w : BitVec 32) : Except Reject Instr :=
  match (w.extractLsb' 10 7).toNat with
  | 0x0 => (Scope.ofCode (w.extractLsb' 2 3)).elim (.error .badScope) fun p => need ((w.extractLsb' 8 2) == 0 && (w.extractLsb' 1 1) == 1) (.aadd (w.extractLsb' 23 3) (w.extractLsb' 20 3) (w.extractLsb' 17 3) ((w.extractLsb' 7 1) == 1) (MemOrd.ofCode (w.extractLsb' 5 2)) p (AtSz.ofCode (w.extractLsb' 0 1)))
  | 0x1 => (Scope.ofCode (w.extractLsb' 2 3)).elim (.error .badScope) fun p => need ((w.extractLsb' 8 2) == 0 && (w.extractLsb' 1 1) == 1) (.aand (w.extractLsb' 23 3) (w.extractLsb' 20 3) (w.extractLsb' 17 3) ((w.extractLsb' 7 1) == 1) (MemOrd.ofCode (w.extractLsb' 5 2)) p (AtSz.ofCode (w.extractLsb' 0 1)))
  | 0x2 => (Scope.ofCode (w.extractLsb' 2 3)).elim (.error .badScope) fun p => need ((w.extractLsb' 8 2) == 0 && (w.extractLsb' 1 1) == 1) (.aor (w.extractLsb' 23 3) (w.extractLsb' 20 3) (w.extractLsb' 17 3) ((w.extractLsb' 7 1) == 1) (MemOrd.ofCode (w.extractLsb' 5 2)) p (AtSz.ofCode (w.extractLsb' 0 1)))
  | 0x3 => (Scope.ofCode (w.extractLsb' 2 3)).elim (.error .badScope) fun p => need ((w.extractLsb' 8 2) == 0 && (w.extractLsb' 1 1) == 1) (.axor (w.extractLsb' 23 3) (w.extractLsb' 20 3) (w.extractLsb' 17 3) ((w.extractLsb' 7 1) == 1) (MemOrd.ofCode (w.extractLsb' 5 2)) p (AtSz.ofCode (w.extractLsb' 0 1)))
  | 0x4 => (Scope.ofCode (w.extractLsb' 2 3)).elim (.error .badScope) fun p => need ((w.extractLsb' 8 2) == 0 && (w.extractLsb' 1 1) == 1) (.amin (w.extractLsb' 23 3) (w.extractLsb' 20 3) (w.extractLsb' 17 3) ((w.extractLsb' 7 1) == 1) (MemOrd.ofCode (w.extractLsb' 5 2)) p (AtSz.ofCode (w.extractLsb' 0 1)))
  | 0x5 => (Scope.ofCode (w.extractLsb' 2 3)).elim (.error .badScope) fun p => need ((w.extractLsb' 8 2) == 0 && (w.extractLsb' 1 1) == 1) (.amax (w.extractLsb' 23 3) (w.extractLsb' 20 3) (w.extractLsb' 17 3) ((w.extractLsb' 7 1) == 1) (MemOrd.ofCode (w.extractLsb' 5 2)) p (AtSz.ofCode (w.extractLsb' 0 1)))
  | 0x6 => (Scope.ofCode (w.extractLsb' 2 3)).elim (.error .badScope) fun p => need ((w.extractLsb' 8 2) == 0 && (w.extractLsb' 1 1) == 1) (.aminu (w.extractLsb' 23 3) (w.extractLsb' 20 3) (w.extractLsb' 17 3) ((w.extractLsb' 7 1) == 1) (MemOrd.ofCode (w.extractLsb' 5 2)) p (AtSz.ofCode (w.extractLsb' 0 1)))
  | 0x7 => (Scope.ofCode (w.extractLsb' 2 3)).elim (.error .badScope) fun p => need ((w.extractLsb' 8 2) == 0 && (w.extractLsb' 1 1) == 1) (.amaxu (w.extractLsb' 23 3) (w.extractLsb' 20 3) (w.extractLsb' 17 3) ((w.extractLsb' 7 1) == 1) (MemOrd.ofCode (w.extractLsb' 5 2)) p (AtSz.ofCode (w.extractLsb' 0 1)))
  | 0x8 => (Scope.ofCode (w.extractLsb' 2 3)).elim (.error .badScope) fun p => need ((w.extractLsb' 8 2) == 0 && (w.extractLsb' 1 1) == 1) (.aswap (w.extractLsb' 23 3) (w.extractLsb' 20 3) (w.extractLsb' 17 3) ((w.extractLsb' 7 1) == 1) (MemOrd.ofCode (w.extractLsb' 5 2)) p (AtSz.ofCode (w.extractLsb' 0 1)))
  | 0x9 => (Scope.ofCode (w.extractLsb' 2 3)).elim (.error .badScope) fun p => need ((w.extractLsb' 8 2) == 0 && (w.extractLsb' 1 1) == 1) (.acas (w.extractLsb' 23 3) (w.extractLsb' 20 3) (w.extractLsb' 17 3) ((w.extractLsb' 7 1) == 1) (MemOrd.ofCode (w.extractLsb' 5 2)) p (AtSz.ofCode (w.extractLsb' 0 1)))
  | 0x10 => (Scope.ofCode (w.extractLsb' 2 3)).elim (.error .badScope) fun p => need ((w.extractLsb' 23 3) == 0 && (w.extractLsb' 8 2) == 0 && (w.extractLsb' 1 1) == 1) (.stadd (w.extractLsb' 20 3) (w.extractLsb' 17 3) ((w.extractLsb' 7 1) == 1) (MemOrd.ofCode (w.extractLsb' 5 2)) p (AtSz.ofCode (w.extractLsb' 0 1)))
  | 0x11 => (Scope.ofCode (w.extractLsb' 2 3)).elim (.error .badScope) fun p => need ((w.extractLsb' 23 3) == 0 && (w.extractLsb' 8 2) == 0 && (w.extractLsb' 1 1) == 1) (.stand (w.extractLsb' 20 3) (w.extractLsb' 17 3) ((w.extractLsb' 7 1) == 1) (MemOrd.ofCode (w.extractLsb' 5 2)) p (AtSz.ofCode (w.extractLsb' 0 1)))
  | 0x12 => (Scope.ofCode (w.extractLsb' 2 3)).elim (.error .badScope) fun p => need ((w.extractLsb' 23 3) == 0 && (w.extractLsb' 8 2) == 0 && (w.extractLsb' 1 1) == 1) (.stor (w.extractLsb' 20 3) (w.extractLsb' 17 3) ((w.extractLsb' 7 1) == 1) (MemOrd.ofCode (w.extractLsb' 5 2)) p (AtSz.ofCode (w.extractLsb' 0 1)))
  | 0x13 => (Scope.ofCode (w.extractLsb' 2 3)).elim (.error .badScope) fun p => need ((w.extractLsb' 23 3) == 0 && (w.extractLsb' 8 2) == 0 && (w.extractLsb' 1 1) == 1) (.stxor (w.extractLsb' 20 3) (w.extractLsb' 17 3) ((w.extractLsb' 7 1) == 1) (MemOrd.ofCode (w.extractLsb' 5 2)) p (AtSz.ofCode (w.extractLsb' 0 1)))
  | 0x14 => (Scope.ofCode (w.extractLsb' 2 3)).elim (.error .badScope) fun p => need ((w.extractLsb' 23 3) == 0 && (w.extractLsb' 8 2) == 0 && (w.extractLsb' 1 1) == 1) (.stmin (w.extractLsb' 20 3) (w.extractLsb' 17 3) ((w.extractLsb' 7 1) == 1) (MemOrd.ofCode (w.extractLsb' 5 2)) p (AtSz.ofCode (w.extractLsb' 0 1)))
  | 0x15 => (Scope.ofCode (w.extractLsb' 2 3)).elim (.error .badScope) fun p => need ((w.extractLsb' 23 3) == 0 && (w.extractLsb' 8 2) == 0 && (w.extractLsb' 1 1) == 1) (.stmax (w.extractLsb' 20 3) (w.extractLsb' 17 3) ((w.extractLsb' 7 1) == 1) (MemOrd.ofCode (w.extractLsb' 5 2)) p (AtSz.ofCode (w.extractLsb' 0 1)))
  | 0x16 => (Scope.ofCode (w.extractLsb' 2 3)).elim (.error .badScope) fun p => need ((w.extractLsb' 23 3) == 0 && (w.extractLsb' 8 2) == 0 && (w.extractLsb' 1 1) == 1) (.stminu (w.extractLsb' 20 3) (w.extractLsb' 17 3) ((w.extractLsb' 7 1) == 1) (MemOrd.ofCode (w.extractLsb' 5 2)) p (AtSz.ofCode (w.extractLsb' 0 1)))
  | 0x17 => (Scope.ofCode (w.extractLsb' 2 3)).elim (.error .badScope) fun p => need ((w.extractLsb' 23 3) == 0 && (w.extractLsb' 8 2) == 0 && (w.extractLsb' 1 1) == 1) (.stmaxu (w.extractLsb' 20 3) (w.extractLsb' 17 3) ((w.extractLsb' 7 1) == 1) (MemOrd.ofCode (w.extractLsb' 5 2)) p (AtSz.ofCode (w.extractLsb' 0 1)))
  | _ => .error .unlistedFn

/-- Major 0x25 (R46 to R49): FENCE, FENCEA. -/
def decodeMajor25 (w : BitVec 32) : Except Reject Instr :=
  match (w.extractLsb' 20 6).toNat with
  | 0x0 => (Scope.ofCode (w.extractLsb' 0 3)).elim (.error .badScope) fun p => (FenceKind.ofCode (w.extractLsb' 3 2)).elim (.error .badKind) fun k => need ((w.extractLsb' 5 15) == 0) (.fence k p)
  | 0x1 => (Scope.ofCode (w.extractLsb' 0 3)).elim (.error .badScope) fun p => (FenceKind.ofCode (w.extractLsb' 3 2)).elim (.error .badKind) fun k => need ((w.extractLsb' 5 15) == 0) (.fencea k p)
  | _ => .error .unlistedFn

/-- Major 0x28 (R46 to R49): CPY, CPYM, CPYT, CPYQ. -/
def decodeMajor28 (w : BitVec 32) : Except Reject Instr :=
  match (w.extractLsb' 0 5).toNat with
  | 0x0 => (Scope.ofCode (w.extractLsb' 5 3)).elim (.error .badScope) fun p => need ((w.extractLsb' 20 3) == 0) (.cpy (w.extractLsb' 23 3) (w.extractLsb' 10 10) (MemOrd.ofCode (w.extractLsb' 8 2)) p)
  | 0x1 => (Scope.ofCode (w.extractLsb' 5 3)).elim (.error .badScope) fun p => need ((w.extractLsb' 20 3) == 0) (.cpym (w.extractLsb' 23 3) (w.extractLsb' 10 10) (MemOrd.ofCode (w.extractLsb' 8 2)) p)
  | 0x2 => (Scope.ofCode (w.extractLsb' 5 3)).elim (.error .badScope) fun p => .ok (.cpyt (w.extractLsb' 23 3) (w.extractLsb' 20 3) (w.extractLsb' 10 10) (MemOrd.ofCode (w.extractLsb' 8 2)) p)
  | 0x3 => need ((w.extractLsb' 5 15) == 0) (.cpyq (w.extractLsb' 23 3) (w.extractLsb' 20 3))
  | _ => .error .unlistedFn

/-- Major 0x2C (R46 to R49): RPUT, RPUTI, RGET, RSIG and so on. -/
def decodeMajor2C (w : BitVec 32) : Except Reject Instr :=
  match (w.extractLsb' 0 5).toNat with
  | 0x0 => (Scope.ofCode (w.extractLsb' 5 3)).elim (.error .badScope) fun p => need ((w.extractLsb' 20 3) == 0) (.rput (w.extractLsb' 23 3) (w.extractLsb' 10 10) (MemOrd.ofCode (w.extractLsb' 8 2)) p)
  | 0x1 => (Scope.ofCode (w.extractLsb' 5 3)).elim (.error .badScope) fun p => .ok (.rputi (w.extractLsb' 23 3) (w.extractLsb' 20 3) (w.extractLsb' 10 10) (MemOrd.ofCode (w.extractLsb' 8 2)) p)
  | 0x2 => (Scope.ofCode (w.extractLsb' 5 3)).elim (.error .badScope) fun p => need ((w.extractLsb' 20 3) == 0) (.rget (w.extractLsb' 23 3) (w.extractLsb' 10 10) (MemOrd.ofCode (w.extractLsb' 8 2)) p)
  | 0x3 => (Scope.ofCode (w.extractLsb' 5 3)).elim (.error .badScope) fun p => .ok (.rsig (w.extractLsb' 23 3) (w.extractLsb' 20 3) (w.extractLsb' 10 10) (MemOrd.ofCode (w.extractLsb' 8 2)) p)
  | 0x4 => (Scope.ofCode (w.extractLsb' 5 3)).elim (.error .badScope) fun p => need ((w.extractLsb' 20 3) == 0) (.ramo (w.extractLsb' 23 3) (w.extractLsb' 10 10) (MemOrd.ofCode (w.extractLsb' 8 2)) p)
  | 0x5 => (Scope.ofCode (w.extractLsb' 5 3)).elim (.error .badScope) fun p => need ((w.extractLsb' 20 3) == 0) (.rspawn (w.extractLsb' 23 3) (w.extractLsb' 10 10) (MemOrd.ofCode (w.extractLsb' 8 2)) p)
  | _ => .error .unlistedFn

/-- Major 0x2D (R46 to R49): CRD, CRDG, CRDQ. -/
def decodeMajor2D (w : BitVec 32) : Except Reject Instr :=
  match (w.extractLsb' 0 5).toNat with
  | 0x0 => (Scope.ofCode (w.extractLsb' 5 3)).elim (.error .badScope) fun p => need ((w.extractLsb' 20 3) == 0) (.crd (w.extractLsb' 23 3) (w.extractLsb' 10 10) (MemOrd.ofCode (w.extractLsb' 8 2)) p)
  | 0x1 => (Scope.ofCode (w.extractLsb' 5 3)).elim (.error .badScope) fun p => need ((w.extractLsb' 20 3) == 0) (.crdg (w.extractLsb' 23 3) (w.extractLsb' 10 10) (MemOrd.ofCode (w.extractLsb' 8 2)) p)
  | 0x2 => need ((w.extractLsb' 5 15) == 0) (.crdq (w.extractLsb' 23 3) (w.extractLsb' 20 3))
  | _ => .error .unlistedFn

/-- Major 0x2E (R46 to R49): FLUSH, FLUSHC, STRMQ. -/
def decodeMajor2E (w : BitVec 32) : Except Reject Instr :=
  match (w.extractLsb' 20 6).toNat with
  | 0x0 => (Scope.ofCode (w.extractLsb' 0 3)).elim (.error .badScope) fun p => need ((w.extractLsb' 3 17) == 0) (.flush p)
  | 0x1 => (Scope.ofCode (w.extractLsb' 0 3)).elim (.error .badScope) fun p => need ((w.extractLsb' 17 3) == 0 && (w.extractLsb' 3 11) == 0) (.flushc (w.extractLsb' 14 3) p)
  | 0x2 => need ((w.extractLsb' 0 14) == 0) (.strmq (w.extractLsb' 17 3) (w.extractLsb' 14 3))
  | _ => .error .unlistedFn

/-- Major 0x30 (R46 to R49): CARM, CADD, CREAD, CDISARM. -/
def decodeMajor30 (w : BitVec 32) : Except Reject Instr :=
  match (w.extractLsb' 0 5).toNat with
  | 0x0 => need ((w.extractLsb' 5 5) == 0) (.carm (w.extractLsb' 23 3) (w.extractLsb' 20 3) (w.extractLsb' 10 10))
  | 0x1 => (Scope.ofCode (w.extractLsb' 5 3)).elim (.error .badScope) fun p => need ((w.extractLsb' 10 10) == 0) (.cadd (w.extractLsb' 23 3) (w.extractLsb' 20 3) (MemOrd.ofCode (w.extractLsb' 8 2)) p)
  | 0x2 => need ((w.extractLsb' 5 15) == 0) (.cread (w.extractLsb' 23 3) (w.extractLsb' 20 3))
  | 0x3 => need ((w.extractLsb' 5 15) == 0) (.cdisarm (w.extractLsb' 23 3) (w.extractLsb' 20 3))
  | _ => .error .unlistedFn

/-- Major 0x34 (R46 to R49): VADD, VSUB, VMUL, VFMA and so on. -/
def decodeMajor34 (w : BitVec 32) : Except Reject Instr :=
  match (w.extractLsb' 6 5).toNat with
  | 0x0 => .ok (.vadd (w.extractLsb' 21 5) (w.extractLsb' 16 5) (w.extractLsb' 11 5) (Ty.ofCode (w.extractLsb' 3 3)) (w.extractLsb' 0 3))
  | 0x1 => .ok (.vsub (w.extractLsb' 21 5) (w.extractLsb' 16 5) (w.extractLsb' 11 5) (Ty.ofCode (w.extractLsb' 3 3)) (w.extractLsb' 0 3))
  | 0x2 => .ok (.vmul (w.extractLsb' 21 5) (w.extractLsb' 16 5) (w.extractLsb' 11 5) (Ty.ofCode (w.extractLsb' 3 3)) (w.extractLsb' 0 3))
  | 0x3 => .ok (.vfma (w.extractLsb' 21 5) (w.extractLsb' 16 5) (w.extractLsb' 11 5) (Ty.ofCode (w.extractLsb' 3 3)) (w.extractLsb' 0 3))
  | 0x4 => .ok (.vfms (w.extractLsb' 21 5) (w.extractLsb' 16 5) (w.extractLsb' 11 5) (Ty.ofCode (w.extractLsb' 3 3)) (w.extractLsb' 0 3))
  | 0x5 => .ok (.vmin (w.extractLsb' 21 5) (w.extractLsb' 16 5) (w.extractLsb' 11 5) (Ty.ofCode (w.extractLsb' 3 3)) (w.extractLsb' 0 3))
  | 0x6 => .ok (.vmax (w.extractLsb' 21 5) (w.extractLsb' 16 5) (w.extractLsb' 11 5) (Ty.ofCode (w.extractLsb' 3 3)) (w.extractLsb' 0 3))
  | 0x7 => need ((w.extractLsb' 11 5) == 0) (.vabs (w.extractLsb' 21 5) (w.extractLsb' 16 5) (Ty.ofCode (w.extractLsb' 3 3)) (w.extractLsb' 0 3))
  | 0x8 => need ((w.extractLsb' 11 5) == 0) (.vneg (w.extractLsb' 21 5) (w.extractLsb' 16 5) (Ty.ofCode (w.extractLsb' 3 3)) (w.extractLsb' 0 3))
  | 0x9 => need ((w.extractLsb' 11 5) == 0 && (w.extractLsb' 3 3) == 0) (.vrsq (w.extractLsb' 21 5) (w.extractLsb' 16 5) (w.extractLsb' 0 3))
  | 0xa => need ((w.extractLsb' 11 5) == 0 && (w.extractLsb' 3 3) == 0) (.vrcp (w.extractLsb' 21 5) (w.extractLsb' 16 5) (w.extractLsb' 0 3))
  | 0xb => need ((w.extractLsb' 11 5) == 0 && (w.extractLsb' 3 3) == 0) (.vexp2 (w.extractLsb' 21 5) (w.extractLsb' 16 5) (w.extractLsb' 0 3))
  | 0xc => need ((w.extractLsb' 11 5) == 0 && (w.extractLsb' 3 3) == 0) (.vlog2 (w.extractLsb' 21 5) (w.extractLsb' 16 5) (w.extractLsb' 0 3))
  | 0xd => need ((w.extractLsb' 11 5) == 0 && (w.extractLsb' 3 3) == 0) (.vsqrt (w.extractLsb' 21 5) (w.extractLsb' 16 5) (w.extractLsb' 0 3))
  | 0xe => need ((w.extractLsb' 3 3) == 0) (.vdiv (w.extractLsb' 21 5) (w.extractLsb' 16 5) (w.extractLsb' 11 5) (w.extractLsb' 0 3))
  | 0xf => need ((w.extractLsb' 11 2) == 0) (.vadds (w.extractLsb' 21 5) (w.extractLsb' 16 5) (w.extractLsb' 13 3) (Ty.ofCode (w.extractLsb' 3 3)) (w.extractLsb' 0 3))
  | 0x10 => need ((w.extractLsb' 11 2) == 0) (.vmuls (w.extractLsb' 21 5) (w.extractLsb' 16 5) (w.extractLsb' 13 3) (Ty.ofCode (w.extractLsb' 3 3)) (w.extractLsb' 0 3))
  | 0x11 => need ((w.extractLsb' 11 2) == 0) (.vfmas (w.extractLsb' 21 5) (w.extractLsb' 16 5) (w.extractLsb' 13 3) (Ty.ofCode (w.extractLsb' 3 3)) (w.extractLsb' 0 3))
  | _ => .error .unlistedFn

/-- Major 0x35 (R46 to R49): VIADD, VISUB, VIMUL, VIMIN and so on. -/
def decodeMajor35 (w : BitVec 32) : Except Reject Instr :=
  match (w.extractLsb' 6 5).toNat with
  | 0x0 => .ok (.viadd (w.extractLsb' 21 5) (w.extractLsb' 16 5) (w.extractLsb' 11 5) (Ty.ofCode (w.extractLsb' 3 3)) (w.extractLsb' 0 3))
  | 0x1 => .ok (.visub (w.extractLsb' 21 5) (w.extractLsb' 16 5) (w.extractLsb' 11 5) (Ty.ofCode (w.extractLsb' 3 3)) (w.extractLsb' 0 3))
  | 0x2 => .ok (.vimul (w.extractLsb' 21 5) (w.extractLsb' 16 5) (w.extractLsb' 11 5) (Ty.ofCode (w.extractLsb' 3 3)) (w.extractLsb' 0 3))
  | 0x3 => .ok (.vimin (w.extractLsb' 21 5) (w.extractLsb' 16 5) (w.extractLsb' 11 5) (Ty.ofCode (w.extractLsb' 3 3)) (w.extractLsb' 0 3))
  | 0x4 => .ok (.vimax (w.extractLsb' 21 5) (w.extractLsb' 16 5) (w.extractLsb' 11 5) (Ty.ofCode (w.extractLsb' 3 3)) (w.extractLsb' 0 3))
  | 0x5 => .ok (.viminu (w.extractLsb' 21 5) (w.extractLsb' 16 5) (w.extractLsb' 11 5) (Ty.ofCode (w.extractLsb' 3 3)) (w.extractLsb' 0 3))
  | 0x6 => .ok (.vimaxu (w.extractLsb' 21 5) (w.extractLsb' 16 5) (w.extractLsb' 11 5) (Ty.ofCode (w.extractLsb' 3 3)) (w.extractLsb' 0 3))
  | 0x7 => .ok (.vand (w.extractLsb' 21 5) (w.extractLsb' 16 5) (w.extractLsb' 11 5) (Ty.ofCode (w.extractLsb' 3 3)) (w.extractLsb' 0 3))
  | 0x8 => .ok (.vor (w.extractLsb' 21 5) (w.extractLsb' 16 5) (w.extractLsb' 11 5) (Ty.ofCode (w.extractLsb' 3 3)) (w.extractLsb' 0 3))
  | 0x9 => .ok (.vxor (w.extractLsb' 21 5) (w.extractLsb' 16 5) (w.extractLsb' 11 5) (Ty.ofCode (w.extractLsb' 3 3)) (w.extractLsb' 0 3))
  | 0xa => .ok (.vshl (w.extractLsb' 21 5) (w.extractLsb' 16 5) (w.extractLsb' 11 5) (Ty.ofCode (w.extractLsb' 3 3)) (w.extractLsb' 0 3))
  | 0xb => .ok (.vshr (w.extractLsb' 21 5) (w.extractLsb' 16 5) (w.extractLsb' 11 5) (Ty.ofCode (w.extractLsb' 3 3)) (w.extractLsb' 0 3))
  | 0xc => .ok (.vsar (w.extractLsb' 21 5) (w.extractLsb' 16 5) (w.extractLsb' 11 5) (Ty.ofCode (w.extractLsb' 3 3)) (w.extractLsb' 0 3))
  | 0xd => need ((w.extractLsb' 11 2) == 0) (.viadds (w.extractLsb' 21 5) (w.extractLsb' 16 5) (w.extractLsb' 13 3) (Ty.ofCode (w.extractLsb' 3 3)) (w.extractLsb' 0 3))
  | 0xe => need ((w.extractLsb' 11 10) == 0) (.vidx (w.extractLsb' 21 5) (Ty.ofCode (w.extractLsb' 3 3)) (w.extractLsb' 0 3))
  | _ => .error .unlistedFn

/-- Major 0x36 (R46 to R49): VCMPEQ, VCMPLT, VCMPLE, VSEL and so on. -/
def decodeMajor36 (w : BitVec 32) : Except Reject Instr :=
  match (w.extractLsb' 6 5).toNat with
  | 0x0 => need ((w.extractLsb' 24 2) == 0) (.vcmpeq (w.extractLsb' 21 3) (w.extractLsb' 16 5) (w.extractLsb' 11 5) (Ty.ofCode (w.extractLsb' 3 3)) (w.extractLsb' 0 3))
  | 0x1 => need ((w.extractLsb' 24 2) == 0) (.vcmplt (w.extractLsb' 21 3) (w.extractLsb' 16 5) (w.extractLsb' 11 5) (Ty.ofCode (w.extractLsb' 3 3)) (w.extractLsb' 0 3))
  | 0x2 => need ((w.extractLsb' 24 2) == 0) (.vcmple (w.extractLsb' 21 3) (w.extractLsb' 16 5) (w.extractLsb' 11 5) (Ty.ofCode (w.extractLsb' 3 3)) (w.extractLsb' 0 3))
  | 0x3 => .ok (.vsel (w.extractLsb' 21 5) (w.extractLsb' 16 5) (w.extractLsb' 11 5) (Ty.ofCode (w.extractLsb' 3 3)) (w.extractLsb' 0 3))
  | 0x4 => need ((w.extractLsb' 11 5) == 0) (.vrsum (w.extractLsb' 21 5) (w.extractLsb' 16 5) (Ty.ofCode (w.extractLsb' 3 3)) (w.extractLsb' 0 3))
  | 0x5 => need ((w.extractLsb' 11 5) == 0) (.vrmax (w.extractLsb' 21 5) (w.extractLsb' 16 5) (Ty.ofCode (w.extractLsb' 3 3)) (w.extractLsb' 0 3))
  | 0x6 => need ((w.extractLsb' 11 5) == 0) (.vrmin (w.extractLsb' 21 5) (w.extractLsb' 16 5) (Ty.ofCode (w.extractLsb' 3 3)) (w.extractLsb' 0 3))
  | 0x7 => .ok (.vshuf (w.extractLsb' 21 5) (w.extractLsb' 16 5) (w.extractLsb' 11 5) (Ty.ofCode (w.extractLsb' 3 3)) (w.extractLsb' 0 3))
  | 0x8 => need ((w.extractLsb' 11 2) == 0) (.vbcast (w.extractLsb' 21 5) (w.extractLsb' 16 5) (w.extractLsb' 13 3) (Ty.ofCode (w.extractLsb' 3 3)) (w.extractLsb' 0 3))
  | 0x9 => need ((w.extractLsb' 11 2) == 0) (.vrot (w.extractLsb' 21 5) (w.extractLsb' 16 5) (w.extractLsb' 13 3) (Ty.ofCode (w.extractLsb' 3 3)) (w.extractLsb' 0 3))
  | 0xa => need ((w.extractLsb' 24 2) == 0 && (w.extractLsb' 19 2) == 0 && (w.extractLsb' 14 2) == 0 && (w.extractLsb' 0 6) == 0) (.kand (w.extractLsb' 21 3) (w.extractLsb' 16 3) (w.extractLsb' 11 3))
  | 0xb => need ((w.extractLsb' 24 2) == 0 && (w.extractLsb' 19 2) == 0 && (w.extractLsb' 14 2) == 0 && (w.extractLsb' 0 6) == 0) (.kor (w.extractLsb' 21 3) (w.extractLsb' 16 3) (w.extractLsb' 11 3))
  | 0xc => need ((w.extractLsb' 24 2) == 0 && (w.extractLsb' 19 2) == 0 && (w.extractLsb' 11 5) == 0 && (w.extractLsb' 0 6) == 0) (.knot (w.extractLsb' 21 3) (w.extractLsb' 16 3))
  | _ => .error .unlistedFn

/-- Major 0x37 (R46 to R49): VCVT, VCVTSR, VRNG, VPACK and so on. -/
def decodeMajor37 (w : BitVec 32) : Except Reject Instr :=
  match (w.extractLsb' 6 5).toNat with
  | 0x0 => .ok (.vcvt (w.extractLsb' 21 5) (w.extractLsb' 16 5) (Rm.ofCode (w.extractLsb' 14 2)) (Ty.ofCode (w.extractLsb' 11 3)) (Ty.ofCode (w.extractLsb' 3 3)) (w.extractLsb' 0 3))
  | 0x1 => need ((w.extractLsb' 3 3) == 1) (.vcvtsr (w.extractLsb' 21 5) (w.extractLsb' 16 5) (w.extractLsb' 11 5) (w.extractLsb' 0 3))
  | 0x2 => need ((w.extractLsb' 16 5) == 0 && (w.extractLsb' 11 2) == 0 && (w.extractLsb' 3 3) == 5) (.vrng (w.extractLsb' 21 5) (w.extractLsb' 13 3) (w.extractLsb' 0 3))
  | 0x3 => need ((w.extractLsb' 0 3) == 0) (.vpack (w.extractLsb' 21 5) (w.extractLsb' 16 5) (w.extractLsb' 11 5) (Ty.ofCode (w.extractLsb' 3 3)))
  | 0x4 => need ((w.extractLsb' 13 3) == 0 && (w.extractLsb' 0 3) == 0) (.vunpk (w.extractLsb' 21 5) (w.extractLsb' 16 5) (w.extractLsb' 11 2) (Ty.ofCode (w.extractLsb' 3 3)))
  | 0x5 => need ((w.extractLsb' 11 3) == 0) (.vcvtn4 (w.extractLsb' 21 5) (w.extractLsb' 16 5) (Rm.ofCode (w.extractLsb' 14 2)) (Ty.ofCode (w.extractLsb' 3 3)) (w.extractLsb' 0 3))
  | 0x6 => need ((w.extractLsb' 11 5) == 0) (.vcvtw4 (w.extractLsb' 21 5) (w.extractLsb' 16 5) (Ty.ofCode (w.extractLsb' 3 3)) (w.extractLsb' 0 3))
  | _ => .error .unlistedFn

/-- Major 0x38 (R46 to R49): VLD, VLDS, VLDB. -/
def decodeMajor38 (w : BitVec 32) : Except Reject Instr :=
  match (w.extractLsb' 13 2).toNat with
  | 0x0 => need ((w.extractLsb' 15 3) == 0) (.vld (w.extractLsb' 21 5) (w.extractLsb' 18 3) (w.extractLsb' 10 3) (w.extractLsb' 0 10))
  | 0x1 => .ok (.vlds (w.extractLsb' 21 5) (w.extractLsb' 18 3) (w.extractLsb' 15 3) (w.extractLsb' 10 3) (w.extractLsb' 0 10))
  | 0x2 => need ((w.extractLsb' 15 3) == 0) (.vldb (w.extractLsb' 21 5) (w.extractLsb' 18 3) (w.extractLsb' 10 3) (w.extractLsb' 0 10))
  | _ => .error .unlistedFn

/-- Major 0x39 (R46 to R49): VST, VSTS. -/
def decodeMajor39 (w : BitVec 32) : Except Reject Instr :=
  match (w.extractLsb' 13 2).toNat with
  | 0x0 => need ((w.extractLsb' 15 3) == 0) (.vst (w.extractLsb' 21 5) (w.extractLsb' 18 3) (w.extractLsb' 10 3) (w.extractLsb' 0 10))
  | 0x1 => .ok (.vsts (w.extractLsb' 21 5) (w.extractLsb' 18 3) (w.extractLsb' 15 3) (w.extractLsb' 10 3) (w.extractLsb' 0 10))
  | _ => .error .unlistedFn

/-- Major 0x3A (R46 to R49): VBIND, VFREE, VDRAIN, VSPLAT and so on. -/
def decodeMajor3A (w : BitVec 32) : Except Reject Instr :=
  match (w.extractLsb' 6 5).toNat with
  | 0x0 => need ((w.extractLsb' 11 15) == 0 && (w.extractLsb' 0 6) == 0) (.vbind)
  | 0x1 => need ((w.extractLsb' 11 15) == 0 && (w.extractLsb' 0 6) == 0) (.vfree)
  | 0x5 => need ((w.extractLsb' 11 15) == 0 && (w.extractLsb' 0 6) == 0) (.vdrain)
  | 0x2 => need ((w.extractLsb' 16 5) == 0 && (w.extractLsb' 11 2) == 0) (.vsplat (w.extractLsb' 21 5) (w.extractLsb' 13 3) (Ty.ofCode (w.extractLsb' 3 3)) (w.extractLsb' 0 3))
  | 0x3 => need ((w.extractLsb' 16 2) == 0 && (w.extractLsb' 11 2) == 0 && (w.extractLsb' 0 3) == 0) (.vins (w.extractLsb' 21 5) (w.extractLsb' 18 3) (w.extractLsb' 13 3) (Ty.ofCode (w.extractLsb' 3 3)))
  | 0x4 => need ((w.extractLsb' 24 2) == 0 && (w.extractLsb' 11 2) == 0 && (w.extractLsb' 0 3) == 0) (.vget (w.extractLsb' 21 3) (w.extractLsb' 16 5) (w.extractLsb' 13 3) (Ty.ofCode (w.extractLsb' 3 3)))
  | _ => .error .unlistedFn

/-- Major 0x3C (R46 to R49): MZERO, MLDW, MRD, MWR and so on. -/
def decodeMajor3C (w : BitVec 32) : Except Reject Instr :=
  match (w.extractLsb' 10 4).toNat with
  | 0x0 => need ((w.extractLsb' 14 6) == 0) (.mzero (w.extractLsb' 20 6) (w.extractLsb' 0 10))
  | 0x1 => need ((w.extractLsb' 22 4) == 0) (.mldw (w.extractLsb' 20 2) (w.extractLsb' 17 3) (w.extractLsb' 14 3) (w.extractLsb' 0 10))
  | 0x2 => need ((w.extractLsb' 14 3) == 0) (.mrd (w.extractLsb' 20 6) (w.extractLsb' 17 3) (w.extractLsb' 0 10))
  | 0x3 => need ((w.extractLsb' 14 3) == 0) (.mwr (w.extractLsb' 20 6) (w.extractLsb' 17 3) (w.extractLsb' 0 10))
  | 0x4 => need ((w.extractLsb' 20 6) == 0) (.mrcmd (w.extractLsb' 17 3) (w.extractLsb' 14 3) (w.extractLsb' 0 10))
  | 0x5 => need ((w.extractLsb' 20 6) == 0 && (w.extractLsb' 0 10) == 0) (.mgrant (w.extractLsb' 17 3) (w.extractLsb' 14 3))
  | 0x6 => need ((w.extractLsb' 14 6) == 0 && (w.extractLsb' 0 3) == 0) (.vtld (w.extractLsb' 20 6) (w.extractLsb' 5 5) (w.extractLsb' 3 2))
  | 0x7 => need ((w.extractLsb' 14 6) == 0 && (w.extractLsb' 0 3) == 0) (.vtst (w.extractLsb' 20 6) (w.extractLsb' 5 5) (w.extractLsb' 3 2))
  | _ => .error .unlistedFn

/-- Major 0x3E (R46 to R49): NOP, TRAP, HRET, SYSRD and so on. -/
def decodeMajor3E (w : BitVec 32) : Except Reject Instr :=
  match (w.extractLsb' 20 6).toNat with
  | 0x0 => need ((w.extractLsb' 0 20) == 0) (.nop)
  | 0x1 => need ((w.extractLsb' 14 6) == 0) (.trap (w.extractLsb' 0 14))
  | 0x2 => need ((w.extractLsb' 0 20) == 0) (.hret)
  | 0x3 => need ((w.extractLsb' 14 3) == 0) (.sysrd (w.extractLsb' 17 3) (w.extractLsb' 0 14))
  | 0x4 => need ((w.extractLsb' 17 3) == 0) (.syswr (w.extractLsb' 14 3) (w.extractLsb' 0 14))
  | 0x5 => need ((w.extractLsb' 17 3) == 0 && (w.extractLsb' 3 11) == 0) (.evsel (w.extractLsb' 14 3) (w.extractLsb' 0 3))
  | 0x6 => need ((w.extractLsb' 3 14) == 0) (.evrd (w.extractLsb' 17 3) (w.extractLsb' 0 3))
  | 0x7 => need ((w.extractLsb' 0 17) == 0) (.time (w.extractLsb' 17 3))
  | 0x8 => need ((w.extractLsb' 17 3) == 0) (.icinv (w.extractLsb' 14 3) (w.extractLsb' 0 14))
  | _ => .error .unlistedFn

/-- The word's fields, before the excluded values of R50 item 5 are checked (R44). -/
def decodeFields (w : BitVec 32) : Except Reject Instr :=
  match (w.extractLsb' 26 6).toNat with
  | 0x1 => decodeMajor01 w
  | 0x2 => .ok (.addi (w.extractLsb' 23 3) (w.extractLsb' 20 3) (w.extractLsb' 0 20))
  | 0x3 => .ok (.andi (w.extractLsb' 23 3) (w.extractLsb' 20 3) (w.extractLsb' 0 20))
  | 0x4 => .ok (.ori (w.extractLsb' 23 3) (w.extractLsb' 20 3) (w.extractLsb' 0 20))
  | 0x5 => .ok (.xori (w.extractLsb' 23 3) (w.extractLsb' 20 3) (w.extractLsb' 0 20))
  | 0x6 => .ok (.slti (w.extractLsb' 23 3) (w.extractLsb' 20 3) (w.extractLsb' 0 20))
  | 0x7 => .ok (.sltiu (w.extractLsb' 23 3) (w.extractLsb' 20 3) (w.extractLsb' 0 20))
  | 0x8 => .ok (.limm (w.extractLsb' 23 3) (w.extractLsb' 0 23))
  | 0x9 => .ok (.lshi (w.extractLsb' 23 3) (w.extractLsb' 0 23))
  | 0xa => decodeMajor0A w
  | 0xb => decodeMajor0B w
  | 0xc => need ((w.extractLsb' 20 3) == 0) (.addpc (w.extractLsb' 23 3) (w.extractLsb' 0 20))
  | 0xd => decodeMajor0D w
  | 0x10 => decodeMajor10 w
  | 0x11 => .ok (.jmp (w.extractLsb' 0 26))
  | 0x12 => .ok (.call (w.extractLsb' 0 26))
  | 0x13 => decodeMajor13 w
  | 0x14 => decodeMajor14 w
  | 0x15 => decodeMajor15 w
  | 0x16 => decodeMajor16 w
  | 0x18 => decodeMajor18 w
  | 0x19 => decodeMajor19 w
  | 0x1a => decodeMajor1A w
  | 0x1b => decodeMajor1B w
  | 0x20 => .ok (.ldl (w.extractLsb' 23 3) (w.extractLsb' 20 3) (Sz.ofCode (w.extractLsb' 18 2)) ((w.extractLsb' 17 1) == 1) (w.extractLsb' 0 17))
  | 0x21 => need ((w.extractLsb' 17 1) == 0) (.stl (w.extractLsb' 23 3) (w.extractLsb' 20 3) (Sz.ofCode (w.extractLsb' 18 2)) (w.extractLsb' 0 17))
  | 0x22 => .ok (.ldg (w.extractLsb' 23 3) (w.extractLsb' 20 3) (Sz.ofCode (w.extractLsb' 18 2)) ((w.extractLsb' 17 1) == 1) (w.extractLsb' 0 17))
  | 0x23 => need ((w.extractLsb' 17 1) == 0) (.stg (w.extractLsb' 23 3) (w.extractLsb' 20 3) (Sz.ofCode (w.extractLsb' 18 2)) (w.extractLsb' 0 17))
  | 0x24 => decodeMajor24 w
  | 0x25 => decodeMajor25 w
  | 0x28 => decodeMajor28 w
  | 0x2c => decodeMajor2C w
  | 0x2d => decodeMajor2D w
  | 0x2e => decodeMajor2E w
  | 0x30 => decodeMajor30 w
  | 0x34 => decodeMajor34 w
  | 0x35 => decodeMajor35 w
  | 0x36 => decodeMajor36 w
  | 0x37 => decodeMajor37 w
  | 0x38 => decodeMajor38 w
  | 0x39 => decodeMajor39 w
  | 0x3a => decodeMajor3A w
  | 0x3b => .ok (.mpass (w.extractLsb' 20 6) (w.extractLsb' 17 3) (w.extractLsb' 14 3) (w.extractLsb' 10 4) (w.extractLsb' 0 10))
  | 0x3c => decodeMajor3C w
  | 0x3e => decodeMajor3E w
  | _ => .error .unassignedMajor

/-- The instruction of a word, or the reason why it is none (R50). -/
def decode (w : BitVec 32) : Except Reject Instr :=
  match decodeFields w with
  | .ok i => if i.wf then .ok i else .error .excludedValue
  | .error r => .error r

/-- The word of an instruction (R41, R46 to R49); an event has none. -/
def encode : Instr → Option (BitVec 32)
  | .add d a b => some (1#6 ++ d ++ a ++ b ++ 0#7 ++ 0#10)
  | .sub d a b => some (1#6 ++ d ++ a ++ b ++ 1#7 ++ 0#10)
  | .and d a b => some (1#6 ++ d ++ a ++ b ++ 2#7 ++ 0#10)
  | .or d a b => some (1#6 ++ d ++ a ++ b ++ 3#7 ++ 0#10)
  | .xor d a b => some (1#6 ++ d ++ a ++ b ++ 4#7 ++ 0#10)
  | .andn d a b => some (1#6 ++ d ++ a ++ b ++ 5#7 ++ 0#10)
  | .sll d a b => some (1#6 ++ d ++ a ++ b ++ 6#7 ++ 0#10)
  | .srl d a b => some (1#6 ++ d ++ a ++ b ++ 7#7 ++ 0#10)
  | .sra d a b => some (1#6 ++ d ++ a ++ b ++ 8#7 ++ 0#10)
  | .rol d a b => some (1#6 ++ d ++ a ++ b ++ 9#7 ++ 0#10)
  | .slt d a b => some (1#6 ++ d ++ a ++ b ++ 0xa#7 ++ 0#10)
  | .sltu d a b => some (1#6 ++ d ++ a ++ b ++ 0xb#7 ++ 0#10)
  | .seq d a b => some (1#6 ++ d ++ a ++ b ++ 0xc#7 ++ 0#10)
  | .min d a b => some (1#6 ++ d ++ a ++ b ++ 0xd#7 ++ 0#10)
  | .max d a b => some (1#6 ++ d ++ a ++ b ++ 0xe#7 ++ 0#10)
  | .minu d a b => some (1#6 ++ d ++ a ++ b ++ 0xf#7 ++ 0#10)
  | .maxu d a b => some (1#6 ++ d ++ a ++ b ++ 0x10#7 ++ 0#10)
  | .slli d a h => some (1#6 ++ d ++ a ++ 0#3 ++ 0x11#7 ++ 0#4 ++ h)
  | .srli d a h => some (1#6 ++ d ++ a ++ 0#3 ++ 0x12#7 ++ 0#4 ++ h)
  | .srai d a h => some (1#6 ++ d ++ a ++ 0#3 ++ 0x13#7 ++ 0#4 ++ h)
  | .sel d a b => some (1#6 ++ d ++ a ++ b ++ 0x14#7 ++ 0#10)
  | .addw d a b => some (1#6 ++ d ++ a ++ b ++ 0x15#7 ++ 0#10)
  | .subw d a b => some (1#6 ++ d ++ a ++ b ++ 0x16#7 ++ 0#10)
  | .addi d a i => some (2#6 ++ d ++ a ++ i)
  | .andi d a i => some (3#6 ++ d ++ a ++ i)
  | .ori d a i => some (4#6 ++ d ++ a ++ i)
  | .xori d a i => some (5#6 ++ d ++ a ++ i)
  | .slti d a i => some (6#6 ++ d ++ a ++ i)
  | .sltiu d a i => some (7#6 ++ d ++ a ++ i)
  | .limm d i => some (8#6 ++ d ++ i)
  | .lshi d i => some (9#6 ++ d ++ i)
  | .mul d a b => some (0xa#6 ++ d ++ a ++ b ++ 0#7 ++ 0#10)
  | .mulh d a b => some (0xa#6 ++ d ++ a ++ b ++ 1#7 ++ 0#10)
  | .mulhu d a b => some (0xa#6 ++ d ++ a ++ b ++ 2#7 ++ 0#10)
  | .mulw d a b => some (0xa#6 ++ d ++ a ++ b ++ 3#7 ++ 0#10)
  | .div d a b => some (0xa#6 ++ d ++ a ++ b ++ 4#7 ++ 0#10)
  | .divu d a b => some (0xa#6 ++ d ++ a ++ b ++ 5#7 ++ 0#10)
  | .rem d a b => some (0xa#6 ++ d ++ a ++ b ++ 6#7 ++ 0#10)
  | .remu d a b => some (0xa#6 ++ d ++ a ++ b ++ 7#7 ++ 0#10)
  | .popc d a => some (0xb#6 ++ d ++ a ++ 0#3 ++ 0#7 ++ 0#10)
  | .clz d a => some (0xb#6 ++ d ++ a ++ 0#3 ++ 1#7 ++ 0#10)
  | .ctz d a => some (0xb#6 ++ d ++ a ++ 0#3 ++ 2#7 ++ 0#10)
  | .bswap d a => some (0xb#6 ++ d ++ a ++ 0#3 ++ 3#7 ++ 0#10)
  | .bext d a b => some (0xb#6 ++ d ++ a ++ b ++ 4#7 ++ 0#10)
  | .bins d a b => some (0xb#6 ++ d ++ a ++ b ++ 5#7 ++ 0#10)
  | .sext d a n => some (0xb#6 ++ d ++ a ++ 0#3 ++ 6#7 ++ 0#4 ++ n)
  | .zext d a n => some (0xb#6 ++ d ++ a ++ 0#3 ++ 7#7 ++ 0#4 ++ n)
  | .addpc d i => some (0xc#6 ++ d ++ 0#3 ++ i)
  | .lea d a b h => some (0xd#6 ++ d ++ a ++ b ++ 0#7 ++ 0#8 ++ h)
  | .bayn d a b => some (0xd#6 ++ d ++ a ++ b ++ 1#7 ++ 0#10)
  | .baya d a b => some (0xd#6 ++ d ++ a ++ b ++ 2#7 ++ 0#10)
  | .beq a b o => some (0x10#6 ++ a ++ b ++ 0#3 ++ o)
  | .bne a b o => some (0x10#6 ++ a ++ b ++ 1#3 ++ o)
  | .blt a b o => some (0x10#6 ++ a ++ b ++ 2#3 ++ o)
  | .bge a b o => some (0x10#6 ++ a ++ b ++ 3#3 ++ o)
  | .bltu a b o => some (0x10#6 ++ a ++ b ++ 4#3 ++ o)
  | .bgeu a b o => some (0x10#6 ++ a ++ b ++ 5#3 ++ o)
  | .bbc a b o => some (0x10#6 ++ a ++ b ++ 6#3 ++ o)
  | .bbs a b o => some (0x10#6 ++ a ++ b ++ 7#3 ++ o)
  | .jmp o => some (0x11#6 ++ o)
  | .call o => some (0x12#6 ++ o)
  | .jr a => some (0x13#6 ++ 0#3 ++ a ++ 0#3 ++ 0#7 ++ 0#10)
  | .callr a => some (0x13#6 ++ 0#3 ++ a ++ 0#3 ++ 1#7 ++ 0#10)
  | .loop l n e => some (0x14#6 ++ l ++ 0#1 ++ 0#3 ++ n ++ e)
  | .loopReg l a e => some (0x14#6 ++ l ++ 1#1 ++ a ++ 0#10 ++ e)
  | .lbrk l => some (0x15#6 ++ 0#9 ++ 0#7 ++ 0#8 ++ l)
  | .lcnt d l => some (0x15#6 ++ d ++ 0#6 ++ 1#7 ++ 0#8 ++ l)
  | .vrep n c s t u => some (0x16#6 ++ n ++ 0#1 ++ 0#3 ++ c ++ s ++ t ++ u ++ 0#2)
  | .vrepReg n a s t u => some (0x16#6 ++ n ++ 1#1 ++ a ++ 0#10 ++ s ++ t ++ u ++ 0#2)
  | .nop => some (0x3e#6 ++ 0#6 ++ 0#20)
  | .trap i => some (0x3e#6 ++ 1#6 ++ 0#6 ++ i)
  | .hret => some (0x3e#6 ++ 2#6 ++ 0#20)
  | .sysrd d n => some (0x3e#6 ++ 3#6 ++ d ++ 0#3 ++ n)
  | .syswr a n => some (0x3e#6 ++ 4#6 ++ 0#3 ++ a ++ n)
  | .evsel a c => some (0x3e#6 ++ 5#6 ++ 0#3 ++ a ++ 0#11 ++ c)
  | .evrd d c => some (0x3e#6 ++ 6#6 ++ d ++ 0#14 ++ c)
  | .time d => some (0x3e#6 ++ 7#6 ++ d ++ 0#17)
  | .icinv a l => some (0x3e#6 ++ 8#6 ++ 0#3 ++ a ++ l)
  | .fspawn d a b => some (0x18#6 ++ d ++ a ++ b ++ 0#7 ++ 0#10)
  | .fspawnb d a b => some (0x18#6 ++ d ++ a ++ b ++ 1#7 ++ 0#10)
  | .fexit => some (0x18#6 ++ 0#9 ++ 2#7 ++ 0#10)
  | .fid d => some (0x18#6 ++ d ++ 0#6 ++ 3#7 ++ 0#10)
  | .fpri a => some (0x18#6 ++ 0#3 ++ a ++ 0#3 ++ 4#7 ++ 0#10)
  | .fyield => some (0x18#6 ++ 0#9 ++ 5#7 ++ 0#10)
  | .fgo a => some (0x18#6 ++ 0#3 ++ a ++ 0#3 ++ 6#7 ++ 0#10)
  | .fpark => some (0x18#6 ++ 0#9 ++ 7#7 ++ 0#10)
  | .fctx d => some (0x18#6 ++ d ++ 0#6 ++ 8#7 ++ 0#10)
  | .cbudget d => some (0x18#6 ++ d ++ 0#6 ++ 9#7 ++ 0#10)
  | .spost a x r p => some (0x19#6 ++ a ++ 0#3 ++ x ++ r.code ++ p.code ++ 0#5)
  | .swait a x r p => some (0x19#6 ++ a ++ 0#3 ++ x ++ r.code ++ p.code ++ 1#5)
  | .stry a b x r p => some (0x19#6 ++ a ++ b ++ x ++ r.code ++ p.code ++ 2#5)
  | .sread b x => some (0x19#6 ++ 0#3 ++ b ++ x ++ 0#5 ++ 3#5)
  | .sinit a x => some (0x19#6 ++ a ++ 0#3 ++ x ++ 0#5 ++ 4#5)
  | .barr x r p => some (0x1a#6 ++ 0#6 ++ x ++ r.code ++ p.code ++ 0#5)
  | .bwait x r p => some (0x1a#6 ++ 0#6 ++ x ++ r.code ++ p.code ++ 1#5)
  | .bsync x r p => some (0x1a#6 ++ 0#6 ++ x ++ r.code ++ p.code ++ 2#5)
  | .bmask a x => some (0x1a#6 ++ a ++ 0#3 ++ x ++ 0#5 ++ 3#5)
  | .bstat b x => some (0x1a#6 ++ 0#3 ++ b ++ x ++ 0#5 ++ 4#5)
  | .qpush a r => some (0x1b#6 ++ 0#3 ++ a ++ 0#3 ++ 0#7 ++ 0#9 ++ r.code)
  | .qpop d r => some (0x1b#6 ++ d ++ 0#6 ++ 1#7 ++ 0#9 ++ r.code)
  | .qpusht d a r => some (0x1b#6 ++ d ++ a ++ 0#3 ++ 2#7 ++ 0#9 ++ r.code)
  | .qpopt d b r => some (0x1b#6 ++ d ++ 0#3 ++ b ++ 3#7 ++ 0#9 ++ r.code)
  | .qfwd d r => some (0x1b#6 ++ d ++ 0#6 ++ 4#7 ++ 0#9 ++ r.code)
  | .qstat d r => some (0x1b#6 ++ d ++ 0#6 ++ 5#7 ++ 0#9 ++ r.code)
  | .ldl d a s z o => some (0x20#6 ++ d ++ a ++ s.code ++ (BitVec.ofBool z) ++ o)
  | .stl d a s o => some (0x21#6 ++ d ++ a ++ s.code ++ 0#1 ++ o)
  | .ldg d a s z o => some (0x22#6 ++ d ++ a ++ s.code ++ (BitVec.ofBool z) ++ o)
  | .stg d a s o => some (0x23#6 ++ d ++ a ++ s.code ++ 0#1 ++ o)
  | .aadd d a b g r p s => some (0x24#6 ++ d ++ a ++ b ++ 0#7 ++ 0#2 ++ (BitVec.ofBool g) ++ r.code ++ p.code ++ 1#1 ++ s.code)
  | .aand d a b g r p s => some (0x24#6 ++ d ++ a ++ b ++ 1#7 ++ 0#2 ++ (BitVec.ofBool g) ++ r.code ++ p.code ++ 1#1 ++ s.code)
  | .aor d a b g r p s => some (0x24#6 ++ d ++ a ++ b ++ 2#7 ++ 0#2 ++ (BitVec.ofBool g) ++ r.code ++ p.code ++ 1#1 ++ s.code)
  | .axor d a b g r p s => some (0x24#6 ++ d ++ a ++ b ++ 3#7 ++ 0#2 ++ (BitVec.ofBool g) ++ r.code ++ p.code ++ 1#1 ++ s.code)
  | .amin d a b g r p s => some (0x24#6 ++ d ++ a ++ b ++ 4#7 ++ 0#2 ++ (BitVec.ofBool g) ++ r.code ++ p.code ++ 1#1 ++ s.code)
  | .amax d a b g r p s => some (0x24#6 ++ d ++ a ++ b ++ 5#7 ++ 0#2 ++ (BitVec.ofBool g) ++ r.code ++ p.code ++ 1#1 ++ s.code)
  | .aminu d a b g r p s => some (0x24#6 ++ d ++ a ++ b ++ 6#7 ++ 0#2 ++ (BitVec.ofBool g) ++ r.code ++ p.code ++ 1#1 ++ s.code)
  | .amaxu d a b g r p s => some (0x24#6 ++ d ++ a ++ b ++ 7#7 ++ 0#2 ++ (BitVec.ofBool g) ++ r.code ++ p.code ++ 1#1 ++ s.code)
  | .aswap d a b g r p s => some (0x24#6 ++ d ++ a ++ b ++ 8#7 ++ 0#2 ++ (BitVec.ofBool g) ++ r.code ++ p.code ++ 1#1 ++ s.code)
  | .acas d a b g r p s => some (0x24#6 ++ d ++ a ++ b ++ 9#7 ++ 0#2 ++ (BitVec.ofBool g) ++ r.code ++ p.code ++ 1#1 ++ s.code)
  | .stadd a b g r p s => some (0x24#6 ++ 0#3 ++ a ++ b ++ 0x10#7 ++ 0#2 ++ (BitVec.ofBool g) ++ r.code ++ p.code ++ 1#1 ++ s.code)
  | .stand a b g r p s => some (0x24#6 ++ 0#3 ++ a ++ b ++ 0x11#7 ++ 0#2 ++ (BitVec.ofBool g) ++ r.code ++ p.code ++ 1#1 ++ s.code)
  | .stor a b g r p s => some (0x24#6 ++ 0#3 ++ a ++ b ++ 0x12#7 ++ 0#2 ++ (BitVec.ofBool g) ++ r.code ++ p.code ++ 1#1 ++ s.code)
  | .stxor a b g r p s => some (0x24#6 ++ 0#3 ++ a ++ b ++ 0x13#7 ++ 0#2 ++ (BitVec.ofBool g) ++ r.code ++ p.code ++ 1#1 ++ s.code)
  | .stmin a b g r p s => some (0x24#6 ++ 0#3 ++ a ++ b ++ 0x14#7 ++ 0#2 ++ (BitVec.ofBool g) ++ r.code ++ p.code ++ 1#1 ++ s.code)
  | .stmax a b g r p s => some (0x24#6 ++ 0#3 ++ a ++ b ++ 0x15#7 ++ 0#2 ++ (BitVec.ofBool g) ++ r.code ++ p.code ++ 1#1 ++ s.code)
  | .stminu a b g r p s => some (0x24#6 ++ 0#3 ++ a ++ b ++ 0x16#7 ++ 0#2 ++ (BitVec.ofBool g) ++ r.code ++ p.code ++ 1#1 ++ s.code)
  | .stmaxu a b g r p s => some (0x24#6 ++ 0#3 ++ a ++ b ++ 0x17#7 ++ 0#2 ++ (BitVec.ofBool g) ++ r.code ++ p.code ++ 1#1 ++ s.code)
  | .fence k p => some (0x25#6 ++ 0#6 ++ 0#15 ++ k.code ++ p.code)
  | .fencea k p => some (0x25#6 ++ 1#6 ++ 0#15 ++ k.code ++ p.code)
  | .vbind => some (0x3a#6 ++ 0#15 ++ 0#5 ++ 0#6)
  | .vfree => some (0x3a#6 ++ 0#15 ++ 1#5 ++ 0#6)
  | .vdrain => some (0x3a#6 ++ 0#15 ++ 5#5 ++ 0#6)
  | .vsplat d b t k => some (0x3a#6 ++ d ++ 0#5 ++ b ++ 0#2 ++ 2#5 ++ t.code ++ k)
  | .vins d i b t => some (0x3a#6 ++ d ++ i ++ 0#2 ++ b ++ 0#2 ++ 3#5 ++ t.code ++ 0#3)
  | .vget i a b t => some (0x3a#6 ++ 0#2 ++ i ++ a ++ b ++ 0#2 ++ 4#5 ++ t.code ++ 0#3)
  | .vld d a k o => some (0x38#6 ++ d ++ a ++ 0#3 ++ 0#2 ++ k ++ o)
  | .vlds d a b k o => some (0x38#6 ++ d ++ a ++ b ++ 1#2 ++ k ++ o)
  | .vldb d a k o => some (0x38#6 ++ d ++ a ++ 0#3 ++ 2#2 ++ k ++ o)
  | .vst d a k o => some (0x39#6 ++ d ++ a ++ 0#3 ++ 0#2 ++ k ++ o)
  | .vsts d a b k o => some (0x39#6 ++ d ++ a ++ b ++ 1#2 ++ k ++ o)
  | .vadd d a b t k => some (0x34#6 ++ d ++ a ++ b ++ 0#5 ++ t.code ++ k)
  | .vsub d a b t k => some (0x34#6 ++ d ++ a ++ b ++ 1#5 ++ t.code ++ k)
  | .vmul d a b t k => some (0x34#6 ++ d ++ a ++ b ++ 2#5 ++ t.code ++ k)
  | .vfma d a b t k => some (0x34#6 ++ d ++ a ++ b ++ 3#5 ++ t.code ++ k)
  | .vfms d a b t k => some (0x34#6 ++ d ++ a ++ b ++ 4#5 ++ t.code ++ k)
  | .vmin d a b t k => some (0x34#6 ++ d ++ a ++ b ++ 5#5 ++ t.code ++ k)
  | .vmax d a b t k => some (0x34#6 ++ d ++ a ++ b ++ 6#5 ++ t.code ++ k)
  | .vabs d a t k => some (0x34#6 ++ d ++ a ++ 0#5 ++ 7#5 ++ t.code ++ k)
  | .vneg d a t k => some (0x34#6 ++ d ++ a ++ 0#5 ++ 8#5 ++ t.code ++ k)
  | .vrsq d a k => some (0x34#6 ++ d ++ a ++ 0#5 ++ 9#5 ++ 0#3 ++ k)
  | .vrcp d a k => some (0x34#6 ++ d ++ a ++ 0#5 ++ 0xa#5 ++ 0#3 ++ k)
  | .vexp2 d a k => some (0x34#6 ++ d ++ a ++ 0#5 ++ 0xb#5 ++ 0#3 ++ k)
  | .vlog2 d a k => some (0x34#6 ++ d ++ a ++ 0#5 ++ 0xc#5 ++ 0#3 ++ k)
  | .vsqrt d a k => some (0x34#6 ++ d ++ a ++ 0#5 ++ 0xd#5 ++ 0#3 ++ k)
  | .vdiv d a b k => some (0x34#6 ++ d ++ a ++ b ++ 0xe#5 ++ 0#3 ++ k)
  | .vadds d a b t k => some (0x34#6 ++ d ++ a ++ b ++ 0#2 ++ 0xf#5 ++ t.code ++ k)
  | .vmuls d a b t k => some (0x34#6 ++ d ++ a ++ b ++ 0#2 ++ 0x10#5 ++ t.code ++ k)
  | .vfmas d a b t k => some (0x34#6 ++ d ++ a ++ b ++ 0#2 ++ 0x11#5 ++ t.code ++ k)
  | .viadd d a b t k => some (0x35#6 ++ d ++ a ++ b ++ 0#5 ++ t.code ++ k)
  | .visub d a b t k => some (0x35#6 ++ d ++ a ++ b ++ 1#5 ++ t.code ++ k)
  | .vimul d a b t k => some (0x35#6 ++ d ++ a ++ b ++ 2#5 ++ t.code ++ k)
  | .vimin d a b t k => some (0x35#6 ++ d ++ a ++ b ++ 3#5 ++ t.code ++ k)
  | .vimax d a b t k => some (0x35#6 ++ d ++ a ++ b ++ 4#5 ++ t.code ++ k)
  | .viminu d a b t k => some (0x35#6 ++ d ++ a ++ b ++ 5#5 ++ t.code ++ k)
  | .vimaxu d a b t k => some (0x35#6 ++ d ++ a ++ b ++ 6#5 ++ t.code ++ k)
  | .vand d a b t k => some (0x35#6 ++ d ++ a ++ b ++ 7#5 ++ t.code ++ k)
  | .vor d a b t k => some (0x35#6 ++ d ++ a ++ b ++ 8#5 ++ t.code ++ k)
  | .vxor d a b t k => some (0x35#6 ++ d ++ a ++ b ++ 9#5 ++ t.code ++ k)
  | .vshl d a b t k => some (0x35#6 ++ d ++ a ++ b ++ 0xa#5 ++ t.code ++ k)
  | .vshr d a b t k => some (0x35#6 ++ d ++ a ++ b ++ 0xb#5 ++ t.code ++ k)
  | .vsar d a b t k => some (0x35#6 ++ d ++ a ++ b ++ 0xc#5 ++ t.code ++ k)
  | .viadds d a b t k => some (0x35#6 ++ d ++ a ++ b ++ 0#2 ++ 0xd#5 ++ t.code ++ k)
  | .vidx d t k => some (0x35#6 ++ d ++ 0#10 ++ 0xe#5 ++ t.code ++ k)
  | .vcmpeq d a b t k => some (0x36#6 ++ 0#2 ++ d ++ a ++ b ++ 0#5 ++ t.code ++ k)
  | .vcmplt d a b t k => some (0x36#6 ++ 0#2 ++ d ++ a ++ b ++ 1#5 ++ t.code ++ k)
  | .vcmple d a b t k => some (0x36#6 ++ 0#2 ++ d ++ a ++ b ++ 2#5 ++ t.code ++ k)
  | .vsel d a b t k => some (0x36#6 ++ d ++ a ++ b ++ 3#5 ++ t.code ++ k)
  | .vrsum d a t k => some (0x36#6 ++ d ++ a ++ 0#5 ++ 4#5 ++ t.code ++ k)
  | .vrmax d a t k => some (0x36#6 ++ d ++ a ++ 0#5 ++ 5#5 ++ t.code ++ k)
  | .vrmin d a t k => some (0x36#6 ++ d ++ a ++ 0#5 ++ 6#5 ++ t.code ++ k)
  | .vshuf d a b t k => some (0x36#6 ++ d ++ a ++ b ++ 7#5 ++ t.code ++ k)
  | .vbcast d a b t k => some (0x36#6 ++ d ++ a ++ b ++ 0#2 ++ 8#5 ++ t.code ++ k)
  | .vrot d a b t k => some (0x36#6 ++ d ++ a ++ b ++ 0#2 ++ 9#5 ++ t.code ++ k)
  | .kand d a b => some (0x36#6 ++ 0#2 ++ d ++ 0#2 ++ a ++ 0#2 ++ b ++ 0xa#5 ++ 0#6)
  | .kor d a b => some (0x36#6 ++ 0#2 ++ d ++ 0#2 ++ a ++ 0#2 ++ b ++ 0xb#5 ++ 0#6)
  | .knot d a => some (0x36#6 ++ 0#2 ++ d ++ 0#2 ++ a ++ 0#5 ++ 0xc#5 ++ 0#6)
  | .vcvt d a m s t k => some (0x37#6 ++ d ++ a ++ m.code ++ s.code ++ 0#5 ++ t.code ++ k)
  | .vcvtsr d a b k => some (0x37#6 ++ d ++ a ++ b ++ 1#5 ++ 1#3 ++ k)
  | .vrng d b k => some (0x37#6 ++ d ++ 0#5 ++ b ++ 0#2 ++ 2#5 ++ 5#3 ++ k)
  | .vpack d a b t => some (0x37#6 ++ d ++ a ++ b ++ 3#5 ++ t.code ++ 0#3)
  | .vunpk d a q t => some (0x37#6 ++ d ++ a ++ 0#3 ++ q ++ 4#5 ++ t.code ++ 0#3)
  | .vcvtn4 d a m t k => some (0x37#6 ++ d ++ a ++ m.code ++ 0#3 ++ 5#5 ++ t.code ++ k)
  | .vcvtw4 d a t k => some (0x37#6 ++ d ++ a ++ 0#5 ++ 6#5 ++ t.code ++ k)
  | .cpy a x r p => some (0x28#6 ++ a ++ 0#3 ++ x ++ r.code ++ p.code ++ 0#5)
  | .cpym a x r p => some (0x28#6 ++ a ++ 0#3 ++ x ++ r.code ++ p.code ++ 1#5)
  | .cpyt a b x r p => some (0x28#6 ++ a ++ b ++ x ++ r.code ++ p.code ++ 2#5)
  | .cpyq a b => some (0x28#6 ++ a ++ b ++ 0#15 ++ 3#5)
  | .mpass c a b f s => some (0x3b#6 ++ c ++ a ++ b ++ f ++ s)
  | .mzero c s => some (0x3c#6 ++ c ++ 0#6 ++ 0#4 ++ s)
  | .mldw m a b s => some (0x3c#6 ++ 0#4 ++ m ++ a ++ b ++ 1#4 ++ s)
  | .mrd c a s => some (0x3c#6 ++ c ++ a ++ 0#3 ++ 2#4 ++ s)
  | .mwr c a s => some (0x3c#6 ++ c ++ a ++ 0#3 ++ 3#4 ++ s)
  | .mrcmd a b s => some (0x3c#6 ++ 0#6 ++ a ++ b ++ 4#4 ++ s)
  | .mgrant a b => some (0x3c#6 ++ 0#6 ++ a ++ b ++ 5#4 ++ 0#10)
  | .vtld c v q => some (0x3c#6 ++ c ++ 0#6 ++ 6#4 ++ v ++ q ++ 0#3)
  | .vtst c v q => some (0x3c#6 ++ c ++ 0#6 ++ 7#4 ++ v ++ q ++ 0#3)
  | .rput a x r p => some (0x2c#6 ++ a ++ 0#3 ++ x ++ r.code ++ p.code ++ 0#5)
  | .rputi a b x r p => some (0x2c#6 ++ a ++ b ++ x ++ r.code ++ p.code ++ 1#5)
  | .rget a x r p => some (0x2c#6 ++ a ++ 0#3 ++ x ++ r.code ++ p.code ++ 2#5)
  | .rsig a b x r p => some (0x2c#6 ++ a ++ b ++ x ++ r.code ++ p.code ++ 3#5)
  | .ramo a x r p => some (0x2c#6 ++ a ++ 0#3 ++ x ++ r.code ++ p.code ++ 4#5)
  | .rspawn a x r p => some (0x2c#6 ++ a ++ 0#3 ++ x ++ r.code ++ p.code ++ 5#5)
  | .crd a x r p => some (0x2d#6 ++ a ++ 0#3 ++ x ++ r.code ++ p.code ++ 0#5)
  | .crdg a x r p => some (0x2d#6 ++ a ++ 0#3 ++ x ++ r.code ++ p.code ++ 1#5)
  | .crdq a b => some (0x2d#6 ++ a ++ b ++ 0#15 ++ 2#5)
  | .flush p => some (0x2e#6 ++ 0#6 ++ 0#17 ++ p.code)
  | .flushc a p => some (0x2e#6 ++ 1#6 ++ 0#3 ++ a ++ 0#11 ++ p.code)
  | .strmq d a => some (0x2e#6 ++ 2#6 ++ d ++ a ++ 0#14)
  | .carm a b x => some (0x30#6 ++ a ++ b ++ x ++ 0#5 ++ 0#5)
  | .cadd a b r p => some (0x30#6 ++ a ++ b ++ 0#10 ++ r.code ++ p.code ++ 1#5)
  | .cread a b => some (0x30#6 ++ a ++ b ++ 0#15 ++ 2#5)
  | .cdisarm a b => some (0x30#6 ++ a ++ b ++ 0#15 ++ 3#5)
  | .icinvDone | .loadDataReturn | .divideComplete | .accessAccepted | .accessFaultRecorded
  | .globalAccessAtStation | .pageWalkComplete | .atomicAtUnit | .apertureAccess | .instructionLineFill
  | .pendingFaultTaken | .faultFibreStart | .spawnMessageArrival | .spawnAckArrival | .migrationArrival
  | .fibreEviction | .cellarRestore | .fyieldDelayExpiry | .waitingCountThreshold | .planEntryActivate
  | .planEntryRestore | .planEntrySave | .stateCapture | .residentSwitchComplete | .saveComplete
  | .restoreComplete | .contractPeriodStart | .bestEffortQuantumExpiry | .barrierPhaseComplete
  | .gutterWordArrival | .gutterCreditReturn | .vectorEntryExecute | .copyCommandBegin | .copySegmentWritten
  | .copyAccessFault | .copyCommandComplete | .cpymTileAck | .matrixCommandBegin | .matrixCommandComplete
  | .rendezvousTransfer | .mrcmdArrival | .mrcmdAckArrival | .meshPostArrival | .fabricCommandBegin | .put
  | .puti | .getq | .getr | .sig | .amo | .amor | .spawn | .pld | .pst | .pamo | .crq | .cdata | .cdone
  | .cstop | .ackAnswer | .ackResynchronise | .ackResynchronised | .refuse | .bup | .bdown | .gack | .tsync
  | .tsyncInterval | .timeLock | .timeUnlock | .heldPacketPerform | .retransmissionTimeout | .streamTimeout
  | .streamStateFetchComplete | .packetForward | .flitReplay | .portRetrain | .portTrained | .portDown
  | .carmAtUnit | .caddAtUnit | .creadAtUnit | .cdisarmAtUnit | .cisternAnswer | .cisternSpawnRetry
  | .watchdogFire | .contextEnd | .launchEnd | .dbell | .contextCreate | .contextDestroy | .launch
  | .windowOpen | .cisternArm | .signal | .copy | .switchPlan | .invalidate | .errheadWrite | .registerWrite
  | .hostAccess | .attest | .lcset | .update | .updateStartTimeout | .mailboxFence | .readmit | .portset
  | .ctrrd | .reset | .wipeComplete | .controlStateError | .patrolScrub | .powerThrottle | .junctionShutdown
  | .illegalWord | .groupTreeRebuild | .updateRestartComplete | .linkPartnerArrival => none

/-- The word of an instruction as a fault's HVAL holds it, zero-extended (R50). -/
def wordOf (i : Instr) : Word := ((encode i).getD 0).setWidth 64

/-- The instruction that the decoder reads from the `nbits` low bits of `w`, bits above them zero. -/
def decodeTableWord (nbits w : Nat) : Option Instr :=
  match decode (BitVec.ofNat 32 (w % 2 ^ nbits)) with
  | .ok i => some i
  | .error _ => none

end Sys2Proof
end

