-- ==== Sys2Proof/Machine/Bytes.lean ====
section
/-!
DEFINITION. Numbers as bytes, least significant first (spec/00_scope.md R4), which memory, packets and the functions of public
standards share.
-/
namespace Sys2Proof.Machine

/-- The number that little-endian bytes hold (R4). -/
def leNat : List Byte → Nat
  | [] => 0
  | b :: r => b.toNat + 256 * leNat r
/-- n little-endian bytes of a number (R4). -/
def leBytes : Nat → Nat → List Byte
  | 0, _ => []
  | n + 1, v => BitVec.ofNat 8 v :: leBytes n (v / 256)

end Sys2Proof.Machine
end

