-- ==== Sys2Proof/Machine/Hash.lean ====
section
/-!
DEFINITION. The functions of public standards that the spec names: KMAC256 of NIST SP 800-185 (spec/14_contexts.md R424) and
SHA-384 of FIPS 180-4 (spec/16_service.md R453).  The spec restates neither (PRESUMED, log entry 43).
-/
namespace Sys2Proof.Machine

/-! ### Keccak-f[1600] and KMAC256 -/

/-- A 64-bit lane of a state held as one number. -/
def lane (s i : Nat) : Nat := s >>> (64 * i) % 2 ^ 64
/-- A lane turned left by n places. -/
def rotl64 (x n : Nat) : Nat := (x <<< n) % 2 ^ 64 + x >>> (64 - n)
/-- Lanes as one number, the first lowest. -/
def packLanes : List Nat → Nat
  | [] => 0
  | x :: r => x + packLanes r <<< 64
/-- The rotation of a lane in step rho: the walk over the lanes from (1, 0), on which a lane is followed by the one that step pi
puts at its place, turns the lane of step t by (t + 1) (t + 2) / 2; lane 0 is not on it. -/
def rhoOn : Nat → Nat → Nat → Nat → Nat
  | 0, _, _, _ => 0
  | n + 1, t, j, i => if j = i then (t + 1) * (t + 2) / 2 % 64 else rhoOn n (t + 1) (j / 5 + 5 * ((2 * (j % 5) + 3 * (j / 5)) % 5)) i
/-- The rotation of a lane in step rho. -/
def rhoBits (i : Nat) : Nat := rhoOn 24 0 1 i
/-- The shift register behind step iota, by x^8 + x^6 + x^5 + x^4 + 1. -/
def iotaNext (r : Nat) : Nat := if r < 128 then 2 * r else 2 * r ^^^ 0x171
/-- From a state of the register on: the constant of a round, whose bit 2^j - 1 is the register's j-th output, and the state after it. -/
def iotaConst : Nat → Nat → Nat → Nat × Nat
  | 0, _, r => (0, r)
  | n + 1, j, r =>
    let (c, q) := iotaConst n (j + 1) (iotaNext r)
    (r % 2 * 2 ^ (2 ^ j - 1) + c, q)
/-- The parity of a column, for step theta. -/
def thetaCol (s x : Nat) : Nat := lane s x ^^^ lane s (x + 5) ^^^ lane s (x + 10) ^^^ lane s (x + 15) ^^^ lane s (x + 20)
/-- A lane after step theta. -/
def thetaLane (s i : Nat) : Nat := lane s i ^^^ thetaCol s ((i + 4) % 5) ^^^ rotl64 (thetaCol s ((i + 1) % 5)) 1
/-- A lane after steps rho and pi. -/
def piLane (s i : Nat) : Nat :=
  let j := (i % 5 + 3 * (i / 5)) % 5 + 5 * (i % 5)
  rotl64 (thetaLane s j) (rhoBits j)
/-- A lane after step chi, of the state after pi. -/
def chiLane (s i : Nat) : Nat :=
  lane s i ^^^ ((lane s ((i + 1) % 5 + 5 * (i / 5)) ^^^ (2 ^ 64 - 1)) &&& lane s ((i + 2) % 5 + 5 * (i / 5)))
/-- One round with its constant. -/
def keccakRound (s rc : Nat) : Nat :=
  let t := packLanes ((List.range 25).map (piLane s))
  packLanes ((List.range 25).map (chiLane t)) ^^^ rc
/-- Rounds from a state of the register of step iota on. -/
def keccakRounds : Nat → Nat → Nat → Nat
  | 0, _, s => s
  | n + 1, r, s =>
    let (c, q) := iotaConst 7 0 r
    keccakRounds n q (keccakRound s c)
/-- Keccak-f[1600], of 24 rounds. -/
def keccakF (s : Nat) : Nat := keccakRounds 24 1 s
/-- Bytes cut into blocks of n. -/
def blocksOf (n : Nat) : Nat → List Byte → List (List Byte)
  | 0, _ => []
  | k + 1, l => if l.isEmpty then [] else l.take n :: blocksOf n k (l.drop n)
/-- A byte string padded with zeros to a multiple of n. -/
def padTo (n : Nat) (l : List Byte) : List Byte := l ++ List.replicate ((n - l.length % n) % n) 0
/-- The sponge at rate 136: absorbs whole blocks. -/
def absorb (l : List Byte) : Nat := (blocksOf 136 (l.length / 136) l).foldl (fun s b => keccakF (s ^^^ leNat b)) 0
/-- cSHAKE's padding of a message: the bits 00 and 1, zeros, and a last 1. -/
def cshakePad (l : List Byte) : List Byte :=
  let p := padTo 136 (l ++ [4])
  p.dropLast ++ [p.getLastD 0 ||| 0x80]
/-- Bytes of a number, most significant first, without leading zeros. -/
def beMin (n : Nat) : List Byte := (leBytes (n.log2 / 8 + 1) n).reverse
/-- left_encode. -/
def leftEncode (n : Nat) : List Byte := BitVec.ofNat 8 (beMin n).length :: beMin n
/-- right_encode. -/
def rightEncode (n : Nat) : List Byte := beMin n ++ [BitVec.ofNat 8 (beMin n).length]
/-- encode_string. -/
def encodeString (l : List Byte) : List Byte := leftEncode (8 * l.length) ++ l
/-- bytepad at rate 136. -/
def bytePad (l : List Byte) : List Byte := padTo 136 (leftEncode 136 ++ l)
/-- KMAC256 of a key, a message and a customisation: the first `bytes` bytes, at most 136. -/
def kmac256 (key msg custom : List Byte) (bytes : Nat) : List Byte :=
  let head := bytePad (encodeString [0x4B, 0x4D, 0x41, 0x43] ++ encodeString custom)
  leBytes bytes (absorb (cshakePad (head ++ bytePad (encodeString key) ++ msg ++ rightEncode (8 * bytes))))
/-- The customisation string of R424, "Y8-SAVE". -/
def saveCustom : List Byte := [0x59, 0x38, 0x2D, 0x53, 0x41, 0x56, 0x45]
/-- The tag of R424 under a key: key and tag as little-endian bytes. -/
def saveTag (key : BitVec 256) (x : List Byte) : BitVec 64 :=
  BitVec.ofNat 64 (leNat (kmac256 (leBytes 32 key.toNat) x saveCustom 8))

/-! ### SHA-384 -/

/-- The largest number whose k-th power is at most n, below 2^bits above a lower bound, bit by bit. -/
def rootFrom (k n : Nat) : Nat → Nat → Nat
  | 0, x => x
  | b + 1, x => rootFrom k n b (if (x + 2 ^ b) ^ k ≤ n then x + 2 ^ b else x)
/-- The first 64 bits of the fraction of the k-th root of p. -/
def rootFraction (k p : Nat) : Nat := rootFrom k (p * 2 ^ (64 * k)) 70 0 % 2 ^ 64
/-- No number from 2 to n - 1 divides p. -/
def noDivisor (p : Nat) : Nat → Bool
  | 0 => true
  | n + 1 => (decide (n < 2) || p % n != 0) && noDivisor p n
/-- The primes up to 409, of which there are 80. -/
def shaPrimes : List Nat := (List.range 410).filter fun p => decide (2 ≤ p) && noDivisor p (min p 22)
/-- The round constants, from the cube roots of the first 80 primes. -/
def shaConsts : List Nat := shaPrimes.map (rootFraction 3)
/-- The initial hash value, from the square roots of the ninth to sixteenth prime. -/
def shaInit : List Nat := ((shaPrimes.drop 8).take 8).map (rootFraction 2)
/-- A 64-bit word turned right. -/
def rotr64 (x n : Nat) : Nat := rotl64 x (64 - n)
/-- The message schedule: from its latest sixteen words, newest first, n more. -/
def shaWords : Nat → List Nat → List Nat
  | 0, w => w.reverse
  | n + 1, w =>
    let a := w.getD 1 0
    let b := w.getD 14 0
    shaWords n ((((rotr64 a 19 ^^^ rotr64 a 61 ^^^ a >>> 6) + w.getD 6 0 + (rotr64 b 1 ^^^ rotr64 b 8 ^^^ b >>> 7) + w.getD 15 0)
      % 2 ^ 64) :: w)
/-- One round on the eight working variables. -/
def shaRound (v : List Nat) (kw : Nat × Nat) : List Nat :=
  match v with
  | [a, b, c, d, e, f, g, h] =>
    let t := h + (rotr64 e 14 ^^^ rotr64 e 18 ^^^ rotr64 e 41) + ((e &&& f) ^^^ ((e ^^^ (2 ^ 64 - 1)) &&& g)) + kw.1 + kw.2
    let u := (rotr64 a 28 ^^^ rotr64 a 34 ^^^ rotr64 a 39) + ((a &&& b) ^^^ (a &&& c) ^^^ (b &&& c))
    [(t + u) % 2 ^ 64, a, b, c, (d + t) % 2 ^ 64, e, f, g]
  | _ => v
/-- One block of 128 bytes. -/
def shaBlock (h : List Nat) (b : List Byte) : List Nat :=
  let w := (blocksOf 8 16 b).map fun x => leNat x.reverse
  let v := (shaConsts.zip (shaWords 64 w.reverse)).foldl shaRound h
  (h.zip v).map fun x => (x.1 + x.2) % 2 ^ 64
/-- SHA-384 of a byte string, as the bytes of the digest from the least significant. -/
def sha384 (l : List Byte) : BitVec 384 :=
  let p := l ++ [0x80] ++ List.replicate ((111 + 128 - l.length % 128) % 128) 0 ++ (leBytes 16 (8 * l.length)).reverse
  let h := (blocksOf 128 (p.length / 128) p).foldl shaBlock shaInit
  BitVec.ofNat 384 (leNat ((h.take 6).flatMap fun x => (leBytes 8 x).reverse))

end Sys2Proof.Machine
end

