-- ==== Sys2Proof/Machine/State.lean ====
section
/-!
DEFINITION. The state of one Dravub Y8 package: every piece of state that spec/ gives the machine, as plain data
(INVENTORY.md lists each with its rule and its reset value), the reasons a step can stop, and the state after reset.
-/
namespace Sys2Proof.Machine

/-- Why a step stops. -/
inductive Fault where
  /-- raised by the meaning of an instruction word that is run while the slot named by `State.cur` holds no fibre; safe:
  the machine's own step never runs a word there, and the spec gives a word no effect without a fibre (R12, R92) -/
  | noIssuer
  deriving DecidableEq, Repr

/-- Why a step has no meaning. -/
inductive Refusal where
  /-- raised by an arm of the dispatch whose instruction has no meaning yet; safe -/
  | notModelled (mnemonic : String)
  deriving DecidableEq, Repr

/-- The operations of atomics (R141). -/
inductive AtFn where
  | add | and | or | xor | min | max | minu | maxu | swap | cas
  deriving DecidableEq, Repr

/-- A hardware loop (R106). -/
structure LoopEnt where
  start : Word
  stop : Word
  rem : Word
  deriving DecidableEq, Repr

/-- What a global access does (R140, R141). -/
inductive AKind where
  | load (signed : Bool)
  | store
  | atomic (f : AtFn) (ret : Bool)
  deriving DecidableEq, Repr

/-- An entry of the access ring (R144, R145): age, ASID and bay of its issue, instruction address, effective address, size
in bytes, kind, destination, store data or operand b, and expected value. -/
structure Access where
  rid : Nat
  asid : Nat
  bay : Nat
  pc : Word
  ea : Word
  size : Nat
  kind : AKind
  dest : Option GReg
  data : Word
  exp : Word
  deriving DecidableEq, Repr

/-- A recorded deferred fault (R146 to R148, R151). -/
structure DFault where
  rid : Nat
  pc : Word
  ea : Word
  cause : Cause
  dest : Option GReg
  deriving DecidableEq, Repr

/-- A vector instruction as it stands in a queue or a frame: its word and meaning, with the scalar operands read at
issue (R248, R251). -/
structure VIns where
  op : Instr
  x : Word
  y : Word
  deriving DecidableEq, Repr

/-- An open VREP frame (R86, R111): positions in all, still to be captured, repeat count, steps, captured. -/
structure Frame where
  n : Nat
  left : Nat
  count : Nat
  sd : Nat
  sa : Nat
  sb : Nat
  ins : List VIns
  deriving DecidableEq, Repr

/-- Why a fibre does not issue: ready, blocked with a condition that is tested again, holding a place in a queue (each
with its wait reason of R239 and R432), or waiting for the access ring on entry to handler mode (R409). -/
inductive Wait where
  | ready
  | retry (code : Nat)
  | queued (code : Nat)
  | entry (cause val seq resume : Word)
  deriving DecidableEq, Repr

/-- A fibre (R86 to R91; `loops` holds the innermost loop first) with its access ring (R144), barrier ticket (R224), pending faults (R412), waiting count
(R189), the first cycle of its bay at which it may issue again (R93 item 2), the counts of its unacknowledged messages (R176, R320), and
the message of an MRCMD that is read and checked and waits to be sent (R320).  `uid` names it wherever it moves. -/
structure Fibre where
  uid : Nat
  pc : Word
  g : Vector Word 8
  empty : BitVec 8
  faulted : BitVec 8
  loops : List LoopEnt
  pri : BitVec 3
  hm : Bool
  vctx : Option Nat
  frame : Option Frame
  hpc : Word
  hcause : Word
  hval : Word
  hseq : Word
  hscr : Word
  ring : List Access
  dfaults : List DFault
  ticket : Option (Nat × BitVec 16)
  pend : List PFault
  wait : Wait
  since : Nat
  w : Nat
  nextIssue : Nat
  locals : Nat
  spawnUnack : Nat
  mrUnack : Nat
  mrHeld : Option MrMsg
  relMark : Tab (BitVec 31)
  isFault : Bool
  deriving DecidableEq, Repr

/-- A fibre slot (R36, R174, R208). -/
structure Slot where
  gen : BitVec 23
  fib : Option Fibre
  resv : Bool
  deriving DecidableEq, Repr

/-- A record of the cellar ring (R204, R174): a fibre, or a spawn request. -/
inductive CRec where
  | fib (f : Fibre)
  | spawn (r : SpawnReq)
  deriving DecidableEq, Repr

/-- A spawn or migration message that waits at the bay's input (R177), with the fibre to acknowledge. -/
structure Held where
  msg : CRec
  sender : Nat
  deriving DecidableEq, Repr

/-- A semaphore (R193). -/
structure Sem where
  value : BitVec 24
  ovf : Bool
  queue : List (Nat × Nat)
  deriving DecidableEq, Repr

/-- A waiter before its arrival is counted (R229): a fibre in BARR or BSYNC, or a cistern's action (R394). -/
inductive ArrWait where
  | barr (u : Nat)
  | bsync (u : Nat)
  | cistern (unit : Nat) (key : Nat)
  deriving DecidableEq, Repr

/-- A barrier channel of a bay (R223). -/
structure Chan where
  en : Bool
  mask : Word
  phase : BitVec 16
  larr : Nat
  arr : Bool
  arrWait : List ArrWait
  phWait : List Nat
  deriving DecidableEq, Repr

/-- A fibre blocked at a gutter (R237): its register for a pop, its word for a push, and whether it is a QFWD. -/
structure GutWait where
  uid : Nat
  d : GReg
  word : Word
  fwd : Bool
  deriving DecidableEq, Repr

/-- One direction of a bay's gutters (R234, R235): the words that arrived travelling that way, who waits for them,
the credits toward the neighbour, who waits to push, and words and credits of a saved neighbour. -/
structure Gutter where
  q : List Word
  pops : List GutWait
  cred : Nat
  pushes : List GutWait
  deriving DecidableEq, Repr

/-- An entry of a fault ring (R20, R418), with the command states that CPYQ and CRDQ report (R291, R379). -/
structure FEnt where
  tag : Word
  valid : Bool
  done : Bool
  flt : Bool
  pend : Bool
  orph : Bool
  sub : BitVec 8
  val : Word
  aux : Word
  st : Nat
  segs : Nat
  grp : Bool
  rsn : Nat
  failn : Nat
  okn : Nat
  deriving DecidableEq, Repr

/-- The fault ring and sequence counter of one engine (R19, R20, R417). -/
structure FRing where
  seq : BitVec 32
  ents : Tab FEnt
  rsel : BitVec 6
  rlast : BitVec 32
  deriving DecidableEq, Repr

/-- A command (R13 to R25): the instruction, its operands, the descriptor or block as read, its tag's fields, and the
accesses of its fibre that were in the access ring at issue (R23), and the model's count of steps at its issue. -/
structure Cmd where
  op : Instr
  x : Word
  y : Word
  desc : List Word
  sem : Nat
  ord : MemOrd
  scope : Scope
  seq : BitVec 32
  tag : Word
  gen : BitVec 23
  uid : Nat
  oBay : Nat
  oSlot : Nat
  remote : Bool
  after : List Nat
  issued : Nat
  deriving DecidableEq, Repr

/-- A command port and its wait queue (R13 to R16). -/
structure Port where
  ents : List Cmd
  wq : List Cmd
  deriving DecidableEq, Repr

/-- An active copy command (R279, R280): its next unwritten segment, the tiles already posted (R287), the bytes of this
segment that are read and not written yet with the remote reads still out, whether the segment's writes are made, the
remote writes that are not placed yet (R283), the stream positions up to which it has read and written, and for a CPYM the
writes of each tile that are on their way to members and the tiles whose acknowledgement is sent (R286, R287), and of each
segment those on their way (R280); `bad` holds the fault of a COPY packet whose remote writes are not placed yet (R283). -/
structure CopyAct where
  cmd : Cmd
  next : Nat
  tiles : Nat
  rbuf : Tab Byte
  rout : Nat
  wrote : Bool
  wout : Nat
  rpos : Nat
  wpos : Nat
  mout : Tab Nat
  acks : Nat
  sout : Tab Nat
  bad : Option (Cause × Word)
  deriving DecidableEq, Repr

/-- A fabric command that has begun (R364, R371): packets that wait at a sender, packets not yet acknowledged, bytes still
to come, the signal that waits for the acknowledgements (R367), the packets sent that have not left the package, as chip
and sequence number, whether it is complete and kept only for what R381 reports of its unacknowledged packets, the bytes
(or the one packet) of it that have gone out, RCNT toward each chip as it stood when the command began or its last PUT
had gone (R367, R372), and of every packet that has gone out its chip, sequence number and opcode (R381 item 4). -/
structure FabAct where
  cmd : Cmd
  unsent : Nat
  unacked : Nat
  left : Nat
  sig : Option Word
  sent : List (Nat × Nat)
  past : Bool
  next : Nat
  cnts : Tab Nat
  seqs : List (Nat × BitVec 32 × Nat)
  deriving DecidableEq, Repr

/-- The outbound staging buffer of a bay (R342): the packet that a command builds there, and its flits so far. -/
structure Staged where
  seq : BitVec 32
  chip : Nat
  lines : List Nat
  pkt : Packet
  flits : Nat
  deriving DecidableEq, Repr

/-- What an entry of a vector queue is (R247, R311). -/
inductive VKind where
  | ins
  | get (u : Nat) (gb : GReg)
  | drain (u : Nat)
  | free (u : Nat)
  | rdv (mseq : BitVec 32)
  deriving DecidableEq, Repr

/-- An entry of a vector queue: an instruction, or a frame with its count and steps (R247, R251). -/
structure VEnt where
  kind : VKind
  ins : List VIns
  count : Nat
  sd : Nat
  sa : Nat
  sb : Nat
  seq : BitVec 32
  tag : Word
  gen : BitVec 23
  deriving DecidableEq, Repr

/-- A vector context (R243); `bad` lists registers (0 to 31) and masks (32 to 39) with an uncorrectable error. -/
structure VCtx where
  owner : Option Nat
  v : Tab (BitVec 2048)
  k : Tab (BitVec 256)
  nstat : BitVec 32
  queue : List VEnt
  iter : Nat
  pos : Nat
  bad : List Nat
  deriving DecidableEq, Repr

/-- A fibre blocked at issue of a vector instruction for room in its queue, with the entry to place (R248). -/
structure VWait where
  uid : Nat
  vc : Nat
  ent : VEnt
  deriving DecidableEq, Repr

/-- The state of a cistern entry (R386). -/
inductive CistSt where
  | idle | armed | fired
  deriving DecidableEq, Repr

/-- A cistern entry (R386, R388, R392): its descriptor, count, firings and overfill mark; `queued` holds the actions that
wait, the first for a channel's phase to end, each with its descriptor and firing number (R394). -/
structure Cist where
  st : CistSt
  desc : List Word
  count : Nat
  fires : Nat
  ovf : Bool
  queued : List (List Word × Nat)
  deriving DecidableEq, Repr

/-- The per-bay quotas of a context, in the units that its names count (R30). -/
structure Quota where
  slots : Nat
  scratch : Nat
  sems : Nat
  chans : Nat
  cists : Nat
  vctxs : Nat
  tiles : Nat
  wbuf : Nat
  deriving DecidableEq, Repr

/-- The cellar ring of a context on a bay (R204 to R209): runnable and blocked records, each with its place in the bay's
area, congestion, messages held at the input, acknowledgements held, and the slots reserved for the ring's head records,
in their order (R208). -/
structure Cellar where
  ring : List (Nat × CRec)
  blocked : List (Nat × Fibre)
  cong : Bool
  held : List Held
  acks : List Nat
  order : List Nat
  deriving DecidableEq, Repr

/-- Something in flight: an event that may come about next.  Events of one lane come about in their order. -/
structure Item where
  lane : Nat
  ev : Ev
  deriving DecidableEq, Repr

/-- The state of one context on one bay: what R423 lists, with the items parked for it (R421), what the pass that has begun
has fetched so far (R315), and the bay's staging buffer as the context left it (R342).  Resident and saved contexts
hold the same data. -/
structure BayCtx where
  asid : Nat
  quota : Quota
  slots : Tab Slot
  lastSlot : Nat
  sems : Tab Sem
  base : Nat
  chans : Tab Chan
  east : Gutter
  west : Gutter
  vring : FRing
  mring : FRing
  cring : FRing
  fring : FRing
  mport : Port
  cport : Port
  fport : Port
  mact : Option Cmd
  cacts : List CopyAct
  facts : List FabAct
  vctxs : Tab VCtx
  vbindq : List Nat
  vwaits : List VWait
  sat : List Nat
  badTiles : List Nat
  grantEn : Bool
  grantKey : BitVec 32
  cists : Tab Cist
  cellar : Cellar
  launchArg : Word
  park : List Item
  fetched : List Nat
  stage : Option Staged
  deriving DecidableEq, Repr

/-- An event counter of a bay (R119). -/
structure EvCtr where
  src : BitVec 16
  count : BitVec 48
  owner : Nat
  deriving DecidableEq, Repr

/-- A bay: its contexts (keys 0 to 3 are the resident indices, key 4 + ASID is saved off the bay), which index is
active and since when, its cycle count, the divider and the cycle from which it is free (R100), event counters,
instruction cache and fence; `parked` where a plan entry has stopped the bay and no context is active since (R210, R422).
`due` is the context that the bay runs or that a switch under way gives it, `incoming` the index of one that is restored
and not active yet (R423), `halts` the plan entries that have stopped the bay and whose switch has not begun (R211),
`turn` the best-effort index whose turn it is and the time that it has had in this turn (R214). -/
structure Bay where
  ctxs : Tab BayCtx
  active : Option Nat
  since : Nat
  cycle : Nat
  divBusy : Bool
  divEnd : Nat
  evc : Tab EvCtr
  icache : Tab (BitVec 512)
  fenced : Bool
  parked : Bool
  due : Option Nat
  incoming : Option Nat
  halts : Nat
  turn : Nat × Nat
  deriving DecidableEq, Repr

/-- A range of each of the four dimensions, as start and extent (R330, R441). -/
structure Box where
  a : Nat × Nat
  b : Nat × Nat
  c : Nat × Nat
  d : Nat × Nat
  deriving DecidableEq, Repr

/-- An entry of the spawn-target table (R173, R388): entry address, and its priority. -/
structure Target where
  entry : Word
  pri : BitVec 3
  deriving DecidableEq, Repr

/-- A periodic contract, in microseconds (R213 to R218): its terms, its start, the periods begun and overrun, and the
time spent in this period in nanoseconds. -/
structure Contract where
  p : Nat
  c : Nat
  d : Nat
  sc : Nat
  t0 : Nat
  begun : Nat
  overrun : Nat
  spent : Nat
  deriving DecidableEq, Repr

/-- A running launch (R185, R444, R446). -/
structure Launch where
  pkt : HostPkt
  rect : BitVec 26
  lseq : Nat
  tfirst : Option Word
  spawned : Nat
  faults : Nat
  contract : Option Contract
  deriving DecidableEq, Repr

/-- A context on this package (R26, R32, R202, R441); `ended` is the first reason of its end and `closed` that the end is
complete here, after which it only keeps its names (R427, R442); `endTime` is the time at which the reason was found
(R431); `slice` holds the faults that wait at the slice while the context is not active on the fault bay (R415). -/
structure Ctx where
  ctxid : BitVec 32
  asid : Nat
  job : BitVec 24
  root : Word
  domain : Box
  pkgs : Box
  rect : BitVec 26
  hentry : Word
  fentry : Word
  wdw : Nat
  dcq : Nat
  cellarVa : Word
  capK : Nat
  high : Nat
  low : Nat
  evict : Nat
  beq : Nat
  targets : List Target
  groups : List Box
  live : Nat
  launch : Option Launch
  lseq : Nat
  ended : Option EndReason
  endTime : Word
  closed : Bool
  silence : Nat
  backlog : List PFault
  slice : List PFault
  gen : Nat
  deriving DecidableEq, Repr

/-- The save image of a context on a bay (R423, R424): the generation of its save, the tags of its 4 KiB pages, and the
pages that hold an uncorrectable error. -/
structure Image where
  gen : Nat
  tags : List (BitVec 64)
  err : List Nat
  deriving DecidableEq, Repr

/-- A cached translation (R137): ASID, page base, log2 of the page size, and the leaf entry. -/
structure Tlb where
  asid : Nat
  va : Nat
  bits : Nat
  leaf : Word
  deriving DecidableEq, Repr

/-- Whose request a packet is: a fabric command of a bay, a fibre's access with its instruction and virtual address
(R381), a copy command, a consignment's data, the response to a packet (its chip and sequence number, R356), a CDONE, or
nobody's. -/
inductive Own where
  | cmd (bay asid : Nat) (seq : BitVec 32)
  | acc (uid rid : Nat) (pc va : Word)
  | copy (bay asid : Nat) (seq : BitVec 32)
  | cons (tag : Word)
  | resp (chip : Nat) (seq : BitVec 32)
  | report
  | none
  deriving DecidableEq, Repr

/-- A sequenced packet of a stream's sender (R351, R355), whose it is, the fibre behind it, whether it is a write, the
target lines it touches, and the times of its first and its latest sending (R353, R383). -/
structure Sent where
  pkt : Packet
  own : Own
  uid : Nat
  write : Bool
  lines : List Nat
  first : Nat
  last : Nat
  deriving DecidableEq, Repr

/-- The sender's end of a stream (R351, R383). -/
structure Sender where
  nseq : BitVec 32
  wsent : BitVec 31
  unack : List (BitVec 32 × Sent)
  waiting : List Sent
  epoch : Bool
  torn : Bool
  resident : Bool
  deriving DecidableEq, Repr

/-- A place of a target's window (R351): held, performed with a response that still waits to be sent (R356), or answered
with no reason (ACK) or a reason (REFUSE). -/
inductive WinSt where
  | held (p : Packet)
  | performed (p : Packet)
  | acked
  | refused (reason : Nat) (addr : Word)
  deriving DecidableEq, Repr

/-- The target's end of a stream (R351). -/
structure Receiver where
  low : BitVec 32
  win : Tab WinSt
  old : Tab WinSt
  wplaced : BitVec 31
  epoch : Bool
  resident : Bool
  deriving DecidableEq, Repr

/-- A window entry (R358). -/
structure Win where
  base : Word
  len : Nat
  owner : Nat
  job : BitVec 24
  rights : BitVec 5
  kind : Nat
  spanf : Nat
  spann : Nat
  deriving DecidableEq, Repr

/-- What a token stands for (R362): a piece of an RGET, a returning RAMO, a fibre's load or atomic at a chip, or a read
of a copy command at a chip. -/
inductive Tok where
  | piece (bay asid : Nat) (seq : BitVec 32) (off n : Nat)
  | ramo (bay asid : Nat) (seq : BitVec 32)
  | load (uid rid chip : Nat)
  | copy (bay asid : Nat) (seq : BitVec 32) (pos n chip : Nat)
  deriving DecidableEq, Repr

/-- A token whose answer is pending (R362): what waits for it, and the opcode, sequence number and pointer of the request once that
has gone out (R381 item 4). -/
structure Asked where
  tok : Tok
  opc : Nat
  seq : BitVec 32
  addr : Word
  deriving DecidableEq, Repr

/-- A consignment at its consignee (R375, R376): bytes placed, bytes received, and the reason it failed for (0 none). -/
structure Cons where
  placed : Nat
  seen : Nat
  failed : Nat
  deriving DecidableEq, Repr

/-- A consignment at its owner toward one consignee (R376): the bytes of its data that are acknowledged, and whether the consignee
has refused or stopped it. -/
structure OutCons where
  acked : Nat
  stopped : Bool
  deriving DecidableEq, Repr

/-- One acknowledgement of a command at a group entry (R345): the sender's number of it (log entry 69), the members that succeeded
and failed, the lowest failing chip and its reason. -/
structure Part where
  num : BitVec 16
  ok : Nat
  failed : Nat
  low : Nat
  reason : Nat
  deriving DecidableEq, Repr

/-- The acknowledgements of a command that come together at a group entry (R345): its tag and job, what has come from each source,
the entry's own number of the command, whether the entry has passed them on, and whether it does so again because its parent
is lost (R377; log entry 77). -/
structure Gather where
  tag : Word
  job : BitVec 24
  parts : Tab Part
  num : BitVec 16
  up : Bool
  again : Bool
  deriving DecidableEq, Repr

/-- An arrival that waits in a group entry (R344): the chip that it came from, the number of the group's completion that it is for
(log entry 69), and its phase. -/
structure Arrival where
  src : Nat
  serial : BitVec 16
  phase : BitVec 16
  deriving DecidableEq, Repr

/-- An arrival of the package itself at its own entry of a group (R233): the channel and rectangle that have all arrived, the phase,
and whether the completion has come and waits for a bay off which the context is saved (R241). -/
structure RectUp where
  chan : Nat
  rect : BitVec 26
  phase : BitVec 16
  done : Bool
  deriving DecidableEq, Repr

/-- A group entry of this package (R343 to R345): the members' box, expected count, parent, children and whether the package is
a member; the arrivals that wait, the number of the latest count that was full (none in an entry that a rebuilt tree has just made),
the counts sent to the parent whose completion has not come, each with its phase, and the package's own arrivals; the packages
that are lost and the lost members that this entry answers for (R377); the port of each edge (R343, R349); the acknowledgements
of each command, and how many commands there were. -/
structure Group where
  box : Box
  expect : Nat
  parent : Option Nat
  children : List Nat
  member : Bool
  came : List Arrival
  sent : Option (BitVec 16)
  gone : List (BitVec 16 × BitVec 16)
  up : List RectUp
  lost : List Nat
  dead : List Nat
  edges : Tab Nat
  acks : List Gather
  acked : BitVec 16
  deriving DecidableEq, Repr

/-- The states of a fabric port (R348). -/
inductive PortSt where
  | active | retrain | down | fenced
  deriving DecidableEq, Repr

/-- A fabric port (R331 to R333, R337, R348): lanes, rate, times of the flits replayed in the last millisecond, free
flits of its nine channels downstream, the packets sent that the link has not acknowledged, each with its channel, and when
its training began. -/
structure FPort where
  st : PortSt
  lanes : Nat
  fullRate : Bool
  replays : List Nat
  credits : Tab Nat
  sent : List (Nat × Packet)
  since : Nat
  deriving DecidableEq, Repr

/-- A command queue of the front end (R436 to R438): ring, slots, arena, HEAD, and packets begun and not completed. -/
structure HQueue where
  base : Nat
  logSlots : Nat
  arena : Nat
  arenaLen : Nat
  head : BitVec 32
  open_ : Nat
  deriving DecidableEq, Repr

/-- The front end's registers and error queue (R435, R449): records that wait, the completion reports that follow, the
next context number, the queue served last (R438), the accepted plan entries of this package and of others (each with its
chip), the entries that are being applied with the contexts they have saved so far
(R424), and the COPY packets under way (R448). -/
structure Front where
  queues : Tab HQueue
  errBase : Word
  errCfg : Word
  errHead : Word
  errTail : Word
  errOvf : Word
  errWait : List (List Word)
  after : List (HostPkt × Nat × List Word)
  nextCtx : BitVec 32
  served : Nat
  plan : List PlanEntry
  away : List (Nat × PlanEntry)
  saving : List (PlanEntry × Nat)
  copies : List (HostPkt × CopyAct)
  farWins : Tab Nat
  deriving DecidableEq, Repr

/-- The management complex (R450 to R464): the boot ROM's bytes; of the fuses the life cycle, the digest of the Kenrak key and the
minimum version; stage 1 and the two firmware slots, each with its image and whether that verified at the latest reset or update
(R452); the image of the front end that runs; the bytes of the private SRAM, those above the last listed zero; the measurements
recorded (R453); the slot that runs; the wipe, a running update and when it began, whether bring-up is done and whether the
package has still to lock before it is used for contexts (R464); the firmware slot that each of the four harts runs (none while
they restart or none verifies); the identity key while there is one; the mailbox's last answer and report; the event log; the
counts of eave stations and ports (R457); and in ns the retransmission interval (R353) and the stream timeout (R383). -/
structure Mgmt where
  rom : List Byte
  keyDigest : BitVec 384
  lc : Nat
  verA : Nat
  verB : Nat
  okA : Bool
  okB : Bool
  ok1 : Bool
  imgA : List Byte
  imgB : List Byte
  img1 : List Byte
  imgF : List Byte
  sram : List Byte
  mrom : BitVec 384
  ms1 : BitVec 384
  mfw : BitVec 384
  minVer : Nat
  slot : Nat
  recovery : Bool
  ready : Bool
  wiping : Bool
  updating : Option Nat
  updSince : Nat
  up : Bool
  harts : List (Option Nat)
  joining : Bool
  idKey : Option (BitVec 384)
  boots : Nat
  bootKey : BitVec 256
  answer : Nat
  report : List Byte
  log : List Nat
  counters : Tab (BitVec 48)
  throttle : Bool
  retxAfter : Nat
  streamAfter : Nat
  deriving DecidableEq, Repr

/-- The time base of the package (R346, R347): count, rate correction in ppm, place in the time tree, whether it is
locked, since when TSYNC packets have come without a gap, when the latest came (`heard` once one has), when the next exchange
is due, the rate correction that has not made a nanosecond yet, in millionths, and the measured link delay and offset. -/
structure TimeSt where
  count : Word
  rate : Int
  isRoot : Bool
  parent : Nat
  locked : Bool
  validSince : Nat
  lastValid : Nat
  heard : Bool
  nextSync : Nat
  frac : Int
  delay : Int
  offset : Int
  deriving DecidableEq, Repr

/-- Who issues: bay, resident index and slot. -/
structure Cur where
  bay : Nat
  idx : Nat
  slot : Nat
  deriving DecidableEq, Repr

/-- One package.  `mem` holds every byte of HBM, companion memory, scratchpads, weight buffers and tiles in one
canonical list; `poison` the 8-byte units with an uncorrectable error or a poison mark (R151).  `ev` and `lane` hold the particulars of the event that comes
about and `cur` the fibre that issues.  `tick`, `free` and
`nextId` are the model's own: the free choices made so far and the names given so far. -/
structure State where
  chip : BitVec 22
  dims : Nat × Nat × Nat × Nat
  mem : List Host.Cell
  poison : List Nat
  bays : Tab Bay
  ctxs : Tab Ctx
  tlb : Tab (List Tlb)
  dcists : Tab Cist
  mig : Tab Fibre
  images : Tab Image
  senders : Tab Sender
  receivers : Tab Receiver
  stale : Nat
  toks : Tab Asked
  cons : Tab Cons
  outs : Tab OutCons
  windows : Tab Win
  groups : Tab Group
  ports : Tab FPort
  failed : List (Nat × Nat)
  held : List (Packet × Hop)
  front : Front
  mgmt : Mgmt
  time : TimeSt
  agenda : List Item
  ev : Ev
  lane : Nat
  cur : Cur
  tick : Nat
  free : Nat
  nextId : Nat
  deriving DecidableEq, Repr

/-! ### Values at reset -/

/-- A free slot as a context that is created on a bay finds it.  R36 gives the generation no first value: the model starts
it at 0 for each context that is created there (log entry 61). -/
def Slot.init : Slot := { gen := 0, fib := none, resv := false }
/-- A semaphore of a context that is created (R193). -/
def Sem.init : Sem := { value := 0, ovf := false, queue := [] }
/-- A channel of a context that is created (R223). -/
def Chan.init : Chan := { en := false, mask := 0, phase := 0, larr := 0, arr := false, arrWait := [], phWait := [] }
/-- The gutters of a context that is created: empty, all credits held (R234, R238). -/
def Gutter.init : Gutter := { q := [], pops := [], cred := 32, pushes := [] }
/-- A fault-ring entry after context creation (R20). -/
def FEnt.init : FEnt :=
  { tag := 0, valid := false, done := false, flt := false, pend := false, orph := false, sub := 0, val := 0, aux := 0,
    st := 0, segs := 0, grp := false, rsn := 0, failn := 0, okn := 0 }
/-- Sequence counter and ring of a context that is created (R19, R20). -/
def FRing.init : FRing := { seq := 0, ents := [], rsel := 0, rlast := 0 }
/-- An empty port (R13). -/
def Port.init : Port := { ents := [], wq := [] }
/-- A vector context that no fibre holds (R243). -/
def VCtx.init : VCtx :=
  { owner := none, v := [], k := [], nstat := 0, queue := [], iter := 0, pos := 0, bad := [] }
/-- An idle cistern entry (R386). -/
def Cist.init : Cist := { st := .idle, desc := [], count := 0, fires := 0, ovf := false, queued := [] }
/-- An empty cellar (R204). -/
def Cellar.init : Cellar := { ring := [], blocked := [], cong := false, held := [], acks := [], order := [] }
/-- A context as a launch creates it on a bay (R128, R193, R223, R234, R296, R386). -/
def BayCtx.init (asid : Nat) (q : Quota) (base : Nat) : BayCtx :=
  { asid := asid, quota := q, slots := [], lastSlot := q.slots - 1, sems := [], base := base, chans := [],
    east := .init, west := .init, vring := .init, mring := .init, cring := .init, fring := .init, mport := .init,
    cport := .init, fport := .init, mact := none, cacts := [], facts := [], vctxs := [], vbindq := [],
    vwaits := [], sat := [], badTiles := [], grantEn := false, grantKey := 0, cists := [], cellar := .init,
    launchArg := 0, park := [], fetched := [], stage := none }
/-- An event counter after reset: stopped (R119, R456). -/
def EvCtr.init : EvCtr := { src := 0, count := 0, owner := 0 }
/-- A bay after reset. -/
def Bay.init : Bay :=
  { ctxs := [], active := none, since := 0, cycle := 0, divBusy := false, divEnd := 0, evc := [], icache := [], fenced := false,
    parked := false, due := none, incoming := none, halts := 0, turn := (0, 0) }
/-- A stream end that has sent nothing (R351; the first values are the model's, log entry 4). -/
def Sender.init : Sender :=
  { nseq := 0, wsent := 0, unack := [], waiting := [], epoch := false, torn := false, resident := false }
/-- A stream end that has received nothing (R351; the first values are the model's, log entry 4). -/
def Receiver.init : Receiver :=
  { low := 0, win := [], old := [], wplaced := 0, epoch := false, resident := false }
/-- A token whose request has not gone out. -/
def Asked.init (t : Tok) : Asked := { tok := t, opc := 0, seq := 0, addr := 0 }
/-- A closed window (R358). -/
def Win.init : Win := { base := 0, len := 0, owner := 0, job := 0, rights := 0, kind := 0, spanf := 0, spann := 0 }
/-- A group entry that no context uses (R343). -/
def Group.init : Group :=
  { box := ⟨(0, 0), (0, 0), (0, 0), (0, 0)⟩, expect := 0, parent := none, children := [], member := false, came := [],
    sent := some 0, gone := [], up := [], lost := [], dead := [], edges := [], acks := [], acked := 0 }
/-- A port that has no partner yet (R348). -/
def FPort.init : FPort := { st := .down, lanes := 32, fullRate := true, replays := [], credits := [], sent := [], since := 0 }
/-- The front end after reset (R435). -/
def Front.init : Front :=
  { queues := [], errBase := 0, errCfg := 0, errHead := 0, errTail := 0, errOvf := 0, errWait := [], after := [],
    nextCtx := 1, served := 63, plan := [], away := [], saving := [], copies := [], farWins := [] }
/-- Bytes of the private SRAM (R450): 8 MiB. -/
def sramBytes : Nat := 2 ^ 23
/-- The management complex after a reset whose wipe runs (R452, R454, R455): stage 1 and slot A have verified and were measured as
they stand, with no bytes listed (log entry 31). -/
def Mgmt.init : Mgmt :=
  { rom := [], keyDigest := 0, lc := 1, verA := 0, verB := 0, okA := true, okB := false, ok1 := true, imgA := [], imgB := [],
    img1 := [], imgF := [], sram := [], mrom := sha384 [], ms1 := sha384 [], mfw := sha384 [], minVer := 0, slot := 0,
    recovery := false, ready := false, wiping := true, updating := none, updSince := 0, up := false,
    harts := List.replicate 4 (some 0), joining := false, idKey := none, boots := 0, bootKey := 0, answer := 0, report := [],
    log := [], counters := [], throttle := false, retxAfter := 20000, streamAfter := 50000000 }
/-- The time base after reset (R346). -/
def TimeSt.init : TimeSt :=
  { count := 0, rate := 0, isRoot := false, parent := 0, locked := false, validSince := 0, lastValid := 0, heard := false,
    nextSync := 0, frac := 0, delay := 0, offset := 0 }

/-- The package right after reset: memory wiped (R455), no context, no bay active, the wipe running. -/
def State.reset : State :=
  { chip := 0, dims := (1, 1, 1, 1), mem := [], poison := [], bays := [], ctxs := [], tlb := [], dcists := [], mig := [], images := [],
    senders := [], receivers := [], stale := 0, toks := [], cons := [], outs := [], windows := [], groups := [],
    ports := [], failed := [], held := [], front := .init, mgmt := .init, time := .init,
    agenda := [{ lane := 0, ev := .wipeComplete }], ev := .reset, lane := 0, cur := { bay := 0, idx := 0, slot := 0 }, tick := 0, free := 0,
    nextId := 1 }

end Sys2Proof.Machine
end

