-- ==== Sys2Proof/Machine/Ops.lean ====
section
/-!
DEFINITION. The named operations over the state: bit fields, tables, memory, geometry, fibres and their registers, what
is in flight, and the shared operations of spec/04_sequencer.md and spec/14_contexts.md: issue, retirement (R108), the
entry to handler mode (R409, R148), the double fault (R411) and the return from handler mode (R117).
-/
namespace Sys2Proof.Machine

/-- The outcome of a step. -/
abbrev Out := Host.Outcome State Fault Refusal

/-! ### Bits and bytes -/

/-- Bits hi to lo of a word as a number (R8). -/
def bits (x : Word) (hi lo : Nat) : Nat := (x.toNat >>> lo) % 2 ^ (hi + 1 - lo)
/-- The low n bits of x, sign-extended to 64 bits (R8). -/
def sextW (x : Word) (n : Nat) : Word := ((x.setWidth n).signExtend 64)
/-- The low n bits of x, zero-extended (R8). -/
def zextW (x : Word) (n : Nat) : Word := ((x.setWidth n).setWidth 64)
/-- A number as a word. -/
abbrev toW (n : Nat) : Word := BitVec.ofNat 64 n
/-- A truth value as 1 or 0. -/
def boolW (b : Bool) : Word := if b then 1 else 0

/-! ### Lists -/

/-- The list with its k-th element changed. -/
def modAt {α : Type} (f : α → α) : Nat → List α → List α
  | _, [] => []
  | 0, x :: r => f x :: r
  | k + 1, x :: r => x :: modAt f k r
/-- The table with the entry of k changed, where one is listed. -/
def tmod {α : Type} (f : α → α) : Tab α → Nat → Tab α
  | [], _ => []
  | (k', v) :: r, k => if k = k' then (k', f v) :: r else (k', v) :: tmod f r k
/-- The table with every entry changed. -/
def tmap {α : Type} (f : α → α) : Tab α → Tab α
  | [] => []
  | (k, v) :: r => (k, f v) :: tmap f r

/-! ### Geometry (R9, R28, R225) -/

/-- Mesh coordinates of a bay (R9). -/
def bayXY (b : Nat) : Nat × Nat := ((b / 192 % 4) * 16 + b % 16, (b / 192 / 4) * 12 + b % 192 / 16)
/-- The bay at mesh coordinates (R9, R103). -/
def bayOf (x y : Nat) : Nat := ((y / 12) * 4 + x / 16) * 192 + (y % 12) * 16 + x % 16
/-- Kind, width, height and origin of a rectangle (R225, R276). -/
def rectKind (r : BitVec 26) : Nat := (r.extractLsb' 24 2).toNat
/-- Width of a rectangle (R276). -/
def rectW (r : BitVec 26) : Nat :=
  if rectKind r = 1 then 16 else if rectKind r = 2 then 64 else 2 ^ (r.extractLsb' 16 3).toNat
/-- Height of a rectangle (R276). -/
def rectH (r : BitVec 26) : Nat :=
  if rectKind r = 1 then 12 else if rectKind r = 2 then 24 else 2 ^ (r.extractLsb' 20 3).toNat
/-- Origin X (R225). -/
def rectX (r : BitVec 26) : Nat := (r.extractLsb' 0 6).toNat
/-- Origin Y (R225). -/
def rectY (r : BitVec 26) : Nat := (r.extractLsb' 8 5).toNat
/-- The reserved bits of a rectangle are zero (R225). -/
def rectResv (r : BitVec 26) : Bool := (r &&& 0x088E0C0#26) == 0
/-- A rectangle of a kind that R225 lists, with its size codes and origin, aligned under R28.  LW and LH are zero for KIND 1 and 2 (R225);
that a copy descriptor is refused where they are not, which R277 does not list, is the model's choice (log entry 15). -/
def rectAligned (r : BitVec 26) : Bool :=
  let lw := (r.extractLsb' 16 3).toNat
  let lh := (r.extractLsb' 20 3).toNat
  if rectKind r = 0 then
    decide (lh ≤ 4) && decide (lw ≤ 6) && rectX r % 2 ^ lw == 0 && rectY r % 2 ^ lh == 0
  else if rectKind r = 1 then lh == 0 && lw == 0 && rectX r % 16 == 0 && (rectY r == 0 || rectY r == 12)
  else if rectKind r = 2 then lh == 0 && lw == 0 && rectX r == 0 && rectY r == 0
  else false
/-- A rectangle that R225 and R28 allow: kind, size codes, origin, alignment, inside the mesh. -/
def rectOk (r : BitVec 26) : Bool := rectAligned r && decide (rectY r + rectH r ≤ 24)
/-- The bay lies in the rectangle. -/
def inRect (r : BitVec 26) (b : Nat) : Bool :=
  let (x, y) := bayXY b
  decide (rectX r ≤ x) && decide (x < rectX r + rectW r) && decide (rectY r ≤ y) && decide (y < rectY r + rectH r)
/-- Rectangle q lies inside rectangle p (R28). -/
def rectIn (q p : BitVec 26) : Bool :=
  decide (rectX p ≤ rectX q) && decide (rectX q + rectW q ≤ rectX p + rectW p)
    && decide (rectY p ≤ rectY q) && decide (rectY q + rectH q ≤ rectY p + rectH p)
/-- Bay q of a rectangle (R276). -/
def rectBay (r : BitVec 26) (q : Nat) : Nat := bayOf (rectX r + q % rectW r) (rectY r + q / rectW r)
/-- The bays of a rectangle, in the order of R276. -/
def rectBays (r : BitVec 26) : List Nat := (List.range (rectW r * rectH r)).map (rectBay r)

/-! ### Chips (R33, R329, R330) -/

/-- The coordinates of a chip ID (R33). -/
def chipPos (c : Nat) : Nat × Nat × Nat × Nat := (c / 2 ^ 13 % 512, c / 16 % 512, c / 4 % 4, c % 4)
/-- The chip ID of coordinates (R33). -/
def chipOf (a b c d : Nat) : Nat := a * 2 ^ 13 + b * 16 + c * 4 + d
/-- The chip ID names a package (R329). -/
def State.chipOk (s : State) (c : Nat) : Bool :=
  let (a, b, x, d) := chipPos c
  decide (a < s.dims.1) && decide (b < s.dims.2.1) && decide (x < s.dims.2.2.1) && decide (d < s.dims.2.2.2)
/-- x lies in the range of k places from its start, taken modulo n (R330). -/
def inRing (n x : Nat) (r : Nat × Nat) : Bool := decide ((x + n - r.1 % n) % n < r.2)
/-- The chip lies in the box (R330, R441). -/
def State.inBox (s : State) (x : Box) (c : Nat) : Bool :=
  let (a, b, y, d) := chipPos c
  s.chipOk c && inRing s.dims.1 a x.a && inRing s.dims.2.1 b x.b
    && decide (x.c.1 ≤ y) && decide (y < x.c.1 + x.c.2) && decide (x.d.1 ≤ d) && decide (d < x.d.1 + x.d.2)

/-! ### Bays, contexts and fibres -/

/-- The bay of a number. -/
def State.bay (s : State) (b : Nat) : Bay := tget .init s.bays b
/-- The state with a bay changed. -/
def State.modBay (s : State) (b : Nat) (f : Bay → Bay) : State := { s with bays := tset s.bays b (f (s.bay b)) }
/-- A context's state on a bay: key 0 to 3 is a resident index, 4 + ASID the saved image. -/
def State.bctx (s : State) (b i : Nat) : Option BayCtx := tfind (s.bay b).ctxs i
/-- The state with a context's state on a bay changed, where it exists. -/
def State.modC (s : State) (b i : Nat) (f : BayCtx → BayCtx) : State :=
  s.modBay b fun x => { x with ctxs := tmod f x.ctxs i }
/-- The key under which a context is held on a bay (R178). -/
def State.keyOf (s : State) (b asid : Nat) : Option Nat :=
  ((s.bay b).ctxs.find? fun p => p.2.asid == asid).map Prod.fst
/-- A context on this package. -/
def State.ctx (s : State) (asid : Nat) : Option Ctx := tfind s.ctxs asid
/-- The state with a context changed. -/
def State.modCtx (s : State) (asid : Nat) (f : Ctx → Ctx) : State := { s with ctxs := tmod f s.ctxs asid }
/-- The context holds state on the bay (R178). -/
def State.holds (s : State) (asid b : Nat) : Bool := (s.keyOf b asid).isSome
/-- The bay lies in the context's partition on this package (R27). -/
def State.inPart (s : State) (asid b : Nat) : Bool :=
  match s.ctx asid with
  | some c => decide (b < 1536) && s.inBox c.pkgs s.chip.toNat && inRect c.rect b
  | none => false
/-- A bay that FSPAWNB, FGO, the aperture and the gutters may name: in the partition, not fenced, holding state (R176,
R187, R139, R237). -/
def State.usable (s : State) (asid b : Nat) : Bool := s.inPart asid b && !(s.bay b).fenced && s.holds asid b
/-- The slot of a context on a bay. -/
def BayCtx.slot (c : BayCtx) (k : Nat) : Slot := tget .init c.slots k
/-- The context with a slot changed. -/
def BayCtx.modSlot (c : BayCtx) (k : Nat) (f : Slot → Slot) : BayCtx := { c with slots := tset c.slots k (f (c.slot k)) }
/-- The fibre in a slot. -/
def State.fib (s : State) (b i k : Nat) : Option Fibre := (s.bctx b i).bind fun c => (c.slot k).fib
/-- The state with the fibre of a slot changed. -/
def State.modF (s : State) (b i k : Nat) (f : Fibre → Fibre) : State :=
  s.modC b i fun c => c.modSlot k fun x => { x with fib := x.fib.map f }
/-- The issuing context on its bay. -/
def State.curC (s : State) : Option BayCtx := s.bctx s.cur.bay s.cur.idx
/-- The issuing fibre. -/
def State.curF (s : State) : Option Fibre := s.fib s.cur.bay s.cur.idx s.cur.slot
/-- The state with the issuing fibre changed. -/
def State.modCur (s : State) (f : Fibre → Fibre) : State := s.modF s.cur.bay s.cur.idx s.cur.slot f
/-- The state with the issuing context changed. -/
def State.modCurC (s : State) (f : BayCtx → BayCtx) : State := s.modC s.cur.bay s.cur.idx f
/-- The fibre of a slot with the given name, in one context. -/
def findSlot (u : Nat) : Tab Slot → Option (Nat × Fibre)
  | [] => none
  | (k, x) :: r =>
    match x.fib with
    | some f => if f.uid = u then some (k, f) else findSlot u r
    | none => findSlot u r
/-- Slot and fibre of a name, among a bay's contexts. -/
def findCtx (u : Nat) : Tab BayCtx → Option (Nat × Nat × Fibre)
  | [] => none
  | (i, c) :: r =>
    match findSlot u c.slots with
    | some (k, f) => some (i, k, f)
    | none => findCtx u r
/-- Bay, key, slot and fibre of a name. -/
def findBay (u : Nat) : Tab Bay → Option (Cur × Fibre)
  | [] => none
  | (b, x) :: r =>
    match findCtx u x.ctxs with
    | some (i, k, f) => some ({ bay := b, idx := i, slot := k }, f)
    | none => findBay u r
/-- Where a fibre in a slot stands. -/
def State.findU (s : State) (u : Nat) : Option (Cur × Fibre) := findBay u s.bays
/-- The change of one fibre by name. -/
def onU (u : Nat) (f : Fibre → Fibre) (x : Fibre) : Fibre := if x.uid = u then f x else x
/-- A cellar record with its fibre changed. -/
def CRec.mapF (f : Fibre → Fibre) : CRec → CRec
  | .fib x => .fib (f x)
  | .spawn r => .spawn r
/-- Every fibre of a context's bay state changed. -/
def BayCtx.mapF (f : Fibre → Fibre) (c : BayCtx) : BayCtx :=
  { c with
    slots := tmap (fun x => { x with fib := x.fib.map f }) c.slots
    cellar := { c.cellar with
      ring := tmap (CRec.mapF f) c.cellar.ring, blocked := tmap f c.cellar.blocked,
      held := c.cellar.held.map fun h => { h with msg := h.msg.mapF f } } }
/-- The state with the fibre of a name changed, wherever it is: in a slot, the cellar, or on its way (R91, R149). -/
def State.modU (s : State) (u : Nat) (f : Fibre → Fibre) : State :=
  { s with
    bays := tmap (fun x => { x with ctxs := tmap (BayCtx.mapF (onU u f)) x.ctxs }) s.bays
    mig := tmap (onU u f) s.mig }
/-- The fibres of a context on a bay, wherever they stand. -/
def BayCtx.fibres (c : BayCtx) : List Fibre :=
  let ofRec := fun (r : CRec) => match r with | .fib f => some f | .spawn _ => none
  c.slots.filterMap (fun p => p.2.fib) ++ (c.cellar.ring.filterMap fun p => ofRec p.2) ++ c.cellar.blocked.map Prod.snd
    ++ c.cellar.held.filterMap fun h => ofRec h.msg
/-- Every fibre of the package. -/
def State.fibres (s : State) : List Fibre :=
  (s.bays.flatMap fun p => p.2.ctxs.flatMap fun q => q.2.fibres) ++ s.mig.map Prod.snd
/-- The context that holds state under a key of the bay ends or has ended (R427). -/
def State.endsAt (s : State) (b i : Nat) : Bool :=
  match (s.bctx b i).bind fun c => s.ctx c.asid with
  | some c => c.ended.isSome
  | none => false
/-- The context is active on the bay (R29); one that ends is stopped at once (R427 item 1). -/
def State.activeAt (s : State) (b i : Nat) : Bool := (s.bay b).active == some i && !s.endsAt b i
/-- The bay, and the ASID, of a fibre that stands in a slot, a cellar or at a bay's input. -/
def State.homeU (s : State) (u : Nat) : Option (Nat × Nat) :=
  s.bays.findSome? fun p => (p.2.ctxs.find? fun q => q.2.fibres.any fun f => f.uid == u).map fun q => (p.1, q.2.asid)

/-! ### Registers of a fibre (R86 to R91) -/

/-- A general register. -/
def Fibre.reg (f : Fibre) (r : GReg) : Word := f.g[r.toNat]'(r.isLt)
/-- The register is empty (R89). -/
def Fibre.isEmpty (f : Fibre) (r : GReg) : Bool := f.empty.getLsbD r.toNat
/-- The register is marked faulted (R146). -/
def Fibre.isFaulted (f : Fibre) (r : GReg) : Bool := f.faulted.getLsbD r.toNat
/-- Writes a register full (R89). -/
def Fibre.setReg (f : Fibre) (r : GReg) (v : Word) : Fibre :=
  { f with
    g := f.g.set r.toNat v (r.isLt)
    empty := f.empty &&& ~~~(1#8 <<< r.toNat)
    faulted := f.faulted &&& ~~~(1#8 <<< r.toNat) }
/-- Marks a register empty (R89). -/
def Fibre.setEmpty (f : Fibre) (r : GReg) : Fibre := { f with empty := f.empty ||| (1#8 <<< r.toNat) }
/-- Marks the empty destination of a faulted access (R146). -/
def Fibre.setFaulted (f : Fibre) (r : GReg) : Fibre := { f with faulted := f.faulted ||| (1#8 <<< r.toNat) }
/-- A fibre as it starts (R87). -/
def Fibre.start (uid : Nat) (entry arg : Word) (pri : BitVec 3) : Fibre :=
  { uid := uid, pc := entry, g := (Vector.replicate 8 0).set 1 arg, empty := 0, faulted := 0, loops := [], pri := pri,
    hm := false, vctx := none, frame := none, hpc := 0, hcause := 0, hval := 0, hseq := 0, hscr := 0, ring := [],
    dfaults := [], ticket := none, pend := [], wait := .ready, since := 0, w := 0, nextIssue := 0, locals := 0,
    spawnUnack := 0, mrUnack := 0, mrHeld := none, relMark := [], isFault := false }
/-- The status word of a fibre (R88). -/
def Fibre.fstat (f : Fibre) : Word :=
  toW ((match f.frame with | some x => x.left | none => 0) * 2 ^ 16
    + (match f.vctx with | some v => 2 ^ 11 + v * 2 ^ 8 | none => 0)
    + f.loops.length * 16 + (if f.hm then 8 else 0) + f.pri.toNat)

/-! ### What is in flight -/

/-- A fresh name. -/
def State.name (s : State) : Nat := s.nextId
/-- Puts an event in flight, behind the others of its lane. -/
def State.post (s : State) (lane : Nat) (ev : Ev) : State := { s with agenda := s.agenda ++ [{ lane := lane, ev := ev }] }
/-- Puts an event in flight, ahead of the others of its lane. -/
def State.postFront (s : State) (lane : Nat) (ev : Ev) : State :=
  { s with agenda := { lane := lane, ev := ev } :: s.agenda }
/-- Puts an event in flight in a lane of its own. -/
def State.postFree (s : State) (ev : Ev) : State :=
  { s with agenda := s.agenda ++ [{ lane := 64 * s.nextId, ev := ev }], nextId := s.nextId + 1 }
/-- The event at hand waits: it stays ahead of the others of its lane. -/
def State.wait (s : State) : State := s.postFront s.lane s.ev
/-- The lane of a 64-byte line of global memory (R161 item 2). -/
def laneLine (ea : Word) : Nat := 64 * (ea.toNat / 64) + 1
/-- The lane of a scratchpad bank (R129). -/
def laneBank (bay off : Nat) : Nat := 64 * (bay * 32 + off / 64 % 32) + 2
/-- The lane of messages from one bay to another (R10). -/
def laneMesh (a b : Nat) : Nat := 64 * (a * 2048 + b) + 3
/-- The lane of a gutter link (R235). -/
def laneGutter (b : Nat) (d : Dir) : Nat := 64 * (2 * b + (if d = .east then 0 else 1)) + 4
/-- The lane of a cistern unit's requests from one bay (R10, R400). -/
def laneCist (b unit : Nat) : Nat := 64 * (b * 4096 + unit) + 5
/-- The lane of a command queue (R438). -/
def laneQueue (q : Nat) : Nat := 64 * q + 6
/-- The lane of a vector context (R249). -/
def laneVec (b i v : Nat) : Nat := 64 * ((b * 2 ^ 17 + i) * 8 + v) + 7
/-- The lane of an engine for a context of a bay (R22, R279, R313). -/
def laneEng (b i e : Nat) : Nat := 64 * ((b * 2 ^ 17 + i) * 4 + e) + 8
/-- The lane of a bay's plan entries (R211). -/
def lanePlan (b : Nat) : Nat := 64 * b + 9
/-- The lane of the reasons for which a context ends, as they are found (R427). -/
def laneEnd (asid : Nat) : Nat := 64 * asid + 10
/-- The lane of the responses that a bay releases at an activation, before any fibre issues (R421). -/
def laneRelease (b : Nat) : Nat := 64 * b + 11
/-- The lane of the acknowledgements of spawn messages from one bay to another (R10, R177). -/
def laneAck (a b : Nat) : Nat := 64 * (a * 2048 + b) + 12
/-- The lane of a cistern unit's answers to one bay (R10, R401). -/
def laneAnswer (b unit : Nat) : Nat := 64 * (b * 4096 + unit) + 13
/-- The lane of CPYM data from a bay to a member (R286, R288). -/
def laneCast (a b : Nat) : Nat := 64 * (a * 2048 + b) + 14
/-- The kinds of answers to accesses: data, acceptance, fault (R145). -/
def answerKind : Ev → Nat
  | .loadDataReturn .. => 0
  | .accessAccepted .. => 1
  | _ => 2
/-- The lane of the answers of one kind from one mesh endpoint to a bay (R10). -/
def laneBack (a b kind : Nat) : Nat := 64 * ((a * 2048 + b) * 4 + kind) + 15
/-- An answer to an access leaves a mesh endpoint for the bay that issued the access (R10, R145). -/
def State.answer (s : State) (a b : Nat) (ev : Ev) : State := s.post (laneBack a b (answerKind ev)) ev

/-! ### Pulses and counters (R119, R428, R456) -/

/-- A pulse of the context's watchdog (R428, R429). -/
def State.pulse (s : State) (asid : Nat) : State := s.modCtx asid fun c => { c with silence := 0 }
/-- The context of an ASID is the one that is active on the bay. -/
def Bay.runs (x : Bay) (asid : Nat) : Bool :=
  match x.active.bind (tfind x.ctxs) with
  | some c => c.asid == asid
  | none => false
/-- Adds n to the event counters of the bay that count this source for this context, while it is active there (R119,
R456). -/
def State.bump (s : State) (b asid : Nat) (code : BitVec 16) (n : Nat) : State :=
  s.modBay b fun x => if x.runs asid then { x with evc := tmap (fun e =>
    if e.src = code ∧ e.owner = asid then { e with count := e.count + BitVec.ofNat 48 n } else e) x.evc } else x

/-! ### The counters of eave stations and ports (R457) -/

/-- The events that the counters of eave stations (units 0 to 31) and of ports (units 32 to 39) count (R457). -/
inductive Tally where
  | misses | walks | reads | writes | atomics | actions | corrected | uncorrectable | sent | received | replayed | detoured
  | duplicates | stale | fetches
  deriving DecidableEq, Repr
/-- The place of an event among a unit's counts. -/
def Tally.code : Tally → Nat
  | .misses => 0 | .walks => 1 | .reads => 2 | .writes => 3 | .atomics => 4 | .actions => 5 | .corrected => 6
  | .uncorrectable => 7 | .sent => 8 | .received => 9 | .replayed => 10 | .detoured => 11 | .duplicates => 12 | .stale => 13
  | .fetches => 14
/-- A unit counts n more of an event, of whatever context; a count has 48 bits and wraps to 0 (R457; log entry 35). -/
def State.tally (s : State) (unit : Nat) (k : Tally) (n : Nat) : State :=
  { s with mgmt := { s.mgmt with
      counters := tset s.mgmt.counters (unit * 16 + k.code)
        (tget 0 s.mgmt.counters (unit * 16 + k.code) + BitVec.ofNat 48 n) } }
/-- The unit that stands for the fabric endpoint, which has no counters of its own: port 0 (R457; log entry 35). -/
def endpointUnit : Nat := 32

/-! ### Memory (R4, R125 to R151) -/

/-- The byte at a key; a byte that is not listed reads as 0 (R128, R455). -/
def memGet (m : List Host.Cell) (a : Nat) : Byte := tget 0 m a
/-- Writes one byte and keeps the canonical form. -/
def memPut (m : List Host.Cell) (a : Nat) (v : Byte) : List Host.Cell := if v = 0 then tdel m a else tset m a v
/-- Writes bytes at rising addresses. -/
def memPuts : List Host.Cell → Nat → List Byte → List Host.Cell
  | m, _, [] => m
  | m, a, b :: r => memPuts (memPut m a b) (a + 1) r
/-- The canonical form of memory: addresses strictly rising, no byte equal to what an unlisted byte reads as. -/
def Memory.wf : List Host.Cell → Bool
  | [] => true
  | [(_, v)] => v != 0
  | (a, v) :: (b, w) :: r => v != 0 && decide (a < b) && Memory.wf ((b, w) :: r)
/-- The keys of HBM: stack and stack-local offset (R135). -/
def hbmKey (stack off : Nat) : Nat := stack * 2 ^ 37 + off
/-- The keys of companion memory (R135). -/
def compKey (a : Nat) : Nat := 2 ^ 50 + a
/-- The keys of a context's scratchpad on a bay (R127). -/
def spadKey (asid bay off : Nat) : Nat := 2 * 2 ^ 50 + asid * 2 ^ 32 + bay * 2 ^ 21 + off
/-- The keys of a context's weight buffer on a bay (R296). -/
def wbufKey (asid bay off : Nat) : Nat := 3 * 2 ^ 50 + asid * 2 ^ 32 + bay * 2 ^ 21 + off
/-- The keys of a context's tiles on a bay: element (i, j) at 1,024 t + 64 i + 4 j (R296). -/
def tileKey (asid bay off : Nat) : Nat := 4 * 2 ^ 50 + asid * 2 ^ 32 + bay * 2 ^ 21 + off
/-- The key of a physical address (R135); view 0b11 names nothing. -/
def physKey (pa : Nat) : Option Nat :=
  let view := pa / 2 ^ 42 % 4
  if view = 0 then some (hbmKey (pa / 2 ^ 12 % 32) (pa / 2 ^ 17 % 2 ^ 25 * 2 ^ 12 + pa % 2 ^ 12))
  else if view = 1 then
    some (hbmKey (4 * (pa / 2 ^ 39 % 8) + pa / 2 ^ 12 % 4) (pa / 2 ^ 14 % 2 ^ 25 * 2 ^ 12 + pa % 2 ^ 12))
  else if view = 2 then some (compKey (pa % 2 ^ 42))
  else none
/-- n bytes from a key on. -/
def memBytes (m : List Host.Cell) (a : Nat) : Nat → List Byte
  | 0 => []
  | n + 1 => memGet m a :: memBytes m (a + 1) n
/-- n bytes at a key. -/
def State.read (s : State) (a n : Nat) : List Byte := memBytes s.mem a n
/-- The doubleword at a key. -/
def State.readD (s : State) (a : Nat) : Word := toW (leNat (s.read a 8))
/-- n doublewords from a key on. -/
def State.readDs (s : State) (a : Nat) : Nat → List Word
  | 0 => []
  | n + 1 => s.readD a :: State.readDs s (a + 8) n
/-- Writes bytes; the poison of each aligned 8-byte unit that the write covers whole is cleared (R151). -/
def State.write (s : State) (a : Nat) (bs : List Byte) : State :=
  { s with
    mem := memPuts s.mem a bs
    poison := s.poison.filter fun u => !(decide (a ≤ u * 8) && decide (u * 8 + 8 ≤ a + bs.length)) }
/-- Writes doublewords. -/
def State.writeDs (s : State) (a : Nat) : List Word → State
  | [] => s
  | d :: r => State.writeDs (s.write a (leBytes 8 d.toNat)) (a + 8) r
/-- The first poisoned 8-byte unit that n bytes at a key touch (R151), as the offset of its first byte from the unit of
the first byte. -/
def State.bad (s : State) (a n : Nat) : Option Nat :=
  ((List.range ((a + n + 7) / 8 - a / 8)).find? fun k => s.poison.contains (a / 8 + k)).map (· * 8)
/-- Marks the 8-byte units that n bytes touch as poisoned (R151). -/
def State.mark (s : State) (a n : Nat) : State :=
  { s with poison := ((List.range ((a + n + 7) / 8 - a / 8)).map (a / 8 + ·)).filter (fun u => !s.poison.contains u)
      ++ s.poison }

/-! ### Retirement (R95, R108) -/

/-- The loop-end test of R108 on the loop stack, innermost first: the stack, and the address to loop back to. -/
def loopEnd (a : Word) : List LoopEnt → List LoopEnt × Option Word
  | [] => ([], none)
  | l :: r =>
    if l.stop = a then
      if decide (1 < l.rem.toNat) then ({ l with rem := l.rem - 1 } :: r, some l.start) else loopEnd a r
    else (l :: r, none)
/-- PC after an instruction that did not set PC retires (R108, R110). -/
def Fibre.nextPc (f : Fibre) : Fibre :=
  if f.hm then { f with pc := f.pc + 4 }
  else
    let (l, t) := loopEnd f.pc f.loops
    { f with loops := l, pc := t.getD (f.pc + 4) }
/-- The issuing context's watchdog pulse and retirement count (R95, R428, R456). -/
def State.countRetired (s : State) (b i : Nat) : State :=
  match s.bctx b i with
  | some c => (s.pulse c.asid).bump b c.asid 2 1
  | none => s
/-- The fibre's instruction completes: it is ready again and PC follows R108. -/
def Fibre.retire (f : Fibre) : Fibre := { f.nextPc with wait := .ready }
/-- The issuing fibre's instruction retires. -/
def State.retireCur (s : State) : State := (s.modCur Fibre.retire).countRetired s.cur.bay s.cur.idx
/-- A blocked fibre's instruction retires, with the change it brings (R199, R237, R229, R15). -/
def State.retireU (s : State) (u : Nat) (f : Fibre → Fibre) : State :=
  let s' := s.modU u fun x => (f x).retire
  match s.findU u with
  | some (p, _) => s'.countRetired p.bay p.idx
  | none => s'

/-! ### Causes and records (R407, R408, R431, R432) -/

/-- The code of a cause (R408). -/
def causeCode : Cause → Nat
  | .illegal => 1 | .ifetch => 2 | .align => 3 | .quota => 4 | .range => 5 | .lstack => 6 | .vframe => 7 | .trap => 8
  | .fstate => 9 | .bstate => 10 | .vnobind => 11 | .gaddr => 12 | .xlate => 16 | .perm => 17 | .aperture => 18
  | .domain => 19 | .memerr => 20 | .engine => 24 | .cistern => 25 | .desc => 32 | .panel => 33 | .mreject => 34
/-- HCAUSE of a precise fault (R407). -/
def causeWord (c : Cause) : Word := toW (causeCode c)
/-- HCAUSE of a deferred fault (R407). -/
def causeDeferred (c : Cause) : Word := toW (2 ^ 63 + causeCode c)
/-- The code of an end reason (R427). -/
def endCode : EndReason → Nat
  | .double => 1 | .watchdog => 2 | .remote => 3 | .restore => 4 | .cellar => 5 | .group => 6 | .host => 7 | .faults => 8
/-- The first doubleword of a section: type, length in 64-byte units (R432). -/
def secHead (type units : Nat) : Word := toW (type * 2 ^ 56 + units * 2 ^ 40)
/-- A section of the given number of 64-byte units, filled up with zeros (R432). -/
def section_ (type units : Nat) (ws : List Word) : List Word :=
  let l := secHead type units :: ws
  l ++ List.replicate (units * 8 - l.length) 0
/-- A fibre handle (R34, R179). -/
def State.handle (s : State) (b k : Nat) (gen : BitVec 23) : Word :=
  toW (s.chip.toNat * 2 ^ 42 + b * 2 ^ 31 + k * 2 ^ 23 + gen.toNat)
/-- The context begins to end (R427): it issues nothing more, its first reason and the time at which it was found stay
(R431), and the rest comes about at CONTEXT_END. -/
def State.endCtx (s : State) (asid : Nat) (r : EndReason) (b : Nat) (secs : List Word) : State :=
  (s.modCtx asid fun c => { c with
    ended := some (c.ended.getD r), endTime := if c.ended.isSome then c.endTime else s.time.count }).post
    (laneEnd asid) (.contextEnd asid r b secs)

/-! ### Handler mode (R409, R411, R148, R117) -/

/-- The double fault of R411: the context ends, and the record holds the first handler registers and the second fault. -/
def State.doubleFault (s : State) (p : Cur) (f : Fibre) (cause val seq addr : Word) : State :=
  match s.bctx p.bay p.idx with
  | some c => (s.modF p.bay p.idx p.slot fun x => { x with wait := .ready }).endCtx c.asid .double p.bay
      (section_ 2 2 [s.handle p.bay p.slot (c.slot p.slot).gen, f.hpc, f.hcause, f.hval, f.hseq, cause, val, seq, addr])
  | none => s
/-- Handler registers, mode and PC at the entry (R409); a fault discards an open frame (R112). -/
def Fibre.enter (f : Fibre) (hentry cause val seq resume : Word) : Fibre :=
  { f with hpc := resume, hcause := cause, hval := val, hseq := seq, hm := true, pc := hentry, frame := none,
           wait := .ready }
/-- The handler entry of the fibre's context (R409). -/
def State.hentryOf (s : State) (p : Cur) : Word :=
  match (s.bctx p.bay p.idx).bind fun c => s.ctx c.asid with
  | some c => c.hentry
  | none => 0
/-- Counts a handler entry for the running launch (R446). -/
def State.countEntry (s : State) (p : Cur) : State :=
  match s.bctx p.bay p.idx with
  | some c => s.modCtx c.asid fun x => { x with launch := x.launch.map fun l => { l with faults := l.faults + 1 } }
  | none => s
/-- Registers of faulted accesses made full with value 0 (R148). -/
def Fibre.clearFaulted (f : Fibre) : List DFault → Fibre
  | [] => f
  | d :: r => Fibre.clearFaulted (match d.dest with | some x => f.setReg x 0 | none => f) r
/-- The oldest recorded deferred fault. -/
def oldest : List DFault → Option DFault
  | [] => none
  | d :: r =>
    match oldest r with
    | some e => if e.rid < d.rid then some e else some d
    | none => some d
/-- The oldest recorded deferred fault may be reported: every older access has been accepted (R147), and outside handler
mode the whole ring is empty, as every entry to handler mode requires (R409). -/
def Fibre.reportable (f : Fibre) : Bool :=
  match oldest f.dfaults with
  | some d => if f.hm then f.ring.all fun a => decide (d.rid < a.rid) else f.ring.isEmpty
  | none => false
/-- Reports the oldest recorded deferred fault (R148): HPC names the access, its register and those of the younger
faulted accesses become 0, and the instruction at the taking point does not issue. -/
def State.reportDeferred (s : State) (p : Cur) (f : Fibre) : State :=
  match oldest f.dfaults with
  | none => s
  | some d =>
    if f.hm then s.doubleFault p f (causeDeferred d.cause) d.ea 0 d.pc
    else
      let s' := (s.modF p.bay p.idx p.slot fun x =>
        ({ (x.clearFaulted x.dfaults) with dfaults := [] }).enter (s.hentryOf p) (causeDeferred d.cause) d.ea 0 d.pc).countEntry p
      match s.bctx p.bay p.idx with
      | some c => s'.bump p.bay c.asid 14 1
      | none => s'
/-- The second half of the entry to handler mode, once the access ring is empty (R409). -/
def State.enterNow (s : State) (p : Cur) (f : Fibre) (cause val seq resume : Word) : State :=
  if f.dfaults.isEmpty then
    (s.modF p.bay p.idx p.slot fun x => x.enter (s.hentryOf p) cause val seq resume).countEntry p
  else s.reportDeferred p f
/-- Taking an exception (R409): in handler mode a double fault; otherwise the fibre waits until its access ring is empty
(wait reason 0x09), an older deferred fault goes first, and then HPC, HCAUSE, HVAL, HSEQ, the mode and PC are set. -/
def State.enterHandler (s : State) (p : Cur) (f : Fibre) (cause val seq resume : Word) : State :=
  if f.hm then s.doubleFault p f cause val seq resume
  else if f.ring.isEmpty then s.enterNow p f cause val seq resume
  else s.modF p.bay p.idx p.slot fun x => { x with wait := .entry cause val seq resume, frame := none }
/-- A precise fault of the issuing fibre (R51, R122). -/
def State.raise (s : State) (f : Fibre) (c : Cause) (v : Word) : State := s.enterHandler s.cur f (causeWord c) v 0 f.pc
/-- An entry to handler mode that waited goes on when the ring is empty (R409). -/
def State.entryReady (s : State) (u : Nat) : State :=
  match s.findU u with
  | some (p, f) =>
    match f.wait with
    | .entry c v q r => if f.ring.isEmpty then s.enterNow p f c v q r else s
    | _ => s
  | none => s
/-- The return from handler mode (R117): PC from HPC and ordinary mode. -/
def Fibre.leave (f : Fibre) : Fibre := { f with pc := f.hpc, hm := false, wait := .ready }

/-! ### Issue (R51, R90, R92, R147) -/

/-- What the body of an instruction does. -/
inductive Res where
  /-- it retires, and PC follows R108 -/
  | done (s : State)
  /-- it retires and has set PC itself -/
  | jumped (s : State)
  /-- it has issued and completes later, or its fibre is gone -/
  | stay (s : State)
  /-- the fibre blocks until the instruction, evaluated again, need not (wait reason of R432) -/
  | block (code : Nat)
  /-- a precise fault -/
  | fault (c : Cause) (v : Word)
  /-- an entry to handler mode with a resume address of its own -/
  | enter (s : State) (c : Cause) (v resume : Word)
  /-- a recorded deferred fault is taken -/
  | deferred

/-- An instruction of majors 0x34 to 0x39, which a frame may hold (R111). -/
def inFrame (i : Instr) : Bool :=
  match encode i with
  | some w => decide (0x34 ≤ w.toNat / 2 ^ 26) && decide (w.toNat / 2 ^ 26 ≤ 0x39)
  | none => false

/-- The instruction blocks its fibre. -/
def Fibre.block (f : Fibre) (w : Wait) (cycle : Nat) : Fibre := { f with wait := w, since := cycle }

/-- What a body's result makes of the state. -/
def State.finish (s : State) (f : Fibre) : Res → State
  | .done t => t.retireCur
  | .jumped t => (t.modCur fun x => { x with wait := .ready }).countRetired s.cur.bay s.cur.idx
  | .stay t => t
  | .block code =>
    s.modCur fun x => if f.wait = .retry code then x else x.block (.retry code) (s.bay s.cur.bay).cycle
  | .fault c v => s.raise f c v
  | .enter t c v r =>
    match t.curF with
    | some x => t.enterHandler s.cur x (causeWord c) v 0 r
    | none => t
  | .deferred => s.reportDeferred s.cur f

/-- Issues one instruction of the fibre at `cur`.  A register that it names and that is empty keeps it from issuing
(R90); if the register is faulted this is a taking point (R147).  Then the checks of R51: `early` is its step 3 and 4,
a frame position outside majors 0x34 to 0x39 is VFRAME (R112), and `body` is the instruction's own description. -/
def issue (i : Instr) (early : BayCtx → Fibre → Option (Cause × Word))
    (body : BayCtx → Fibre → State → Res) (s : State) : Out :=
  match s.curC, s.curF with
  | some c, some f =>
    if (namedRegs i).any f.isEmpty then
      if (namedRegs i).any f.isFaulted then
        if f.reportable then .next (s.reportDeferred s.cur f)
        else .next (s.modCur fun x => x.block (.retry 9) (s.bay s.cur.bay).cycle)
      else .next s
    else
      match early c f with
      | some (k, v) => .next (s.raise f k v)
      | none =>
        if f.frame.isSome && !inFrame i then .next (s.raise f .vframe (wordOf i))
        else .next (s.finish f (body c f s))
  | _, _ => .fault .noIssuer

/-- No check at steps 3 and 4 of R51. -/
def noEarly (_ : BayCtx) (_ : Fibre) : Option (Cause × Word) := none

/-- An instruction that writes one register from what it reads, and nothing else. -/
def aluOp (i : Instr) (d : GReg) (v : Fibre → Word) (s : State) : Out :=
  issue i noEarly (fun _ f s => .done (s.modCur fun x => x.setReg d (v f))) s

end Sys2Proof.Machine
end

