-- ==== Sys2Proof/Machine/Gutters.lean ====
section
/-!
DEFINITION. The gutter queues of a bay and the service of the fibres blocked at them (spec/07_barriers_gutters.md R234 to
R241).
-/
namespace Sys2Proof.Machine

/-- The neighbour of a bay in a direction; the rows wrap (R234). -/
def neighbour (b : Nat) (d : Dir) : Nat :=
  let (x, y) := bayXY b
  bayOf (if d = .east then (x + 1) % 64 else (x + 63) % 64) y
/-- The opposite direction. -/
def Dir.opp : Dir → Dir
  | .east => .west
  | .west => .east
/-- The gutter state of a direction: the queue of words that travel that way into the bay, and the credits and pushers
that way out of it. -/
def BayCtx.gut (c : BayCtx) (d : Dir) : Gutter := if d = .east then c.east else c.west
/-- The context with a gutter changed. -/
def BayCtx.modGut (c : BayCtx) (d : Dir) (f : Gutter → Gutter) : BayCtx :=
  if d = .east then { c with east := f c.east } else { c with west := f c.west }
/-- 0 for east, 1 for west, as the wait reasons of R239 count. -/
def dirCode (d : Dir) : Nat := if d = .east then 0 else 1
/-- The credits that a sender may use: none while the neighbour's context is not resident (R235). -/
def State.credits (s : State) (b asid : Nat) (d : Dir) (g : Gutter) : Nat :=
  match s.keyOf (neighbour b d) asid with
  | some i => if i < 4 then g.cred else 0
  | none => 0
/-- A word leaves toward the neighbour, with a credit (R235). -/
def State.sendWord (s : State) (b i : Nat) (d : Dir) (w : Word) : State :=
  match s.bctx b i with
  | some c =>
    (s.modC b i fun y => y.modGut d fun g => { g with cred := g.cred - 1 }).post (laneGutter b d)
      (.gutterWordArrival (neighbour b d) c.asid d w)
  | none => s
/-- The head word is taken, and its credit goes back to the sender (R235). -/
def State.takeWord (s : State) (b i : Nat) (d : Dir) : State :=
  match s.bctx b i with
  | some c =>
    (s.modC b i fun y => y.modGut d fun g => { g with q := g.q.drop 1 }).postFree
      (.gutterCreditReturn (neighbour b (if d = .east then .west else .east)) c.asid d)
  | none => s
/-- Serves the fibres blocked at a gutter, in their order, while words and credits allow (R235, R237), at most n of
them. -/
def State.serveGut (s : State) (b i : Nat) (d : Dir) : Nat → State
  | 0 => s
  | n + 1 =>
    match s.bctx b i with
    | none => s
    | some c =>
      let g := c.gut d
      let cr := s.credits b c.asid d g
      match g.q, g.pops with
      | w :: _, x :: r =>
        if !x.fwd then
          State.serveGut (((s.modC b i fun y => y.modGut d fun z => { z with pops := r }).takeWord b i d).retireU x.uid
            fun f => f.setReg x.d w) b i d n
        else if decide (0 < cr) && (match g.pushes with | p :: _ => p.uid == x.uid | [] => false) then
          State.serveGut ((((s.modC b i fun y => y.modGut d fun z =>
            { z with pops := r, pushes := z.pushes.drop 1 }).takeWord b i d).sendWord b i d w).retireU x.uid
            fun f => f.setReg x.d w) b i d n
        else
          match g.pushes with
          | p :: q => if p.fwd || cr == 0 then s else
              State.serveGut (((s.modC b i fun y => y.modGut d fun z => { z with pushes := q }).sendWord b i d p.word).retireU
                p.uid id) b i d n
          | [] => s
      | _, _ =>
        match g.pushes with
        | p :: q => if p.fwd || cr == 0 then s else
            State.serveGut (((s.modC b i fun y => y.modGut d fun z => { z with pushes := q }).sendWord b i d p.word).retireU
              p.uid id) b i d n
        | [] => s
/-- The credits of a bay in a direction made to match its neighbour's queue (R235): the free places there, less the words on
their way and the credits on their way back. -/
def State.matchCredit (s : State) (x asid : Nat) (d : Dir) : State :=
  match s.keyOf x asid with
  | none => s
  | some i =>
    let n := neighbour x d
    let held := match (s.keyOf n asid).bind fun j => s.bctx n j with | some c => (c.gut d).q.length | none => 0
    let flying := (s.agenda.filter fun t => match t.ev with
      | .gutterWordArrival y a e _ => y == n && a == asid && e == d
      | .gutterCreditReturn y a e => y == x && a == asid && e == d
      | _ => false).length
    s.modC x i fun c => c.modGut d fun g => { g with cred := 32 - held - flying }
/-- Serves every fibre that can go on at a gutter of a context that is resident on the bay, active or not (R235; log entry
76). -/
def State.gutters (s : State) (b i : Nat) (d : Dir) : State :=
  match s.bctx b i with
  | some c => if i < 4 then s.serveGut b i d ((c.gut d).pops.length + (c.gut d).pushes.length + 1) else s
  | none => s

end Sys2Proof.Machine
end

