-- ==== Sys2Proof/Machine/Operands.lean ====
section
/-!
DEFINITION. The operand forms: immediates (R42), effective addresses (R140, R255), the address forms and regions of
R125 and R126, and the range checks against quotas (R31).
-/
namespace Sys2Proof.Machine

/-- IMM20 of the I format, sign-extended (R42). -/
def imm20 (i : BitVec 20) : Word := i.signExtend 64
/-- The target of a word offset: the instruction's address plus four times the offset (R102, R104, R105). -/
def wordTarget {n : Nat} (a : Word) (o : BitVec n) : Word := a + 4 * o.signExtend 64
/-- Access size in bytes, 2 ^ SZ (R42, R140). -/
def szBytes : Sz → Nat
  | .b => 1 | .h => 2 | .w => 4 | .d => 8
/-- Size in bytes of an atomic (R141). -/
def atBytes : AtSz → Nat
  | .w => 4 | .d => 8
/-- The effective address of a load or store (R140). -/
def effAddr (base : Word) (o : BitVec 17) : Word := base + o.signExtend 64
/-- The effective address of a vector load or store: OFF10 counts 32-byte units (R255). -/
def vecAddr (base : Word) (o : BitVec 10) : Word := base + 32 * o.signExtend 64
/-- The address names the bay aperture of this package (R126, R139). -/
def isAperture (a : Word) : Bool := decide (0x00FE000000000000 ≤ a.toNat) && decide (a.toNat ≤ 0x00FE0000BFFFFFFF)
/-- The address is translated through the page tables (R126). -/
def isTranslated (a : Word) : Bool := decide (a.toNat < 0x00FE000000000000)
/-- The address is valid in form (R126); a data access to any other raises GADDR. -/
def globalForm (a : Word) : Bool := isTranslated a || isAperture a
/-- The bay of an aperture address (R139). -/
def apBay (a : Word) : Nat := bits a 31 21
/-- The scratchpad byte of an aperture address (R139). -/
def apOff (a : Word) : Nat := bits a 20 0
/-- n bytes at a local address lie within the scratchpad quota (R140). -/
def localFits (c : BayCtx) (a : Word) (n : Nat) : Bool := decide (a.toNat + n ≤ c.quota.scratch)
/-- The value that a load or an atomic leaves in a register (R140, R141). -/
def extend (signed : Bool) (n : Nat) (v : Nat) : Word :=
  if signed && decide (n < 8) then sextW (toW v) (8 * n) else toW (v % 2 ^ (8 * n))
/-- The ordering has a release component (R7). -/
def hasRel : MemOrd → Bool
  | .rel | .ar => true
  | .rlx | .acq => false
/-- The ordering has an acquire component (R7). -/
def hasAcq : MemOrd → Bool
  | .acq | .ar => true
  | .rlx | .rel => false
/-- The access may be a remote store: a store or no-return atomic at a translated address (R138, R165). -/
def Access.mayBeRemote (a : Access) : Bool :=
  isTranslated a.ea && (match a.kind with | .load _ => false | .store => true | .atomic _ ret => !ret)
/-- What a release component waits for before the operation's own write: the fibre's earlier accesses performed
(R162).  Toward the fibre itself (scope FIBRE) there is nothing to wait for (R152) but that the earlier remote stores have
gone out, so that the counts which the release notes include them (R165 rule 1). -/
def relWaits (o : MemOrd) (p : Scope) (f : Fibre) : Bool :=
  hasRel o && (if p = .fib then f.ring.any Access.mayBeRemote else !f.ring.isEmpty)
/-- The release counts that a release notes for every stream (R372 item 3 and after). -/
def relMarks (s : State) : Tab (BitVec 31) := s.senders.map fun p => (p.1, p.2.wsent)
/-- A release of the fibre marks the streams (R165 rule 1, R372). -/
def State.releaseMark (s : State) (o : MemOrd) : State :=
  if hasRel o then s.modCur fun x => { x with relMark := relMarks s } else s

/-- Step 4 of R51 for a semaphore index beyond the context's quota (R31, R198). -/
def semEarly (n : BitVec 10) (c : BayCtx) (_ : Fibre) : Option (Cause × Word) :=
  if c.quota.sems ≤ n.toNat then some (.quota, n.setWidth 64) else none

end Sys2Proof.Machine
end

