-- ==== Sys2Proof/Machine/Records.lean ====
section
/-!
DEFINITION. Error records (spec/14_contexts.md R431, R432), the error queue in companion memory (spec/15_front_end.md
R435, R449), and the record of an uncorrectable data error (spec/16_service.md R459).
-/
namespace Sys2Proof.Machine

/-- Size of the error queue in 64-byte units (R435 ERRCFG); a size code below 6 is no queue (log entry 10). -/
def State.errSize (s : State) : Nat := if bits s.front.errCfg 35 32 < 6 then 0 else 2 ^ bits s.front.errCfg 35 32
/-- Units of the error queue in use: the indices count 64-byte units modulo 2^32 (log entry 10). -/
def State.errUsed (s : State) : Nat := (s.front.errTail.toNat + 2 ^ 32 - s.front.errHead.toNat % 2 ^ 32) % 2 ^ 32
/-- The record fits in the queue as it stands. -/
def State.errFits (s : State) (ws : List Word) : Bool := decide (s.errUsed + ws.length / 8 ≤ s.errSize)
/-- Writes a record at the tail of the ring, unit by unit, and moves the tail (R449). -/
def State.errWrite (s : State) (ws : List Word) : State :=
  let t := s.front.errTail.toNat
  let s' := (List.range (ws.length / 8)).foldl (fun (x : State) j =>
    x.writeDs (compKey ((s.front.errBase.toNat + (t + j) % s.errSize * 64) % 2 ^ 42)) ((ws.drop (8 * j)).take 8)) s
  { s' with front := { s'.front with errTail := toW ((t + ws.length / 8) % 2 ^ 32) } }
/-- A record enters the error queue (R449): KIND 1 waits for room in the order written, KIND 2 is dropped and counted
where the queue is full; every record waits while an update restarts the front end (R461). -/
def State.errPush (s : State) (kind : Nat) (ws : List Word) : State :=
  if s.front.errWait.isEmpty && s.errFits ws && s.mgmt.updating.isNone then s.errWrite ws
  else if kind = 1 ∨ s.mgmt.updating.isSome = true then { s with front := { s.front with errWait := s.front.errWait ++ [ws] } }
  else { s with front := { s.front with errOvf := s.front.errOvf + 1 } }
/-- The number of sections (R432), each of which tells its own length. -/
def countSecs : Nat → List Word → Nat
  | 0, _ => 0
  | _, [] => 0
  | n + 1, w :: r => 1 + countSecs n (r.drop (bits w 55 40 * 8 - 1))
/-- An error record with its header (R431).  LSEQ is the number of the running launch; where none runs, or the record is of no context,
the rule gives no value and the model writes 0 (DESIGN CHOICE, log entry 87). -/
def State.record (s : State) (kind reason asid bay : Nat) (secs : List Word) : List Word :=
  let c := s.ctx asid
  let ctxid := match c with | some x => x.ctxid.toNat | none => 0
  let lseq := match c.bind Ctx.launch with | some l => l.lseq | none => 0
  [toW (kind * 2 ^ 56 + reason * 2 ^ 48 + asid % 2 ^ 16 * 2 ^ 32 + ctxid),
   toW (s.chip.toNat * 2 ^ 42 + bay % 2 ^ 11 * 2 ^ 31 + countSecs secs.length secs % 2 ^ 16),
   s.time.count, toW lseq, 0, 0, 0, toW (64 + 8 * secs.length)] ++ secs
/-- A GROUP section (R432 type 6): the group, then the phase, then the other phase or the chip that cannot be reached.  The rule lists
the fields without positions: this order is the model's choice (log entry 87). -/
def groupSection (g : Nat) (phase : BitVec 16) (other : Word) : List Word := section_ 6 1 [toW g, phase.setWidth 64, other]
/-- The context of a scratchpad, weight-buffer or tile key, its bay and its offset (R127, R296). -/
def unitKey (key : Nat) : Nat × Nat × Nat := (key % 2 ^ 50 / 2 ^ 32, key % 2 ^ 32 / 2 ^ 21, key % 2 ^ 21)
/-- The MEMORY section for an error at a key (R432 type 7): the unit, the bay or stack, the address. -/
def memSection (key asid : Nat) : List Word :=
  let (_, bay, off) := unitKey key
  if key < 2 ^ 50 then
    section_ 7 1 [toW (1 + key / 2 ^ 37 * 2 ^ 24 + asid % 2 ^ 16 * 2 ^ 48),
      toW (key % 2 ^ 37 / 2 ^ 12 * 2 ^ 17 + key / 2 ^ 37 * 2 ^ 12 + key % 2 ^ 12)]
  else
    let u := key / 2 ^ 50
    section_ 7 1 [toW (u + bay * 2 ^ 8 + asid % 2 ^ 16 * 2 ^ 48), toW (if u = 4 then off / 1024 else off)]
/-- The eave station of an HBM key counts one more of an event (R457); no station counts what happens elsewhere. -/
def State.tallyKey (s : State) (key : Nat) (k : Tally) : State :=
  if key < 2 ^ 50 then s.tally (key / 2 ^ 37) k 1 else s
/-- An uncorrectable data error found by an access of a context (R459 item 3): a record of KIND 2, counted at the station of an
HBM key (R457). -/
def State.memError (s : State) (key asid : Nat) : State :=
  let bay := if key < 2 ^ 51 then 0x7FF else (unitKey key).2.1
  (s.tallyKey key .uncorrectable).errPush 2 (s.record 2 0 asid bay (memSection key asid))
/-- An uncorrectable error in a vector register (R265, R459 item 3; unit 5 of R432). -/
def State.vecError (s : State) (bay asid v r : Nat) : State :=
  s.errPush 2 (s.record 2 0 asid bay (section_ 7 1 [toW (5 + bay * 2 ^ 8 + asid % 2 ^ 16 * 2 ^ 48), toW (v * 2 ^ 8 + r % 32)]))

end Sys2Proof.Machine
end

