-- ==== Sys2Proof/Machine/Translate.lean ====
section
/-!
DEFINITION. Address translation (spec/05_memory.md R130 to R138): the walk of the page tables, the translation caches of
the eave stations, and the permission checks.
-/
namespace Sys2Proof.Machine

/-- What an access needs (R136). -/
inductive Need where
  | read | write | atomic | fetch
  deriving DecidableEq, Repr

/-- The home eave station of a bay (R130). -/
def homeStation (b : Nat) : Nat := 4 * (b / 192) + b % 16 / 4
/-- The eave station, and the die, that own an HBM key (R130, R135). -/
def stationOf (key : Nat) : Nat := key / 2 ^ 37
/-- The mesh endpoint of a station; 32 stands for the Companion Link and 33 for the fabric endpoint (R130). -/
def stationEnd (n : Nat) : Nat := 1536 + n
/-- The mesh endpoint that performs accesses at a key: the owning station, or the Companion Link (R130). -/
def keyEnd (key : Nat) : Nat := stationEnd (min 32 (stationOf key))
/-- log2 of the page size that a leaf of level l maps (R131). -/
def pageBits (l : Nat) : Nat := if l = 2 then 30 else if l = 1 then 21 else 16
/-- The bit of the VA at which level l's index starts, and its width (R131). -/
def levelIndex (l : Nat) (va : Nat) : Nat :=
  if l = 3 then va / 2 ^ 39 % 2 ^ 17 else if l = 2 then va / 2 ^ 30 % 512 else if l = 1 then va / 2 ^ 21 % 512
  else va / 2 ^ 16 % 32
/-- Size and alignment of a table of level l (R131). -/
def tableSize (l : Nat) : Nat := if l = 3 then 2 ^ 20 else if l = 0 then 256 else 4096
/-- A leaf's fields are as R133 and R134 require for a page of the given size. -/
def leafOk (e : Word) (p : Nat) : Bool :=
  bits e 15 7 == 0 &&
  (if bits e 2 2 = 1 then bits e 5 5 == 0 && (bits e 41 16 * 2 ^ 16) % 2 ^ p == 0
   else bits e 63 44 == 0 && bits e 43 42 != 3 && (bits e 43 16 * 2 ^ 16) % 2 ^ p == 0)
/-- The walk from a table at a physical address (R131, R134): the leaf and the size of its page, or the
fault, with the key of a table line that has an uncorrectable error. -/
def walk (s : State) (va : Nat) : Nat → Nat → Except (Cause × Nat) (Word × Nat)
  | table, l =>
    if table % tableSize l ≠ 0 then .error (.xlate, 0)
    else
      match physKey (table + 8 * levelIndex l va) with
      | none => .error (.xlate, 0)
      | some ek =>
        if (s.bad ek 8).isSome then .error (.memerr, ek)
        else
          let e := s.readD ek
          if bits e 0 0 = 0 then .error (.xlate, 0)
          else if bits e 1 1 = 1 then
            if l = 3 then .error (.xlate, 0)
            else if leafOk e (pageBits l) then .ok (e, pageBits l) else .error (.xlate, 0)
          else if bits e 63 44 ≠ 0 ∨ bits e 7 2 ≠ 0 then .error (.xlate, 0)
          else
            match l with
            | 0 => .error (.xlate, 0)
            | l' + 1 => walk s va (bits e 43 8 * 2 ^ 8) l'
/-- The leaf that a station's cache holds for an address (R137). -/
def tlbFind (l : List Tlb) (asid va : Nat) : Option Tlb :=
  l.find? fun t => t.asid == asid && t.va == va / 2 ^ t.bits
/-- The walk of a context's tables for an address (R131). -/
def State.walkCtx (s : State) (asid va : Nat) : Except (Cause × Nat) (Word × Nat) :=
  match s.ctx asid with
  | some c => walk s va (c.root.toNat) 3
  | none => .error (.xlate, 0)
/-- Enters a translation in a station's cache, which holds up to 16,384 (R137). -/
def State.tlbFill (s : State) (st asid va : Nat) (leaf : Word) (p : Nat) : State :=
  let l := (tget [] s.tlb st).filter fun t => !(t.asid == asid && t.va == va / 2 ^ t.bits)
  { s with tlb := tset s.tlb st (({ asid := asid, va := va / 2 ^ p, bits := p, leaf := leaf } :: l).take 16384) }
/-- Where a leaf sends an access: a physical address of this package, or a chip and window-offset (R133, R138). -/
inductive Place where
  | phys (pa : Nat)
  | remote (chip woff : Nat)
  deriving DecidableEq, Repr
/-- The byte at a page offset (R133). -/
def leafPlace (e : Word) (p va : Nat) : Place :=
  if bits e 2 2 = 1 then .remote (bits e 63 42) (bits e 41 16 * 2 ^ 16 + va % 2 ^ p)
  else .phys (bits e 43 16 * 2 ^ 16 + va % 2 ^ p)
/-- The permission of a leaf for an access (R136); companion pages refuse atomics. -/
def leafPerm (e : Word) : Need → Bool
  | .read => bits e 3 3 == 1
  | .write => bits e 4 4 == 1
  | .atomic => bits e 6 6 == 1 && !(bits e 2 2 == 0 && bits e 43 42 == 2)
  | .fetch => bits e 5 5 == 1
/-- The translation that an agent at a station uses: a cached one where the station holds it, which may be older than
the tables (R137), else a walk, whose result the station caches; a walk that meets an uncorrectable error records it (R459).  The
station counts the miss and the walk (R457). -/
def State.translateAt (s : State) (st asid : Nat) (va : Word) (n : Need) : Except Cause Place × State :=
  if !isTranslated va then (.error .gaddr, s)
  else
    match tlbFind (tget [] s.tlb st) asid va.toNat with
    | some t => (if leafPerm t.leaf n then .ok (leafPlace t.leaf t.bits va.toNat) else .error .perm, s)
    | none =>
      let s1 := (s.tally st .misses 1).tally st .walks 1
      match s.walkCtx asid va.toNat with
      | .error (.memerr, key) => (.error .memerr, s1.memError key asid)
      | .error (c, _) => (.error c, s1)
      | .ok (e, p) =>
        (if leafPerm e n then .ok (leafPlace e p va.toNat) else .error .perm, s1.tlbFill st asid va.toNat e p)
/-- The check of an aperture address (R139): the key of its byte, or APERTURE. -/
def State.aperture (s : State) (asid : Nat) (a : Word) (n : Nat) : Except Cause Nat :=
  let b := apBay a
  match s.keyOf b asid with
  | some i =>
    match s.bctx b i with
    | some c =>
      if s.usable asid b && decide (apOff a + n ≤ c.quota.scratch) then .ok (spadKey asid b (apOff a))
      else .error .aperture
    | none => .error .aperture
  | none => .error .aperture

end Sys2Proof.Machine
end

