-- ==== Sys2Proof/Machine/Image.lean ====
section
/-!
DEFINITION. Save images (spec/14_contexts.md R423 to R426): their pages and tags, and the checks of R425 and R426.
-/
namespace Sys2Proof.Machine

/-- B of R215: the per-bay state of a context in bytes. -/
def Quota.bytes (q : Quota) : Nat := q.scratch + q.wbuf + 1024 * q.tiles + 8192 * q.vctxs + 512 * q.slots + 4096
/-- The pages of an image (R423). -/
def Quota.pages (q : Quota) : Nat := (q.bytes + 4095) / 4096
/-- What an image holds of a context beside its scratchpad, weight buffer and tiles, in the order of R423. -/
def BayCtx.rest (c : BayCtx) : List Nat × Tab VCtx × Tab Sem × Tab Chan × (Gutter × Gutter) × Tab Cist × (Port × Port × Port)
    × Tab Slot × List Item :=
  (c.sat, c.vctxs, c.sems, c.chans, (c.east, c.west), c.cists, (c.mport, c.cport, c.fport), c.slots, c.park)
/-- The data of page k of a context's image on a bay: scratchpad, weight buffer, tiles, and the rest of its state there
(R423; log entry 43 for the layout). -/
def State.imagePage (s : State) (b : Nat) (c : BayCtx) (k : Nat) : List Byte :=
  let o := 4096 * k
  let w := c.quota.scratch + c.quota.wbuf
  let t := w + 1024 * c.quota.tiles
  if o < c.quota.scratch then s.read (spadKey c.asid b o) 4096
  else if o < w then s.read (wbufKey c.asid b (o - c.quota.scratch)) 4096
  else if o < t then s.read (tileKey c.asid b (o - w)) 4096
  else Config.imageRest c.rest ((o - t) / 4096)
/-- The key of the image of a context on a bay. -/
def imageKey (b asid : Nat) : Nat := b * 2 ^ 16 + asid
/-- The image of a context on a bay. -/
def State.image (s : State) (b asid : Nat) : Image := tget { gen := 0, tags := [], err := [] } s.images (imageKey b asid)
/-- The tag of a page (R424): CTXID, GEN, OFFSET in the context's image set, and the data. -/
def State.imageTag (s : State) (b : Nat) (c : BayCtx) (gen k : Nat) : BitVec 64 :=
  let ctxid := match s.ctx c.asid with | some x => x.ctxid.toNat | none => 0
  saveTag s.mgmt.bootKey (leBytes 4 ctxid ++ leBytes 8 gen ++ leBytes 8 ((b * c.quota.pages + k) * 4096)
    ++ s.imagePage b c k)
/-- Why a page cannot be used (R425, R426): an uncorrectable error (false), or a tag that does not verify (true). -/
def State.pageBad (s : State) (b : Nat) (c : BayCtx) (k : Nat) : Option Bool :=
  let m := s.image b c.asid
  if m.err.contains k then some false
  else if m.tags[k]? = some (s.imageTag b c m.gen k) then none
  else some true
/-- The first page of some that does not verify, and why. -/
def State.badPage (s : State) (b : Nat) (c : BayCtx) (ks : List Nat) : Option (Nat × Bool) :=
  ks.findSome? fun k => (s.pageBad b c k).map fun m => (k, m)
/-- The first page of an image that a restore refuses (R426). -/
def State.imageBad (s : State) (b : Nat) (c : BayCtx) : Option (Nat × Bool) := s.badPage b c (List.range c.quota.pages)
/-- The context's state on a bay, where it is saved off it (R423). -/
def State.saved (s : State) (b asid : Nat) : Option BayCtx :=
  (s.keyOf b asid).bind fun i => if i < 4 then none else s.bctx b i
/-- The pages that n bytes at an offset of an image touch. -/
def pagesOf (off n : Nat) : List Nat := (List.range ((off + n + 4095) / 4096 - off / 4096)).map (off / 4096 + ·)
/-- The eave stations of the stacks that hold pages of an image count an event at each (R423, R457; log entry 35). -/
def State.tallyPages (s : State) (b asid : Nat) (k : Tally) (pages : List Nat) : State :=
  pages.foldl (fun t p => t.tally (Config.poolStation (imageKey b asid) p % 32) k 1) s
/-- An event on n bytes of a context's state on a bay counts at the stations of its save image, where it is saved (R361, R457). -/
def State.tallySaved (s : State) (b asid off n : Nat) (k : Tally) : State :=
  if (s.saved b asid).isSome then s.tallyPages b asid k (pagesOf off n) else s
/-- An image failure ends its context with reason RESTORE: bay, page offset, error or mismatch, and GEN (R425, R426,
R432); an uncorrectable error is counted at its station (R457). -/
def State.endImage (s : State) (b asid k : Nat) (mismatch : Bool) : State :=
  (if mismatch then s else s.tallyPages b asid .uncorrectable [k]).endCtx asid .restore b
    (section_ 5 1 [toW b, toW (4096 * k), if mismatch then 2 else 1, toW (s.image b asid).gen])
/-- The tags of some pages are made anew over the data as it stands, and each of them counts as written (R424, R425, R457). -/
def State.sealPages (s : State) (b : Nat) (c : BayCtx) (ks : List Nat) : State :=
  let m := s.image b c.asid
  let tags := (List.range c.quota.pages).map fun k => if ks.contains k then s.imageTag b c m.gen k else m.tags.getD k 0
  { s with images := tset s.images (imageKey b c.asid) { m with tags := tags } }.tallyPages b c.asid .writes ks
/-- The pages ks of a saved context, whose state becomes d, are tagged anew, unless one that is found bad ends the context (R425). -/
def State.putPages (s t : State) (b asid : Nat) (d : BayCtx) (ks : List Nat) (bad : Option (Nat × Bool)) : State × Bool :=
  match bad with
  | some (k, m) => (s.endImage b asid k m, false)
  | none => (t.sealPages b d ks, true)
/-- A request's write to a context's state on a bay, given the states before and after it and the pages that it touches (R425): where
the context is saved off the bay, each of these pages and every other that the write changes is checked, and its tag made
anew.  False where a page does not verify: nothing is written, and the saved context ends. -/
def State.viaPages (s t : State) (b asid : Nat) (touched : List Nat) : State × Bool :=
  match s.saved b asid, (s.keyOf b asid).bind fun i => t.bctx b i with
  | some c, some d =>
    let ks := (List.range c.quota.pages).filter fun k => touched.contains k || decide (s.imagePage b c k ≠ t.imagePage b d k)
    s.putPages t b asid d ks (s.badPage b c ks)
  | _, _ => (t, true)
/-- The same for a change of what has no bytes of its own in an image. -/
def State.viaImage (s t : State) (b asid : Nat) : State × Bool := s.viaPages t b asid []
/-- A change to a context's state on a bay, as far as its save image takes it (R425). -/
def State.imaged (s t : State) (b asid : Nat) : State := (s.viaImage t b asid).1
/-- The check of pages of a save image that a request reads, each of which counts as read (R425, R457): true where it may be made. -/
def State.readPages (s : State) (b : Nat) (c : BayCtx) (ks : List Nat) : State × Bool :=
  match s.badPage b c ks with
  | some (k, m) => (s.endImage b c.asid k m, false)
  | none => (s.tallyPages b c.asid .reads ks, true)
/-- The check of a request's read of what an image holds beside scratchpad, weight buffer and tiles (R425; log entry 43 for the
layout): true where it may be made. -/
def State.mayReadRest (s : State) (b asid : Nat) : State × Bool :=
  match s.saved b asid with
  | none => (s, true)
  | some c =>
    let t := c.quota.scratch + c.quota.wbuf + 1024 * c.quota.tiles
    s.readPages b c ((List.range c.quota.pages).filter fun k => decide (t ≤ 4096 * k))
/-- The change of one fibre by name, wherever it is, as far as a save image takes it (R91, R425). -/
def State.modHome (s : State) (u : Nat) (f : Fibre → Fibre) : State :=
  match s.homeU u with
  | some (b, a) => s.imaged (s.modU u f) b a
  | none => s.modU u f
/-- The check of a request's read of n bytes of a context's state on a bay, at an offset of its image, which begins with the
scratchpad (R423, R425): true where it may be made. -/
def State.mayRead (s : State) (b asid off n : Nat) : State × Bool :=
  match s.saved b asid with
  | none => (s, true)
  | some c => s.readPages b c (pagesOf off n)
/-- Where the weight buffer begins in a context's image of a bay (R423). -/
def State.wbufStart (s : State) (b asid : Nat) : Nat :=
  match (s.keyOf b asid).bind fun i => s.bctx b i with | some c => c.quota.scratch | none => 0
/-- The write of bytes of a context's scratchpad or weight buffer on a bay, at an offset of its image, and in its save image where
the context is saved off the bay: every page that it touches is checked first, whether or not the write changes a byte of
it, and tagged anew (R139, R361, R425).  False where a page does not verify: nothing is written, and the saved context ends. -/
def State.putSaved (s : State) (b asid off key : Nat) (d : List Byte) : State × Bool :=
  s.viaPages (s.write key d) b asid (pagesOf off d.length)

end Sys2Proof.Machine
end

