-- ==== Sys2Proof/Machine/Reasons.lean ====
section
/-!
DEFINITION. The word at a fibre's PC (spec/02_encoding.md R38), why a fibre waits, and the FIBRE section of a record
(spec/07_barriers_gutters.md R239, spec/14_contexts.md R432).
-/
namespace Sys2Proof.Machine

/-- The key of an instruction-cache line: its ASID and address (R121). -/
def icKey (asid : Nat) (a : Word) : Nat := asid * 2 ^ 64 + a.toNat / 64 * 64
/-- The word of an instruction-cache line at an address (R38). -/
def lineWord (l : BitVec 512) (a : Word) : BitVec 32 := l.extractLsb' (a.toNat % 64 * 8) 32
/-- The word at a fibre's PC, where the bay's cache holds it (R121). -/
def State.fetch (s : State) (b asid : Nat) (pc : Word) : Option (BitVec 32) :=
  (tfind (s.bay b).icache (icKey asid pc)).map fun l => lineWord l pc
/-- The instruction issues only when the bay's divider is free (R93 item 5, R100). -/
def isDivision : Instr → Bool
  | .div .. | .divu .. | .rem .. | .remu .. => true
  | _ => false
/-- VTLD and VTST (R311). -/
def isRdvIns : Instr → Bool
  | .vtld .. | .vtst .. => true
  | _ => false
/-- The wait reason of a fibre in a slot (R239, R432): 0x09 too where the ring keeps it from a pending fault (R409, R412)
or from a taking point (R147). -/
def State.waitReason (s : State) (b asid : Nat) (c : BayCtx) (f : Fibre) : Nat :=
  let next := (s.fetch b asid f.pc).bind fun w => match decode w with | .ok i => some i | .error _ => none
  match f.wait with
  | .retry k => k
  | .entry _ _ _ _ => 9
  | .queued k =>
    if k = 0x12 ∧ c.mport.ents.length < 16 then
      (if next.any isRdvIns then 0x11 else k)
    else k
  | .ready =>
    if !f.pend.isEmpty && !f.hm && f.frame.isNone && !f.ring.isEmpty then 9
    else match next with
    | none => if (s.fetch b asid f.pc).isNone then 4 else 0
    | some i =>
      let l := (namedRegs i).filter f.isEmpty
      let divides := fun (d : GReg) => s.agenda.any fun t => match t.ev with
        | .divideComplete _ u e _ => u == f.uid && e == d
        | _ => false
      if l.any f.isFaulted then 9
      else if !l.isEmpty then (if l.all divides then 2 else 1)
      else if isDivision i && (s.bay b).divBusy then 3
      else 0
/-- A FIBRE section (R432 type 1). -/
def fibreSection (handle : Word) (code : Nat) (f : Fibre) : List Word :=
  section_ 1 2 [handle, f.pc, f.fstat, toW code, f.hpc, f.hcause, f.hval, f.hseq, toW f.pend.length,
    match f.pend with | p :: _ => p.gen.setWidth 64 | [] => 0]

end Sys2Proof.Machine
end

