-- ==== Sys2Proof/Machine/Sched.lean ====
section
/-!
DEFINITION. The operations that units share: placing fibres and the cellar (spec/06_scheduler.md R174 to R209),
semaphore posts (R195), command ports, tags and fault rings (spec/01_engines.md R13 to R24), and the delivery of engine
and cistern faults to a fibre or the fault fibre (spec/14_contexts.md R412 to R416).
-/
namespace Sys2Proof.Machine

/-! ### Fibre slots and the cellar -/

/-- The fault bay of a context (R415): the lowest bay of its partition that is not fenced and holds its state. -/
def State.faultBay (s : State) (asid : Nat) : Option Nat :=
  (s.bays.find? fun p => s.usable asid p.1).map Prod.fst
/-- The slot is the context's fault slot: the highest of its quota, on the fault bay (R415). -/
def State.isFaultSlot (s : State) (b i k : Nat) : Bool :=
  match s.bctx b i with
  | some c => s.faultBay c.asid == some b && k + 1 == c.quota.slots
  | none => false
/-- The slot is free: no fibre and no reservation (R174, R208). -/
def Slot.free (x : Slot) : Bool := x.fib.isNone && !x.resv
/-- The lowest free slot that a spawn, a restore or a migration may take (R174, R415). -/
def State.freeSlot (s : State) (b i : Nat) : Option Nat :=
  match s.bctx b i with
  | some c => (List.range c.quota.slots).find? fun k => (c.slot k).free && !s.isFaultSlot b i k
  | none => none
/-- Records of a bay's cellar area that are in use (R204). -/
def Cellar.used (c : Cellar) : Nat := c.ring.length + c.blocked.length
/-- The bay's cellar has a free record (R202). -/
def State.cellarRoom (s : State) (c : BayCtx) : Bool :=
  match s.ctx c.asid with
  | some x => decide (c.cellar.used < 2 ^ x.capK)
  | none => false
/-- A launch of the context is running (R186). -/
def State.launched (s : State) (asid : Nat) : Bool :=
  match s.ctx asid with
  | some c => c.launch.isSome
  | none => false
/-- Changes the context's live count (R184). -/
def State.addLive (s : State) (asid : Nat) (n : Nat) : State := s.modCtx asid fun c => { c with live := c.live + n }
/-- Lowers the context's live count (R184). -/
def State.subLive (s : State) (asid : Nat) (n : Nat) : State := s.modCtx asid fun c => { c with live := c.live - n }
/-- The acknowledgement of a spawn message leaves for the bay of its sender (R177). -/
def State.sendSpawnAck (s : State) (b asid sender : Nat) : State :=
  s.post (laneAck b (match s.homeU sender with | some (x, _) => x | none => b)) (.spawnAckArrival asid sender)
/-- Congestion follows the ring's depth (R209); acknowledgements held while congested are sent when it ends (R177). -/
def State.congest (s : State) (b i : Nat) : State :=
  match s.bctx b i with
  | none => s
  | some c =>
    match s.ctx c.asid with
    | none => s
    | some x =>
      let d := c.cellar.ring.length
      let cong := if x.high ≤ d then true else if d ≤ x.low then false else c.cellar.cong
      let s' := s.modC b i fun y => { y with cellar := { y.cellar with
        cong := cong, acks := if cong then y.cellar.acks else [] } }
      if cong then s' else c.cellar.acks.foldl (fun t u => t.sendSpawnAck b c.asid u) s'
/-- A free slot is reserved for the next head of a ring that is not empty (R208), once a launch runs (R186). -/
def State.reserve (s : State) (b i : Nat) : State :=
  match s.bctx b i with
  | none => s
  | some c =>
    if decide (c.cellar.order.length < c.cellar.ring.length) && decide (i < 4) && s.launched c.asid then
      match s.freeSlot b i with
      | some k =>
        (s.modC b i fun y => { (y.modSlot k fun z => { z with resv := true }) with
          cellar := { y.cellar with order := y.cellar.order ++ [k] } }).postFree (.cellarRestore b i)
      | none => s
    else s
/-- A fibre takes a slot (R87, R174); the four cycles between its issues hold for one that comes back to its bay (R93). -/
def State.occupy (s : State) (b i k : Nat) (f : Fibre) : State :=
  s.modC b i fun c => c.modSlot k fun x => { x with fib := some { f with w := 0, wait := .ready }, resv := false }
/-- The fibre that a record gives: a migrated or parked one as it is, a spawn request as R87 and R173 start it. -/
def State.fibreOf (s : State) (asid : Nat) (r : CRec) : Fibre :=
  match r with
  | .fib f => f
  | .spawn q =>
    let pri : BitVec 3 := if q.pri = 7 then
        match (s.ctx asid).bind fun c => c.targets.find? fun t => t.entry == q.entry with
        | some t => t.pri
        | none => 0
      else q.pri
    Fibre.start s.nextId q.entry q.arg pri
/-- Counts a fibre that starts for the running launch (R446). -/
def State.countSpawn (s : State) (asid : Nat) : State :=
  s.modCtx asid fun c => { c with launch := c.launch.map fun l => { l with spawned := l.spawned + 1 } }
/-- The lowest free record of a bay's area (R202, R204; log entry 13). -/
def Cellar.room (c : Cellar) : Nat :=
  ((List.range (c.used + 1)).find? fun k => !(c.ring.any fun p => p.1 == k) && !(c.blocked.any fun p => p.1 == k)).getD 0
/-- The access to a record of a bay's area (R202, R203): its translation, and for a read an uncorrectable error of its 512
bytes; a write covers them whole (R151).  The record's own layout is not architectural: it stands in the state, and the
bytes of the area do not change (log entry 13).  False where the access faults. -/
def State.cellarAccess (s : State) (b asid rec : Nat) (n : Need) : State × Bool :=
  match s.ctx asid with
  | none => (s, false)
  | some c =>
    match s.translateAt (homeStation b) asid (c.cellarVa + toW ((b * 2 ^ c.capK + rec) * 512)) n with
    | (.ok (.phys pa), t) =>
      match physKey pa with
      | none => (t, false)
      | some key =>
        if n = .write then ((t.write key (t.read key 512)).tallyKey key .writes, true)
        else match t.bad key 512 with
          | some o => (t.memError (key + o) asid, false)
          | none => (t.tallyKey key .reads, true)
    | (_, t) => (t, false)
/-- A cellar access that must succeed: a fault ends the context (R203). -/
def State.cellarOr (s : State) (b asid rec : Nat) (n : Need) (k : State → State) : State :=
  match s.cellarAccess b asid rec n with
  | (t, true) => k t
  | (t, false) => t.endCtx asid .cellar b []
/-- Placing a request (R174, R178, R186): in the lowest free slot, else as a record at the tail of the cellar ring; no
answer where the cellar has no free record.  With the state it gives the slot taken. -/
def State.place (s : State) (b i : Nat) (r : CRec) : Option (State × Option Nat) :=
  match s.bctx b i with
  | none => none
  | some c =>
    let run := s.launched c.asid
    match (if run && decide (i < 4) && c.cellar.ring.isEmpty then s.freeSlot b i else none) with
    | some k =>
      let s' := { (s.occupy b i k (s.fibreOf c.asid r)) with nextId := s.nextId + 1 }
      some ((match r with | .spawn _ => s'.countSpawn c.asid | .fib _ => s').addLive c.asid 1, some k)
    | none =>
      if s.cellarRoom c then
        some (s.cellarOr b c.asid c.cellar.room .write fun s =>
          let s' := s.modC b i fun y => { y with cellar := { y.cellar with ring := y.cellar.ring ++ [(c.cellar.room, r)] } }
          ((if run then s'.addLive c.asid 1 else s').congest b i).reserve b i, none)
      else none
/-- The acknowledgement of a placed message (R177): sent now, or held while the ring is congested. -/
def State.ackSpawn (s : State) (b i sender : Nat) : State :=
  match s.bctx b i with
  | none => s
  | some c =>
    if c.cellar.cong then
      s.modC b i fun y => { y with cellar := { y.cellar with acks := y.cellar.acks ++ [sender] } }
    else s.sendSpawnAck b c.asid sender
/-- Places a message that arrived, or holds it at the bay's input (R177). -/
def State.placeOrHold (s : State) (b i : Nat) (h : Held) : State :=
  match s.bctx b i with
  | none => s
  | some c =>
    if c.cellar.held.isEmpty then
      match s.place b i h.msg with
      | some (s', _) => s'.ackSpawn b i h.sender
      | none => s.modC b i fun y => { y with cellar := { y.cellar with held := [h] } }
    else s.modC b i fun y => { y with cellar := { y.cellar with held := y.cellar.held ++ [h] } }
/-- Places the messages held at the bay's input as records free (R177). -/
def State.placeHeld (s : State) (b i : Nat) : List Held → State
  | [] => s
  | h :: r =>
    match s.place b i h.msg with
    | some (s', _) =>
      State.placeHeld ((s'.modC b i fun y => { y with cellar := { y.cellar with held := r } }).ackSpawn b i h.sender) b i r
    | none => s
/-- A slot frees: its generation advances (R36), the fault fibre goes first (R415), then the ring's head (R208). -/
def State.vacate (s : State) (b i k : Nat) : State :=
  match s.bctx b i with
  | none => s
  | some c =>
    let s' := s.modC b i fun y => y.modSlot k fun x => { gen := x.gen + 1, fib := none, resv := false }
    let waits := match s.ctx c.asid with | some x => !x.backlog.isEmpty | none => false
    let leaves := match (c.slot k).fib with | some f => f.isFault | none => false
    (if (s.isFaultSlot b i k || leaves) && waits then s'.postFree (.faultFibreStart c.asid) else s').reserve b i

/-! ### Semaphores (R193 to R201) -/

/-- A semaphore of a context on a bay. -/
def BayCtx.sem (c : BayCtx) (n : Nat) : Sem := tget .init c.sems n
/-- The context with a semaphore changed. -/
def BayCtx.setSem (c : BayCtx) (n : Nat) (x : Sem) : BayCtx := { c with sems := tset c.sems n x }
/-- A wait that a post served completes (R195, R199, R207): the fibre is ready after its SWAIT; an evicted one becomes
a runnable record at the ring's tail. -/
def State.wake (s : State) (b i u : Nat) : State :=
  match s.bctx b i with
  | none => s
  | some c =>
    match c.cellar.blocked.find? fun p => p.2.uid == u with
    | some (k, f) =>
      ((s.modC b i fun y => { y with cellar := { y.cellar with
          blocked := y.cellar.blocked.filter fun x => x.2.uid != u
          ring := y.cellar.ring ++ [(k, .fib f.retire)] } }).congest b i).reserve b i
    | none => s.retireU u id
/-- Serves the head of a queue while VALUE allows (R195): what is left of VALUE and queue, and who is served. -/
def serveQ (v : Nat) : List (Nat × Nat) → Nat × List (Nat × Nat) × List Nat
  | [] => (v, [], [])
  | (u, n) :: r =>
    if n ≤ v then
      let (v', q, l) := serveQ (v - n) r
      (v', q, u :: l)
    else (v, (u, n) :: r, [])
/-- serve(s) of R195. -/
def State.serve (s : State) (b i n : Nat) : State :=
  match s.bctx b i with
  | none => s
  | some c =>
    let x := c.sem n
    let (v, q, l) := serveQ x.value.toNat x.queue
    l.foldl (fun t u => t.wake b i u) (s.modC b i fun y => y.setSem n { x with value := BitVec.ofNat 24 v, queue := q })
/-- post(s, n) of R195, with the wrap of R196; a context that is saved off the bay is served at its restore (R201). -/
def State.postSem (s : State) (b i n : Nat) (cnt : Nat) : State :=
  if n = 0 then s
  else
    match s.bctx b i with
    | none => s
    | some c =>
      let x := c.sem n
      let v := x.value.toNat + cnt
      let s' := ((s.modC b i fun y => y.setSem n { x with value := BitVec.ofNat 24 v, ovf := x.ovf || decide (2 ^ 24 ≤ v) }).bump
        b c.asid 12 1).pulse c.asid
      if i < 4 then s'.serve b i n else s'
/-- A post to a context by name, wherever the bay holds it; false where its save image refuses it (R201, R425). -/
def State.tryPost (s : State) (b asid n cnt : Nat) : State × Bool :=
  match s.keyOf b asid with
  | some i => s.viaImage (s.postSem b i n cnt) b asid
  | none => (s, true)
/-- A post to a context by name, wherever the bay holds it. -/
def State.postTo (s : State) (b asid n cnt : Nat) : State := (s.tryPost b asid n cnt).1

/-! ### Sequence counters, tags and fault rings (R19, R20, R417, R418) -/

/-- The ring of an engine: 0 vector, 1 matrix, 2 copy, 3 fabric endpoint (R20). -/
def BayCtx.ringOf (c : BayCtx) (e : Nat) : FRing :=
  if e = 0 then c.vring else if e = 1 then c.mring else if e = 2 then c.cring else c.fring
/-- The context with a ring changed. -/
def BayCtx.modRing (c : BayCtx) (e : Nat) (f : FRing → FRing) : BayCtx :=
  if e = 0 then { c with vring := f c.vring } else if e = 1 then { c with mring := f c.mring }
  else if e = 2 then { c with cring := f c.cring } else { c with fring := f c.fring }
/-- The next sequence number: 0 is skipped (R19). -/
def nextSeq (q : BitVec 32) : BitVec 32 := if q = BitVec.allOnes 32 then 1 else q + 1
/-- A command's tag (R20). -/
def mkTag (e i oBay oSlot : Nat) (q : BitVec 32) : Word :=
  toW (e * 2 ^ 53 + i % 4 * 2 ^ 51 + oBay * 2 ^ 40 + oSlot * 2 ^ 32 + q.toNat)
/-- The ring takes an accepted command at index SEQ mod 64 (R19, R20). -/
def FRing.accept (r : FRing) (tag : Word) : FRing :=
  let q := nextSeq r.seq
  { r with seq := q, rlast := q, ents := tset r.ents (q.toNat % 64) { FEnt.init with tag := tag, valid := true, st := 1 } }
/-- The entry of a sequence number, while the ring holds it (R20). -/
def FRing.entry (r : FRing) (q : BitVec 32) : Option FEnt :=
  match tfind r.ents (q.toNat % 64) with
  | some x => if x.valid && x.tag.setWidth 32 == q then some x else none
  | none => none
/-- Changes the entry of a sequence number, while the ring holds it. -/
def FRing.modEnt (r : FRing) (q : BitVec 32) (f : FEnt → FEnt) : FRing :=
  match r.entry q with
  | some x => { r with ents := tset r.ents (q.toNat % 64) (f x) }
  | none => r
/-- Changes a ring entry of a context on a bay. -/
def State.modEnt (s : State) (b i e : Nat) (q : BitVec 32) (f : FEnt → FEnt) : State :=
  s.modC b i fun c => c.modRing e fun r => r.modEnt q f
/-- RSTAT of an entry (R418). -/
def FEnt.stat (x : FEnt) : Word :=
  toW ((if x.valid then 2 ^ 63 else 0) + (if x.done then 2 ^ 62 else 0) + (if x.flt then 2 ^ 61 else 0)
    + (if x.pend then 2 ^ 60 else 0) + (if x.orph then 2 ^ 59 else 0) + x.sub.toNat * 2 ^ 8)

/-! ### Waits that a pending fault ends (R413) -/

/-- The queues of a bay without a fibre's place. -/
def BayCtx.forget (c : BayCtx) (u : Nat) : BayCtx :=
  let gut := fun (g : Gutter) => { g with pops := g.pops.filter (·.uid != u), pushes := g.pushes.filter (·.uid != u) }
  let port := fun (p : Port) => { p with wq := p.wq.filter fun x => x.remote || x.uid != u }
  { c with
    sems := tmap (fun x => { x with queue := x.queue.filter (·.1 != u) }) c.sems
    chans := tmap (fun x => { x with phWait := x.phWait.filter (· != u), arrWait := x.arrWait.filter fun a =>
      match a with | .barr v => v != u | .bsync v => v != u | .cistern _ _ => true }) c.chans
    east := gut c.east, west := gut c.west
    mport := port c.mport, cport := port c.cport, fport := port c.fport
    vbindq := c.vbindq.filter (· != u), vwaits := c.vwaits.filter (·.uid != u) }
/-- The wait is one that a fault's arrival ends (R413): SWAIT, a full port, a full vector queue, VBIND, BWAIT, BARR or
BSYNC before its arrival is counted, the gutters, FSPAWN and FSPAWNB, and a full access ring. -/
def Wait.abandonable : Wait → Bool
  | .queued c => c == 0x10 || (0x11 ≤ c && c ≤ 0x14) || c == 0x1A || c == 0x20 || c == 0x21 || (0x30 ≤ c && c ≤ 0x35)
  | .retry c => c == 0x18 || c == 0x08
  | .ready => false
  | .entry _ _ _ _ => false
/-- A blocked fibre whose list a fault has joined leaves its wait; its instruction leaves no trace, and those that waited
behind it at a gutter go on where they can (R413, R237). -/
def State.abandon (s : State) (p : Cur) (f : Fibre) : State :=
  if f.wait.abandonable then
    let asid := match s.bctx p.bay p.idx with | some c => c.asid | none => 0
    let t := s.imaged ((s.modC p.bay p.idx fun c => c.forget f.uid).modF p.bay p.idx p.slot fun x => { x with wait := .ready }) p.bay asid
    (t.gutters p.bay p.idx .east).gutters p.bay p.idx .west
  else s
/-- Every slot that holds a fibre or held one, with its bay and index. -/
def State.seats (s : State) : List Cur :=
  s.bays.flatMap fun p => p.2.ctxs.flatMap fun q => q.2.slots.map fun r => { bay := p.1, idx := q.1, slot := r.1 }
/-- The evicted fibre of a context on a bay, by name, with the place of its record. -/
def State.evicted (s : State) (b i u : Nat) : Option (Nat × Fibre) :=
  (s.bctx b i).bind fun c => c.cellar.blocked.find? fun p => p.2.uid == u
/-- An evicted fibre whose list a fault has joined leaves its SWAIT: its record becomes runnable at the ring's tail (R207,
R413, R415), and the SWAIT is issued again. -/
def State.abandonRec (s : State) (b i u : Nat) : State :=
  match s.bctx b i, s.evicted b i u with
  | some c, some (k, f) =>
    let t := s.imaged (s.modC b i fun y => { y.forget u with cellar := { y.cellar with
      blocked := y.cellar.blocked.filter fun x => x.2.uid != u
      ring := y.cellar.ring ++ [(k, .fib { f with wait := .ready })] } }) b c.asid
    (t.congest b i).reserve b i
  | _, _ => s
/-- Every evicted fibre, with its bay and key. -/
def State.allEvicted (s : State) : List (Nat × Nat × Nat) :=
  s.bays.flatMap fun p => p.2.ctxs.flatMap fun q => q.2.cellar.blocked.map fun r => (p.1, q.1, r.2.uid)
/-- Every blocked fibre leaves its wait where a fault has joined its list since an earlier state: this follows the fault's
completion post, so that a wait which the post completes is not left (R413). -/
def State.leaveWaits (s t : State) : State :=
  let s1 := s.seats.foldl (fun (x : State) p =>
    match x.fib p.bay p.idx p.slot, t.fib p.bay p.idx p.slot with
    | some f, some g => if g.pend.length < f.pend.length then x.abandon p f else x
    | _, _ => x) s
  s1.allEvicted.foldl (fun (x : State) (p : Nat × Nat × Nat) =>
    match x.evicted p.1 p.2.1 p.2.2, t.evicted p.1 p.2.1 p.2.2 with
    | some (_, f), some (_, g) => if g.pend.length < f.pend.length then x.abandonRec p.1 p.2.1 p.2.2 else x
    | _, _ => x) s1

/-! ### Delivery (R24, R412, R414 to R416) -/

/-- Marks the ring entry of a pending fault, while the ring still holds its command (R20, R418). -/
def State.markPend (s : State) (p : PFault) (f : FEnt → FEnt) : State :=
  match p.eng with
  | some (b, asid, x) =>
    match s.keyOf b asid with
    | some i => s.modEnt b i (x / 64) (p.hseq.setWidth 32) f
    | none => s
  | none => s
/-- The ASIDs of the fibres on their way between bays, with their names (R187). -/
def migrants : List Item → List (Nat × Nat)
  | [] => []
  | t :: r =>
    match t.ev with
    | .migrationArrival _ a u => (a, u) :: migrants r
    | _ => migrants r
/-- The fibres of a context on the package that are not on a fenced bay: in slots, cellars and on their way. -/
def State.fibresOf (s : State) (asid : Nat) : List Fibre :=
  let on := s.bays.flatMap fun p => if p.2.fenced then [] else
    (p.2.ctxs.filter fun q => q.2.asid == asid).flatMap fun q => q.2.fibres
  let way := migrants (s.agenda ++ s.bays.flatMap fun p => p.2.ctxs.flatMap fun q => q.2.park)
  on ++ s.mig.filterMap fun p => if way.contains (asid, p.1) then some p.2 else none
/-- The fault fibre of a context, where one exists (R415). -/
def State.faultFibre (s : State) (asid : Nat) : Option Fibre := (s.fibresOf asid).find? fun f => f.isFault
/-- Bay and key of the fault bay (R415). -/
def State.faultHome (s : State) (asid : Nat) : Option (Nat × Nat) :=
  (s.faultBay asid).bind fun b => (s.keyOf b asid).map fun i => (b, i)
/-- The context is active on its fault bay (R415). -/
def State.faultActive (s : State) (asid : Nat) : Bool :=
  match s.faultHome asid with
  | some (b, i) => s.activeAt b i
  | none => false
/-- The FIBRE section of the fault fibre (R416, R432).  One that is in no slot has no generation, and one on its way under FGO no bay or
slot either: the handle's fields are 0 there, with wait reasons 0x60 and 0x0B (DESIGN CHOICE, log entry 28). -/
def State.faultSection (s : State) (asid : Nat) : List Word :=
  match s.faultFibre asid with
  | none => []
  | some f =>
    match s.findU f.uid with
    | some (p, _) =>
      match s.bctx p.bay p.idx with
      | some c => fibreSection (s.handle p.bay p.slot (c.slot p.slot).gen) (s.waitReason p.bay asid c f) f
      | none => []
    | none =>
      match s.homeU f.uid with
      | some (b, _) => fibreSection (s.handle b 0 0) 0x60 f
      | none => fibreSection (s.handle 0 0 0) 0x0B f
/-- A fault joins the backlog of the fault fibre (R416); a full backlog ends the context. -/
def State.toBacklog (s : State) (asid : Nat) (p : PFault) : State :=
  match s.ctx asid with
  | none => s
  | some c =>
    if 4096 ≤ c.backlog.length then s.endCtx asid .faults 0x7FF (s.faultSection asid)
    else (s.modCtx asid fun x => { x with backlog := x.backlog ++ [p] }).postFree (.faultFibreStart asid)
/-- Where the fault fibre of a context would start now: bay, index and slot of the fault slot, where the slot is free and
the context is active there (R415). -/
def State.faultPlace (s : State) (asid : Nat) : Option (Nat × Nat × Nat) :=
  match s.faultHome asid with
  | some (b, i) =>
    match s.bctx b i with
    | some c =>
      let k := c.quota.slots - 1
      if s.activeAt b i && (c.slot k).free then some (b, i, k) else none
    | none => none
  | none => none
/-- The fault fibre starts in the fault slot: PC FENTRY, g1 0, priority 6, and in handler mode at once with the fault
(R415); it counts as a fibre started (R446). -/
def State.startFaultFibre (s : State) (asid b i k : Nat) (fentry : Word) (q : PFault) : State :=
  let f := { (Fibre.start s.nextId fentry 0 6) with isFault := true }
  let s1 := ({ (s.occupy b i k f) with nextId := s.nextId + 1 }.addLive asid 1 |>.countSpawn asid).markPend q fun e => { e with pend := false }
  s1.enterHandler { bay := b, idx := i, slot := k } f q.hcause q.hval q.hseq f.pc
/-- A fault for the fault fibre of a context that is active on the fault bay (R415): to its list, to the backlog, or with a
new fault fibre to its handler. -/
def State.giveFault (s : State) (asid : Nat) (q : PFault) : State :=
  match s.ctx asid with
  | none => s
  | some x =>
    match s.faultFibre asid with
    | some f =>
      if decide (f.pend.length < 16) && x.backlog.isEmpty then
        (s.markPend q fun e => { e with pend := true }).modU f.uid fun y => { y with pend := y.pend ++ [q] }
      else s.toBacklog asid q
    | none =>
      match s.faultPlace asid with
      | some (b, i, k) => if x.backlog.isEmpty then s.startFaultFibre asid b i k x.fentry q else s.toBacklog asid q
      | none => s.toBacklog asid q
/-- Where the fault fibre does not exist and the fault slot is free, it starts with the oldest fault of the backlog (R415). -/
def State.startFault (s : State) (asid : Nat) : State :=
  match s.faultFibre asid, s.ctx asid, s.faultPlace asid with
  | none, some x, some (b, i, k) =>
    (match x.backlog with
      | [] => s
      | q :: rest => (s.modCtx asid fun y => { y with backlog := rest }).startFaultFibre asid b i k x.fentry q)
  | _, _, _ => s
/-- The backlog holds what cannot join the fault fibre's list (R416): its oldest faults go into the list while that has room. -/
def State.fillFault (s : State) (asid : Nat) : State :=
  match s.faultFibre asid, s.ctx asid with
  | some f, some x =>
    let n := 16 - f.pend.length
    let s1 := s.modCtx asid fun y => { y with backlog := y.backlog.drop n }
    ((x.backlog.take n).foldl (fun t q => t.markPend q fun e => { e with pend := true }) s1).modU f.uid fun y =>
      { y with pend := y.pend ++ x.backlog.take n }
  | _, _ => s
/-- A fault for the fault fibre (R414, R415), which no list holds yet (R418): while the context is not active on the fault bay it waits at the slice, behind
those that wait there. -/
def State.toFaultFibre (s : State) (asid : Nat) (p : PFault) : State :=
  let q := { p with hcause := p.hcause ||| 0x4000000000000000#64 }
  let s := s.markPend q fun x => { x with orph := true, pend := false }
  match s.ctx asid with
  | none => s
  | some x =>
    if s.faultActive asid && x.slice.isEmpty then s.giveFault asid q
    else (s.modCtx asid fun y => { y with slice := y.slice ++ [q] }).postFree (.faultFibreStart asid)
/-- Marks an engine or cistern fault pending on its issuing fibre, if its slot still holds the generation at issue and
its list has room, and otherwise hands it to the fault fibre (R24, R412, R414). -/
def State.deliver (s : State) (asid oBay oSlot : Nat) (p : PFault) : State :=
  let alive := match (s.keyOf oBay asid).bind fun i => (s.bctx oBay i).map fun c => (i, c.slot oSlot) with
    | some (i, x) => if x.gen = p.gen then x.fib.map fun f => (i, f) else none
    | none => none
  match alive with
  | some (i, f) =>
    if f.pend.length < 16 then
      let t := s.markPend p fun x => { x with pend := true }
      t.imaged (t.modF oBay i oSlot fun x => { x with pend := x.pend ++ [p] }) oBay asid
    else s.toFaultFibre asid p
  | none => s.toFaultFibre asid p
/-- HCAUSE of an engine fault: ENGINE with the engine's cause in SUB (R407). -/
def engineCause (c : Cause) : Word := toW (causeCode c * 2 ^ 8 + causeCode .engine)

/-! ### Vector queues (R243, R247, R311) -/

/-- A vector context of the set. -/
def BayCtx.vctx (c : BayCtx) (v : Nat) : VCtx := tget .init c.vctxs v
/-- The context with a vector context changed. -/
def BayCtx.modV (c : BayCtx) (v : Nat) (f : VCtx → VCtx) : BayCtx := { c with vctxs := tset c.vctxs v (f (c.vctx v)) }
/-- The vector queue has a free entry (R243). -/
def BayCtx.vecRoom (c : BayCtx) (v : Nat) : Bool := decide ((c.vctx v).queue.length < 16)
/-- A vector context goes on with the head of its queue (R249): an entry is executed; a rendezvous takes place once the
matrix engine has begun its command (R311). -/
def State.vecNext (s : State) (b i v : Nat) : State :=
  match s.bctx b i with
  | none => s
  | some c =>
    match (c.vctx v).queue with
    | [] => s
    | e :: _ =>
      match e.kind with
      | .rdv q =>
        if (match c.mact with | some m => m.seq == q | none => false) then
          s.postFront (laneEng b i 1) (.rendezvousTransfer b i)
        else s
      | _ => s.post (laneVec b i v) (.vectorEntryExecute b i v)
/-- A VTLD or VTST, which the matrix port counts as its command (R311, R456; log entry 75). -/
def VEnt.isRdv (e : VEnt) : Bool := match e.kind with | .rdv _ => true | _ => false
/-- An entry is placed at the tail of a vector queue, with the next vector sequence number and its tag (R247, R19,
R20). -/
def State.placeVec (s : State) (b i v slot : Nat) (e : VEnt) : State :=
  match s.bctx b i with
  | none => s
  | some c =>
    let q := nextSeq c.vring.seq
    let tag := mkTag 0 i b slot q
    let e' := { e with seq := q, tag := tag, gen := (c.slot slot).gen }
    let s' := ((s.modC b i fun y =>
      { y.modV v fun x => { x with queue := x.queue ++ [e'] } with vring := y.vring.accept tag }).bump b c.asid 6
        (if e.isRdv then 0 else 1)).pulse c.asid
    if (c.vctx v).queue.isEmpty then s'.vecNext b i v else s'
/-- The lowest vector context of the set that no fibre holds (R244, R253). -/
def BayCtx.freeV (c : BayCtx) : Option Nat := (List.range c.quota.vctxs).find? fun v => (c.vctx v).owner.isNone
/-- A free vector context goes to the fibre that waited longest in VBIND, cleared (R253, R243). -/
def State.serveBind (s : State) (b i : Nat) : State :=
  match s.bctx b i with
  | none => s
  | some c =>
    match c.vbindq, c.freeV with
    | u :: r, some v =>
      (s.modC b i fun y => { y.modV v fun _ => { VCtx.init with owner := some u } with vbindq := r }).retireU u fun f =>
        { f with vctx := some v }
    | _, _ => s
/-- A vector context becomes free (R253, R183). -/
def State.freeVec (s : State) (b i v : Nat) : State :=
  (s.modC b i fun y => y.modV v fun _ => .init).serveBind b i

/-! ### Command ports (R13 to R18, R21, R24) -/

/-- A port: 1 matrix, 2 copy, 3 fabric endpoint. -/
def BayCtx.portOf (c : BayCtx) (e : Nat) : Port := if e = 1 then c.mport else if e = 2 then c.cport else c.fport
/-- The context with a port changed. -/
def BayCtx.modPort (c : BayCtx) (e : Nat) (f : Port → Port) : BayCtx :=
  if e = 1 then { c with mport := f c.mport } else if e = 2 then { c with cport := f c.cport }
  else { c with fport := f c.fport }
/-- A descriptor form: the port reads its 64-byte descriptor at acceptance (R270, R364). -/
def Cmd.reads (c : Cmd) : Bool :=
  match c.op with
  | .cpy .. | .cpym .. | .cpyt .. | .rput .. | .rget .. | .ramo .. | .rspawn .. | .crd .. | .crdg .. => true
  | _ => false
/-- VTLD and VTST, whose `x` is the vector context of their fibre (R311). -/
def Cmd.isRdv (c : Cmd) : Bool :=
  match c.op with
  | .vtld .. | .vtst .. => true
  | _ => false
/-- A queue entry of one instruction. -/
def VEnt.one (k : VKind) (i : VIns) : VEnt :=
  { kind := k, ins := [i], count := 1, sd := 0, sa := 0, sb := 0, seq := 0, tag := 0, gen := 0 }
/-- The engine begins its next command. -/
def beginEv (e b i : Nat) : Ev :=
  if e = 1 then .matrixCommandBegin b i else if e = 2 then .copyCommandBegin b i else .fabricCommandBegin b i
/-- Acceptance of a command at a port (R14, R19, R20, R270): sequence number and tag, the descriptor as it stands, the
entry, and the command on its way to the engine; an RSPAWN counts as live from here on (R370); a descriptor read that
meets poison answers with its address. -/
def State.accept (s : State) (b i e : Nat) (m : Cmd) : Except Word (State × BitVec 32) :=
  match s.bctx b i with
  | none => .error 0
  | some c =>
    let key := spadKey c.asid b m.x.toNat
    match (if m.reads then s.bad key 64 else none) with
    | some o => .error (m.x + toW o)
    | none =>
      let q := nextSeq (c.ringOf e).seq
      let tag := mkTag e i m.oBay m.oSlot q
      let m' := { m with seq := q, tag := tag, desc := if m.reads then s.readDs key 8 else m.desc }
      let s' := (((s.modC b i fun y => (y.modRing e fun r => r.accept tag).modPort e fun p =>
        { p with ents := p.ents ++ [m'] }).bump b c.asid 6 1).pulse c.asid).post (laneEng b i e) (beginEv e b i)
      let s' := match m.op with
        | .crdg .. => s'.modEnt b i e q fun x => { x with grp := true }
        | _ => s'
      let s' := match m.op with | .rspawn .. => s'.addLive c.asid 1 | _ => s'
      .ok (if m.isRdv then s'.placeVec b i m.x.toNat m.oSlot (VEnt.one (.rdv q) { op := m.op, x := 0, y := 0 }) else s', q)
/-- There is room for a command (R14): in the port, and for VTLD and VTST in the vector queue too (R311). -/
def BayCtx.cmdRoom (c : BayCtx) (e : Nat) (m : Cmd) : Bool :=
  decide ((c.portOf e).ents.length < 16) && (!m.isRdv || c.vecRoom m.x.toNat)
/-- The message of a remote command, as its acknowledgement names it (R321). -/
def Cmd.toMsg (m : Cmd) (target asid : Nat) : MrMsg :=
  { target := target, asid := asid, key := 0, word := 0, opA := 0, opB := 0, sem := m.sem, oBay := m.oBay,
    oSlot := m.oSlot, oGen := m.gen, uid := m.uid }
/-- A freed entry goes to the head waiter, first in first out (R15, R16): its command is accepted and its instruction
retires; one whose descriptor read fails takes the fault and the entry passes on (R270). -/
def State.acceptWaiters (s : State) (b i e : Nat) : List Cmd → State
  | [] => s
  | m :: r =>
    match s.bctx b i with
    | none => s
    | some c =>
      if !c.cmdRoom e m then s
      else
        let s' := s.modC b i fun y => y.modPort e fun p => { p with wq := p.wq.drop 1 }
        match s'.accept b i e m with
        | .ok (t, _) =>
          State.acceptWaiters (if m.remote then
              t.post (laneMesh b m.oBay) (.mrcmdAckArrival (m.toMsg b c.asid) 0)
            else t.retireU m.uid id) b i e r
        | .error a =>
          let s' := s'.memError (spadKey c.asid b a.toNat) c.asid
          match s'.findU m.uid with
          | some (p, f) => State.acceptWaiters (s'.enterHandler p f (causeWord .memerr) a 0 f.pc) b i e r
          | none => State.acceptWaiters s' b i e r
/-- The engine takes its next command, which frees the entry (R14, R15). -/
def State.takeCmd (s : State) (b i e : Nat) : Option (Cmd × State) :=
  match s.bctx b i with
  | none => none
  | some c =>
    match (c.portOf e).ents with
    | [] => none
    | m :: r =>
      let s' := (s.modC b i fun y => (y.modPort e fun p => { p with ents := r }).modRing e fun x =>
        x.modEnt m.seq fun z => { z with st := 2 }).pulse c.asid
      some (m, s'.acceptWaiters b i e (c.portOf e).wq)
/-- A command instruction at its port (R14, R15, R18): accepted, or the fibre joins the port's queue; the T form never
waits and gives its register the sequence number or 0. -/
def submit (e : Nat) (m : Cmd) (t : Option GReg) (c : BayCtx) (s : State) : Res :=
  let p := c.portOf e
  if c.cmdRoom e m ∧ p.wq = [] then
    match s.accept s.cur.bay s.cur.idx e m with
    | .ok (s', q) => .done (match t with | some d => s'.modCur fun x => x.setReg d (q.setWidth 64) | none => s')
    | .error a =>
      .enter (s.memError (spadKey c.asid s.cur.bay a.toNat) c.asid) .memerr a ((s.curF.map Fibre.pc).getD 0)
  else
    match t with
    | some d => .done (s.modCur fun x => x.setReg d 0)
    | none => .stay ((s.modCurC fun y => y.modPort e fun x => { x with wq := x.wq ++ [m] }).modCur fun x =>
        x.block (.queued (0x11 + e)) (s.bay s.cur.bay).cycle)
/-- A command of the issuing fibre, before it is accepted (R20). -/
def State.mkCmd (s : State) (c : BayCtx) (f : Fibre) (op : Instr) (x y : Word) (sem : Nat) (ord : MemOrd) (scope : Scope) :
    Cmd :=
  { op := op, x := x, y := y, desc := [], sem := sem, ord := ord, scope := scope, seq := 0, tag := 0,
    gen := (c.slot s.cur.slot).gen, uid := f.uid, oBay := s.cur.bay, oSlot := s.cur.slot, remote := false,
    after := f.ring.map Access.rid, issued := s.tick }
/-- A command has performed all its effects: its ring entry is done and its semaphore is posted (R21), unless its posts are
made already (R287). -/
def State.completeCmd (s : State) (b asid e : Nat) (m : Cmd) (cnt : Nat) : State :=
  match s.keyOf b asid with
  | some i =>
    let t := (s.modEnt b i e m.seq fun x => { x with done := true, st := 3 }).pulse asid
    if cnt = 0 then t else t.postTo m.oBay asid m.sem cnt
  | none => s
/-- A completion post toward the issuing bay: at once on the command's own bay, over the mesh to another (R21, R322). -/
def State.sendPost (s : State) (b asid : Nat) (m : Cmd) (cnt : Nat) : State :=
  if m.oBay = b then s.postTo b asid m.sem cnt else s.post (laneMesh b m.oBay) (.meshPostArrival m.oBay asid m.sem cnt none)
/-- An engine fault at the issuing bay (R24): it is delivered, then its completion post is applied, and a wait that the post
did not complete is left (R413). -/
def State.faultPost (s : State) (asid oBay oSlot sem cnt : Nat) (p : PFault) : State :=
  ((s.deliver asid oBay oSlot p).postTo oBay asid sem cnt).leaveWaits s
/-- A command ends in an engine fault (R24): the fault ring, then the delivery and the completion post, at once on the
command's own bay, and behind its earlier posts over the mesh to another (R10, R22, R322). -/
def State.failCmd (s : State) (b asid e : Nat) (m : Cmd) (c : Cause) (v aux : Word) (cnt : Nat) : State :=
  let s1 := match s.keyOf b asid with
    | some i => s.modEnt b i e m.seq fun x =>
        { x with done := true, flt := true, sub := BitVec.ofNat 8 (causeCode c), val := v, aux := aux, st := 3 }
    | none => s
  let p : PFault :=
    { hcause := engineCause c, hval := v, hseq := m.tag, gen := m.gen,
      eng := some (b, asid, e * 64 + m.seq.toNat % 64) }
  if m.oBay = b then (s1.pulse asid).faultPost asid b m.oSlot m.sem cnt p
  else (s1.pulse asid).post (laneMesh b m.oBay) (.meshPostArrival m.oBay asid m.sem cnt (some (m.oSlot, p)))

/-- Every access that the issuing fibre had in its ring at the command's issue has been accepted (R23, R162). -/
def State.settled (s : State) (m : Cmd) : Bool :=
  match s.fibres.find? fun f => f.uid == m.uid with
  | some f => m.after.all fun r => f.ring.all fun a => a.rid != r
  | none => true

end Sys2Proof.Machine
end

