-- ==== Sys2Proof/Machine/Packets.lean ====
section
/-!
DEFINITION. Fabric packets (spec/11_fabric.md R334 to R336) and the sender's end of a stream (spec/12_fabric_engine.md
R351, R352, R354, R355, R357).
-/
namespace Sys2Proof.Machine

/-- One bit step of CRC-32C, reflected. -/
def crcBit (c : BitVec 32) : BitVec 32 := if c.getLsbD 0 then (c >>> 1) ^^^ 0x82F63B78#32 else c >>> 1
/-- One byte of CRC-32C. -/
def crcByte (c : BitVec 32) (b : Byte) : BitVec 32 :=
  crcBit (crcBit (crcBit (crcBit (crcBit (crcBit (crcBit (crcBit (c ^^^ b.setWidth 32))))))))
/-- CRC-32C of bytes (R334 E2E; log entry 11). -/
def crc32c (l : List Byte) : BitVec 32 := ~~~(l.foldl crcByte (BitVec.allOnes 32))
end Sys2Proof.Machine

namespace Sys2Proof
open Machine

/-! ### Header fields (R334) -/

/-- Bits hi to lo of a header as a number. -/
def Packet.field (p : Packet) (hi lo : Nat) : Nat := (p.hdr.toNat >>> lo) % 2 ^ (hi + 1 - lo)
/-- DST, the target package. -/
def Packet.dst (p : Packet) : Nat := p.field 21 0
/-- SRC, the sending package. -/
def Packet.src (p : Packet) : Nat := p.field 43 22
/-- OPC. -/
def Packet.opc (p : Packet) : Nat := p.field 51 44
/-- LEN, payload flits. -/
def Packet.len (p : Packet) : Nat := p.field 55 52
/-- CLS. -/
def Packet.cls (p : Packet) : Nat := p.field 57 56
/-- DET. -/
def Packet.det (p : Packet) : Bool := p.field 58 58 == 1
/-- SEQ. -/
def Packet.seq (p : Packet) : BitVec 32 := p.hdr.extractLsb' 64 32
/-- REL of RCNT (R354). -/
def Packet.rel (p : Packet) : Bool := p.field 127 127 == 1
/-- CNT of RCNT (R354). -/
def Packet.cnt (p : Packet) : BitVec 31 := p.hdr.extractLsb' 96 31
/-- RQCHIP. -/
def Packet.rqchip (p : Packet) : Nat := p.field 149 128
/-- JOB. -/
def Packet.job (p : Packet) : BitVec 24 := p.hdr.extractLsb' 150 24
/-- ASID. -/
def Packet.asid (p : Packet) : Nat := p.field 189 174
/-- ADDR. -/
def Packet.addr (p : Packet) : Word := p.hdr.extractLsb' 192 64
/-- Operand doubleword 0. -/
def Packet.o0 (p : Packet) : Word := p.hdr.extractLsb' 256 64
/-- Operand doubleword 1. -/
def Packet.o1 (p : Packet) : Word := p.hdr.extractLsb' 320 64
/-- Operand doubleword 2. -/
def Packet.o2 (p : Packet) : Word := p.hdr.extractLsb' 384 64
/-- DEP (R355). -/
def Packet.dep (p : Packet) : BitVec 32 := p.o0.setWidth 32
/-- The byte count of a packet that carries or asks for bytes (R362). -/
def Packet.count (p : Packet) : Nat := p.field 296 288 + 1

/-- The header without E2E, and without DET, which a switch sets on the way (log entry 11). -/
def Packet.bare (p : Packet) : Nat :=
  p.hdr.toNat % 2 ^ 58 + p.hdr.toNat / 2 ^ 59 % 2 ^ 389 * 2 ^ 59 + p.hdr.toNat / 2 ^ 480 * 2 ^ 480
/-- The end-to-end check of a packet (R334). -/
def Packet.check (p : Packet) : BitVec 32 := crc32c (leBytes 64 p.bare ++ p.payload)
/-- The E2E check holds (R336). -/
def Packet.intact (p : Packet) : Bool :=
  p.hdr.extractLsb' 448 32 == p.check && p.payload.length == 64 * p.len
/-- The packet with its check set by the source endpoint (R334). -/
def Packet.seal (p : Packet) : Packet :=
  { p with hdr := BitVec.ofNat 512 (p.hdr.toNat % 2 ^ 448 + p.check.toNat * 2 ^ 448 + p.hdr.toNat / 2 ^ 480 * 2 ^ 480) }

end Sys2Proof

namespace Sys2Proof.Machine

/-- The class of an opcode (R335); none where the code is not listed. -/
def clsOf (opc : Nat) : Option Nat :=
  if opc = 1 ∨ opc = 2 ∨ opc = 3 ∨ opc = 5 ∨ opc = 6 ∨ opc = 8 ∨ opc = 9 ∨ opc = 10 ∨ opc = 11 ∨ opc = 0x10 ∨ opc = 0x11
  then some 0
  else if opc = 4 ∨ opc = 7 ∨ opc = 0x12 then some 1
  else if opc = 0x13 ∨ opc = 0x20 ∨ opc = 0x21 ∨ opc = 0x30 ∨ opc = 0x31 ∨ opc = 0x32 ∨ opc = 0x38 then some 2
  else none
/-- The opcode is a write packet (R352). -/
def isWriteOpc (opc : Nat) : Bool :=
  opc == 1 || opc == 2 || opc == 6 || opc == 10 || opc == 11 || opc == 0x11
/-- The opcode accesses target memory, and carries DEP (R355). -/
def hasDep (opc : Nat) : Bool := isWriteOpc opc || opc == 3 || opc == 9
/-- The opcode is sequenced (R352). -/
def isSequenced (opc : Nat) : Bool := match clsOf opc with | some 0 => true | some 1 => true | _ => false
/-- Payload bytes filled up to whole flits (R334). -/
def padFlits (l : List Byte) : List Byte := l ++ List.replicate ((64 - l.length % 64) % 64) 0

/-- Who asks, as the endpoint stamps it (R334). -/
structure Who where
  rqchip : Nat
  job : BitVec 24
  asid : Nat
  deriving DecidableEq, Repr
/-- The requester of a packet. -/
def requester (p : Packet) : Who := { rqchip := p.rqchip, job := p.job, asid := p.asid }
/-- A context of this package as requester (R334). -/
def State.whoOf (s : State) (asid : Nat) : Who :=
  { rqchip := s.chip.toNat, job := (match s.ctx asid with | some c => c.job | none => 0), asid := asid }
/-- A packet before its sequence number and check (R334, R335). -/
def State.packet (s : State) (dst opc : Nat) (w : Who) (rcnt : Nat) (addr o0 o1 o2 : Word) (data : List Byte) : Packet :=
  let d := padFlits data
  { hdr := BitVec.ofNat 512 (dst % 2 ^ 22 + s.chip.toNat * 2 ^ 22 + opc * 2 ^ 44 + d.length / 64 * 2 ^ 52
      + (clsOf opc).getD 0 * 2 ^ 56 + rcnt % 2 ^ 32 * 2 ^ 96 + w.rqchip % 2 ^ 22 * 2 ^ 128 + w.job.toNat * 2 ^ 150
      + w.asid % 2 ^ 16 * 2 ^ 174 + addr.toNat * 2 ^ 192 + o0.toNat * 2 ^ 256 + o1.toNat * 2 ^ 320 + o2.toNat * 2 ^ 384)
    payload := d }
/-- The packet with its sequence number, and DEP where it carries one (R352, R355). -/
def stampSeq (p : Packet) (q dep : BitVec 32) : Packet :=
  { p with hdr := BitVec.ofNat 512 (p.hdr.toNat + q.toNat * 2 ^ 64 + (if hasDep p.opc then dep.toNat * 2 ^ 256 else 0)) }
/-- The switch at which a bay's packets enter (R331): that of IO die 0 for dies 0, 1, 4 and 5, that of IO die 1 for the
others; what no bay sends enters at IO die 0 (log entry 24). -/
def switchOf (b : Nat) : Nat := if b < 1536 ∧ 2 ≤ b / 192 % 4 then 1 else 0
/-- A packet enters a switch of the package on its way (R338, R342); one of this package shows that its context makes
progress (R428). -/
def State.emitAt (s : State) (sw : Nat) (p : Packet) : State :=
  (if p.src = s.chip.toNat ∧ p.opc ≠ 0x38 then s.pulse p.asid else s).postFree (.packetForward p { sw := sw, inp := none })
/-- A packet that no bay sends enters the package's switch. -/
def State.emit (s : State) (p : Packet) : State := s.emitAt 0 p
/-- A control packet: sequence number 0, never sent again (R352). -/
def State.control (s : State) (dst opc : Nat) (w : Who) (addr o0 o1 o2 : Word) : State :=
  s.emit (s.packet dst opc w 0 addr o0 o1 o2 []).seal

/-! ### The sender (R351, R352, R355, R357) -/

/-- The sender's end toward a chip. -/
def State.sender (s : State) (t : Nat) : Sender := tget .init s.senders t
/-- The state with a sender's end changed. -/
def State.modSender (s : State) (t : Nat) (f : Sender → Sender) : State :=
  { s with senders := tset s.senders t (f (s.sender t)) }
/-- Changes an active fabric command (R364). -/
def State.modAct (s : State) (b asid : Nat) (q : BitVec 32) (f : FabAct → FabAct) : State :=
  match s.keyOf b asid with
  | some i => s.modC b i fun c => { c with facts := c.facts.map fun a => if a.cmd.seq = q then f a else a }
  | none => s
/-- The free choice that comes next. -/
def State.freeNat (s : State) : Nat := (Config.freeWord s.free).toNat
/-- One free choice more is used up. -/
def State.spend (s : State) : State := { s with free := s.free + 1 }
/-- The bay whose packet it is; 0 for what no bay sends. -/
def State.bayOfOwn (s : State) : Own → Nat
  | .cmd b _ _ => b
  | .copy b _ _ => b
  | .acc u _ _ _ => match s.homeU u with | some (b, _) => b | none => 0
  | .cons _ => 0
  | .resp _ _ => 0
  | .report => 0
  | .none => 0
/-- The time of the package's time base, in nanoseconds. -/
def State.now (s : State) : Nat := s.time.count.toNat
/-- The 64-byte lines of the target that n bytes at a pointer touch (R355). -/
def linesOf (addr : Word) (n : Nat) : List Nat :=
  (List.range ((addr.toNat + n + 63) / 64 - addr.toNat / 64)).map (addr.toNat / 64 + ·)
/-- DEP of R355: the latest earlier unacknowledged packet that shares a line, one of the two being a write. -/
def depOf (q : BitVec 32) (x : Sent) : List (BitVec 32 × Sent) → BitVec 32
  | [] => q
  | (q', y) :: r =>
    let d := depOf q x r
    if d = q ∧ (x.write || y.write) = true ∧ (x.lines.any fun l => y.lines.contains l) = true then q' else d
/-- The token of a request that an answer will name (R362). -/
def tokenOf (p : Packet) : Option Nat :=
  match p.opc with
  | 3 => some p.o1.toNat
  | 9 => some p.o1.toNat
  | 6 => if bits p.o0 36 32 < 16 then some (bits p.o0 63 40) else none
  | 11 => if bits p.o0 36 32 < 16 then some (bits p.o0 63 40) else none
  | _ => none
/-- The particulars of a request that has gone out stand with its token (R381 item 4). -/
def State.noteAsked (s : State) (p : Packet) : State :=
  match tokenOf p with
  | some k => { s with toks := tmod (fun a => { a with opc := p.opc, seq := p.seq, addr := p.addr }) s.toks k }
  | none => s
/-- Sends a sequenced packet: SEQ, DEP, WSENT, the unacknowledged list and its timers (R351 to R355, R353, R383); a request
whose response it is may now be answered (R356). -/
def State.sendNow (s : State) (t : Nat) (x : Sent) : State :=
  let e := s.sender t
  let q := e.nseq
  let p := (stampSeq x.pkt q (depOf q x e.unack)).seal
  let y := { x with pkt := p, first := s.now, last := s.now }
  let s1 := s.modSender t fun z => { z with
    nseq := q + 1, wsent := if x.write then z.wsent + 1 else z.wsent, unack := z.unack ++ [(q, y)] }
  let s2 := match x.own with
    | .cmd b asid c => s1.modAct b asid c fun a => { a with
        unsent := a.unsent - 1, sent := a.sent ++ [(t, q.toNat)], seqs := a.seqs ++ [(t, q, p.opc)] }
    | .resp c r =>
      match tfind (tget Receiver.init s1.receivers c).win r.toNat with
      | some (.performed _) => s1.postFree (.heldPacketPerform c r.toNat)
      | _ => s1
    | _ => s1
  let s3 := if s2.agenda.any fun i => i.ev == .streamTimeout t then s2 else s2.postFree (.streamTimeout t)
  ((s3.noteAsked p).postFree (.retransmissionTimeout t q.toNat)).emitAt (switchOf (s.bayOfOwn x.own)) p
/-- Sends what waits at the sender, while it may have more unacknowledged packets (R352). -/
def State.drain (s : State) (t : Nat) : List Sent → State
  | [] => s.modSender t fun z => { z with waiting := [] }
  | x :: r =>
    if 1024 ≤ (s.sender t).unack.length then s.modSender t fun z => { z with waiting := x :: r }
    else State.drain (s.sendNow t x) t r
/-- A sequenced packet goes out on its stream, or waits: for a state that is not active (R357), a resynchronisation
(R383), or room in the list (R352). -/
def State.sendSeq (s : State) (t : Nat) (x : Sent) : State :=
  let e := s.sender t
  if !e.resident then
    let s1 := s.modSender t fun z => { z with waiting := z.waiting ++ [x] }
    if s1.agenda.any fun i => i.ev == .streamStateFetchComplete t true then s1
    else s1.postFree (.streamStateFetchComplete t true)
  else if e.torn || !e.waiting.isEmpty || decide (1024 ≤ e.unack.length) then
    s.modSender t fun z => { z with waiting := z.waiting ++ [x] }
  else s.sendNow t x
/-- A sender's end that may be evicted (R357). -/
def Sender.idle (e : Sender) : Bool := e.resident && e.unack.isEmpty && e.waiting.isEmpty
/-- A target's end that may be evicted: it holds no packet (R357). -/
def Receiver.idle (r : Receiver) : Bool :=
  r.resident && r.win.all fun x => match x.2 with | .held _ => false | .performed _ => false | _ => true
/-- The ends of streams that are active in the endpoint (R357). -/
def State.activeEnds (s : State) : Nat :=
  (s.senders.filter fun p => p.2.resident).length + (s.receivers.filter fun p => p.2.resident).length
/-- The ends that may be evicted, each with its chip. -/
def State.idleEnds (s : State) : List (Nat × Bool) :=
  ((s.senders.filter fun p => p.2.idle).map fun p => (p.1, true)) ++ (s.receivers.filter fun p => p.2.idle).map fun p => (p.1, false)
/-- Room for one more active end: fewer than 4,096 are active, or a free one of those that may be is evicted (R357). -/
def State.makeRoom (s : State) : Option State :=
  if s.activeEnds < 4096 then some s
  else
    (s.idleEnds[s.freeNat % s.idleEnds.length]?).map fun x =>
      if x.2 then { s.spend with senders := tset s.senders x.1 { s.sender x.1 with resident := false } }
      else { s.spend with receivers := tset s.receivers x.1 { tget Receiver.init s.receivers x.1 with resident := false } }
/-- A packet that is to be sequenced. -/
def State.toSend (s : State) (own : Own) (uid : Nat) (lines : List Nat) (p : Packet) : Sent :=
  { pkt := p, own := own, uid := uid, write := isWriteOpc p.opc, lines := lines, first := s.now, last := s.now }
/-- RCNT of a fibre's remote accesses toward a chip, after its latest release (R372). -/
def Fibre.rcnt (f : Fibre) (t : Nat) : Nat :=
  match tfind f.relMark t with
  | some m => 2 ^ 31 + m.toNat
  | none => 0

/-- The chip that a fabric command writes to (R365, R368). -/
def Cmd.chip (m : Cmd) : Nat :=
  match m.op with
  | .rputi .. => bits m.x 63 42
  | .rsig .. => bits m.x 63 42
  | _ => bits (m.desc.getD 0 0) 63 42
/-- The command is one that FLUSH waits for (R373). -/
def Cmd.flushed (m : Cmd) : Bool :=
  match m.op with
  | .rput .. | .rputi .. | .rsig .. | .ramo .. => true
  | _ => false
/-- The chips that a fabric command writes to: an RPUT's signal may go to a second one (R367, R373). -/
def Cmd.chips (m : Cmd) : List Nat :=
  match m.op with
  | .rput .. => m.chip :: (if (m.desc.getD 2 0).getLsbD 27 then [bits (m.desc.getD 3 0) 63 42] else [])
  | _ => [m.chip]
/-- What `next` of a begun command comes to once every packet but a signal is made: its bytes, or one packet (R367 to R370,
R375). -/
def Cmd.pieces (m : Cmd) : Nat :=
  match m.op with
  | .rput .. => bits (m.desc.getD 2 0) 23 0 + 1
  | .rget .. => bits (m.desc.getD 2 0) 23 0 + 1
  | _ => 1
/-- The chips to which a begun command still has a packet to make (R367, R384). -/
def FabAct.toCome (a : FabAct) : List Nat :=
  if a.next < a.cmd.pieces then a.cmd.chips else match a.sig with | some h => [bits h 63 42] | none => []
/-- A remote write of a fibre, toward a chip or any, is not acknowledged yet: a packet, or a command begun or still in a
port (R373, R183). -/
def State.remoteWrites (s : State) (u : Nat) (chip : Option Nat) : Bool :=
  let at_ := fun t => match chip with | some c => c == t | none => true
  let mine := fun (m : Cmd) (l : List Nat) => m.uid == u && m.flushed && l.any at_
  (s.senders.any fun p => at_ p.1 &&
    ((p.2.unack.map Prod.snd ++ p.2.waiting).any fun x => x.uid == u && (x.write || x.pkt.opc == 5)))
  || s.bays.any fun p => p.2.ctxs.any fun q =>
    (q.2.fport.ents.any fun m => mine m m.chips) || q.2.facts.any fun a => mine a.cmd a.toCome

/-- An access in a ring. -/
def State.access (s : State) (u rid : Nat) : Option Access :=
  (s.fibres.find? fun f => f.uid == u).bind fun f => f.ring.find? fun a => a.rid == rid

/-- A write packet of a fibre's stores, or of its fabric commands issued before a step, is not sent yet, on whichever bay
they are (R372). -/
def State.unsent (s : State) (u before : Nat) : Bool :=
  let mine := fun (m : Cmd) => m.uid == u && m.flushed && decide (m.issued < before)
  (s.senders.any fun p => p.2.waiting.any fun x => x.uid == u && x.write)
  || s.bays.any fun p => p.2.ctxs.any fun q =>
    q.2.fport.ents.any mine || q.2.facts.any fun a => mine a.cmd && (a.unsent != 0 || !a.toCome.isEmpty)
/-- A remote-page store or no-return atomic of a fibre is not placed yet (R153, R165). -/
def State.remoteStores (s : State) (u : Nat) : Bool :=
  s.senders.any fun p => (p.2.unack.map Prod.snd ++ p.2.waiting).any fun x =>
    x.uid == u && x.write && (match x.own with | .acc _ _ _ _ => true | _ => false)
/-- What holds a release component back: the fibre's earlier accesses, and its commands' writes that are not sent (R162,
R372). -/
def State.releaseWaits (s : State) (r : MemOrd) (p : Scope) (f : Fibre) : Bool :=
  relWaits r p f || (hasRel r && s.unsent f.uid (s.tick + 1))
/-- A release component holds its instruction until the fibre's earlier accesses are performed and its commands' writes
sent (R162, R372), and then marks the fibre's streams. -/
def withRelease (r : MemOrd) (p : Scope) (f : Fibre) (s : State) (k : State → Res) : Res :=
  if s.releaseWaits r p f then .block 0x0D else k (s.releaseMark r)

end Sys2Proof.Machine
end

