-- ==== Sys2Proof/Machine/Receive.lean ====
section
/-!
DEFINITION. The receiving side of the fabric: the checks of an arriving packet (spec/11_fabric.md R336,
spec/12_fabric_engine.md R362, R382) and the target's end of a stream (R351, R353 to R357).
-/
namespace Sys2Proof.Machine

/-- An entry of the package's event log: a code and a value (R339, R376, R381, R382; log entry 22). -/
def State.logEvent (s : State) (code v : Nat) : State :=
  { s with mgmt := { s.mgmt with log := s.mgmt.log ++ [code + 256 * v] } }

/-! ### Form of a packet (R334, R335, R362) -/

/-- Payload flits that n bytes take. -/
def flits (n : Nat) : Nat := (n + 63) / 64
end Sys2Proof.Machine

namespace Sys2Proof
open Machine

/-- The operand doublewords have no bit outside the masks that R362 gives an opcode. -/
def Packet.within (p : Packet) (m0 m1 m2 : Word) : Bool :=
  (p.o0 &&& ~~~m0) == 0 && (p.o1 &&& ~~~m1) == 0 && (p.o2 &&& ~~~m2) == 0
/-- The payload has the flits that the byte count takes. -/
def Packet.lenIs (p : Packet) (n : Nat) : Bool := p.len == flits n
/-- The operation of an AMO is listed, its token is zero where nothing returns, and its address is aligned (R141, R362). -/
def Packet.amoOk (p : Packet) : Bool :=
  let fn := bits p.o0 36 32
  p.lenIs 0 && (decide (fn < 10) || (decide (16 ≤ fn) && decide (fn < 24) && bits p.o0 63 40 == 0))
    && p.addr.toNat % (if p.o0.getLsbD 37 then 8 else 4) == 0
/-- The fields that an opcode does not use are zero, and the others have values that it lists (R362; log entry 23, and 88 for the alignment of a PST). -/
def Packet.fieldsOk (p : Packet) : Bool :=
  let all := 0xFFFFFFFFFFFFFFFF#64
  match p.opc with
  | 0x01 => p.within 0x1FFFFFFFFFF#64 0 0 && p.lenIs p.count
  | 0x02 => p.within 0xFFFFFFFF#64 all 0 && p.lenIs 0 && p.addr.toNat % 8 == 0
  | 0x0A => p.within 0x3FFFFFFFF#64 all 0 && p.lenIs 0 && p.addr.toNat % 2 ^ bits p.o0 33 32 == 0
  | 0x03 => p.within 0x1FFFFFFFFFF#64 all 0 && p.lenIs 0
  | 0x09 => p.within 0x1FFFFFFFFFF#64 all 0 && p.lenIs 0
  | 0x04 => p.within 0x1FF00000000#64 all 0 && p.lenIs p.count
  | 0x05 => p.within 0xFFFFFF#64 0 0 && p.lenIs 0 && bits p.addr 20 0 == 0
  | 0x06 => p.within 0xFFFFFF3FFFFFFFFF#64 all all && p.amoOk
  | 0x0B => p.within 0xFFFFFF3FFFFFFFFF#64 all all && p.amoOk
  | 0x07 => p.addr == 0 && p.within 0 0xFFFFFF#64 all && p.lenIs 0
  | 0x08 => bits p.addr 30 0 == 0 && p.within all all 0xFFFFFFFF00000007#64 && p.lenIs 0
  | 0x10 =>
    p.within all 0xFFF003FFFFFF#64 all && (p.o1.getLsbD 24 || bits p.o1 47 36 == 0)
      && (!p.o1.getLsbD 24 || bits p.o0 63 42 == 0) && (p.o1.getLsbD 25 || p.o2 == 0) && bits p.o2 20 0 == 0
      && p.len == 1 && (p.payload.drop 8).all (· == 0)
  | 0x11 =>
    p.within 0x7FFFFFFFFFFFFFFF#64 all 0x1FFFFFFFFFFFFFFF#64 && p.lenIs p.count
      && (p.o0.getLsbD 41 || bits p.o0 62 42 == 0) && (p.o2.getLsbD 60 || bits p.o2 59 48 == 0)
  | 0x12 => p.addr == 0 && p.within 0x7FFFFFFFFFFFF#64 all 0x3FFFFF#64 && p.lenIs 0
  | 0x13 => p.addr == 0 && p.within 0xF#64 all 0 && p.lenIs 0
  | 0x20 =>
    let k := bits p.o2 1 0
    p.addr == 0 && p.within 0xFFFFFFFF#64 0x7FFFFFFFFFFFFFFF#64 0xFFFFFFFF00000003#64 && k != 1
      && (k != 0 || (bits p.o1 62 32 == 0 && bits p.o2 63 32 == 0)) && p.lenIs 0
  | 0x21 => p.addr == 0 && p.within 0xF#64 0xFFFFFFFF#64 all && p.lenIs 0
  | 0x30 => p.within 0xFFFF#64 0xFFFF#64 0 && p.lenIs 0
  | 0x31 => p.within 0xFFFF#64 0xFFFF#64 0 && p.lenIs 0
  | 0x32 => p.within 0xFFFFFFFFFFFF#64 all 0x7FFFFFFFFF#64 && p.lenIs 0
  | 0x38 => p.addr == 0 && p.within 1#64 all all && p.lenIs 0
  | _ => false
/-- A packet that is not malformed (R336, R382): CLS, LEN and OPC, reserved fields, RCNT without REL, unused fields. -/
def Packet.wellFormed (p : Packet) : Bool :=
  clsOf p.opc == some p.cls && decide (p.len ≤ 8) && p.field 511 480 == 0 && p.field 191 190 == 0 && p.field 63 59 == 0
    && (p.rel || p.cnt == 0) && p.fieldsOk

end Sys2Proof

namespace Sys2Proof.Machine

/-! ### The target's end of a stream (R351, R353) -/

/-- The target's end of the stream from a chip. -/
def State.receiver (s : State) (c : Nat) : Receiver := tget .init s.receivers c
/-- The state with a target's end changed. -/
def State.modReceiver (s : State) (c : Nat) (f : Receiver → Receiver) : State :=
  { s with receivers := tset s.receivers c (f (s.receiver c)) }
/-- LOW moves past every answered number; the refusals among them are kept for duplicates (R351, R353). -/
def Receiver.advance : Nat → Receiver → Receiver
  | 0, r => r
  | n + 1, r =>
    match tfind r.win r.low.toNat with
    | none => r
    | some (.held _) => r
    | some (.performed _) => r
    | some .acked =>
      Receiver.advance n { r with low := r.low + 1, win := tdel r.win r.low.toNat, old := tdel r.old r.low.toNat }
    | some (.refused k a) =>
      Receiver.advance n
        { r with low := r.low + 1, win := tdel r.win r.low.toNat, old := tset r.old r.low.toNat (.refused k a) }
/-- ACK of a packet (R353, R362). -/
def State.sendAck (s : State) (p : Packet) : State :=
  s.control p.src 0x20 (requester p) 0 (p.seq.setWidth 64) ((s.receiver p.src).low.setWidth 64) 0
/-- REFUSE of a packet (R362, R380). -/
def State.sendRefuse (s : State) (p : Packet) (reason : Nat) (a : Word) : State :=
  s.control p.src 0x21 (requester p) 0 (toW reason) (p.seq.setWidth 64) a
/-- The answer to a packet, sent again for a duplicate (R353). -/
def State.sendAnswer (s : State) (p : Packet) : WinSt → State
  | .refused k a => s.sendRefuse p k a
  | _ => s.sendAck p
/-- A packet is answered: the window, WPLACED, the answer, LOW (R353, R356). -/
def State.answerPkt (s : State) (p : Packet) (w : WinSt) : State :=
  let s1 := s.modReceiver p.src fun r => { r with
    win := tset r.win p.seq.toNat w, wplaced := if isWriteOpc p.opc then r.wplaced + 1 else r.wplaced }
  (s1.sendAnswer p w).modReceiver p.src (Receiver.advance 1024)
/-- A sequence number of a stream is answered (R355). -/
def Receiver.answered (r : Receiver) (q : BitVec 32) : Bool :=
  decide (2 ^ 31 ≤ (q - r.low).toNat) ||
    (match tfind r.win q.toNat with | some .acked => true | some (.refused _ _) => true | _ => false)
/-- R354 and R355 allow the packet to be performed: enough writes of the stream are answered for a release packet, and
the packet that DEP names is answered. -/
def Receiver.allows (r : Receiver) (p : Packet) : Bool :=
  (!p.rel || decide ((r.wplaced - p.cnt).toNat < 2 ^ 30))
    && (!hasDep p.opc || p.dep == p.seq || r.answered p.dep)
/-- What R353 does with a sequenced packet. -/
inductive Fate where
  | again (w : WinSt)
  | stale
  | drop
  | fresh
  deriving DecidableEq, Repr
/-- The test of R353. -/
def Receiver.fate (r : Receiver) (q : BitVec 32) : Fate :=
  let d := (q - r.low).toNat
  if 2 ^ 31 ≤ d then .again ((tfind r.old q.toNat).getD .acked)
  else if 1024 ≤ d then .stale
  else
    match tfind r.win q.toNat with
    | none => .fresh
    | some (.held _) => .drop
    | some (.performed _) => .drop
    | some w => .again w
/-- The target's state for the sender must be fetched first (R357): the packet waits. -/
def State.fetchReceiver (s : State) (c : Nat) : State :=
  if s.agenda.any fun i => i.ev == .streamStateFetchComplete c false then s.wait
  else (s.wait).postFree (.streamStateFetchComplete c false)
/-- The held packets of a stream that may be performed now are on their way to be (R354, R355). -/
def State.stirHeld (s : State) (c : Nat) : State :=
  let r := s.receiver c
  (r.win.filterMap fun x => match x.2 with | .held p => if r.allows p then some x.1 else none | _ => none).foldl
    (fun t q => if t.agenda.any fun i => i.ev == .heldPacketPerform c q then t else t.postFree (.heldPacketPerform c q)) s
/-- A malformed packet (R382): answered with MALFORMED if it is sequenced and its number lies in the window, refused and
logged. -/
def State.malformed (s : State) (p : Packet) : State :=
  let s1 := s.logEvent 2 p.hdr.toNat
  if clsOf p.opc = some 2 then s1.sendRefuse p 9 p.addr
  else if (s.receiver p.src).resident then
    match (s.receiver p.src).fate p.seq with
    | .fresh => (s1.answerPkt p (.refused 9 p.addr)).stirHeld p.src
    | _ => s1.sendRefuse p 9 p.addr
  else s.fetchReceiver p.src
/-- The checks that every arriving packet meets first (R336, R382), and what follows for one that passes; a group or control
packet shows that its context makes progress (R428). -/
def State.arriving (s : State) (p : Packet) (k : State → State) : State :=
  if !p.intact || p.dst != s.chip.toNat then s
  else if !p.wellFormed then s.malformed p
  else k (if p.cls = 2 ∧ p.opc ≠ 0x38 then s.pulse p.asid else s)

end Sys2Proof.Machine
end

