-- ==== Sys2Proof/Machine/Sync.lean ====
section
/-!
DEFINITION. What barriers, groups and cisterns share: arrivals and phases of a channel (spec/07_barriers_gutters.md R223
to R233), and counting and actions of cisterns (spec/13_cisterns.md R390 to R397).
-/
namespace Sys2Proof.Machine

/-! ### Channels -/

/-- A channel of a context on a bay. -/
def BayCtx.chan (c : BayCtx) (n : Nat) : Chan := tget .init c.chans n
/-- The context with a channel changed. -/
def BayCtx.modChan (c : BayCtx) (n : Nat) (f : Chan → Chan) : BayCtx := { c with chans := tset c.chans n (f (c.chan n)) }
/-- The rectangle of a channel's operand (R225). -/
def Chan.rect (x : Chan) : BitVec 26 := x.mask.setWidth 26
/-- EXT (R225). -/
def Chan.ext (x : Chan) : Bool := x.mask.getLsbD 63
/-- GRP (R225). -/
def Chan.grp (x : Chan) : Nat := bits x.mask 59 48
/-- ARRN, arrivals per bay and phase, minus 1 (R225). -/
def Chan.arrn (x : Chan) : Nat := bits x.mask 47 40
/-- Every bay of the rectangle is a member with the same rectangle and has arrived (R227); a context that is saved off a
bay has not arrived there (R241).  R233 asks software to set EXT and GRP alike on every bay of a rectangle and states no
outcome where they differ: in the model such a phase never completes (log entry 63). -/
def State.phaseReady (s : State) (asid n : Nat) (x : Chan) : Bool :=
  (rectBays x.rect).all fun b =>
    match s.keyOf b asid with
    | some i =>
      match s.bctx b i with
      | some c =>
        let y := c.chan n
        decide (i < 4) && y.en && y.arr && y.rect == x.rect && y.ext == x.ext && y.grp == x.grp
      | none => false
    | none => false
/-- The entry of a context's group on this package (R343). -/
def State.groupKey (asid g : Nat) : Nat := asid * 4096 + g
/-- What an entry counts arrivals of: its children, and its own package where that is a member (R343). -/
def Group.sources (e : Group) (me : Nat) : List Nat := e.children ++ if e.member then [me] else []
/-- The phase that a group waits with on this package: of the count that is open, of one passed up, or of the package's own arrival
that has not reached the entry yet (R233). -/
def Group.pending (e : Group) : Option (BitVec 16) :=
  (e.came.map Arrival.phase ++ e.gone.map Prod.snd ++ (e.up.filter fun u => !u.done).map RectUp.phase).head?
/-- A group packet of a barrier phase, with the number of the group's completion that it is for (R344; log entries 12 and
69 for its fields); the entry itself numbers the arrivals of its own package. -/
def State.groupPacket (s : State) (dst opc asid g : Nat) (phase serial : BitVec 16) : Packet :=
  (s.packet dst opc (s.whoOf asid) 0 (toW g) (phase.setWidth 64) (serial.setWidth 64) 0 []).seal
/-- The trees look at a channel after an arrival (R227): a phase whose rectangle has arrived completes; one that extends
to a group sends BUP into the package's own entry, once a phase (R233, R344), and a completion of the group that came while
the context was saved off a bay is applied (R241).  Two channels that name one group arrive each for itself (log entry 63). -/
def State.tryPhase (s : State) (b i n : Nat) : State :=
  match s.bctx b i with
  | none => s
  | some c =>
    let x := c.chan n
    if !s.phaseReady c.asid n x then s
    else if x.ext then
      let k := State.groupKey c.asid x.grp
      let g := tget .init s.groups k
      match g.up.find? fun u => u.chan == n && u.rect == x.rect && u.phase == x.phase with
      | some u => if u.done then s.postFree (.barrierPhaseComplete c.asid n b) else s
      | none =>
        ({ s with groups := tset s.groups k { g with up := g.up ++ [(⟨n, x.rect, x.phase, false⟩ : RectUp)] } }).postFree
          (.bup (s.groupPacket s.chip.toNat 0x30 c.asid x.grp x.phase 0))
    else s.postFree (.barrierPhaseComplete c.asid n b)
/-- One arrival is counted (R229). -/
def Chan.arrive (x : Chan) : Chan :=
  if x.larr = x.arrn then { x with larr := 0, arr := true } else { x with larr := x.larr + 1 }
/-- An arrival on a bay's channel, which has not arrived yet. -/
def State.arriveRaw (s : State) (b i n : Nat) : State := (s.modC b i fun c => c.modChan n Chan.arrive).tryPhase b i n

/-! ### Cistern entries -/

/-- The key of a die's cistern entry. -/
def dieKey (asid d k : Nat) : Nat := (asid * 8 + d) * 4096 + k
/-- An entry: unit 0 to 1,535 is a bay, 2,048 + d is die d, as kind and unit stand in a handle (R34, R386). -/
def State.cist (s : State) (asid u k : Nat) : Cist :=
  if u < 2048 then
    match (s.keyOf u asid).bind fun i => s.bctx u i with
    | some c => tget .init c.cists k
    | none => .init
  else tget .init s.dcists (dieKey asid (u - 2048) k)
/-- The state with an entry set (R386); in a save image with the tags of its pages (R396, R425). -/
def State.setCist (s : State) (asid u k : Nat) (e : Cist) : State :=
  if u < 2048 then
    match s.keyOf u asid with
    | some i => s.imaged (s.modC u i fun c => { c with cists := tset c.cists k e }) u asid
    | none => s
  else { s with dcists := tset s.dcists (dieKey asid (u - 2048) k) e }
/-- The handle of an entry (R34). -/
def State.cistHandle (s : State) (u k : Nat) : Word := toW (s.chip.toNat * 2 ^ 42 + u * 2 ^ 30 + k * 2 ^ 18)
/-- A doubleword of the descriptor (R388). -/
def Cist.dw (e : Cist) (k : Nat) : Word := e.desc.getD k 0
/-- MODE: signal mode. -/
def Cist.sig (e : Cist) : Bool := (e.dw 0).getLsbD 60
/-- REARM. -/
def Cist.rearm (e : Cist) : Bool := (e.dw 0).getLsbD 61
/-- ACT. -/
def Cist.act (e : Cist) : Nat := bits (e.dw 0) 63 62
/-- BASE. -/
def Cist.base (e : Cist) : Nat := bits (e.dw 0) 55 0
/-- LEN. -/
def Cist.len (e : Cist) : Nat := bits (e.dw 2) 40 0
/-- The mark M. -/
def Cist.markM (e : Cist) : Nat := bits (e.dw 1) 47 0 + 1
/-- ACTX. -/
def Cist.actx (e : Cist) : Nat := bits (e.dw 1) 63 48
/-- TBAY. -/
def Cist.tbay (e : Cist) : Nat := bits (e.dw 2) 63 53
/-- A cistern fault for the context's fault fibre (R395, R397, R404). -/
def State.cistReport (s : State) (asid u k reason : Nat) : State :=
  (s.toFaultFibre asid
    { hcause := causeWord .cistern, hval := s.cistHandle u k + toW reason, hseq := 0, gen := 0, eng := none }).leaveWaits s
/-- The check of a request's read of an entry that a save image holds (R396, R425): true where it may be made. -/
def State.mayCist (s : State) (asid u : Nat) : State × Bool := if u < 2048 then s.mayReadRest u asid else (s, true)
/-- One attempt of a barrier arrival by a cistern (R394, R395): dropped and reported where the bay is no member, counted,
or waiting while the bay has arrived.  True where it waits. -/
def State.cistArrive (s : State) (asid u k : Nat) (e : Cist) : State × Bool :=
  match s.mayReadRest e.tbay asid with
  | (t, false) => (t, false)
  | (s, true) =>
  match (s.keyOf e.tbay asid).bind fun i => (s.bctx e.tbay i).map fun c => (i, c) with
  | some (i, c) =>
    let x := c.chan e.actx
    if (s.bay e.tbay).fenced || !x.en then (s.cistReport asid u k 6, false)
    else if x.arr then
      (s.imaged (s.modC e.tbay i fun c => c.modChan e.actx fun y => { y with arrWait := y.arrWait ++ [.cistern u k] }) e.tbay
        asid, true)
    else (s.imaged (s.arriveRaw e.tbay i e.actx) e.tbay asid, false)
  | none => (s.cistReport asid u k 6, false)
/-- The signal word of an action (R394, R395): written at a scratchpad address of TBAY, or at a global address of this
package, in the save image where the context is saved off the bay (R396); false where an access fails.  A die's unit is spread over its
four stations (R386): the translations of the first, 4d, serve it (DESIGN CHOICE, log entry 18). -/
def State.signalWord (s : State) (asid u : Nat) (e : Cist) : State × Bool :=
  let a := e.dw 3
  let bs := leBytes 8 e.fires
  if u < 2048 then s.putSaved e.tbay asid a.toNat (spadKey asid e.tbay a.toNat) bs
  else if isAperture a then
    match s.aperture asid a 8 with
    | .ok key => s.putSaved (apBay a) asid (apOff a) key bs
    | .error _ => (s, false)
  else
    match s.translateAt (4 * (u - 2048)) asid a .write with
    | (.ok (.phys pa), t) =>
      (match physKey pa with | some key => ((t.write key bs).tallyKey key .writes, true) | none => (t, false))
    | (.ok (.remote _ _), t) => (t, false)
    | (.error _, t) => (t, false)
/-- A spawn by an action (R394, R403): placed, or waiting at the unit for a record, counted as live.  True where it waits. -/
def State.cistSpawn (s : State) (asid u k : Nat) (e : Cist) : State × Bool :=
  match (s.ctx asid).bind fun c => c.targets[e.actx]? with
  | none => (s.cistReport asid u k 6, false)
  | some t =>
    let pri : BitVec 3 := BitVec.ofNat 3 (bits (e.dw 2) 52 50)
    let r : SpawnReq := { entry := t.entry, arg := e.dw 3, pri := if pri = 7 then t.pri else pri }
    if (s.bay e.tbay).fenced then (s.cistReport asid u k 6, false)
    else
      match s.keyOf e.tbay asid with
      | none => (s.cistReport asid u k 6, false)
      | some i =>
        match s.place e.tbay i (.spawn r) with
        | some (t, _) => (t, false)
        | none => ((s.addLive asid 1).postFree (.cisternSpawnRetry e.tbay asid r u k), true)
/-- One action (R394, R395), of a descriptor with a firing number; true where it waits. -/
def State.perform (s : State) (asid u k : Nat) (e : Cist) : State × Bool :=
  if e.act = 0 then
    if (s.bay e.tbay).fenced || (s.keyOf e.tbay asid).isNone then (s.cistReport asid u k 6, false)
    else (s.postTo e.tbay asid e.actx 1, false)
  else if e.act = 1 then s.cistArrive asid u k e
  else if e.act = 2 then s.cistSpawn asid u k e
  else if u < 2048 ∧ ((s.bay e.tbay).fenced || (s.keyOf e.tbay asid).isNone) = true then (s.cistReport asid u k 6, false)
  else
    match s.signalWord asid u e with
    | (t, true) => (t, false)
    | (t, false) => (t.cistReport asid u k 9, false)
/-- The action of an entry whose firing number is already counted: it waits behind one that waits (R394). -/
def State.cistAct (s : State) (asid u k : Nat) : State :=
  let e := s.cist asid u k
  let s := (if u < 2048 then s else s.tally (4 * (u - 2048)) .actions 1).pulse asid
  let wait := fun (t : State) =>
    t.setCist asid u k { t.cist asid u k with queued := (t.cist asid u k).queued ++ [(e.desc, e.fires)] }
  if e.queued.isEmpty then
    match s.perform asid u k e with
    | (t, true) => wait t
    | (t, false) => t
  else wait s
/-- The firings of one arrival (R392), at most n. -/
def State.cistFire (s : State) (asid u k : Nat) : Nat → State
  | 0 => s
  | n + 1 =>
    let e := s.cist asid u k
    if e.st = .armed ∧ e.markM ≤ e.count then
      let s1 := (s.setCist asid u k { e with fires := e.fires + 1 }).cistAct asid u k
      let e1 := s1.cist asid u k
      let s2 := if e.rearm then s1.setCist asid u k { e1 with count := e1.count - e.markM }
        else s1.setCist asid u k { e1 with st := .fired }
      State.cistFire s2 asid u k n
    else s
/-- An overfill is reported once per arming (R397). -/
def State.overfill (s : State) (asid u k : Nat) : State :=
  let e := s.cist asid u k
  if e.ovf then s else (s.setCist asid u k { e with ovf := true }).cistReport asid u k 8
/-- arrive(e, n) of R392; a count of 0 changes nothing (R400), a fenced bay's unit counts nothing (R462), and an entry in a save
image whose page does not verify takes no count (R425). -/
def State.arrive (s : State) (asid u k n : Nat) : State :=
  if n = 0 ∨ (s.bay u).fenced = true then s
  else match s.mayCist asid u with
  | (t, false) => t
  | (s, true) =>
  let e := s.cist asid u k
  match e.st with
  | .idle => s
  | .fired => ((s.setCist asid u k { e with count := min (2 ^ 49 - 1) (e.count + n) }).pulse asid).overfill asid u k
  | .armed =>
    let c := min (2 ^ 49 - 1) (e.count + n)
    let s' := ((s.setCist asid u k { e with count := c }).pulse asid).cistFire asid u k (c / e.markM)
    let e' := s'.cist asid u k
    if e'.st = .fired ∧ e'.markM < e'.count then s'.overfill asid u k else s'
/-- Bytes of a write inside a region (R390). -/
def overlap (a n b m : Nat) : Nat := min (a + n) (b + m) - max a b
/-- The entries that count a write of n bytes at an address, with their bytes. -/
def counters (a n : Nat) : Tab Cist → List (Nat × Nat)
  | [] => []
  | (k, e) :: r =>
    let m := overlap a n e.base e.len
    if e.st ≠ .idle ∧ e.sig = false ∧ 0 < m then (k, m) :: counters a n r else counters a n r
/-- A counted write into a context's scratchpad on a bay (R391, kind 0). -/
def State.countLocal (s : State) (asid b off n : Nat) : State :=
  match (s.keyOf b asid).bind fun i => s.bctx b i with
  | some c => (counters off n c.cists).foldl (fun t p => t.arrive asid b p.1 p.2) s
  | none => s
/-- A counted write by an eave station of a die, at a virtual address (R391, kind 1). -/
def State.countDie (s : State) (asid die va n : Nat) : State :=
  let l := s.dcists.filter fun p => p.1 / 4096 == asid * 8 + die
  (counters va n l).foldl (fun t p => t.arrive asid (2048 + die) (p.1 % 4096) p.2) s

/-! ### Phase completion -/

/-- A cistern's waiting arrival is tried again, and the actions behind it follow while they need not wait (R394). -/
def State.cistRetry (s : State) (asid u k : Nat) : List (List Word × Nat) → State
  | [] => s
  | (d, n) :: r =>
    match s.perform asid u k { Cist.init with desc := d, fires := n } with
    | (t, true) => t
    | (t, false) => State.cistRetry (t.setCist asid u k { t.cist asid u k with queued := r }) asid u k r
/-- What waited for a phase to end before its arrival was counted: cisterns' arrivals are tried again at once, in order
(R394); fibres leave their wait together and issue their BARR or BSYNC again, with no queue order among themselves (R229),
once the context is active (R241).  R231 says that such a BARR counts toward the next phase, and not whether at once or when it issues
again, so that another fibre's BARR or a BMASK may come first: the latter is the model's choice (DESIGN CHOICE, log entry 63). -/
def State.retryArrivals (s : State) (b i n : Nat) : List ArrWait → State
  | [] => s
  | a :: r =>
    match s.bctx b i with
    | none => s
    | some c =>
      let s' := match a with
        | .barr u => s.modU u fun f => { f with wait := .ready }
        | .bsync u => s.modU u fun f => { f with wait := .ready }
        | .cistern u k =>
          (match s.mayCist c.asid u with
            | (t, false) => t
            | (t, true) => t.cistRetry c.asid u k (t.cist c.asid u k).queued)
      State.retryArrivals s' b i n r
/-- The completion of a phase at one bay (R227): the channel's state. -/
def State.phaseAt (s : State) (asid n b : Nat) : State :=
  match s.keyOf b asid with
  | some i => s.modC b i fun y => y.modChan n fun z => { z with arr := false, larr := 0, phase := z.phase + 1 }
  | none => s
/-- The waiters that a completion wakes at one bay, then the arrivals that waited for it (R229). -/
def State.wakeAt (s : State) (asid n b : Nat) : State :=
  match s.keyOf b asid with
  | none => s
  | some i =>
    match s.bctx b i with
    | none => s
    | some c =>
      let x := c.chan n
      let s1 := s.modC b i fun y => y.modChan n fun z => { z with phWait := [], arrWait := [] }
      (x.phWait.foldl (fun t u => t.retireU u id) s1).retryArrivals b i n x.arrWait
/-- A phase completes at every bay of its rectangle (R227, R428). -/
def State.completePhase (s : State) (asid n : Nat) (x : Chan) : State :=
  let l := rectBays x.rect
  (l.foldl (fun t b => t.wakeAt asid n b) (l.foldl (fun t b => t.phaseAt asid n b) s)).pulse asid

end Sys2Proof.Machine
end

