-- ==== Sys2Proof/Machine/MemoryOps.lean ====
section
/-!
DEFINITION. Loads, stores, atomics and fences as they issue (spec/05_memory.md R140 to R153).
-/
namespace Sys2Proof.Machine

/-- A recorded deferred fault of a local access (R151): its register stays empty and is marked faulted. -/
def State.localFault (s : State) (u : Nat) (pc ea : Word) (c : Cause) (dest : Option GReg) : State :=
  { (s.modU u fun f =>
      let g := match dest with | some d => (f.setEmpty d).setFaulted d | none => f
      { g with dfaults := g.dfaults ++ [{ rid := s.nextId, pc := pc, ea := ea, cause := c, dest := dest }] }) with
    nextId := s.nextId + 1 }
/-- A register is emptied and its value is on its way from a bank of this bay (R89, R140). -/
def State.localReturn (s : State) (u : Nat) (d : GReg) (v : Word) : State :=
  (s.modU u fun f => { f.setEmpty d with locals := f.locals + 1 }).postFree (.loadDataReturn u d v 0)
/-- A load from a bank of this bay (R140, R151). -/
def State.bankLoad (s : State) (f : Fibre) (asid key : Nat) (ea : Word) (n : Nat) (signed : Bool) (d : GReg) : State :=
  match s.bad key n with
  | some _ => (s.memError key asid).localFault f.uid f.pc ea .memerr (some d)
  | none => s.localReturn f.uid d (extend signed n (leNat (s.read key n)))

/-- The operation of an atomic on w-bit values (R141); none where ACAS writes nothing. -/
def atNew (fn : AtFn) (w : Nat) (old b e : Word) : Option Word :=
  let so := (sextW old w).toInt
  let sb := (sextW b w).toInt
  let uo := old.toNat % 2 ^ w
  let ub := b.toNat % 2 ^ w
  match fn with
  | .add => some (old + b)
  | .and => some (old &&& b)
  | .or => some (old ||| b)
  | .xor => some (old ^^^ b)
  | .min => some (if so < sb then old else b)
  | .max => some (if sb < so then old else b)
  | .minu => some (if uo < ub then old else b)
  | .maxu => some (if ub < uo then old else b)
  | .swap => some b
  | .cas => if uo = e.toNat % 2 ^ w then some b else none
/-- An atomic performed indivisibly on n bytes at a key (R141, R142): the state and the old value. -/
def State.atomicAt (s : State) (key n : Nat) (fn : AtFn) (b e : Word) : State × Word :=
  let old := toW (leNat (s.read key n))
  match atNew fn (8 * n) old b e with
  | some v => (s.write key (leBytes n v.toNat), old)
  | none => (s, old)
/-- An atomic at a bank of this bay (R141, R142, R151); one without a return is counted by cisterns (R390). -/
def State.bankAtomic (s : State) (f : Fibre) (asid bay off : Nat) (ea : Word) (n : Nat) (fn : AtFn) (b e : Word)
    (d : Option GReg) : State :=
  let key := spadKey asid bay off
  match s.bad key n with
  | some _ => ((s.mark key n).memError key asid).localFault f.uid f.pc ea .memerr d
  | none =>
    let (t, old) := s.atomicAt key n fn b e
    match d with
    | some d => t.localReturn f.uid d (extend true n old.toNat)
    | none => t.countLocal asid bay off n

/-- An access of the issuing fibre (R144). -/
def State.mkAccess (s : State) (c : BayCtx) (f : Fibre) (ea : Word) (n : Nat) (kind : AKind) (dest : Option GReg)
    (data exp : Word) : Access :=
  { rid := s.nextId, asid := c.asid, bay := s.cur.bay, pc := f.pc, ea := ea, size := n, kind := kind, dest := dest,
    data := data, exp := exp }
/-- An aperture access at the target bay's bank, or in the save image under the tag rule of R425, which a store and an
atomic meet whether or not they change a byte (R139, R142, R151); an atomic without a return is counted by cisterns
(R390).  Answers of one kind to one bay keep their order (R10). -/
def State.apertureAt (s : State) (u rid : Nat) : State :=
  match s.access u rid with
  | none => s
  | some a =>
    let b := apBay a.ea
    let refused := fun (t : State) => t.answer b a.bay (.accessFaultRecorded u rid .memerr)
    match s.aperture a.asid a.ea a.size with
    | .error c => s.answer b a.bay (.accessFaultRecorded u rid c)
    | .ok key =>
      match a.kind with
      | .load signed =>
        match s.mayRead b a.asid (apOff a.ea) a.size with
        | (t, false) => refused t
        | (t, true) =>
          if (t.bad key a.size).isSome then refused (t.memError key a.asid)
          else t.answer b a.bay (.loadDataReturn u (a.dest.getD 0) (extend signed a.size (leNat (t.read key a.size))) rid)
      | .store =>
        match s.putSaved b a.asid (apOff a.ea) key (leBytes a.size a.data.toNat) with
        | (t, false) => refused t
        | (t, true) => t.answer b a.bay (.accessAccepted u rid)
      | .atomic fn ret =>
        match s.mayRead b a.asid (apOff a.ea) a.size with
        | (t, false) => refused t
        | (s, true) =>
          if (s.bad key a.size).isSome then refused ((s.mark key a.size).memError key a.asid)
          else
            let (t, old) := s.atomicAt key a.size fn a.data a.exp
            match s.viaPages (t.tallySaved b a.asid (apOff a.ea) a.size .atomics) b a.asid (pagesOf (apOff a.ea) a.size) with
            | (t, false) => refused t
            | (t, true) =>
              if ret then t.answer b a.bay (.loadDataReturn u (a.dest.getD 0) (extend true a.size old.toNat) rid)
              else (t.countLocal a.asid b (apOff a.ea) a.size).answer b a.bay (.accessAccepted u rid)
/-- The access takes a ring entry (R144) and empties its destination. -/
def State.takeEntry (s : State) (a : Access) : State :=
  { (s.modCur fun g =>
      let g' := match a.dest with | some d => g.setEmpty d | none => g
      { g' with ring := g'.ring ++ [a] }) with nextId := s.nextId + 1 }
/-- A global access takes a ring entry and goes on its way (R144): to the bank that the aperture names, or to the home
eave station. -/
def State.enterRing (s : State) (f : Fibre) (a : Access) : State :=
  let s1 := s.takeEntry a
  if isAperture a.ea then s1.post (laneBank (apBay a.ea) (apOff a.ea)) (.apertureAccess f.uid s.nextId)
  else s1.post (laneLine a.ea) (.globalAccessAtStation f.uid s.nextId)
/-- The aperture address is one of the issuing bay itself, whose banks perform the access in program order with its local
accesses (R161 item 1). -/
def ownAperture (s : State) (a : Word) : Bool := isAperture a && apBay a == s.cur.bay
/-- The accesses of a lane up to the last one of a fibre, which issued it before it came to this bay, are performed (R160,
R163). -/
def State.drainBank (s : State) (u lane : Nat) : State :=
  let of := fun (t : Item) => match t.ev with | .apertureAccess v _ => v == u | _ => false
  (((s.agenda.filter fun t => t.lane == lane).reverse.dropWhile fun t => !of t).reverse).foldl (fun (x : State) t =>
    match t.ev with
    | .apertureAccess v r => ({ x with agenda := x.agenda.erase t }).apertureAt v r
    | _ => x) s
/-- A global access issues (R144): at an aperture address of its own bay it is performed at once, after what the fibre has
under way there; its value, acceptance or fault follows as for any other. -/
def State.globalIssue (s : State) (c : BayCtx) (f : Fibre) (ea : Word) (n : Nat) (kind : AKind) (dest : Option GReg)
    (data exp : Word) : State :=
  if ownAperture s ea then
    let t := s.drainBank f.uid (laneBank (apBay ea) (apOff ea))
    (t.takeEntry (t.mkAccess c f ea n kind dest data exp)).apertureAt f.uid t.nextId
  else s.enterRing f (s.mkAccess c f ea n kind dest data exp)
/-- The checks of a global address (R140, R141): ALIGN, GADDR, and a free ring entry (R144). -/
def globalCheck (f : Fibre) (ea : Word) (n : Nat) (k : Res) : Res :=
  if ea.toNat % n ≠ 0 then .fault .align ea
  else if !globalForm ea then .fault .gaddr ea
  else if 16 ≤ f.ring.length then .block 8
  else k
/-- The checks of a local address (R140, R141): QUOTA before ALIGN. -/
def localCheck (c : BayCtx) (ea : Word) (n : Nat) (k : Res) : Res :=
  if !localFits c ea n then .fault .quota ea
  else if ea.toNat % n ≠ 0 then .fault .align ea
  else k

/-- LDL (R140). -/
def execLdl (d a : GReg) (z : Sz) (zx : Bool) (o : BitVec 17) (s : State) : Out :=
  issue (.ldl d a z zx o) noEarly (fun c f s =>
    let ea := effAddr (f.reg a) o
    localCheck c ea (szBytes z)
      (.done (s.bankLoad f c.asid (spadKey c.asid s.cur.bay ea.toNat) ea (szBytes z) (!zx) d))) s
/-- STL (R140). -/
def execStl (d a : GReg) (z : Sz) (o : BitVec 17) (s : State) : Out :=
  issue (.stl d a z o) noEarly (fun c f s =>
    let ea := effAddr (f.reg a) o
    localCheck c ea (szBytes z)
      (.done (s.write (spadKey c.asid s.cur.bay ea.toNat) (leBytes (szBytes z) (f.reg d).toNat)))) s
/-- LDG (R140). -/
def execLdg (d a : GReg) (z : Sz) (zx : Bool) (o : BitVec 17) (s : State) : Out :=
  issue (.ldg d a z zx o) noEarly (fun c f s =>
    let ea := effAddr (f.reg a) o
    let n := szBytes z
    globalCheck f ea n (.done (s.globalIssue c f ea n (.load (!zx)) (some d) 0 0))) s
/-- STG (R140). -/
def execStg (d a : GReg) (z : Sz) (o : BitVec 17) (s : State) : Out :=
  issue (.stg d a z o) noEarly (fun c f s =>
    let ea := effAddr (f.reg a) o
    let n := szBytes z
    globalCheck f ea n (.done (s.globalIssue c f ea n .store none (f.reg d) 0))) s
/-- The fibre waits for its newest access to be accepted: an acquire lets no later access be performed before it (R162),
whatever its scope, since it may observe a cistern's action (R166). -/
def State.awaitNewest (s : State) : State :=
  s.retireCur.modCur fun g => g.block (.queued 0x0D) (s.bay s.cur.bay).cycle
/-- An atomic (R141): local or global. -/
def atomicOp (i : Instr) (fn : AtFn) (d : Option GReg) (a b : GReg) (g : Bool) (r : MemOrd) (p : Scope) (z : AtSz)
    (s : State) : Out :=
  issue i noEarly (fun c f s =>
    let ea := f.reg a
    let n := atBytes z
    let e := match d with | some d => f.reg d | none => 0
    if !g then
      localCheck c ea n (withRelease r p f s fun s =>
        .done (s.bankAtomic f c.asid s.cur.bay ea.toNat ea n fn (f.reg b) e d))
    else
      globalCheck f ea n (withRelease r p f s fun s =>
        let t := s.globalIssue c f ea n (.atomic fn d.isSome) d (f.reg b) e
        if hasAcq r && d.isSome then .stay t.awaitNewest else .done t)) s
/-- AADD (R141). -/
def execAadd (d a b : GReg) (g : Bool) (r : MemOrd) (p : Scope) (z : AtSz) (s : State) : Out :=
  atomicOp (.aadd d a b g r p z) .add (some d) a b g r p z s
/-- AAND (R141). -/
def execAand (d a b : GReg) (g : Bool) (r : MemOrd) (p : Scope) (z : AtSz) (s : State) : Out :=
  atomicOp (.aand d a b g r p z) .and (some d) a b g r p z s
/-- AOR (R141). -/
def execAor (d a b : GReg) (g : Bool) (r : MemOrd) (p : Scope) (z : AtSz) (s : State) : Out :=
  atomicOp (.aor d a b g r p z) .or (some d) a b g r p z s
/-- AXOR (R141). -/
def execAxor (d a b : GReg) (g : Bool) (r : MemOrd) (p : Scope) (z : AtSz) (s : State) : Out :=
  atomicOp (.axor d a b g r p z) .xor (some d) a b g r p z s
/-- AMIN (R141). -/
def execAmin (d a b : GReg) (g : Bool) (r : MemOrd) (p : Scope) (z : AtSz) (s : State) : Out :=
  atomicOp (.amin d a b g r p z) .min (some d) a b g r p z s
/-- AMAX (R141). -/
def execAmax (d a b : GReg) (g : Bool) (r : MemOrd) (p : Scope) (z : AtSz) (s : State) : Out :=
  atomicOp (.amax d a b g r p z) .max (some d) a b g r p z s
/-- AMINU (R141). -/
def execAminu (d a b : GReg) (g : Bool) (r : MemOrd) (p : Scope) (z : AtSz) (s : State) : Out :=
  atomicOp (.aminu d a b g r p z) .minu (some d) a b g r p z s
/-- AMAXU (R141). -/
def execAmaxu (d a b : GReg) (g : Bool) (r : MemOrd) (p : Scope) (z : AtSz) (s : State) : Out :=
  atomicOp (.amaxu d a b g r p z) .maxu (some d) a b g r p z s
/-- ASWAP (R141). -/
def execAswap (d a b : GReg) (g : Bool) (r : MemOrd) (p : Scope) (z : AtSz) (s : State) : Out :=
  atomicOp (.aswap d a b g r p z) .swap (some d) a b g r p z s
/-- ACAS (R141). -/
def execAcas (d a b : GReg) (g : Bool) (r : MemOrd) (p : Scope) (z : AtSz) (s : State) : Out :=
  atomicOp (.acas d a b g r p z) .cas (some d) a b g r p z s
/-- STADD (R141). -/
def execStadd (a b : GReg) (g : Bool) (r : MemOrd) (p : Scope) (z : AtSz) (s : State) : Out :=
  atomicOp (.stadd a b g r p z) .add none a b g r p z s
/-- STAND (R141). -/
def execStand (a b : GReg) (g : Bool) (r : MemOrd) (p : Scope) (z : AtSz) (s : State) : Out :=
  atomicOp (.stand a b g r p z) .and none a b g r p z s
/-- STOR (R141). -/
def execStor (a b : GReg) (g : Bool) (r : MemOrd) (p : Scope) (z : AtSz) (s : State) : Out :=
  atomicOp (.stor a b g r p z) .or none a b g r p z s
/-- STXOR (R141). -/
def execStxor (a b : GReg) (g : Bool) (r : MemOrd) (p : Scope) (z : AtSz) (s : State) : Out :=
  atomicOp (.stxor a b g r p z) .xor none a b g r p z s
/-- STMIN (R141). -/
def execStmin (a b : GReg) (g : Bool) (r : MemOrd) (p : Scope) (z : AtSz) (s : State) : Out :=
  atomicOp (.stmin a b g r p z) .min none a b g r p z s
/-- STMAX (R141). -/
def execStmax (a b : GReg) (g : Bool) (r : MemOrd) (p : Scope) (z : AtSz) (s : State) : Out :=
  atomicOp (.stmax a b g r p z) .max none a b g r p z s
/-- STMINU (R141). -/
def execStminu (a b : GReg) (g : Bool) (r : MemOrd) (p : Scope) (z : AtSz) (s : State) : Out :=
  atomicOp (.stminu a b g r p z) .minu none a b g r p z s
/-- STMAXU (R141). -/
def execStmaxu (a b : GReg) (g : Bool) (r : MemOrd) (p : Scope) (z : AtSz) (s : State) : Out :=
  atomicOp (.stmaxu a b g r p z) .maxu none a b g r p z s

/-- A fence (R152): the ring is empty and earlier local accesses are performed, the oldest deferred fault is taken, and
then the ordering stands, toward the streams for every kind at every scope (R165 rule 1); FENCEA waits for remote stores to
be placed as well (R153). -/
def fenceOp (i : Instr) (all : Bool) (s : State) : Out :=
  issue i noEarly (fun _ f s =>
    if !f.ring.isEmpty then .block 9
    else if !f.dfaults.isEmpty then .deferred
    else if s.unsent f.uid (s.tick + 1) || all && s.remoteStores f.uid then .block 0x0D
    else .done (s.releaseMark .ar)) s
/-- FENCE (R152). -/
def execFence (k : FenceKind) (p : Scope) (s : State) : Out := fenceOp (.fence k p) false s
/-- FENCEA (R153). -/
def execFencea (k : FenceKind) (p : Scope) (s : State) : Out := fenceOp (.fencea k p) true s

end Sys2Proof.Machine
end

