-- ==== Sys2Proof/Machine/Access.lean ====
section
/-!
DEFINITION. The accesses of fibres on their way: at the eave station, the page walk, the atomic unit, the aperture's bank,
the return of data and the recording of faults (spec/05_memory.md R130 to R151).
-/
namespace Sys2Proof.Machine

/-- A ring entry is freed (R145): a fibre that waited for this newest access goes on, and so does a waiting entry to
handler mode (R409). -/
def State.freeEntry (s : State) (u rid : Nat) (f : Fibre → Fibre) : State :=
  (s.modU u fun x =>
    let y := f x
    let woken := x.wait == .queued 0x0D && x.ring.all fun a => decide (a.rid ≤ rid)
    { y with ring := y.ring.filter fun a => a.rid != rid, wait := if woken then .ready else y.wait }).entryReady u
/-- LOAD_DATA_RETURN: the value fills the register; the ring entry of a global access is freed (R89, R140, R145). -/
def execLoadDataReturn (s : State) : Out :=
  match s.ev with
  | .loadDataReturn u d v rid =>
    if rid = 0 then .next (s.modU u fun f => { f.setReg d v with locals := f.locals - 1 })
    else .next (s.freeEntry u rid fun f => f.setReg d v)
  | _ => .next s
/-- ACCESS_ACCEPTED: a store or no-return atomic has been accepted (R143, R145). -/
def execAccessAccepted (s : State) : Out :=
  match s.ev with
  | .accessAccepted u rid => .next (s.freeEntry u rid id)
  | _ => .next s
/-- ACCESS_FAULT_RECORDED: the fault of an access is known; its register stays empty and is marked faulted (R145, R146). -/
def execAccessFaultRecorded (s : State) : Out :=
  match s.ev with
  | .accessFaultRecorded u rid c =>
    match s.access u rid with
    | some a =>
      .next (s.freeEntry u rid fun f =>
        let g := match a.dest with | some d => f.setFaulted d | none => f
        { g with dfaults := g.dfaults ++ [{ rid := rid, pc := a.pc, ea := a.ea, cause := c, dest := a.dest }] })
    | none => .next s
  | _ => .next s
/-- The number of an operation as packets and encodings hold it (R141). -/
def atCode : AtFn → Nat
  | .add => 0 | .and => 1 | .or => 2 | .xor => 3 | .min => 4 | .max => 5 | .minu => 6 | .maxu => 7 | .swap => 8 | .cas => 9
/-- log2 of a size in bytes. -/
def logSize (n : Nat) : Nat := if n = 8 then 3 else if n = 4 then 2 else if n = 2 then 1 else 0
/-- An access on a remote page (R138): the domain is checked, and the request goes out on the stream (R362). -/
def State.remoteAccess (s : State) (u : Nat) (a : Access) (chip woff : Nat) : State :=
  let inDomain := match s.ctx a.asid with | some c => s.inBox c.domain chip | none => false
  if !inDomain then s.answer (stationEnd (homeStation a.bay)) a.bay (.accessFaultRecorded u a.rid .domain)
  else
    let rcnt := match s.fibres.find? fun f => f.uid == u with | some f => f.rcnt chip | none => 0
    let ptr := toW (chip * 2 ^ 42 + woff)
    let tok := s.nextId % 2 ^ 24
    let w := s.whoOf a.asid
    let ls := linesOf ptr a.size
    let own := Own.acc u a.rid a.pc a.ea
    match a.kind with
    | .load _ =>
      ({ s with toks := tset s.toks tok (.init (.load u a.rid chip)), nextId := s.nextId + 1 }).sendSeq chip
        (s.toSend own u ls (s.packet chip 9 w rcnt ptr (toW ((a.size - 1) * 2 ^ 32)) (toW tok) 0 []))
    | .store =>
      s.sendSeq chip (s.toSend own u ls (s.packet chip 10 w rcnt ptr (toW (logSize a.size * 2 ^ 32)) (zextW a.data (8 * a.size)) 0 []))
    | .atomic fn ret =>
      let op := (atCode fn + (if ret then 0 else 16)) * 2 ^ 32 + (if a.size = 8 then 2 ^ 37 else 0)
      let s1 := if ret then { s with toks := tset s.toks tok (.init (.load u a.rid chip)), nextId := s.nextId + 1 } else s
      s1.sendSeq chip (s.toSend own u ls (s.packet chip 11 w rcnt ptr (toW (op + (if ret then tok * 2 ^ 40 else 0)))
        a.data a.exp []))
/-- The access at the physical bytes (R140, R145, R151). -/
def State.accessPhys (s : State) (u : Nat) (a : Access) (pa : Nat) : State :=
  match physKey pa with
  | none => s.answer (stationEnd (homeStation a.bay)) a.bay (.accessFaultRecorded u a.rid .xlate)
  | some key =>
    match a.kind with
    | .load signed =>
      if (s.bad key a.size).isSome then
        (s.memError key a.asid).answer (keyEnd key) a.bay (.accessFaultRecorded u a.rid .memerr)
      else
        (s.tallyKey key .reads).answer (keyEnd key) a.bay
          (.loadDataReturn u (a.dest.getD 0) (extend signed a.size (leNat (s.read key a.size))) a.rid)
    | .store =>
      ((s.write key (leBytes a.size a.data.toNat)).tallyKey key .writes).answer (keyEnd key) a.bay (.accessAccepted u a.rid)
    | .atomic _ _ => s.postFront s.lane (.atomicAtUnit u a.rid pa)
/-- What the access needs (R136). -/
def Access.need (a : Access) : Need :=
  match a.kind with
  | .load _ => .read
  | .store => .write
  | .atomic _ _ => .atomic
/-- The access goes where its translation sends it (R133, R136, R138). -/
def State.accessTo (s : State) (u : Nat) (a : Access) : Except Cause Place → State
  | .error c => s.answer (stationEnd (homeStation a.bay)) a.bay (.accessFaultRecorded u a.rid c)
  | .ok (.phys pa) => s.accessPhys u a pa
  | .ok (.remote chip woff) => s.remoteAccess u a chip woff
/-- GLOBAL_ACCESS_AT_STATION: the home station of the issuing bay translates the address from its cache, or begins a walk
(R130, R136, R137). -/
def execGlobalAccessAtStation (s : State) : Out :=
  match s.ev with
  | .globalAccessAtStation u rid =>
    match s.access u rid with
    | none => .next s
    | some a =>
      match tlbFind (tget [] s.tlb (homeStation a.bay)) a.asid a.ea.toNat with
      | some _ =>
        let (r, t) := s.translateAt (homeStation a.bay) a.asid a.ea a.need
        .next (t.accessTo u a r)
      | none => .next (s.postFront s.lane (.pageWalkComplete u rid))
  | _ => .next s
/-- PAGE_WALK_COMPLETE: the walk ends, and its translation is cached (R131 to R134, R137). -/
def execPageWalkComplete (s : State) : Out :=
  match s.ev with
  | .pageWalkComplete u rid =>
    match s.access u rid with
    | none => .next s
    | some a =>
      let (r, t) := s.translateAt (homeStation a.bay) a.asid a.ea a.need
      .next (t.accessTo u a r)
  | _ => .next s
/-- ATOMIC_AT_UNIT: an atomic at the unit of the station that owns its bytes (R142, R143, R151); one without a return is
counted by the die's cisterns (R390, R391). -/
def execAtomicAtUnit (s : State) : Out :=
  match s.ev with
  | .atomicAtUnit u rid pa =>
    match s.access u rid, physKey pa with
    | some a, some key =>
      match a.kind with
      | .atomic fn ret =>
        if (s.bad key a.size).isSome then
          .next (((s.mark key a.size).memError key a.asid).answer (keyEnd key) a.bay (.accessFaultRecorded u rid .memerr))
        else
          let (t0, old) := s.atomicAt key a.size fn a.data a.exp
          let t := t0.tallyKey key .atomics
          if ret then
            .next (t.answer (keyEnd key) a.bay (.loadDataReturn u (a.dest.getD 0) (extend true a.size old.toNat) rid))
          else
            .next ((t.countDie a.asid (stationOf key / 4) a.ea.toNat a.size).answer (keyEnd key) a.bay (.accessAccepted u rid))
      | _ => .next s
    | _, _ => .next s
  | _ => .next s
/-- APERTURE_ACCESS: the access at the target bay's bank, or in the save image, under the checks of R139. -/
def execApertureAccess (s : State) : Out :=
  match s.ev with
  | .apertureAccess u rid => .next (s.apertureAt u rid)
  | _ => .next s

end Sys2Proof.Machine
end

