-- ==== Sys2Proof/Machine/Barrier.lean ====
section
/-!
DEFINITION. Barrier instructions, the completion of a phase and the group tree (spec/07_barriers_gutters.md R222 to R233,
spec/11_fabric.md R344).
-/
namespace Sys2Proof.Machine

/-- Step 4 of R51 for a channel index beyond the context's quota (R31, R228). -/
def chanEarly (n : BitVec 10) (c : BayCtx) (_ : Fibre) : Option (Cause × Word) :=
  if c.quota.chans ≤ n.toNat then some (.quota, n.setWidth 64) else none
/-- BARR: one arrival, and the ticket; it waits while the bay has arrived (R229). -/
def execBarr (x : BitVec 10) (r : MemOrd) (p : Scope) (s : State) : Out :=
  issue (.barr x r p) (chanEarly x) (fun c f s =>
      let n := x.toNat
      let y := c.chan n
      if !y.en then .fault .bstate (x.setWidth 64)
      else withRelease r p f s fun s =>
        if y.arr then .stay ((s.modCurC fun c => c.modChan n fun z => { z with arrWait := z.arrWait ++ [.barr f.uid] }).modCur
          fun g => g.block (.queued 0x20) (s.bay s.cur.bay).cycle)
        else .done ((s.modCur fun g => { g with ticket := some (n, y.phase) }).arriveRaw s.cur.bay s.cur.idx n)) s
/-- The fibre waits for the next completion of a channel (R229). -/
def State.awaitPhase (s : State) (n code u : Nat) : State :=
  (s.modCurC fun c => c.modChan n fun z => { z with phWait := z.phWait ++ [u] }).modCur
    fun g => g.block (.queued code) (s.bay s.cur.bay).cycle
/-- BWAIT: the phase of the ticket, or the next completion (R229). -/
def execBwait (x : BitVec 10) (r : MemOrd) (p : Scope) (s : State) : Out :=
  issue (.bwait x r p) (chanEarly x) (fun c f s =>
      let n := x.toNat
      let y := c.chan n
      if !y.en then .fault .bstate (x.setWidth 64)
      else withRelease r p f s fun s =>
        match f.ticket with
        | some (m, q) => if m = n ∧ y.phase ≠ q then .done s else .stay (s.awaitPhase n 0x21 f.uid)
        | none => .stay (s.awaitPhase n 0x21 f.uid)) s
/-- BSYNC: an arrival, then the wait on its ticket (R229).  R239 names no reason of its own for one that waits before its
arrival is counted: the model gives it that of BARR, 0x20 (log entry 63). -/
def execBsync (x : BitVec 10) (r : MemOrd) (p : Scope) (s : State) : Out :=
  issue (.bsync x r p) (chanEarly x) (fun c f s =>
      let n := x.toNat
      let y := c.chan n
      if !y.en then .fault .bstate (x.setWidth 64)
      else withRelease r p f s fun s =>
        if y.arr then .stay ((s.modCurC fun c => c.modChan n fun z => { z with arrWait := z.arrWait ++ [.bsync f.uid] }).modCur
          fun g => g.block (.queued 0x20) (s.bay s.cur.bay).cycle)
        else .stay (((s.modCur fun g => { g with ticket := some (n, y.phase) }).awaitPhase n 0x22 f.uid).arriveRaw
          s.cur.bay s.cur.idx n)) s
/-- The reserved bits of a BMASK operand are zero (R225). -/
def maskResv (v : Word) : Bool := (v &&& 0x700000FF7C88E0C0#64) == 0
/-- The operand is one that R226 lets a bay join with. -/
def maskOk (s : State) (c : BayCtx) (v : Word) : Bool :=
  let r : BitVec 26 := v.setWidth 26
  let g := bits v 59 48
  maskResv v && rectOk r && inRect r s.cur.bay
    && (match s.ctx c.asid with
        | some x => rectIn r x.rect && (if v.getLsbD 63 then
            (match x.groups[g]? with | some box => s.inBox box s.chip.toNat | none => false) else g == 0)
        | none => false)
/-- BMASK, with its checks in the order listed (R226). -/
def execBmask (a : GReg) (x : BitVec 10) (s : State) : Out :=
  issue (.bmask a x) (chanEarly x) (fun c f s =>
      let n := x.toNat
      let y := c.chan n
      let v := f.reg a
      if y.arr || y.larr != 0 || !y.phWait.isEmpty || !y.arrWait.isEmpty then .fault .bstate (x.setWidth 64)
      else if !v.getLsbD 31 && v != 0 then .fault .range v
      else if v.getLsbD 31 && !maskOk s c v then .fault .range v
      else .done (s.modCurC fun c => c.modChan n fun z =>
        { z with mask := v, en := v.getLsbD 31, phase := 0, larr := 0, arr := false })) s
/-- Fibres blocked on a channel (R232). -/
def Chan.waitn (x : Chan) : Nat :=
  x.phWait.length + (x.arrWait.filter fun a => match a with | .cistern _ _ => false | _ => true).length
/-- BSTAT (R232). -/
def execBstat (b : GReg) (x : BitVec 10) (s : State) : Out :=
  issue (.bstat b x) (chanEarly x) (fun c _ s =>
      let y := c.chan x.toNat
      .done (s.modCur fun g => g.setReg b (toW (y.larr * 2 ^ 40 + y.arrn * 2 ^ 32 + (if y.en then 2 ^ 31 else 0)
        + (if y.ext then 2 ^ 30 else 0) + (if y.arr then 2 ^ 29 else 0) + y.waitn * 2 ^ 16 + y.phase.toNat)))) s

/-- BARRIER_PHASE_COMPLETE: a completion arrives from the tree (R227); a channel that extends to a group completes only with
the group's own completion of that phase (R233). -/
def execBarrierPhaseComplete (s : State) : Out :=
  match s.ev with
  | .barrierPhaseComplete asid n b =>
    match (s.keyOf b asid).bind fun i => s.bctx b i with
    | some c =>
      let x := c.chan n
      if !s.phaseReady asid n x then .next s
      else if x.ext then
        let k := State.groupKey asid x.grp
        let g := tget .init s.groups k
        let u : RectUp := ⟨n, x.rect, x.phase, true⟩
        if g.up.contains u then .next ({ s with groups := tset s.groups k { g with up := g.up.erase u } }.completePhase asid n x)
        else .next s
      else .next (s.completePhase asid n x)
    | none => .next s
  | _ => .next s

/-- The channel of an arrival at a group, once every bay of its rectangle is there and waits for the completion (R233, R241). -/
def State.rectReady (s : State) (asid g : Nat) (u : RectUp) : Option Chan :=
  s.bays.findSome? fun p => p.2.ctxs.findSome? fun q =>
    let x := q.2.chan u.chan
    if q.2.asid == asid && x.en && x.ext && x.grp == g && x.rect == u.rect && x.phase == u.phase && s.phaseReady asid u.chan x
    then some x else none
/-- A group's completion on this package (R344 items 3 and 4): to the children, and on the rectangle that has arrived longest with
its phase; one that comes while the context is saved off a bay of it is kept until the restore (R241). -/
def State.groupDown (s : State) (asid g : Nat) (phase serial : BitVec 16) : State :=
  let k := State.groupKey asid g
  let e := tget .init s.groups k
  let e' := { e with gone := e.gone.filter fun q => q.1 != serial }
  let s1 := e.children.foldl (fun t c => t.emit (t.groupPacket c 0x31 asid g phase serial))
    { s with groups := tset s.groups k e' }
  match e.up.find? fun u => u.phase == phase && !u.done with
  | none => s1
  | some u =>
    match s1.rectReady asid g u with
    | some x => { s1 with groups := tset s1.groups k { e' with up := e.up.erase u } }.completePhase asid u.chan x
    | none => { s1 with groups := tset s1.groups k { e' with up := e.up.map fun v => if v = u then { u with done := true } else v } }
/-- A number does not come after another (16 bits, with wrap). -/
def notAfter (a b : BitVec 16) : Bool := decide ((b - a).toNat < 2 ^ 15)
/-- The number of the latest count that was full, as the entry or its first arrival has it (log entry 69). -/
def Group.base (e : Group) (serial : BitVec 16) : BitVec 16 := e.sent.getD (serial - 1)
/-- How many arrivals wait for a completion (R344). -/
def Group.count (e : Group) (serial : BitVec 16) : Nat := (e.came.filter fun a => a.serial == serial).length
/-- An arrival that the entry has counted already: a link failure may deliver a BUP twice (R349; log entry 69). -/
def Group.again (e : Group) (src : Nat) (serial : BitVec 16) : Bool :=
  (match e.sent with | some n => notAfter serial n | none => false) || e.came.any fun a => a.src == src && a.serial == serial
/-- An entry's count has reached E (R344 item 3): it starts again at 0, and the arrival goes on to the parent, or from the root
the completion down. -/
def State.groupFull (s : State) (asid g : Nat) (e : Group) (phase serial : BitVec 16) : State :=
  let e' := { e with came := e.came.filter fun a => a.serial != serial, sent := some serial }
  let put := fun (x : Group) => { s with groups := tset s.groups (State.groupKey asid g) x }
  match e.parent with
  | some c =>
    let s1 := put { e' with gone := e.gone ++ [(serial, phase)] }
    s1.emit (s1.groupPacket c 0x30 asid g phase serial)
  | none => (put e').groupDown asid g phase serial
/-- The counts of an entry that have reached E go on, one after another, at most n of them (R344 item 3). -/
def State.settle (s : State) (asid g : Nat) : Nat → State
  | 0 => s
  | n + 1 =>
    match tfind s.groups (State.groupKey asid g) with
    | none => s
    | some e =>
      let q := e.sent.getD 0 + 1
      match e.came.find? fun a => a.serial == q with
      | none => s
      | some a => if e.count q < e.expect then s else State.settle (s.groupFull asid g e a.phase q) asid g n
/-- A member of the group that is lost (R233). -/
def State.lostMember (s : State) (e : Group) : Option Nat := e.lost.find? fun m => s.inBox e.box m
/-- The number of an arrival: a child gives it, and the package's own arrivals are numbered as they come (log entry 69). -/
def State.serialOf (s : State) (e : Group) (p : Packet) : BitVec 16 :=
  if p.src = s.chip.toNat then
    e.sent.getD 0 + 1 + BitVec.ofNat 16 (e.came.filter fun a => a.src == p.src).length
  else p.o1.setWidth 16
/-- An arrival at this package's entry of a group (R344): one of another phase than the open count's ends the context, and so does one
for a group with a lost member, since that member cannot be reached (R233); a child whose count is complete hears so again
(log entry 69). -/
def State.groupUp (s : State) (p : Packet) : State :=
    let asid := p.asid
    let g := p.addr.toNat
    let phase : BitVec 16 := p.o0.setWidth 16
    match tfind s.groups (State.groupKey asid g) with
    | none => s
    | some e =>
      let serial := s.serialOf e p
      if e.again p.src serial then
        (if e.gone.any (fun q => q.1 == serial) || e.came.any (fun a => a.serial == serial) then s
          else s.emit (s.groupPacket p.src 0x31 asid g phase serial))
      else
        match e.came.find? fun a => a.phase != phase, s.lostMember e with
        | some a, _ => s.endCtx asid .group 0x7FF (groupSection g a.phase (phase.setWidth 64))
        | none, some m => s.endCtx asid .group 0x7FF (groupSection g phase (toW m))
        | none, none =>
          let e' := { e with sent := some (e.base serial), came := e.came ++ [⟨p.src, serial, phase⟩] }
          { s with groups := tset s.groups (State.groupKey asid g) e' }.settle asid g e'.came.length
/-- BUP: an arrival from a child, or from the package itself (R344). -/
def execBup (s : State) : Out :=
  match s.ev with
  | .bup p => .next (s.arriving p fun s => s.groupUp p)
  | _ => .next s
/-- BDOWN: a completion comes down a group's tree (R344); one that has come before, by another route, comes to nothing
(R349; log entry 69). -/
def execBdown (s : State) : Out :=
  match s.ev with
  | .bdown p => .next (s.arriving p fun s =>
      match tfind s.groups (State.groupKey p.asid p.addr.toNat) with
      | some e =>
        let serial : BitVec 16 := p.o1.setWidth 16
        if e.gone.any fun q => q.1 == serial then s.groupDown p.asid p.addr.toNat (p.o0.setWidth 16) serial else s
      | none => s)
  | _ => .next s

end Sys2Proof.Machine
end

