-- ==== Sys2Proof/Machine/Cisterns.lean ====
section
/-!
DEFINITION. Cistern instructions and what their units do (spec/13_cisterns.md R386 to R404).
-/
namespace Sys2Proof.Machine

/-- Kind and unit of a cistern handle, as one number: a bay, or 2,048 and a die (R34). -/
def handleUnit (h : Word) : Nat := bits h 41 30
/-- The index of a cistern handle (R34). -/
def handleIndex (h : Word) : Nat := bits h 29 18
/-- The handle checks of R387, for a context. -/
def handleFor (s : State) (asid : Nat) (h : Word) : Bool :=
  let u := handleUnit h
  bits h 17 0 == 0 && bits h 63 42 == s.chip.toNat
    && (if u < 2048 then decide (u < 1536) && s.inPart asid u && !(s.bay u).fenced && decide (handleIndex h ≤ 63)
        else decide (u - 2048 ≤ 7))
/-- The handle checks of R387, for the issuing context. -/
def handleOk (s : State) (c : BayCtx) (h : Word) : Bool := handleFor s c.asid h
/-- A cistern instruction goes on only with a good handle: RANGE otherwise (R387). -/
def handleCheck (s : State) (c : BayCtx) (h : Word) (k : Res) : Res := if handleOk s c h then k else .fault .range h
/-- The descriptor checks of R389 that need no unit. -/
def descOk (u : Nat) (e : Cist) : Bool :=
  let pri := bits (e.dw 2) 52 50
  let actw := e.dw 3
  bits (e.dw 0) 59 56 == 0 && bits (e.dw 2) 49 41 == 0
    && (e.act == 2 || pri == 0) && (decide (2 ≤ e.act) || actw == 0) && (e.act != 3 || e.actx == 0)
    && (if e.sig then e.base == 0 && e.len == 0
        else e.len != 0 && e.base % 64 == 0 && e.len % 64 == 0
          && decide (e.base + e.len ≤ (if u < 2048 then 2 ^ 21 else 2 ^ 56)))
    && (e.act != 0 || decide (e.actx < 1024)) && (e.act != 1 || decide (e.actx < 48))
    && decide (e.tbay < 1536) && (u < 2048 || e.act != 3 || e.tbay == 0) && (e.act != 3 || actw.toNat % 8 == 0)
/-- A request to a unit (R399 to R401). -/
def State.cistMsg (s : State) (c : BayCtx) (f : Fibre) (h : Word) (count : Nat) (desc : List Word) (sem : Nat) : CistMsg :=
  { asid := c.asid, handle := h, count := count, desc := desc, sem := sem, oBay := s.cur.bay, oSlot := s.cur.slot,
    oGen := (c.slot s.cur.slot).gen, uid := f.uid, id := s.nextId }
/-- A request leaves for its unit, in the order of its bay's requests (R10, R400). -/
def State.sendCist (s : State) (h : Word) (e : Ev) : State :=
  { (s.post (laneCist s.cur.bay (handleUnit h)) e) with nextId := s.nextId + 1 }
/-- The request that an event brings to a unit. -/
def cistReq : Ev → Option CistMsg
  | .carmAtUnit m => some m
  | .caddAtUnit m => some m
  | .creadAtUnit m => some m
  | .cdisarmAtUnit m => some m
  | _ => none
/-- An earlier request of the same fibre to the same unit is still on its way, from the bay where the fibre was: requests of
one fibre are applied in issue order (R400). -/
def State.cistEarlier (s : State) (m : CistMsg) : Bool :=
  (s.agenda ++ s.bays.flatMap fun p => p.2.ctxs.flatMap fun q => q.2.park).any fun t => match cistReq t.ev with
    | some x => x.uid == m.uid && handleUnit x.handle == handleUnit m.handle && decide (x.id < m.id)
    | none => false
/-- A request at its unit, once its fibre's earlier ones are applied; on an entry in a save image only where the image's page
verifies (R425). -/
def State.atUnit (s : State) (m : CistMsg) (k : State → State) : Out :=
  .next (if s.cistEarlier m then s.wait
    else match s.mayCist m.asid (handleUnit m.handle) with
      | (t, true) => k t
      | (t, false) => t)
/-- CARM: the checks at issue, and the descriptor on its way to the unit (R399). -/
def execCarm (a b : GReg) (x : BitVec 10) (s : State) : Out :=
  issue (.carm a b x) (semEarly x) (fun c f s =>
    let h := f.reg a
    let p := f.reg b
    handleCheck s c h (
      if p.toNat % 32 ≠ 0 then .fault .align p
      else if c.quota.scratch < p.toNat + 32 then .fault .quota p
      else
        let key := spadKey c.asid s.cur.bay p.toNat
        match s.bad key 32 with
        | some o => .enter (s.memError (key + o) c.asid) .memerr (p + toW o) f.pc
        | none =>
          let d := s.readDs key 4
          if !descOk (handleUnit h) { Cist.init with desc := d } then .fault .cistern (h ||| 1)
          else .done (s.sendCist h (.carmAtUnit (s.cistMsg c f h 0 d x.toNat))))) s
/-- CADD (R400). -/
def execCadd (a b : GReg) (r : MemOrd) (p : Scope) (s : State) : Out :=
  issue (.cadd a b r p) noEarly (fun c f s =>
    let h := f.reg a
    handleCheck s c h (
      if 2 ^ 48 ≤ (f.reg b).toNat then .fault .range (f.reg b)
      else withRelease r p f s fun s =>
        .done (s.sendCist h (.caddAtUnit (s.cistMsg c f h (f.reg b).toNat [] 0))))) s
/-- CREAD (R401). -/
def execCread (a b : GReg) (s : State) : Out :=
  issue (.cread a b) noEarly (fun c f s =>
    let h := f.reg a
    handleCheck s c h (.stay ((s.sendCist h (.creadAtUnit (s.cistMsg c f h b.toNat [] 0))).modCur fun g =>
      g.block (.queued 0x50) (s.bay s.cur.bay).cycle))) s
/-- CDISARM (R401). -/
def execCdisarm (a b : GReg) (s : State) : Out :=
  issue (.cdisarm a b) noEarly (fun c f s =>
    let h := f.reg a
    handleCheck s c h (.stay ((s.sendCist h (.cdisarmAtUnit (s.cistMsg c f h b.toNat [] 0))).modCur fun g =>
      g.block (.queued 0x50) (s.bay s.cur.bay).cycle))) s

/-! ### At the unit -/

/-- The entries that a context has at a die: DCQ where the die holds a bay of its partition (R386). -/
def dieShare (c : Ctx) (d : Nat) : Nat := if (List.range 192).any fun k => inRect c.rect (d * 192 + k) then c.dcq else 0
/-- The entries that a context has at a unit (R386): its quota on the bay, or DCQ on a die that holds a bay of its
partition.  A fenced bay's unit has none, so that a CREAD or CDISARM that reaches it delivers QUOTA as a CARM or CADD does, though R401
names only an index beyond the share (DESIGN CHOICE, log entry 40). -/
def State.cistShare (s : State) (asid u : Nat) : Nat :=
  if u < 2048 then
    match (s.keyOf u asid).bind fun i => s.bctx u i with
    | some c => if (s.bay u).fenced then 0 else c.quota.cists
    | none => 0
  else match s.ctx asid with | some c => dieShare c (u - 2048) | none => 0
/-- The armed or fired byte-mode regions of a context at a unit, but for one entry. -/
def State.regions (s : State) (asid u k : Nat) : List (Nat × Nat) :=
  let l := if u < 2048 then
      (match (s.keyOf u asid).bind fun i => s.bctx u i with | some c => c.cists | none => [])
    else (s.dcists.filter fun p => p.1 / 4096 == asid * 8 + (u - 2048)).map fun p => (p.1 % 4096, p.2)
  (l.filter fun p => p.1 != k && p.2.st != .idle && !p.2.sig).map fun p => (p.2.base, p.2.len)
/-- The target of a cistern's action cannot take it (R399 TARGET).  The TBAY of a kind-1 entry with ACT 3, which R388 wants
to be 0 though the action uses no bay, is tested here like another, and not at the action (log entry 84); a quota on a bay where
the context has no state is met by nothing (log entry 40). -/
def State.targetBad (s : State) (asid u : Nat) (e : Cist) : Bool :=
  if !s.inPart asid e.tbay || (s.bay e.tbay).fenced then true
  else if e.act = 2 then (match s.ctx asid with | some x => decide (x.targets.length ≤ e.actx) | none => true)
  else
    match (s.keyOf e.tbay asid).bind fun i => s.bctx e.tbay i with
    | none => decide (u < 2048) || e.act != 3
    | some c =>
      if e.act = 0 then decide (c.quota.sems ≤ e.actx)
      else if e.act = 1 then decide (c.quota.chans ≤ e.actx)
      else decide (u < 2048) && decide (c.quota.scratch < (e.dw 3).toNat + 8)
/-- The unit's checks of a CARM, in their order (R399): 0, or the reason of R404. -/
def State.armReason (s : State) (asid u k : Nat) (e : Cist) : Nat :=
  let scratch := match (s.keyOf u asid).bind fun i => s.bctx u i with | some c => c.quota.scratch | none => 0
  if s.cistShare asid u ≤ k then 3
  else if (s.cist asid u k).st = .armed then 2
  else if u < 2048 ∧ e.sig = false ∧ scratch < e.base + e.len then 4
  else if e.sig = false ∧ (s.regions asid u k).any (fun p => decide (0 < overlap e.base e.len p.1 p.2)) = true then 5
  else if s.targetBad asid u e then 6
  else 0
/-- The entry is armed, or the reason why not (R399). -/
def State.cistArm (s : State) (asid : Nat) (h : Word) (desc : List Word) : State × Nat :=
  let u := handleUnit h
  let k := handleIndex h
  let r := s.armReason asid u k { Cist.init with desc := desc }
  if r = 0 then
    (s.setCist asid u k { s.cist asid u k with st := .armed, desc := desc, count := 0, fires := 0, ovf := false }, 0)
  else (s, r)
/-- A cistern fault for the issuer of a request (R399, R400): as an engine fault, with no ring entry. -/
def State.cistFault (s : State) (m : CistMsg) (reason : Nat) : State :=
  s.deliver m.asid m.oBay m.oSlot
    { hcause := causeWord .cistern, hval := m.handle ||| toW reason, hseq := 0, gen := m.oGen, eng := none }
/-- CARM_AT_UNIT (R399, R402, R413). -/
def execCarmAtUnit (s : State) : Out :=
  match s.ev with
  | .carmAtUnit m =>
    s.atUnit m fun s =>
      match s.cistArm m.asid m.handle m.desc with
      | (t, 0) => t.postTo m.oBay m.asid m.sem 1
      | (t, r) => ((t.cistFault m r).postTo m.oBay m.asid m.sem 1).leaveWaits s
  | _ => .next s
/-- CADD_AT_UNIT (R400). -/
def execCaddAtUnit (s : State) : Out :=
  match s.ev with
  | .caddAtUnit m =>
    s.atUnit m fun s =>
      let u := handleUnit m.handle
      let k := handleIndex m.handle
      let e := s.cist m.asid u k
      if s.cistShare m.asid u ≤ k then (s.cistFault m 3).leaveWaits s
      else if e.st = .idle ∨ e.sig = false then (s.cistFault m 7).leaveWaits s
      else s.arrive m.asid u k m.count
  | _ => .next s
/-- An entry's state word (R401). -/
def Cist.word (e : Cist) : Word :=
  match e.st with
  | .idle => 0
  | st => toW ((if st = .armed then 1 else 2) * 2 ^ 62 + (if e.sig then 2 ^ 61 else 0) + (if e.rearm then 2 ^ 60 else 0)
      + (if e.ovf then 2 ^ 59 else 0) + e.fires % 2 ^ 10 * 2 ^ 49 + e.count)
/-- The unit's answer to CREAD or CDISARM, on its way back (R401). -/
def State.cistAnswer (s : State) (m : CistMsg) : State :=
  let u := handleUnit m.handle
  let k := handleIndex m.handle
  s.post (laneAnswer (match s.homeU m.uid with | some (b, _) => b | none => m.oBay) u) (.cisternAnswer m.uid (BitVec.ofNat 3 m.count)
    (if s.cistShare m.asid u ≤ k then none else some (s.cist m.asid u k).word) m.handle)
/-- CREAD_AT_UNIT (R401). -/
def execCreadAtUnit (s : State) : Out :=
  match s.ev with
  | .creadAtUnit m => s.atUnit m fun s => s.cistAnswer m
  | _ => .next s
/-- CDISARM_AT_UNIT: the word before, and the entry is IDLE (R401, R402). -/
def execCdisarmAtUnit (s : State) : Out :=
  match s.ev with
  | .cdisarmAtUnit m =>
    s.atUnit m fun s =>
      let u := handleUnit m.handle
      let k := handleIndex m.handle
      let t := s.cistAnswer m
      if s.cistShare m.asid u ≤ k then t else t.setCist m.asid u k { t.cist m.asid u k with st := .idle }
  | _ => .next s
/-- CISTERN_ANSWER: gb and retirement, or the precise fault CISTERN with reason QUOTA (R401). -/
def execCisternAnswer (s : State) : Out :=
  match s.ev with
  | .cisternAnswer u d ans h =>
    match s.findU u with
    | none => .next s
    | some (p, f) =>
      match ans with
      | some w => .next (s.retireU u fun g => g.setReg d w)
      | none => .next (s.enterHandler p f (causeWord .cistern) (h ||| 3) 0 f.pc)
  | _ => .next s

end Sys2Proof.Machine
end

