-- ==== Sys2Proof/Machine/Fibres.lean ====
section
/-!
DEFINITION. Fibre instructions and events: spawning, exit, migration, parking, the cellar and the fault fibre
(spec/06_scheduler.md R172 to R192, R202 to R209, R218; spec/14_contexts.md R415, R416).
-/
namespace Sys2Proof.Machine

/-- The spawn request of an instruction (R173). -/
def Fibre.request (f : Fibre) (entry arg : Word) : SpawnReq := { entry := entry, arg := arg, pri := f.pri }
/-- FSPAWN at the issuing bay (R176); the spawn is a release at PACKAGE scope (R175). -/
def spawnHere (d : GReg) (entry arg : Word) (c : BayCtx) (f : Fibre) (s : State) : Res :=
  let b := s.cur.bay
  let i := s.cur.idx
  if entry.toNat % 4 ≠ 0 then .fault .align entry
  else if c.cellar.cong || !(s.cellarRoom c || (s.freeSlot b i).isSome) then .block 0x18
  else withRelease .rel .pkg f s fun s =>
    match s.place b i (.spawn (f.request entry arg)) with
    | none => .block 0x18
    | some (t, some k) =>
      let gen := match t.bctx b i with | some y => (y.slot k).gen | none => 0
      .done (t.modCur fun x => x.setReg d (t.handle b k gen))
    | some (t, none) => .done (t.modCur fun x => x.setReg d 0)
/-- FSPAWN (R176). -/
def execFspawn (d a b : GReg) (s : State) : Out :=
  issue (.fspawn d a b) noEarly (fun c f s => spawnHere d (f.reg a) (f.reg b) c f s) s
/-- FSPAWNB: RANGE goes before ALIGN; a message goes to another bay, counted as live until it is acknowledged (R176,
R184). -/
def execFspawnb (d a b : GReg) (s : State) : Out :=
  issue (.fspawnb d a b) noEarly (fun c f s =>
    let t := f.reg d
    if !(decide (t.toNat < 1536) && s.usable c.asid t.toNat) then .fault .range t
    else if t.toNat = s.cur.bay then spawnHere d (f.reg a) (f.reg b) c f s
    else if (f.reg a).toNat % 4 ≠ 0 then .fault .align (f.reg a)
    else if 4 ≤ f.spawnUnack then .block 0x18
    else withRelease .rel .pkg f s fun s =>
      .done (((s.post (laneMesh s.cur.bay t.toNat)
        (.spawnMessageArrival t.toNat c.asid (f.request (f.reg a) (f.reg b)) f.uid)).addLive c.asid 1).modCur fun x =>
          { (x.setReg d 0) with spawnUnack := x.spawnUnack + 1 })) s
/-- The fibre's slot is freed at its exit: its vector context with it, its live share, and what its pending list still
holds goes to the fault fibre (R183, R253, log entry 14). -/
def State.exitFibre (s : State) (b i k asid : Nat) (f : Fibre) : State :=
  let s1 := (s.countRetired b i).vacate b i k
  let s2 := match f.vctx with
    | some v => s1.freeVec b i v
    | none => s1
  let s3 := s2.subLive asid 1
  (f.pend.foldl (fun t p => t.toFaultFibre asid p) s3).leaveWaits s3
/-- The queue of the fibre's vector context is empty (R183, R253). -/
def vecIdle (c : BayCtx) (f : Fibre) : Bool :=
  match f.vctx with
  | some v => (tget VCtx.init c.vctxs v).queue.isEmpty
  | none => true
/-- FEXIT (R183). -/
def execFexit (s : State) : Out :=
  issue .fexit noEarly (fun c f s =>
    if !f.ring.isEmpty then .block 9
    else if !f.dfaults.isEmpty then .deferred
    else if f.locals ≠ 0 ∨ f.spawnUnack ≠ 0 ∨ s.remoteWrites f.uid none = true ∨ vecIdle c f = false then .block 0x0B
    else .stay (s.exitFibre s.cur.bay s.cur.idx s.cur.slot c.asid f)) s
/-- FID (R179). -/
def execFid (d : GReg) (s : State) : Out :=
  issue (.fid d) noEarly (fun c _ s =>
    .done (s.modCur fun x => x.setReg d (s.handle s.cur.bay s.cur.slot (c.slot s.cur.slot).gen))) s
/-- FPRI (R181). -/
def execFpri (a : GReg) (s : State) : Out :=
  issue (.fpri a) noEarly (fun _ f s =>
    if 6 < (f.reg a).toNat then .fault .range (f.reg a)
    else .done (s.modCur fun x => { x with pri := (f.reg a).setWidth 3 })) s
/-- The effect of FYIELD (R182): the instruction retires, and the fibre is not ready for 64 bay cycles. -/
def State.yieldCur (s : State) (u : Nat) : State :=
  ((s.retireCur.modCur fun x => { x with w := 0, wait := .queued 5, since := (s.bay s.cur.bay).cycle })).postFree
    (.fyieldDelayExpiry u)
/-- FYIELD (R182). -/
def execFyield (s : State) : Out := issue .fyield noEarly (fun _ f s => .stay (s.yieldCur f.uid)) s
/-- A store or no-return atomic of the fibre is not accepted yet (R187). -/
def Access.writes (a : Access) : Bool :=
  match a.kind with
  | .store => true
  | .atomic _ ret => !ret
  | .load _ => false
/-- A value that HCAUSE can hold (R407, R408): reserved bits 0, a listed code or 0, and a cause in SUB for ENGINE only. -/
def causeForm (w : Word) : Word :=
  let all : List Cause := [.illegal, .ifetch, .align, .quota, .range, .lstack, .vframe, .trap, .fstate, .bstate, .vnobind, .gaddr,
    .xlate, .perm, .aperture, .domain, .memerr, .engine, .cistern]
  let subs : List Cause := [.xlate, .perm, .aperture, .domain, .memerr, .desc, .panel, .mreject, .gaddr, .quota, .align, .range]
  let code := (0 :: all.map causeCode).getD (w.toNat % 20) 0
  let sub_ := if code = causeCode .engine then (subs.map causeCode).getD (w.toNat / 32 % 12) 0 else 0
  toW (bits w 63 62 * 2 ^ 62 + sub_ * 2 ^ 8 + code)
/-- The fibre as it travels (R86, R187): without its handler registers, whose values at the new bay the spec does not
state (log entry 3), and without its ticket (R224). -/
def Fibre.travel (f : Fibre) (n : Nat) : Fibre :=
  { f with ticket := none, w := 0, nextIssue := 0, hpc := Config.freeWord n, hcause := causeForm (Config.freeWord (n + 1)),
           hval := Config.freeWord (n + 2), hseq := Config.freeWord (n + 3) }
/-- FGO (R187, R149); it clears the ticket, to the fibre's own bay too (R224). -/
def execFgo (a : GReg) (s : State) : Out :=
  issue (.fgo a) noEarly (fun c f s =>
    let t := f.reg a
    if f.hm || f.vctx.isSome then .fault .fstate (wordOf (.fgo a))
    else if !(decide (t.toNat < 1536) && s.usable c.asid t.toNat) then .fault .range t
    else if f.locals ≠ 0 ∨ f.ring.any Access.writes = true then .block 0x0B
    else if t.toNat = s.cur.bay then .done (s.modCur fun x => { x with ticket := none })
    else
      let s1 := (s.countRetired s.cur.bay s.cur.idx).vacate s.cur.bay s.cur.idx s.cur.slot
      .stay ({ s1 with mig := tset s1.mig f.uid (f.retire.travel s.free), free := s.free + 4 }.post
        (laneMesh s.cur.bay t.toNat) (.migrationArrival t.toNat c.asid f.uid))) s
/-- FPARK (R188).  Where the ring is not empty and the bay's cellar has no free record the spec gives no outcome: the model
blocks the fibre, with wait reason 0x0B, until a record frees (log entry 62). -/
def execFpark (s : State) : Out :=
  issue .fpark noEarly (fun c f s =>
    if f.hm || f.vctx.isSome then .fault .fstate (wordOf .fpark)
    else if !f.ring.isEmpty then .block 9
    else if !f.dfaults.isEmpty then .deferred
    else if f.locals ≠ 0 ∨ f.empty ≠ 0 then .block 0x0B
    else if c.cellar.ring.isEmpty then .stay (s.yieldCur f.uid)
    else if s.cellarRoom c = false then .block 0x0B
    else .stay (s.cellarOr s.cur.bay c.asid c.cellar.room .write fun s =>
      let s1 := (s.countRetired s.cur.bay s.cur.idx).modCurC fun y =>
        { y with cellar := { y.cellar with ring := y.cellar.ring ++ [(c.cellar.room, .fib f.retire)] } }
      (s1.congest s.cur.bay s.cur.idx).vacate s.cur.bay s.cur.idx s.cur.slot)) s
/-- Slots of a context that hold a fibre on a bay. -/
def BayCtx.occupied (c : BayCtx) : Nat := (c.slots.filter fun p => p.2.fib.isSome).length
/-- FCTX (R180). -/
def execFctx (d : GReg) (s : State) : Out :=
  issue (.fctx d) noEarly (fun c _ s =>
    .done (s.modCur fun x => x.setReg d (toW ((if c.cellar.cong then 2 ^ 32 else 0)
      + min 65535 c.cellar.ring.length * 2 ^ 16 + c.occupied)))) s
/-- The budget that remains in the period, in nanoseconds (R218).  Before T0, when no period has begun, the spec names no
value: the model gives the whole C * 1,000 less what it has counted, which is nothing yet (log entry 73). -/
def Ctx.budget (c : Ctx) : Word :=
  match c.launch.bind Launch.contract with
  | some k => toW (k.c * 1000 - k.spent)
  | none => BitVec.allOnes 64
/-- CBUDGET (R218). -/
def execCbudget (d : GReg) (s : State) : Out :=
  issue (.cbudget d) noEarly (fun c _ s =>
    .done (s.modCur fun x => x.setReg d (match s.ctx c.asid with | some y => y.budget | none => BitVec.allOnes 64))) s

/-! ### Events -/

/-- SPAWN_MESSAGE_ARRIVAL: placed, or held at the bay's input (R177, R178). -/
def execSpawnMessageArrival (s : State) : Out :=
  match s.ev with
  | .spawnMessageArrival b asid r u =>
    match s.keyOf b asid with
    | some i => .next (s.placeOrHold b i { msg := .spawn r, sender := u })
    | none => .next s
  | _ => .next s
/-- SPAWN_ACK_ARRIVAL: the message's live share ends (R184). -/
def execSpawnAckArrival (s : State) : Out :=
  match s.ev with
  | .spawnAckArrival asid u => .next ((s.modU u fun f => { f with spawnUnack := f.spawnUnack - 1 }).subLive asid 1)
  | _ => .next s
/-- MIGRATION_ARRIVAL: the fibre is placed as a spawn request is (R187, R178). -/
def execMigrationArrival (s : State) : Out :=
  match s.ev with
  | .migrationArrival b asid u =>
    match tfind s.mig u, s.keyOf b asid with
    | some f, some i => .next ({ s with mig := tdel s.mig u }.placeOrHold b i { msg := .fib f, sender := 0 })
    | _, _ => .next { s with mig := tdel s.mig u }
  | _ => .next s
/-- FYIELD_DELAY_EXPIRY: 64 bay cycles after the FYIELD (R182); a fibre whose context is saved off the bay stays as its image has
it (R423). -/
def execFyieldDelayExpiry (s : State) : Out :=
  match s.ev with
  | .fyieldDelayExpiry u =>
    match s.findU u with
    | some (p, f) =>
      if f.wait ≠ .queued 5 then .next s
      else if 4 ≤ p.idx ∨ (s.bay p.bay).cycle < f.since + 63 then .next s.wait
      else .next (s.modF p.bay p.idx p.slot fun x => { x with wait := .ready })
    | none => .next s
  | _ => .next s
/-- WAITING_COUNT_THRESHOLD: the waiting count reaches 4,096, from which on the effective priority is 7 (R189, R190,
R192). -/
def execWaitingCountThreshold (s : State) : Out :=
  match s.ev with
  | .waitingCountThreshold b i k => .next (if 4 ≤ i then s else s.modF b i k fun f => if 4095 ≤ f.w then { f with w := 4096 } else f)
  | _ => .next s
/-- The fibre is evictable (R205); one that occupies the fault slot that a fault waits for needs no EVICT threshold
(R415). -/
def Fibre.evictable (f : Fibre) (evict cycle : Nat) (forced : Bool) : Bool :=
  f.wait == .queued 0x10 && f.ring.isEmpty && f.empty == 0 && !f.hm && f.vctx.isNone && f.frame.isNone
    && (forced || (evict != 0 && decide (f.since + evict ≤ cycle)))
/-- The longest blocked of the evictable fibres, ties to the lowest slot (R206). -/
def longest : List (Nat × Fibre) → Option (Nat × Fibre)
  | [] => none
  | x :: r =>
    match longest r with
    | some y => if y.2.since < x.2.since then some y else some x
    | none => some x
/-- Faults wait for the fault slot, which another fibre occupies (R415). -/
def State.faultSlotWanted (s : State) (b i k asid : Nat) : Bool :=
  s.isFaultSlot b i k && (match s.ctx asid with | some x => !x.backlog.isEmpty | none => false)
    && (s.faultFibre asid).isNone
/-- The fibre that the context controller evicts now, if any (R206, R415).  An empty fault slot is no free slot here: R415
names R174 and R208 as what it is an exception to, and the model takes R206 with them (log entry 62). -/
def State.evictee (s : State) (b i : Nat) : Option (Nat × Fibre) :=
  match s.bctx b i with
  | none => none
  | some c =>
    if !s.activeAt b i then none
    else
      let fs := c.slots.filterMap fun p => p.2.fib.map fun f => (p.1, f)
      let ev := match s.ctx c.asid with | some x => x.evict | none => 0
      let cyc := (s.bay b).cycle
      match fs.find? fun p => s.faultSlotWanted b i p.1 c.asid && p.2.evictable ev cyc true with
      | some p => some p
      | none =>
        if c.cellar.ring.isEmpty || (s.freeSlot b i).isSome || !c.cellar.order.isEmpty then none
        else longest (fs.filter fun p => p.2.evictable ev cyc false)
/-- FIBRE_EVICTION: a blocked fibre becomes a blocked record, and its slot is free (R203, R206, R415).  Where the bay's
cellar has no free record the spec is silent: the model makes no eviction (log entry 62). -/
def execFibreEviction (s : State) : Out :=
  match s.ev with
  | .fibreEviction b i =>
    match s.bctx b i, s.evictee b i with
    | some c, some (k, f) =>
      if s.cellarRoom c then
        .next (s.cellarOr b c.asid c.cellar.room .write fun s =>
          ((s.modC b i fun y => { y with cellar := { y.cellar with blocked := y.cellar.blocked ++ [(c.cellar.room, f)] } }).bump
            b c.asid 13 1).vacate b i k)
      else .next s
    | _, _ => .next s
  | _ => .next s
/-- CELLAR_RESTORE: the head record of the ring goes to the slot reserved for it (R208), its record is free for a
message held at the input (R177), and congestion may end (R209).  A slot that has become the fault slot since it was
reserved takes no record, and another one is reserved (R415).  While the context is saved off the bay nothing is restored
there (R178). -/
def execCellarRestore (s : State) : Out :=
  match s.ev with
  | .cellarRestore b i =>
    match s.bctx b i with
    | none => .next s
    | some c =>
      match c.cellar.order, c.cellar.ring with
      | k :: slots, (n, r) :: rest =>
        if 4 ≤ i then .next s.wait
        else if s.isFaultSlot b i k then
          .next ((s.modC b i fun y => { (y.modSlot k fun z => { z with resv := false }) with
            cellar := { y.cellar with order := slots } }).reserve b i)
        else .next (s.cellarOr b c.asid n .read fun s =>
          let s1 := (s.modC b i fun y => { y with cellar := { y.cellar with ring := rest, order := slots } }).occupy b i k
            (s.fibreOf c.asid r)
          let s2 := { (match r with | .spawn _ => s1.countSpawn c.asid | .fib _ => s1) with nextId := s.nextId + 1 }
          let s3 := (s2.congest b i).pulse c.asid
          (s3.placeHeld b i c.cellar.held).reserve b i)
      | _, _ => .next s
  | _ => .next s
/-- CISTERN_SPAWN_RETRY: a spawn that waits at its cistern unit is tried again; once it is placed, or dropped because its bay
is fenced (R395), the actions behind it follow (R209, R394, R403). -/
def execCisternSpawnRetry (s : State) : Out :=
  match s.ev with
  | .cisternSpawnRetry b asid r u k =>
    let go := fun (t : State) =>
      let e := t.cist asid u k
      ((t.subLive asid 1).setCist asid u k { e with queued := e.queued.drop 1 }).cistRetry asid u k (e.queued.drop 1)
    match (if (s.bay b).fenced then none else s.keyOf b asid) with
    | some i =>
      match s.place b i (.spawn r) with
      | some (t, _) => .next (go t)
      | none => .next s.wait
    | none => .next (go (s.cistReport asid u k 6))
  | _ => .next s
/-- FAULT_FIBRE_START: where the fault slot is free and no fault fibre exists, one starts with the oldest fault of the backlog, in
handler mode at once; the backlog goes into its list as far as that has room; then what has waited at the slice while the context
was not active there is delivered, in order (R415, R416). -/
def execFaultFibreStart (s : State) : Out :=
  match s.ev with
  | .faultFibreStart asid =>
    match s.ctx asid with
    | none => .next s
    | some x =>
      if !s.faultActive asid then .next (if (s.faultHome asid).isSome then s.wait else s)
      else
        let t := (s.startFault asid).fillFault asid
        .next ((x.slice.foldl (fun u q => u.giveFault asid q) (t.modCtx asid fun y => { y with slice := [] })).leaveWaits s)
  | _ => .next s

end Sys2Proof.Machine
end

