-- ==== Sys2Proof/Machine/Flags.lean ====
section
/-!
DEFINITION. The status flags: the sticky word NSTAT of a vector context (R77), the only numeric flags beside the SAT
flag of a tile (R81); the sequencer core keeps none.
-/
namespace Sys2Proof.Machine

/-- NX, inexact (R77 bit 0). -/
abbrev fNX : BitVec 32 := 1
/-- UF, underflow (R77 bit 1). -/
abbrev fUF : BitVec 32 := 2
/-- OF, overflow (R77 bit 2). -/
abbrev fOF : BitVec 32 := 4
/-- DZ, division by zero (R77 bit 3). -/
abbrev fDZ : BitVec 32 := 8
/-- IV, invalid (R77 bit 4). -/
abbrev fIV : BitVec 32 := 16
/-- SAT, an integer conversion saturated (R77 bit 5). -/
abbrev fSAT : BitVec 32 := 32
/-- The flag, where the condition holds. -/
def flagIf (c : Bool) (f : BitVec 32) : BitVec 32 := if c then f else 0
/-- Sets flags in the sticky word; setting is cumulative (R77). -/
def VCtx.setFlags (v : VCtx) (f : BitVec 32) : VCtx := { v with nstat := v.nstat ||| f }

end Sys2Proof.Machine
end

