-- ==== Sys2Proof/Machine/Float.lean ====
section
/-!
DEFINITION. Number formats and exact arithmetic (spec/03_numbers.md R63 to R85): encodings, rounding, conversions, the
lane operations of the vector engine, the estimates, and the mixing function of VRNG.  An exact value is a sign, a
natural number, a power of two and whether a positive rest below one unit is left out.
-/
namespace Sys2Proof.Machine

/-- A floating-point format (R64): exponent bits, fraction bits, bias, and whether the largest exponent is for infinity
and NaN (as in FP32) or for numbers (R65). -/
structure Fmt where
  w : Nat
  f : Nat
  bias : Nat
  ieee : Bool
  nanTop : Bool
  deriving DecidableEq, Repr

/-- FP32 (R64). -/
def fp32 : Fmt := { w := 8, f := 23, bias := 127, ieee := true, nanTop := true }
/-- BF16 (R64). -/
def bf16 : Fmt := { w := 8, f := 7, bias := 127, ieee := true, nanTop := true }
/-- FP16 (R64). -/
def fp16 : Fmt := { w := 5, f := 10, bias := 15, ieee := true, nanTop := true }
/-- E5M2 (R64). -/
def e5m2 : Fmt := { w := 5, f := 2, bias := 15, ieee := true, nanTop := true }
/-- E4M3: its one NaN is the largest code (R65). -/
def e4m3 : Fmt := { w := 4, f := 3, bias := 7, ieee := false, nanTop := true }
/-- E2M1: no infinity and no NaN (R65). -/
def e2m1 : Fmt := { w := 2, f := 1, bias := 1, ieee := false, nanTop := false }

/-- The place of the sign bit. -/
def Fmt.sbit (F : Fmt) : Nat := F.w + F.f
/-- The magnitude code of infinity, where there is one (R65). -/
def Fmt.inf (F : Fmt) : Nat := (2 ^ F.w - 1) * 2 ^ F.f
/-- The magnitude code of the largest finite value (R65). -/
def Fmt.maxFin (F : Fmt) : Nat := if F.ieee then F.inf - 1 else if F.nanTop then 2 ^ F.sbit - 2 else 2 ^ F.sbit - 1
/-- The canonical NaN (R65); E2M1 has none, and a conversion to it gives +0 (R74). -/
def Fmt.nan (F : Fmt) : Nat := if F.ieee then F.inf + 2 ^ (F.f - 1) else if F.nanTop then 2 ^ F.sbit - 1 else 0
/-- A code with its sign. -/
def Fmt.signed (F : Fmt) (neg : Bool) (c : Nat) : Nat := if neg then c + 2 ^ F.sbit else c

/-- The value of an operand: NaN, an infinity, or (−1)^neg · m · 2^e, where m = 0 is a signed zero (R63, R65). -/
inductive FV where
  | nan
  | inf (neg : Bool)
  | num (neg : Bool) (m : Nat) (e : Int)
  deriving DecidableEq, Repr

/-- The value of an encoding (R63, R65). -/
def Fmt.value (F : Fmt) (x : Nat) : FV :=
  let neg := x / 2 ^ F.sbit % 2 == 1
  let c := x % 2 ^ F.sbit
  if F.ieee && decide (F.inf < c) then .nan
  else if F.ieee && c == F.inf then .inf neg
  else if !F.ieee && F.nanTop && c == 2 ^ F.sbit - 1 then .nan
  else
    let E := c / 2 ^ F.f
    if E = 0 then .num neg c (1 - (F.bias : Int) - F.f)
    else .num neg (c % 2 ^ F.f + 2 ^ F.f) ((E : Int) - F.bias - F.f)

/-! ### Rounding (R70 to R72) -/

/-- Whether the magnitude moves to the next unit, from the rest below one unit: the rest against half a unit, with the
part left out (R71). -/
def roundsUp (rm : Rm) (neg odd : Bool) (rem half : Nat) (sticky : Bool) : Bool :=
  match rm with
  | .rne => decide (half < rem) || (rem == half && half != 0 && (sticky || odd))
  | .rz => false
  | .rd => neg && (rem != 0 || sticky)
  | .ru => !neg && (rem != 0 || sticky)
/-- An overflowing result (R72). -/
def Fmt.overflow (F : Fmt) (rm : Rm) (neg : Bool) : Nat :=
  if F.ieee then
    match rm with
    | .rne => F.inf
    | .rz => F.maxFin
    | .rd => if neg then F.inf else F.maxFin
    | .ru => if neg then F.maxFin else F.inf
  else F.maxFin
/-- round(x, F, rm) of R71 and R72, with its flags (R77). -/
def Fmt.round (F : Fmt) (rm : Rm) (neg : Bool) (m : Nat) (e : Int) (sticky : Bool) : Nat × BitVec 32 :=
  if m = 0 ∧ sticky = false then (F.signed neg 0, 0)
  else
    let emin : Int := 1 - (F.bias : Int)
    let lg : Int := e + (Nat.log2 m : Nat)
    let u : Int := max lg emin - F.f
    let sh := (u - e).toNat
    let n := if u ≤ e then m * 2 ^ (e - u).toNat else m / 2 ^ sh
    let rem := if u ≤ e then 0 else m % 2 ^ sh
    let half := if u ≤ e then 0 else 2 ^ (sh - 1)
    let inexact := rem != 0 || sticky
    let n' := if roundsUp rm neg (n % 2 == 1) rem half sticky then n + 1 else n
    let code := (u - (emin - F.f)).toNat * 2 ^ F.f + n'
    if F.maxFin < code then (F.signed neg (F.overflow rm neg), fOF ||| fNX)
    else (F.signed neg code, flagIf inexact fNX ||| flagIf (inexact && decide (lg < emin)) fUF)
/-- A value as a result of the format: NaN is canonical (R68), an infinity as it is or the largest value (R74). -/
def Fmt.result (F : Fmt) (rm : Rm) : FV → Nat × BitVec 32
  | .nan => (F.nan, if F.nanTop then 0 else fIV)
  | .inf neg => if F.ieee then (F.signed neg F.inf, 0) else (F.signed neg F.maxFin, fOF ||| fNX)
  | .num neg m e => F.round rm neg m e false

/-! ### Exact operations (R68, R69) -/

/-- The value with its sign inverted. -/
def FV.neg : FV → FV
  | .nan => .nan
  | .inf n => .inf !n
  | .num n m e => .num (!n) m e
/-- The value is NaN. -/
def FV.isNan : FV → Bool
  | .nan => true
  | .inf _ => false
  | .num _ _ _ => false
/-- The exact product; 0 × ∞ is NaN (R68). -/
def FV.mul : FV → FV → FV
  | .nan, _ => .nan
  | _, .nan => .nan
  | .inf a, .inf b => .inf (a != b)
  | .inf a, .num b m _ => if m = 0 then .nan else .inf (a != b)
  | .num a m _, .inf b => if m = 0 then .nan else .inf (a != b)
  | .num a m e, .num b n d => .num (a != b) (m * n) (e + d)
/-- A signed natural number. -/
def sgn (neg : Bool) (m : Nat) : Int := if neg then -(m : Int) else m
/-- The exact sum; ∞ − ∞ is NaN, and zeros follow R69. -/
def FV.add : FV → FV → FV
  | .nan, _ => .nan
  | _, .nan => .nan
  | .inf a, .inf b => if a = b then .inf a else .nan
  | .inf a, .num _ _ _ => .inf a
  | .num _ _ _, .inf b => .inf b
  | .num a m e, .num b n d =>
    let k := min e d
    let t := sgn a m * 2 ^ (e - k).toNat + sgn b n * 2 ^ (d - k).toNat
    if t = 0 then .num (a && b) 0 0 else .num (decide (t < 0)) t.natAbs k
/-- NaN from operands that are not NaN sets IV (R77). -/
def ivOf (ops : List FV) (r : FV) : BitVec 32 := flagIf (r.isNan && !ops.any FV.isNan) fIV
/-- An operation rounded once with RNE, from exact operands and an exact result (R70). -/
def Fmt.once (F : Fmt) (ops : List FV) (r : FV) : Nat × BitVec 32 :=
  let (x, fl) := F.result .rne r
  (x, fl ||| ivOf ops r)
/-- The order of encodings: −0 below +0 (R69). -/
def Fmt.key (F : Fmt) (x : Nat) : Int :=
  if x / 2 ^ F.sbit % 2 = 1 then -((x % 2 ^ F.sbit : Nat) : Int) - 1 else ((x % 2 ^ F.sbit : Nat) : Int)
/-- VMIN and VMAX (R69). -/
def Fmt.minmax (F : Fmt) (isMax : Bool) (x y : Nat) : Nat :=
  if (F.value x).isNan || (F.value y).isNan then F.nan
  else if (decide (F.key x < F.key y)) != isMax then x else y
/-- a = b, where neither is NaN and zeros are equal (R69). -/
def Fmt.eqv (F : Fmt) (x y : Nat) : Bool :=
  !(F.value x).isNan && !(F.value y).isNan && (x == y || (x % 2 ^ F.sbit == 0 && y % 2 ^ F.sbit == 0))
/-- a < b (R69). -/
def Fmt.lt (F : Fmt) (x y : Nat) : Bool :=
  !(F.value x).isNan && !(F.value y).isNan && decide (F.key x < F.key y)
    && !(x % 2 ^ F.sbit == 0 && y % 2 ^ F.sbit == 0)

/-! ### Square root and division (R256) -/

/-- The integer square root, bit by bit below 2^n. -/
def isqrt (x : Nat) : Nat → Nat → Nat
  | 0, r => r
  | n + 1, r => if (r + 2 ^ n) * (r + 2 ^ n) ≤ x then isqrt x n (r + 2 ^ n) else isqrt x n r
/-- VSQRT: √a, rounded once. -/
def Fmt.sqrt (F : Fmt) (x : Nat) : Nat × BitVec 32 :=
  match F.value x with
  | .nan => (F.nan, 0)
  | .inf neg => if neg then (F.nan, fIV) else (F.inf, 0)
  | .num neg m e =>
    if m = 0 then (F.signed neg 0, 0)
    else if neg then (F.nan, fIV)
    else
      let k : Nat := if e % 2 = 0 then 64 else 65
      let y := m * 2 ^ k
      let r := isqrt y 48 0
      F.round .rne false r ((e - k) / 2) (decide (r * r ≠ y))
/-- VDIV: a ÷ b, rounded once; DZ for a finite non-zero a and b = ±0. -/
def Fmt.div (F : Fmt) (x y : Nat) : Nat × BitVec 32 :=
  match F.value x, F.value y with
  | .nan, _ => (F.nan, 0)
  | _, .nan => (F.nan, 0)
  | .inf _, .inf _ => (F.nan, fIV)
  | .inf a, .num b _ _ => (F.signed (a != b) F.inf, 0)
  | .num a _ _, .inf b => (F.signed (a != b) 0, 0)
  | .num a m e, .num b n d =>
    if n = 0 then (if m = 0 then (F.nan, fIV) else (F.signed (a != b) F.inf, fDZ))
    else if m = 0 then (F.signed (a != b) 0, 0)
    else F.round .rne (a != b) (m * 2 ^ 64 / n) (e - d - 64) (decide (m * 2 ^ 64 % n ≠ 0))

/-! ### Estimates (R84) -/

/-- The estimates. -/
inductive EstFn where
  | rsq | rcp | exp2 | log2
  deriving DecidableEq, Repr
/-- Rounds an inexact positive value (m and a rest below one unit, times 2^e) to 12 significant bits with RNE. -/
def to12 (m : Nat) (e : Int) : Nat × Int :=
  let k := Nat.log2 m - 11
  let n := m / 2 ^ k
  (if roundsUp .rne false (n % 2 == 1) (m % 2 ^ k) (2 ^ (k - 1)) true then n + 1 else n, e + k)
/-- The rule's rounding to FP32, with OF for an infinity and UF for a subnormal or zero. -/
def est32 (neg : Bool) (m : Nat) (e : Int) : Nat × BitVec 32 :=
  let (n, k) := to12 m e
  let (x, _) := fp32.round .rne neg n k false
  (x, flagIf (x % 2 ^ 31 == fp32.inf) fOF ||| flagIf (decide (x % 2 ^ 31 < 2 ^ 23)) fUF)
/-- 2 to the power of a fraction of n bits, times 2^62: the product of the square roots of 2 that its bits name; `c` is
2^(2^-k) times 2^62 for the bit at hand. -/
def pow2Frac (x : Nat) : Nat → Nat → Nat → Nat
  | 0, _, acc => acc
  | n + 1, c, acc =>
    let c' := isqrt (c * 2 ^ 62) 64 0
    pow2Frac x n c' (if x / 2 ^ n % 2 = 1 then acc * c' / 2 ^ 62 else acc)
/-- The fraction bits of log2 of y, where 1 ≤ y < 2 in units of 2^-126, by repeated squaring. -/
def log2Frac : Nat → Nat → Nat → Nat
  | 0, _, acc => acc
  | n + 1, y, acc =>
    let z := y * y / 2 ^ 126
    if 2 ^ 127 ≤ z then log2Frac n (z / 2) (2 * acc + 1) else log2Frac n z (2 * acc)
/-- The rule of R84 for a finite non-zero operand: the midpoint is mid · 2^(e − 8), mid odd, 257 to 511. -/
def estRule (f : EstFn) (neg : Bool) (mid : Nat) (e : Int) : Nat × BitVec 32 :=
  match f with
  | .rsq =>
    let k : Nat := if (e - 8) % 2 = 0 then 0 else 1
    est32 false (isqrt (2 ^ 80 / (mid * 2 ^ k)) 48 0) (-40 - (e - 8 - k) / 2)
  | .rcp => est32 neg (2 ^ 40 / mid) (-40 - (e - 8))
  | .exp2 =>
    if 8 ≤ e then (if neg then (0, fUF) else (fp32.inf, fOF))
    else if e < -14 then (0x3F800000, 0)
    else
      let n := (8 - e).toNat
      let v : Int := sgn neg mid
      est32 false (pow2Frac (v % 2 ^ n).toNat n (2 ^ 63) (2 ^ 62)) (v / 2 ^ n - 62)
  | .log2 =>
    let v : Int := e * 2 ^ 40 + log2Frac 40 (mid * 2 ^ 118) 0
    if 0 ≤ v then est32 false v.toNat (-40) else est32 true (-v - 1).toNat (-40)
/-- The estimates with their special values (R84). -/
def estimate (f : EstFn) (x : Nat) : Nat × BitVec 32 :=
  let inf := fp32.inf
  let ninf := fp32.signed true fp32.inf
  match fp32.value x with
  | .nan => (fp32.nan, 0)
  | .inf false =>
    match f with
    | .rsq => (0, 0)
    | .rcp => (0, 0)
    | .exp2 => (inf, 0)
    | .log2 => (inf, 0)
  | .inf true =>
    match f with
    | .rsq => (fp32.nan, fIV)
    | .rcp => (fp32.signed true 0, 0)
    | .exp2 => (0, 0)
    | .log2 => (fp32.nan, fIV)
  | .num neg m e =>
    if m = 0 then
      match f with
      | .rsq => (if neg then ninf else inf, fDZ)
      | .rcp => (if neg then ninf else inf, fDZ)
      | .exp2 => (0x3F800000, 0)
      | .log2 => (ninf, fDZ)
    else if neg && (f == .rsq || f == .log2) then (fp32.nan, fIV)
    else
      let l := Nat.log2 m
      let mid := 2 * (m * 2 ^ 7 / 2 ^ l) + 1
      estRule f neg mid (e + l)

/-! ### Conversions (R74 to R76) -/

/-- The format of a floating-point type code (R55). -/
def tyFmt : Ty → Option Fmt
  | .f32 => some fp32
  | .bf16 => some bf16
  | .f16 => some fp16
  | .e4m3 => some e4m3
  | .e5m2 => some e5m2
  | .i32 => none
  | .i16 => none
  | .i8 => none
/-- Width of a type in bytes (R245). -/
def tyW : Ty → Nat
  | .f32 => 4 | .i32 => 4 | .bf16 => 2 | .f16 => 2 | .i16 => 2 | .e4m3 => 1 | .e5m2 => 1 | .i8 => 1
/-- Lanes of a type (R245). -/
def tyN (t : Ty) : Nat := 256 / tyW t
/-- The signed value of n bits. -/
def sint (n x : Nat) : Int := if x % 2 ^ n < 2 ^ (n - 1) then (x % 2 ^ n : Nat) else (x % 2 ^ n : Nat) - (2 ^ n : Nat)
/-- The n bits of an integer, modulo 2^n (R67). -/
def wrap (n : Nat) (v : Int) : Nat := (v % (2 ^ n : Nat)).toNat
/-- The nearest value of n signed bits, and whether it differs (R75, R76). -/
def clampN (n : Nat) (v : Int) : Int × Bool :=
  if v < -(2 ^ (n - 1) : Nat) then (-(2 ^ (n - 1) : Nat), true)
  else if (2 ^ (n - 1) : Nat) ≤ v then ((2 ^ (n - 1) : Nat) - 1, true)
  else (v, false)
/-- A float to an integer of n bits (R75). -/
def toInteger (n : Nat) (rm : Rm) : FV → Nat × BitVec 32
  | .nan => (0, fIV)
  | .inf neg => (wrap n (if neg then -(2 ^ (n - 1) : Nat) else (2 ^ (n - 1) : Nat) - 1), fIV)
  | .num neg m e =>
    let sh := (-e).toNat
    let q := if 0 ≤ e then m * 2 ^ e.toNat else m / 2 ^ sh
    let rem := if 0 ≤ e then 0 else m % 2 ^ sh
    let half := if 0 ≤ e then 0 else 2 ^ (sh - 1)
    let q' := if roundsUp rm neg (q % 2 == 1) rem half false then q + 1 else q
    let (v, out) := clampN n (sgn neg q')
    (wrap n v, if out then fIV else flagIf (rem != 0) fNX)
/-- The conversion of one element from a source type to a destination type (R74 to R76). -/
def convert (rm : Rm) (src dst : Ty) (x : Nat) : Nat × BitVec 32 :=
  match tyFmt src, tyFmt dst with
  | some F, some G => G.result rm (F.value x)
  | some F, none => toInteger (8 * tyW dst) rm (F.value x)
  | none, some G =>
    let v := sint (8 * tyW src) x
    G.round rm (decide (v < 0)) v.natAbs 0 false
  | none, none =>
    let (v, out) := clampN (8 * tyW dst) (sint (8 * tyW src) x)
    (wrap (8 * tyW dst) v, flagIf out fSAT)
/-- VCVTSR on one element (R73), with its flags (R77). -/
def stochastic (x r : Nat) : Nat × BitVec 32 :=
  if (fp32.value x).isNan then (0x7FC0, 0)
  else
    let m := x % 2 ^ 31
    let m2 := m + r
    let fin := decide (m < fp32.inf)
    let low := m % 2 ^ 16 != 0
    (x / 2 ^ 31 % 2 * 2 ^ 15 + m2 / 2 ^ 16 % 2 ^ 15,
      flagIf (fin && low) fNX ||| flagIf (fin && decide (fp32.inf ≤ m2)) fOF
        ||| flagIf (decide (0 < m) && decide (m < 2 ^ 23) && low) fUF)
/-- mix32 of R85. -/
def mix32 (key c : Nat) : Nat :=
  let h0 := Nat.xor (c * 0x9E3779B1 % 2 ^ 32) key
  let h1 := (Nat.xor h0 (h0 / 2 ^ 15)) * 0x2C1B3C6D % 2 ^ 32
  let h2 := (Nat.xor h1 (h1 / 2 ^ 12)) * 0x297A2D39 % 2 ^ 32
  Nat.xor h2 (h2 / 2 ^ 15)

end Sys2Proof.Machine
end

