-- ==== Sys2Proof/Machine/Lanes.lean ====
section
/-!
DEFINITION. The lane operations of the vector engine (spec/08_vector.md R245, R246, R251, R254 to R264): what each
instruction does to the registers, masks and NSTAT of its context, with the scalar operands read at issue.
-/
namespace Sys2Proof.Machine

/-- A vector register (R243). -/
def VCtx.vr (c : VCtx) (r : VReg) : BitVec 2048 := tget 0 c.v r.toNat
/-- A mask register (R243). -/
def VCtx.kr (c : VCtx) (r : KReg) : BitVec 256 := tget 0 c.k r.toNat
/-- The lane is selected (R246). -/
def VCtx.sel (c : VCtx) (k : KReg) (i : Nat) : Bool := k == 0 || (c.kr k).getLsbD i
/-- Lane i of w bytes (R245). -/
def vlane (v : BitVec 2048) (w i : Nat) : Nat := (v.extractLsb' (8 * w * i) (8 * w)).toNat
/-- Lanes of w bytes as one number (R245). -/
def ofLanes (w : Nat) : List Nat → Nat
  | [] => 0
  | x :: r => x % 2 ^ (8 * w) + 2 ^ (8 * w) * ofLanes w r
/-- A register written whole. -/
def VCtx.setV (c : VCtx) (d : VReg) (x : BitVec 2048) : VCtx :=
  { c with v := tset c.v d.toNat x, bad := c.bad.filter (· != d.toNat) }
/-- A mask register written whole. -/
def VCtx.setK (c : VCtx) (d : KReg) (x : BitVec 256) : VCtx :=
  { c with k := tset c.k d.toNat x, bad := c.bad.filter (· != 32 + d.toNat) }
/-- Writes the first n lanes of w bytes: a selected lane gets its result and adds its flags, another keeps its value
(R246); the lanes above n get `rest`. -/
def VCtx.write (c : VCtx) (d : VReg) (w n : Nat) (k : KReg) (f : Nat → Nat × BitVec 32) (rest : Nat → Nat) : VCtx :=
  let old := c.vr d
  let rs := (List.range n).map fun i => if c.sel k i then f i else (vlane old w i, 0)
  let hi := (List.range (256 / w - n)).map fun i => rest (n + i)
  { c.setV d (BitVec.ofNat 2048 (ofLanes w (rs.map Prod.fst ++ hi))) with
    nstat := rs.foldl (fun a r => a ||| r.2) c.nstat }
/-- Writes every selected lane of a type. -/
def VCtx.lanes (c : VCtx) (d : VReg) (t : Ty) (k : KReg) (f : Nat → Nat × BitVec 32) : VCtx :=
  c.write d (tyW t) (tyN t) k f fun _ => 0
/-- Writes lanes that set no flag. -/
def VCtx.plain (c : VCtx) (d : VReg) (t : Ty) (k : KReg) (f : Nat → Nat) : VCtx := c.lanes d t k fun i => (f i, 0)
/-- The format of the float types; others do not reach it (R49). -/
def fmtOf (t : Ty) : Fmt := (tyFmt t).getD fp32

/-! ### Floating point (R256) -/

/-- A lane-wise operation on two exact values, rounded once. -/
def fop2 (g : FV → FV → FV) (t : Ty) (x y : Nat) : Nat × BitVec 32 :=
  let F := fmtOf t
  F.once [F.value x, F.value y] (g (F.value x) (F.value y))
/-- A fused operation, rounded once. -/
def fop3 (minus : Bool) (t : Ty) (x y z : Nat) : Nat × BitVec 32 :=
  let F := fmtOf t
  let p := (F.value x).mul (F.value y)
  F.once [F.value x, F.value y, F.value z] (if minus then (F.value z).add p.neg else p.add (F.value z))
/-- a + b. -/
def fadd : Ty → Nat → Nat → Nat × BitVec 32 := fop2 FV.add
/-- a − b. -/
def fsub : Ty → Nat → Nat → Nat × BitVec 32 := fop2 fun x y => x.add y.neg
/-- a × b. -/
def fmul : Ty → Nat → Nat → Nat × BitVec 32 := fop2 FV.mul
/-- VABS and VNEG: the sign changes, a NaN gives the canonical NaN, no flag. -/
def fsign (isNeg : Bool) (t : Ty) (x : Nat) : Nat :=
  let F := fmtOf t
  if (F.value x).isNan then F.nan
  else F.signed (isNeg && x / 2 ^ F.sbit % 2 == 0) (x % 2 ^ F.sbit)

/-! ### Integers (R257) -/

/-- The integer operations of R257. -/
inductive IFn where
  | add | sub | mul | min | max | minu | maxu | and | or | xor | shl | shr | sar
  deriving DecidableEq, Repr
/-- A lane result of n bits (R257, R67). -/
def iop (f : IFn) (n x y : Nat) : Nat :=
  let a := sint n x
  let b := sint n y
  let c := y % n
  match f with
  | .add => wrap n (a + b)
  | .sub => wrap n (a - b)
  | .mul => wrap n (a * b)
  | .min => if a ≤ b then x else y
  | .max => if a ≤ b then y else x
  | .minu => Nat.min x y
  | .maxu => Nat.max x y
  | .and => Nat.land x y
  | .or => Nat.lor x y
  | .xor => Nat.xor x y
  | .shl => x * 2 ^ c % 2 ^ n
  | .shr => x / 2 ^ c
  | .sar => wrap n (a / 2 ^ c)

/-! ### Compares, reductions, permutations (R258, R259) -/

/-- a = b, a < b or a ≤ b, in the type (R258, R69). -/
inductive CmpFn where
  | eq | lt | le
  deriving DecidableEq, Repr
/-- A comparison of two lanes (R258). -/
def cmpLane (f : CmpFn) (t : Ty) (x y : Nat) : Bool :=
  match tyFmt t with
  | some F =>
    match f with
    | .eq => F.eqv x y
    | .lt => F.lt x y
    | .le => F.lt x y || F.eqv x y
  | none =>
    let a := sint (8 * tyW t) x
    let b := sint (8 * tyW t) y
    match f with
    | .eq => decide (a = b)
    | .lt => decide (a < b)
    | .le => decide (a ≤ b)
/-- VCMPEQ, VCMPLT and VCMPLE: bits of lanes that are not selected stay, bits above the lanes become 0 (R258). -/
def VCtx.cmp (c : VCtx) (f : CmpFn) (d : KReg) (a b : VReg) (t : Ty) (k : KReg) : VCtx :=
  let bit := fun i => if c.sel k i then cmpLane f t (vlane (c.vr a) (tyW t) i) (vlane (c.vr b) (tyW t) i)
    else (c.kr d).getLsbD i
  c.setK d (BitVec.ofNat 256 ((List.range (tyN t)).foldr (fun i acc => 2 * acc + (if bit i then 1 else 0)) 0))
/-- One level of the tree of R83, with the flags of its operations. -/
def pairUp (f : Nat → Nat → Nat × BitVec 32) : List Nat → BitVec 32 → List Nat × BitVec 32
  | [], fl => ([], fl)
  | [x], fl => ([x], fl)
  | x :: y :: r, fl =>
    let (z, g) := f x y
    let (l, h) := pairUp f r (fl ||| g)
    (z :: l, h)
/-- The tree of R83 over 2^n values. -/
def tree (f : Nat → Nat → Nat × BitVec 32) : Nat → List Nat → BitVec 32 → Nat × BitVec 32
  | 0, l, fl => (l.headD 0, fl)
  | n + 1, l, fl =>
    let (l', fl') := pairUp f l fl
    tree f n l' fl'
/-- The reductions of R83. -/
inductive RedFn where
  | sum | max | min
  deriving DecidableEq, Repr
/-- The operation of a reduction (R83). -/
def redOp (f : RedFn) (t : Ty) (x y : Nat) : Nat × BitVec 32 :=
  match tyFmt t, f with
  | some _, .sum => fadd t x y
  | some F, .max => (F.minmax true x y, 0)
  | some F, .min => (F.minmax false x y, 0)
  | none, .sum => (iop .add (8 * tyW t) x y, 0)
  | none, .max => (iop .max (8 * tyW t) x y, 0)
  | none, .min => (iop .min (8 * tyW t) x y, 0)
/-- The identity of a reduction (R83). -/
def redId (f : RedFn) (t : Ty) : Nat :=
  match tyFmt t, f with
  | some F, .sum => F.signed true 0
  | some F, .max => F.signed true F.inf
  | some F, .min => F.inf
  | none, .sum => 0
  | none, .max => 2 ^ (8 * tyW t - 1)
  | none, .min => 2 ^ (8 * tyW t - 1) - 1
/-- VRSUM, VRMAX and VRMIN: every lane is written (R259). -/
def VCtx.reduce (c : VCtx) (f : RedFn) (d a : VReg) (t : Ty) (k : KReg) : VCtx :=
  let l := (List.range (tyN t)).map fun i => if c.sel k i then vlane (c.vr a) (tyW t) i else redId f t
  let (x, fl) := tree (redOp f t) (Nat.log2 (tyN t)) l c.nstat
  { c.plain d t 0 (fun _ => x) with nstat := fl }

/-! ### Conversions (R260 to R264) -/

/-- 4-bit element e of a register (R264). -/
def nib (v : BitVec 2048) (e : Nat) : Nat := (v.extractLsb' (4 * e) 4).toNat
/-- 4-bit elements as one number. -/
def ofNibs : List Nat → Nat
  | [] => 0
  | x :: r => x % 16 + 16 * ofNibs r
/-- VCVTN4 (R264). -/
def VCtx.narrow4 (c : VCtx) (d a : VReg) (m : Rm) (t : Ty) (k : KReg) : VCtx :=
  let rs := (List.range (tyN t)).map fun e =>
    if c.sel k e then e2m1.result m ((fmtOf t).value (vlane (c.vr a) (tyW t) e)) else (nib (c.vr d) e, 0)
  { c.setV d (BitVec.ofNat 2048 (ofNibs (rs.map Prod.fst))) with nstat := rs.foldl (fun x r => x ||| r.2) c.nstat }
/-- Bytes of a register from byte `lo` on, n of them, as a number. -/
def part (v : BitVec 2048) (lo n : Nat) : Nat := v.toNat / 2 ^ (8 * lo) % 2 ^ (8 * n)

/-! ### Every instruction on the registers -/

/-- The effect of an instruction of majors 0x34 to 0x37, VSPLAT or VINS on its context (R254, R256 to R264); x and y are
the scalar operands read at issue.  Loads and stores are at `State.vecMem`. -/
def VCtx.run (c : VCtx) (op : Instr) (x y : Word) : VCtx :=
  let A := fun (a : VReg) (t : Ty) i => vlane (c.vr a) (tyW t) i
  let S := fun (t : Ty) => x.toNat % 2 ^ (8 * tyW t)
  let f2 := fun (g : Ty → Nat → Nat → Nat × BitVec 32) (d a b : VReg) (t : Ty) (k : KReg) =>
    c.lanes d t k fun i => g t (A a t i) (A b t i)
  let i2 := fun (g : IFn) (d a b : VReg) (t : Ty) (k : KReg) =>
    c.plain d t k fun i => iop g (8 * tyW t) (A a t i) (A b t i)
  let est := fun (g : EstFn) (d a : VReg) (k : KReg) => c.lanes d .f32 k fun i => estimate g (A a .f32 i)
  match op with
  | .vsplat d _ t k => c.plain d t k fun _ => S t
  | .vins d _ _ t => c.plain d t 0 fun i => if i = x.toNat then y.toNat else A d t i
  | .vadd d a b t k => f2 fadd d a b t k
  | .vsub d a b t k => f2 fsub d a b t k
  | .vmul d a b t k => f2 fmul d a b t k
  | .vfma d a b t k => c.lanes d t k fun i => fop3 false t (A a t i) (A b t i) (A d t i)
  | .vfms d a b t k => c.lanes d t k fun i => fop3 true t (A a t i) (A b t i) (A d t i)
  | .vmin d a b t k => c.plain d t k fun i => (fmtOf t).minmax false (A a t i) (A b t i)
  | .vmax d a b t k => c.plain d t k fun i => (fmtOf t).minmax true (A a t i) (A b t i)
  | .vabs d a t k => c.plain d t k fun i => fsign false t (A a t i)
  | .vneg d a t k => c.plain d t k fun i => fsign true t (A a t i)
  | .vrsq d a k => est .rsq d a k
  | .vrcp d a k => est .rcp d a k
  | .vexp2 d a k => est .exp2 d a k
  | .vlog2 d a k => est .log2 d a k
  | .vsqrt d a k => c.lanes d .f32 k fun i => fp32.sqrt (A a .f32 i)
  | .vdiv d a b k => c.lanes d .f32 k fun i => fp32.div (A a .f32 i) (A b .f32 i)
  | .vadds d a _ t k => c.lanes d t k fun i => fadd t (A a t i) (S t)
  | .vmuls d a _ t k => c.lanes d t k fun i => fmul t (A a t i) (S t)
  | .vfmas d a _ t k => c.lanes d t k fun i => fop3 false t (A a t i) (S t) (A d t i)
  | .viadd d a b t k => i2 .add d a b t k
  | .visub d a b t k => i2 .sub d a b t k
  | .vimul d a b t k => i2 .mul d a b t k
  | .vimin d a b t k => i2 .min d a b t k
  | .vimax d a b t k => i2 .max d a b t k
  | .viminu d a b t k => i2 .minu d a b t k
  | .vimaxu d a b t k => i2 .maxu d a b t k
  | .vand d a b t k => i2 .and d a b t k
  | .vor d a b t k => i2 .or d a b t k
  | .vxor d a b t k => i2 .xor d a b t k
  | .vshl d a b t k => i2 .shl d a b t k
  | .vshr d a b t k => i2 .shr d a b t k
  | .vsar d a b t k => i2 .sar d a b t k
  | .viadds d a _ t k => c.plain d t k fun i => iop .add (8 * tyW t) (A a t i) (S t)
  | .vidx d t k => c.plain d t k fun i => i % 2 ^ (8 * tyW t)
  | .vcmpeq d a b t k => c.cmp .eq d a b t k
  | .vcmplt d a b t k => c.cmp .lt d a b t k
  | .vcmple d a b t k => c.cmp .le d a b t k
  | .vsel d a b t k => c.plain d t 0 fun i => if (c.kr k).getLsbD i then A a t i else A b t i
  | .vrsum d a t k => c.reduce .sum d a t k
  | .vrmax d a t k => c.reduce .max d a t k
  | .vrmin d a t k => c.reduce .min d a t k
  | .vshuf d a b t k => c.plain d t k fun i => A a t (A b t i % tyN t)
  | .vbcast d a _ t k => c.plain d t k fun _ => A a t x.toNat
  | .vrot d a _ t k => c.plain d t k fun i => A a t ((i + x.toNat % tyN t) % tyN t)
  | .kand d a b => c.setK d (c.kr a &&& c.kr b)
  | .kor d a b => c.setK d (c.kr a ||| c.kr b)
  | .knot d a => c.setK d (~~~c.kr a)
  | .vcvt d a m src t k =>
    c.write d (tyW t) (256 / Nat.max (tyW src) (tyW t)) k (fun e => convert m src t (A a src e)) fun _ => 0
  | .vcvtsr d a b k =>
    c.write d 2 64 k (fun i => stochastic (A a .f32 i) (vlane (c.vr b) 2 i)) fun _ => 0
  | .vrng d _ k => c.plain d .i32 k fun i => mix32 (x.toNat / 2 ^ 32) ((x.toNat + i) % 2 ^ 32)
  | .vpack d a b t =>
    if tyW t = 1 then
      c.setV d (BitVec.ofNat 2048 (part (c.vr d) 128 128 + 2 ^ 1024 * part (c.vr a) 0 64 + 2 ^ 1536 * part (c.vr b) 0 64))
    else c.setV d (BitVec.ofNat 2048 (part (c.vr a) 0 128 + 2 ^ 1024 * part (c.vr b) 0 128))
  | .vunpk d a q t =>
    let n := if tyW t = 1 then 64 else 128
    c.setV d (BitVec.ofNat 2048 (part (c.vr a) (n * q.toNat) n))
  | .vcvtn4 d a m t k => c.narrow4 d a m t k
  | .vcvtw4 d a t k => c.plain d t k fun e => ((fmtOf t).result .rne (e2m1.value (nib (c.vr a) e))).1
  | _ => c

/-! ### Stepping in a frame (R251) -/

/-- A vector register field in iteration j with a step. -/
def stepV (r : VReg) (j s : Nat) : VReg := r + BitVec.ofNat 5 (j * s)
/-- The instruction of iteration j, its v register fields stepped by sd, sa and sb (R251). -/
def stepIns (j sd sa sb : Nat) : Instr → Instr
  | .vld d a k o => .vld (stepV d j sd) a k o
  | .vlds d a b k o => .vlds (stepV d j sd) a b k o
  | .vldb d a k o => .vldb (stepV d j sd) a k o
  | .vst d a k o => .vst (stepV d j sd) a k o
  | .vsts d a b k o => .vsts (stepV d j sd) a b k o
  | .vadd d a b t k => .vadd (stepV d j sd) (stepV a j sa) (stepV b j sb) t k
  | .vsub d a b t k => .vsub (stepV d j sd) (stepV a j sa) (stepV b j sb) t k
  | .vmul d a b t k => .vmul (stepV d j sd) (stepV a j sa) (stepV b j sb) t k
  | .vfma d a b t k => .vfma (stepV d j sd) (stepV a j sa) (stepV b j sb) t k
  | .vfms d a b t k => .vfms (stepV d j sd) (stepV a j sa) (stepV b j sb) t k
  | .vmin d a b t k => .vmin (stepV d j sd) (stepV a j sa) (stepV b j sb) t k
  | .vmax d a b t k => .vmax (stepV d j sd) (stepV a j sa) (stepV b j sb) t k
  | .vabs d a t k => .vabs (stepV d j sd) (stepV a j sa) t k
  | .vneg d a t k => .vneg (stepV d j sd) (stepV a j sa) t k
  | .vrsq d a k => .vrsq (stepV d j sd) (stepV a j sa) k
  | .vrcp d a k => .vrcp (stepV d j sd) (stepV a j sa) k
  | .vexp2 d a k => .vexp2 (stepV d j sd) (stepV a j sa) k
  | .vlog2 d a k => .vlog2 (stepV d j sd) (stepV a j sa) k
  | .vsqrt d a k => .vsqrt (stepV d j sd) (stepV a j sa) k
  | .vdiv d a b k => .vdiv (stepV d j sd) (stepV a j sa) (stepV b j sb) k
  | .vadds d a b t k => .vadds (stepV d j sd) (stepV a j sa) b t k
  | .vmuls d a b t k => .vmuls (stepV d j sd) (stepV a j sa) b t k
  | .vfmas d a b t k => .vfmas (stepV d j sd) (stepV a j sa) b t k
  | .viadd d a b t k => .viadd (stepV d j sd) (stepV a j sa) (stepV b j sb) t k
  | .visub d a b t k => .visub (stepV d j sd) (stepV a j sa) (stepV b j sb) t k
  | .vimul d a b t k => .vimul (stepV d j sd) (stepV a j sa) (stepV b j sb) t k
  | .vimin d a b t k => .vimin (stepV d j sd) (stepV a j sa) (stepV b j sb) t k
  | .vimax d a b t k => .vimax (stepV d j sd) (stepV a j sa) (stepV b j sb) t k
  | .viminu d a b t k => .viminu (stepV d j sd) (stepV a j sa) (stepV b j sb) t k
  | .vimaxu d a b t k => .vimaxu (stepV d j sd) (stepV a j sa) (stepV b j sb) t k
  | .vand d a b t k => .vand (stepV d j sd) (stepV a j sa) (stepV b j sb) t k
  | .vor d a b t k => .vor (stepV d j sd) (stepV a j sa) (stepV b j sb) t k
  | .vxor d a b t k => .vxor (stepV d j sd) (stepV a j sa) (stepV b j sb) t k
  | .vshl d a b t k => .vshl (stepV d j sd) (stepV a j sa) (stepV b j sb) t k
  | .vshr d a b t k => .vshr (stepV d j sd) (stepV a j sa) (stepV b j sb) t k
  | .vsar d a b t k => .vsar (stepV d j sd) (stepV a j sa) (stepV b j sb) t k
  | .viadds d a b t k => .viadds (stepV d j sd) (stepV a j sa) b t k
  | .vidx d t k => .vidx (stepV d j sd) t k
  | .vcmpeq d a b t k => .vcmpeq d (stepV a j sa) (stepV b j sb) t k
  | .vcmplt d a b t k => .vcmplt d (stepV a j sa) (stepV b j sb) t k
  | .vcmple d a b t k => .vcmple d (stepV a j sa) (stepV b j sb) t k
  | .vsel d a b t k => .vsel (stepV d j sd) (stepV a j sa) (stepV b j sb) t k
  | .vrsum d a t k => .vrsum (stepV d j sd) (stepV a j sa) t k
  | .vrmax d a t k => .vrmax (stepV d j sd) (stepV a j sa) t k
  | .vrmin d a t k => .vrmin (stepV d j sd) (stepV a j sa) t k
  | .vshuf d a b t k => .vshuf (stepV d j sd) (stepV a j sa) (stepV b j sb) t k
  | .vbcast d a b t k => .vbcast (stepV d j sd) (stepV a j sa) b t k
  | .vrot d a b t k => .vrot (stepV d j sd) (stepV a j sa) b t k
  | .vcvt d a m x t k => .vcvt (stepV d j sd) (stepV a j sa) m x t k
  | .vcvtsr d a b k => .vcvtsr (stepV d j sd) (stepV a j sa) (stepV b j sb) k
  | .vrng d b k => .vrng (stepV d j sd) b k
  | .vpack d a b t => .vpack (stepV d j sd) (stepV a j sa) (stepV b j sb) t
  | .vunpk d a q t => .vunpk (stepV d j sd) (stepV a j sa) q t
  | .vcvtn4 d a m t k => .vcvtn4 (stepV d j sd) (stepV a j sa) m t k
  | .vcvtw4 d a t k => .vcvtw4 (stepV d j sd) (stepV a j sa) t k
  | i => i
/-- The scalar operand of iteration j: an address moves by 256 or 32 times sd, VRNG's counter by 64 (R251). -/
def stepX (j sd : Nat) (i : Instr) (x : Word) : Word :=
  match i with
  | .vld .. => x + toW (j * 256 * sd)
  | .vst .. => x + toW (j * 256 * sd)
  | .vlds .. => x + toW (j * 32 * sd)
  | .vsts .. => x + toW (j * 32 * sd)
  | .vldb .. => x + toW (j * 32 * sd)
  | .vrng .. => toW (x.toNat / 2 ^ 32 * 2 ^ 32 + (x.toNat + 64 * j) % 2 ^ 32)
  | _ => x

/-! ### What an instruction reads, for uncorrectable errors (R265) -/

/-- A mask as a register number of `VCtx.bad`, where one is read. -/
def badK (k : KReg) : List Nat := if k = 0 then [] else [32 + k.toNat]
/-- The registers (0 to 31) and masks (32 to 39) that an instruction reads: its operands, its mask, and its destination
where that is merged under a mask. -/
def vreads (op : Instr) : List Nat :=
  let m := fun (d : VReg) (k : KReg) => if k = 0 then [] else [d.toNat, 32 + k.toNat]
  let two := fun (d a b : VReg) (k : KReg) => [a.toNat, b.toNat] ++ m d k
  let one := fun (d a : VReg) (k : KReg) => a.toNat :: m d k
  match op with
  | .vget _ a _ _ => [a.toNat]
  | .vsplat d _ _ k => m d k
  | .vins d _ _ _ => [d.toNat]
  | .vld d _ k _ => m d k
  | .vlds d _ _ k _ => m d k
  | .vldb d _ k _ => m d k
  | .vst d _ k _ => d.toNat :: badK k
  | .vsts d _ _ k _ => d.toNat :: badK k
  | .vadd d a b _ k => two d a b k
  | .vsub d a b _ k => two d a b k
  | .vmul d a b _ k => two d a b k
  | .vfma d a b _ k => d.toNat :: two d a b k
  | .vfms d a b _ k => d.toNat :: two d a b k
  | .vmin d a b _ k => two d a b k
  | .vmax d a b _ k => two d a b k
  | .vabs d a _ k => one d a k
  | .vneg d a _ k => one d a k
  | .vrsq d a k => one d a k
  | .vrcp d a k => one d a k
  | .vexp2 d a k => one d a k
  | .vlog2 d a k => one d a k
  | .vsqrt d a k => one d a k
  | .vdiv d a b k => two d a b k
  | .vadds d a _ _ k => one d a k
  | .vmuls d a _ _ k => one d a k
  | .vfmas d a _ _ k => d.toNat :: one d a k
  | .viadd d a b _ k => two d a b k
  | .visub d a b _ k => two d a b k
  | .vimul d a b _ k => two d a b k
  | .vimin d a b _ k => two d a b k
  | .vimax d a b _ k => two d a b k
  | .viminu d a b _ k => two d a b k
  | .vimaxu d a b _ k => two d a b k
  | .vand d a b _ k => two d a b k
  | .vor d a b _ k => two d a b k
  | .vxor d a b _ k => two d a b k
  | .vshl d a b _ k => two d a b k
  | .vshr d a b _ k => two d a b k
  | .vsar d a b _ k => two d a b k
  | .viadds d a _ _ k => one d a k
  | .vidx d _ k => m d k
  | .vcmpeq d a b _ k => [a.toNat, b.toNat] ++ (if k = 0 then [] else [32 + d.toNat, 32 + k.toNat])
  | .vcmplt d a b _ k => [a.toNat, b.toNat] ++ (if k = 0 then [] else [32 + d.toNat, 32 + k.toNat])
  | .vcmple d a b _ k => [a.toNat, b.toNat] ++ (if k = 0 then [] else [32 + d.toNat, 32 + k.toNat])
  | .vsel _ a b _ k => [a.toNat, b.toNat, 32 + k.toNat]
  | .vrsum _ a _ k => a.toNat :: badK k
  | .vrmax _ a _ k => a.toNat :: badK k
  | .vrmin _ a _ k => a.toNat :: badK k
  | .vshuf d a b _ k => two d a b k
  | .vbcast d a _ _ k => one d a k
  | .vrot d a _ _ k => one d a k
  | .kand _ a b => [32 + a.toNat, 32 + b.toNat]
  | .kor _ a b => [32 + a.toNat, 32 + b.toNat]
  | .knot _ a => [32 + a.toNat]
  | .vcvt d a _ _ _ k => one d a k
  | .vcvtsr d a b k => two d a b k
  | .vrng d _ k => m d k
  | .vpack d a b t => [a.toNat, b.toNat] ++ (if tyW t = 1 then [d.toNat] else [])
  | .vunpk _ a _ _ => [a.toNat]
  | .vcvtn4 d a _ _ k => one d a k
  | .vcvtw4 d a _ k => one d a k
  | _ => []
/-- The first register with an uncorrectable error that an instruction reads. -/
def VCtx.badRead (c : VCtx) (op : Instr) : Option Nat := (vreads op).find? fun r => c.bad.contains r

end Sys2Proof.Machine
end

