-- ==== Sys2Proof/Machine/Vector.lean ====
section
/-!
DEFINITION. The vector engine: issue, capture in frames and the queue (spec/04_sequencer.md R111, R112;
spec/08_vector.md R247, R248, R252 to R255), and the execution of queue entries (R249, R251, R265, R266).
-/
namespace Sys2Proof.Machine

/-! ### Frames and the queue -/

/-- A step code (R42). -/
def stepCode (c : BitVec 2) : Nat := if c = 3 then 4 else c.toNat
/-- R108 would loop back or pop after this instruction (R112). -/
def Fibre.loopMoves (f : Fibre) : Bool :=
  match f.loops with
  | l :: _ => !f.hm && l.stop == f.pc
  | [] => false
/-- The entry that a frame becomes (R111 item 3). -/
def Frame.entry (x : Frame) (i : VIns) : VEnt :=
  { kind := .ins, ins := x.ins ++ [i], count := x.count, sd := x.sd, sa := x.sa, sb := x.sb, seq := 0, tag := 0, gen := 0 }
/-- An entry goes to the tail of its queue and the instruction retires, or the fibre blocks for room (R248). -/
def vecPlace (v : Nat) (c : BayCtx) (f : Fibre) (e : VEnt) (s : State) : Res :=
  if c.vecRoom v then
    .done ((s.placeVec s.cur.bay s.cur.idx v s.cur.slot e).modCur fun g => { g with frame := none })
  else
    .stay ((s.modCurC fun y => { y with vwaits := y.vwaits ++ [{ uid := f.uid, vc := v, ent := e }] }).modCur fun g =>
      g.block (.queued 0x11) (s.bay s.cur.bay).cycle)
/-- No check beyond the binding. -/
def noVecCheck (_ : BayCtx) (_ _ : Word) (_ _ : Nat) : Option (Cause × Word) := none
/-- Issue of a vector instruction that goes into a queue or a frame (R247, R111, R112): VNOBIND, then VFRAME where a
loop would end inside the frame, then its own checks (log entry 16), with the frame's count and step for its addresses. -/
def vecIssue (i : Instr) (x y : Fibre → Word) (chk : BayCtx → Word → Word → Nat → Nat → Option (Cause × Word))
    (s : State) : Out :=
  issue i noEarly (fun c f s =>
    match f.vctx with
    | none => .fault .vnobind (wordOf i)
    | some v =>
      let ins : VIns := { op := i, x := x f, y := y f }
      match f.frame with
      | none =>
        match chk c (x f) (y f) 1 0 with
        | some (k, w) => .fault k w
        | none => vecPlace v c f (.one .ins ins) s
      | some fr =>
        if fr.left ≠ 1 ∧ f.loopMoves = true then .fault .vframe (wordOf i)
        else
          match chk c (x f) (y f) fr.count fr.sd with
          | some (k, w) => .fault k w
          | none =>
            if fr.left = 1 then vecPlace v c f (fr.entry ins) s
            else .done (s.modCur fun g =>
              { g with frame := some { fr with left := fr.left - 1, ins := fr.ins ++ [ins] } })) s
/-- Opens a frame (R111).  Without a bound vector context the cause is VNOBIND, whatever the count (log entry 16). -/
def openFrame (i : Instr) (n : BitVec 4) (count : Fibre → Word) (st t u : BitVec 2) (s : State) : Out :=
  issue i noEarly (fun _ f s =>
    let k := n.toNat + 1
    let c := count f
    match f.vctx with
    | none => .fault .vnobind (wordOf i)
    | some _ =>
      if 65535 < c.toNat then .fault .vframe c
      else if c = 0 then .jumped (s.modCur fun x => { x with pc := f.pc + 4 + toW (4 * k) })
      else .done (s.modCur fun x =>
        { x with frame := some { n := k, left := k, count := c.toNat, sd := stepCode st, sa := stepCode t,
                                 sb := stepCode u, ins := [] } })) s
/-- VREP with an immediate count (R111). -/
def execVrep (n : BitVec 4) (c : BitVec 10) (y t u : BitVec 2) (s : State) : Out :=
  openFrame (.vrep n c y t u) n (fun _ => c.setWidth 64) y t u s
/-- VREP with the count in ga (R111). -/
def execVrepReg (n : BitVec 4) (a : GReg) (y t u : BitVec 2) (s : State) : Out :=
  openFrame (.vrepReg n a y t u) n (fun f => f.reg a) y t u s

/-! ### Binding and moves (R252 to R254) -/

/-- VBIND (R253). -/
def execVbind (s : State) : Out :=
  issue .vbind noEarly (fun c f s =>
    if f.vctx.isSome then .fault .fstate (wordOf .vbind)
    else if c.quota.vctxs = 0 then .fault .quota 0
    else
      match c.freeV with
      | some v =>
        if c.vbindq.isEmpty then
          .done ((s.modCurC fun y => y.modV v fun _ => { VCtx.init with owner := some f.uid }).modCur fun g =>
            { g with vctx := some v })
        else .stay ((s.modCurC fun y => { y with vbindq := y.vbindq ++ [f.uid] }).modCur fun g =>
          g.block (.queued 0x1A) (s.bay s.cur.bay).cycle)
      | none => .stay ((s.modCurC fun y => { y with vbindq := y.vbindq ++ [f.uid] }).modCur fun g =>
          g.block (.queued 0x1A) (s.bay s.cur.bay).cycle)) s
/-- VGET, VDRAIN and VFREE: an entry of the queue, with the fibre blocked until the engine reaches it (R247, R248);
while the queue is full the fibre blocks for room first. -/
def vecAsk (i : Instr) (x : Fibre → Word) (chk : BayCtx → Word → Word → Nat → Nat → Option (Cause × Word))
    (kind : Nat → VKind) (code : Nat) (s : State) : Out :=
  issue i noEarly (fun c f s =>
    match f.vctx with
    | none => .fault .vnobind (wordOf i)
    | some v =>
      match chk c (x f) 0 1 0 with
      | some (k, w) => .fault k w
      | none =>
        let e := VEnt.one (kind f.uid) { op := i, x := x f, y := 0 }
        if c.vecRoom v then
          .stay ((s.placeVec s.cur.bay s.cur.idx v s.cur.slot e).modCur fun g =>
            g.block (.queued code) (s.bay s.cur.bay).cycle)
        else
          .stay ((s.modCurC fun y => { y with vwaits := y.vwaits ++ [{ uid := f.uid, vc := v, ent := e }] }).modCur fun g =>
            g.block (.queued 0x11) (s.bay s.cur.bay).cycle)) s
/-- VFREE (R253). -/
def execVfree (s : State) : Out := vecAsk .vfree (fun _ => 0) noVecCheck (fun u => .free u) 0x41 s
/-- VDRAIN (R253). -/
def execVdrain (s : State) : Out := vecAsk .vdrain (fun _ => 0) noVecCheck (fun u => .drain u) 0x41 s
/-- The lane index of VINS and VBCAST is below the lane count (R254, R259). -/
def laneCheck (t : Ty) (_ : BayCtx) (x _ : Word) (_ _ : Nat) : Option (Cause × Word) :=
  if tyN t ≤ x.toNat then some (.range, x) else none
/-- The index of VGET: NSTAT access has gi[63] set and gi[61:0] zero (R254). -/
def getCheck (t : Ty) (_ : BayCtx) (x _ : Word) (_ _ : Nat) : Option (Cause × Word) :=
  if x.getLsbD 63 then (if bits x 61 0 ≠ 0 then some (.range, x) else none)
  else if tyN t ≤ x.toNat then some (.range, x) else none
/-- VINS: x is the lane index and y the value (R254). -/
def execVins (d : VReg) (i b : GReg) (t : Ty) (s : State) : Out :=
  vecIssue (.vins d i b t) (fun f => f.reg i) (fun f => f.reg b) (laneCheck t) s
/-- VGET (R254). -/
def execVget (i : GReg) (a : VReg) (b : GReg) (t : Ty) (s : State) : Out :=
  vecAsk (.vget i a b t) (fun f => f.reg i) (getCheck t) (fun u => .get u b) 0x40 s
/-- VBCAST (R259). -/
def execVbcast (d a : VReg) (b : GReg) (t : Ty) (k : KReg) (s : State) : Out :=
  vecIssue (.vbcast d a b t k) (fun f => f.reg b) (fun _ => 0) (laneCheck t) s

/-! ### Loads and stores (R255) -/

/-- The chunk addresses of an access from x, with the stride y of the strided forms. -/
def vecChunks (i : Instr) (x y : Word) : List Word :=
  match i with
  | .vlds .. => (List.range 8).map fun q => x + toW q * y
  | .vsts .. => (List.range 8).map fun q => x + toW q * y
  | .vldb .. => [x]
  | _ => (List.range 8).map fun q => x + toW (32 * q)
/-- The first chunk beyond the quota, over n iterations from iteration j on (R255).  Where several are beyond it, R255 leaves open which
HVAL names: here the one of the earliest iteration, and in it of the lowest q, whatever the addresses (DESIGN CHOICE, log entry
16). -/
def badChunk (i : Instr) (x y : Word) (quota sd : Nat) : Nat → Nat → Option Word
  | _, 0 => none
  | j, n + 1 =>
    match (vecChunks i (stepX j sd i x) y).find? fun a => decide (quota < a.toNat + 32) with
    | some a => some a
    | none => badChunk i x y quota sd (j + 1) n
/-- The checks of a vector load or store at issue (R255). -/
def vecMemCheck (i : Instr) (strided : Bool) (c : BayCtx) (x y : Word) (count sd : Nat) : Option (Cause × Word) :=
  if x.toNat % 32 ≠ 0 then some (.align, x)
  else if strided ∧ y.toNat % 32 ≠ 0 then some (.align, y)
  else (badChunk i x y c.quota.scratch sd 0 count).map fun a => (.quota, a)
/-- VLD (R255). -/
def execVld (d : VReg) (a : GReg) (k : KReg) (o : BitVec 10) (s : State) : Out :=
  vecIssue (.vld d a k o) (fun f => vecAddr (f.reg a) o) (fun _ => 0) (vecMemCheck (.vld d a k o) false) s
/-- VLDS (R255). -/
def execVlds (d : VReg) (a b : GReg) (k : KReg) (o : BitVec 10) (s : State) : Out :=
  vecIssue (.vlds d a b k o) (fun f => vecAddr (f.reg a) o) (fun f => f.reg b) (vecMemCheck (.vlds d a b k o) true) s
/-- VLDB (R255). -/
def execVldb (d : VReg) (a : GReg) (k : KReg) (o : BitVec 10) (s : State) : Out :=
  vecIssue (.vldb d a k o) (fun f => vecAddr (f.reg a) o) (fun _ => 0) (vecMemCheck (.vldb d a k o) false) s
/-- VST (R255). -/
def execVst (d : VReg) (a : GReg) (k : KReg) (o : BitVec 10) (s : State) : Out :=
  vecIssue (.vst d a k o) (fun f => vecAddr (f.reg a) o) (fun _ => 0) (vecMemCheck (.vst d a k o) false) s
/-- VSTS (R255). -/
def execVsts (d : VReg) (a b : GReg) (k : KReg) (o : BitVec 10) (s : State) : Out :=
  vecIssue (.vsts d a b k o) (fun f => vecAddr (f.reg a) o) (fun f => f.reg b) (vecMemCheck (.vsts d a b k o) true) s

/-! ### Instructions without a check of their own -/

/-- VSPLAT (R254). -/
def execVsplat (d : VReg) (b : GReg) (t : Ty) (k : KReg) (s : State) : Out :=
  vecIssue (.vsplat d b t k) (fun f => f.reg b) (fun _ => 0) noVecCheck s
/-- VADD (R256). -/
def execVadd (d : VReg) (a : VReg) (b : VReg) (t : Ty) (k : KReg) (s : State) : Out :=
  vecIssue (.vadd d a b t k) (fun _ => 0) (fun _ => 0) noVecCheck s
/-- VSUB (R256). -/
def execVsub (d : VReg) (a : VReg) (b : VReg) (t : Ty) (k : KReg) (s : State) : Out :=
  vecIssue (.vsub d a b t k) (fun _ => 0) (fun _ => 0) noVecCheck s
/-- VMUL (R256). -/
def execVmul (d : VReg) (a : VReg) (b : VReg) (t : Ty) (k : KReg) (s : State) : Out :=
  vecIssue (.vmul d a b t k) (fun _ => 0) (fun _ => 0) noVecCheck s
/-- VFMA (R256). -/
def execVfma (d : VReg) (a : VReg) (b : VReg) (t : Ty) (k : KReg) (s : State) : Out :=
  vecIssue (.vfma d a b t k) (fun _ => 0) (fun _ => 0) noVecCheck s
/-- VFMS (R256). -/
def execVfms (d : VReg) (a : VReg) (b : VReg) (t : Ty) (k : KReg) (s : State) : Out :=
  vecIssue (.vfms d a b t k) (fun _ => 0) (fun _ => 0) noVecCheck s
/-- VMIN (R256). -/
def execVmin (d : VReg) (a : VReg) (b : VReg) (t : Ty) (k : KReg) (s : State) : Out :=
  vecIssue (.vmin d a b t k) (fun _ => 0) (fun _ => 0) noVecCheck s
/-- VMAX (R256). -/
def execVmax (d : VReg) (a : VReg) (b : VReg) (t : Ty) (k : KReg) (s : State) : Out :=
  vecIssue (.vmax d a b t k) (fun _ => 0) (fun _ => 0) noVecCheck s
/-- VABS (R256). -/
def execVabs (d : VReg) (a : VReg) (t : Ty) (k : KReg) (s : State) : Out :=
  vecIssue (.vabs d a t k) (fun _ => 0) (fun _ => 0) noVecCheck s
/-- VNEG (R256). -/
def execVneg (d : VReg) (a : VReg) (t : Ty) (k : KReg) (s : State) : Out :=
  vecIssue (.vneg d a t k) (fun _ => 0) (fun _ => 0) noVecCheck s
/-- VRSQ (R84). -/
def execVrsq (d : VReg) (a : VReg) (k : KReg) (s : State) : Out :=
  vecIssue (.vrsq d a k) (fun _ => 0) (fun _ => 0) noVecCheck s
/-- VRCP (R84). -/
def execVrcp (d : VReg) (a : VReg) (k : KReg) (s : State) : Out :=
  vecIssue (.vrcp d a k) (fun _ => 0) (fun _ => 0) noVecCheck s
/-- VEXP2 (R84). -/
def execVexp2 (d : VReg) (a : VReg) (k : KReg) (s : State) : Out :=
  vecIssue (.vexp2 d a k) (fun _ => 0) (fun _ => 0) noVecCheck s
/-- VLOG2 (R84). -/
def execVlog2 (d : VReg) (a : VReg) (k : KReg) (s : State) : Out :=
  vecIssue (.vlog2 d a k) (fun _ => 0) (fun _ => 0) noVecCheck s
/-- VSQRT (R256). -/
def execVsqrt (d : VReg) (a : VReg) (k : KReg) (s : State) : Out :=
  vecIssue (.vsqrt d a k) (fun _ => 0) (fun _ => 0) noVecCheck s
/-- VDIV (R256). -/
def execVdiv (d : VReg) (a : VReg) (b : VReg) (k : KReg) (s : State) : Out :=
  vecIssue (.vdiv d a b k) (fun _ => 0) (fun _ => 0) noVecCheck s
/-- VADDS (R256). -/
def execVadds (d : VReg) (a : VReg) (b : GReg) (t : Ty) (k : KReg) (s : State) : Out :=
  vecIssue (.vadds d a b t k) (fun f => f.reg b) (fun _ => 0) noVecCheck s
/-- VMULS (R256). -/
def execVmuls (d : VReg) (a : VReg) (b : GReg) (t : Ty) (k : KReg) (s : State) : Out :=
  vecIssue (.vmuls d a b t k) (fun f => f.reg b) (fun _ => 0) noVecCheck s
/-- VFMAS (R256). -/
def execVfmas (d : VReg) (a : VReg) (b : GReg) (t : Ty) (k : KReg) (s : State) : Out :=
  vecIssue (.vfmas d a b t k) (fun f => f.reg b) (fun _ => 0) noVecCheck s
/-- VIADD (R257). -/
def execViadd (d : VReg) (a : VReg) (b : VReg) (t : Ty) (k : KReg) (s : State) : Out :=
  vecIssue (.viadd d a b t k) (fun _ => 0) (fun _ => 0) noVecCheck s
/-- VISUB (R257). -/
def execVisub (d : VReg) (a : VReg) (b : VReg) (t : Ty) (k : KReg) (s : State) : Out :=
  vecIssue (.visub d a b t k) (fun _ => 0) (fun _ => 0) noVecCheck s
/-- VIMUL (R257). -/
def execVimul (d : VReg) (a : VReg) (b : VReg) (t : Ty) (k : KReg) (s : State) : Out :=
  vecIssue (.vimul d a b t k) (fun _ => 0) (fun _ => 0) noVecCheck s
/-- VIMIN (R257). -/
def execVimin (d : VReg) (a : VReg) (b : VReg) (t : Ty) (k : KReg) (s : State) : Out :=
  vecIssue (.vimin d a b t k) (fun _ => 0) (fun _ => 0) noVecCheck s
/-- VIMAX (R257). -/
def execVimax (d : VReg) (a : VReg) (b : VReg) (t : Ty) (k : KReg) (s : State) : Out :=
  vecIssue (.vimax d a b t k) (fun _ => 0) (fun _ => 0) noVecCheck s
/-- VIMINU (R257). -/
def execViminu (d : VReg) (a : VReg) (b : VReg) (t : Ty) (k : KReg) (s : State) : Out :=
  vecIssue (.viminu d a b t k) (fun _ => 0) (fun _ => 0) noVecCheck s
/-- VIMAXU (R257). -/
def execVimaxu (d : VReg) (a : VReg) (b : VReg) (t : Ty) (k : KReg) (s : State) : Out :=
  vecIssue (.vimaxu d a b t k) (fun _ => 0) (fun _ => 0) noVecCheck s
/-- VAND (R257). -/
def execVand (d : VReg) (a : VReg) (b : VReg) (t : Ty) (k : KReg) (s : State) : Out :=
  vecIssue (.vand d a b t k) (fun _ => 0) (fun _ => 0) noVecCheck s
/-- VOR (R257). -/
def execVor (d : VReg) (a : VReg) (b : VReg) (t : Ty) (k : KReg) (s : State) : Out :=
  vecIssue (.vor d a b t k) (fun _ => 0) (fun _ => 0) noVecCheck s
/-- VXOR (R257). -/
def execVxor (d : VReg) (a : VReg) (b : VReg) (t : Ty) (k : KReg) (s : State) : Out :=
  vecIssue (.vxor d a b t k) (fun _ => 0) (fun _ => 0) noVecCheck s
/-- VSHL (R257). -/
def execVshl (d : VReg) (a : VReg) (b : VReg) (t : Ty) (k : KReg) (s : State) : Out :=
  vecIssue (.vshl d a b t k) (fun _ => 0) (fun _ => 0) noVecCheck s
/-- VSHR (R257). -/
def execVshr (d : VReg) (a : VReg) (b : VReg) (t : Ty) (k : KReg) (s : State) : Out :=
  vecIssue (.vshr d a b t k) (fun _ => 0) (fun _ => 0) noVecCheck s
/-- VSAR (R257). -/
def execVsar (d : VReg) (a : VReg) (b : VReg) (t : Ty) (k : KReg) (s : State) : Out :=
  vecIssue (.vsar d a b t k) (fun _ => 0) (fun _ => 0) noVecCheck s
/-- VIADDS (R257). -/
def execViadds (d : VReg) (a : VReg) (b : GReg) (t : Ty) (k : KReg) (s : State) : Out :=
  vecIssue (.viadds d a b t k) (fun f => f.reg b) (fun _ => 0) noVecCheck s
/-- VIDX (R257). -/
def execVidx (d : VReg) (t : Ty) (k : KReg) (s : State) : Out :=
  vecIssue (.vidx d t k) (fun _ => 0) (fun _ => 0) noVecCheck s
/-- VCMPEQ (R258). -/
def execVcmpeq (d : KReg) (a : VReg) (b : VReg) (t : Ty) (k : KReg) (s : State) : Out :=
  vecIssue (.vcmpeq d a b t k) (fun _ => 0) (fun _ => 0) noVecCheck s
/-- VCMPLT (R258). -/
def execVcmplt (d : KReg) (a : VReg) (b : VReg) (t : Ty) (k : KReg) (s : State) : Out :=
  vecIssue (.vcmplt d a b t k) (fun _ => 0) (fun _ => 0) noVecCheck s
/-- VCMPLE (R258). -/
def execVcmple (d : KReg) (a : VReg) (b : VReg) (t : Ty) (k : KReg) (s : State) : Out :=
  vecIssue (.vcmple d a b t k) (fun _ => 0) (fun _ => 0) noVecCheck s
/-- VSEL (R259). -/
def execVsel (d : VReg) (a : VReg) (b : VReg) (t : Ty) (k : KReg) (s : State) : Out :=
  vecIssue (.vsel d a b t k) (fun _ => 0) (fun _ => 0) noVecCheck s
/-- VRSUM (R259). -/
def execVrsum (d : VReg) (a : VReg) (t : Ty) (k : KReg) (s : State) : Out :=
  vecIssue (.vrsum d a t k) (fun _ => 0) (fun _ => 0) noVecCheck s
/-- VRMAX (R259). -/
def execVrmax (d : VReg) (a : VReg) (t : Ty) (k : KReg) (s : State) : Out :=
  vecIssue (.vrmax d a t k) (fun _ => 0) (fun _ => 0) noVecCheck s
/-- VRMIN (R259). -/
def execVrmin (d : VReg) (a : VReg) (t : Ty) (k : KReg) (s : State) : Out :=
  vecIssue (.vrmin d a t k) (fun _ => 0) (fun _ => 0) noVecCheck s
/-- VSHUF (R259). -/
def execVshuf (d : VReg) (a : VReg) (b : VReg) (t : Ty) (k : KReg) (s : State) : Out :=
  vecIssue (.vshuf d a b t k) (fun _ => 0) (fun _ => 0) noVecCheck s
/-- VROT (R259). -/
def execVrot (d : VReg) (a : VReg) (b : GReg) (t : Ty) (k : KReg) (s : State) : Out :=
  vecIssue (.vrot d a b t k) (fun f => f.reg b) (fun _ => 0) noVecCheck s
/-- KAND (R258). -/
def execKand (d : KReg) (a : KReg) (b : KReg) (s : State) : Out :=
  vecIssue (.kand d a b) (fun _ => 0) (fun _ => 0) noVecCheck s
/-- KOR (R258). -/
def execKor (d : KReg) (a : KReg) (b : KReg) (s : State) : Out :=
  vecIssue (.kor d a b) (fun _ => 0) (fun _ => 0) noVecCheck s
/-- KNOT (R258). -/
def execKnot (d : KReg) (a : KReg) (s : State) : Out :=
  vecIssue (.knot d a) (fun _ => 0) (fun _ => 0) noVecCheck s
/-- VCVT (R260). -/
def execVcvt (d : VReg) (a : VReg) (m : Rm) (y : Ty) (t : Ty) (k : KReg) (s : State) : Out :=
  vecIssue (.vcvt d a m y t k) (fun _ => 0) (fun _ => 0) noVecCheck s
/-- VCVTSR (R261). -/
def execVcvtsr (d : VReg) (a : VReg) (b : VReg) (k : KReg) (s : State) : Out :=
  vecIssue (.vcvtsr d a b k) (fun _ => 0) (fun _ => 0) noVecCheck s
/-- VRNG (R262). -/
def execVrng (d : VReg) (b : GReg) (k : KReg) (s : State) : Out :=
  vecIssue (.vrng d b k) (fun f => f.reg b) (fun _ => 0) noVecCheck s
/-- VPACK (R263). -/
def execVpack (d : VReg) (a : VReg) (b : VReg) (t : Ty) (s : State) : Out :=
  vecIssue (.vpack d a b t) (fun _ => 0) (fun _ => 0) noVecCheck s
/-- VUNPK (R263). -/
def execVunpk (d : VReg) (a : VReg) (q : BitVec 2) (t : Ty) (s : State) : Out :=
  vecIssue (.vunpk d a q t) (fun _ => 0) (fun _ => 0) noVecCheck s
/-- VCVTN4 (R264). -/
def execVcvtn4 (d : VReg) (a : VReg) (m : Rm) (t : Ty) (k : KReg) (s : State) : Out :=
  vecIssue (.vcvtn4 d a m t k) (fun _ => 0) (fun _ => 0) noVecCheck s
/-- VCVTW4 (R264). -/
def execVcvtw4 (d : VReg) (a : VReg) (t : Ty) (k : KReg) (s : State) : Out :=
  vecIssue (.vcvtw4 d a t k) (fun _ => 0) (fun _ => 0) noVecCheck s

/-! ### The engine (R249, R251, R265, R266) -/

/-- Word i of a load or store: its byte address (R255). -/
def vecWord (i : Instr) (x y : Word) (k : Nat) : Word :=
  match i with
  | .vldb .. => x + toW (4 * (k % 8))
  | _ => (vecChunks i x y).getD (k / 8) 0 + toW (4 * (k % 8))
/-- Effect of a load on its register, under its mask (R255); or the key of the first word with an uncorrectable error
(R151). -/
def State.vecLoad (s : State) (c : BayCtx) (b v : Nat) (i : Instr) (d : VReg) (k : KReg) (x y : Word) :
    Except Nat VCtx :=
  let z := c.vctx v
  let key := fun n => spadKey c.asid b (vecWord i x y n).toNat
  match ((List.range 64).filter (z.sel k)).find? fun n => (s.bad (key n) 4).isSome with
  | some n => .error (key n)
  | none => .ok (z.write d 4 64 k (fun n => (leNat (s.read (key n) 4), 0)) fun _ => 0)
/-- Words 2j and 2j + 1 of a store under its mask: both at once where both are selected, so that the aligned 8 bytes count
as covered (R151). -/
def State.vecStorePair (s : State) (c : BayCtx) (b v : Nat) (i : Instr) (d : VReg) (k : KReg) (x y : Word) (j : Nat) :
    State :=
  let z := c.vctx v
  let w := fun n => leBytes 4 (vlane (z.vr d) 4 n)
  let key := fun n => spadKey c.asid b (vecWord i x y n).toNat
  if z.sel k (2 * j) && z.sel k (2 * j + 1) then s.write (key (2 * j)) (w (2 * j) ++ w (2 * j + 1))
  else if z.sel k (2 * j) then s.write (key (2 * j)) (w (2 * j))
  else if z.sel k (2 * j + 1) then s.write (key (2 * j + 1)) (w (2 * j + 1))
  else s
/-- A store under its mask, chunks in rising order (R255). -/
def State.vecStore (s : State) (c : BayCtx) (b v : Nat) (i : Instr) (d : VReg) (k : KReg) (x y : Word) : State :=
  (List.range 32).foldl (fun t j => t.vecStorePair c b v i d k x y j) s
/-- The effect of one instruction at the engine: the state after it, or the state with the record of an uncorrectable
error (R265, R459). -/
def State.vecRun (s : State) (b i v : Nat) (c : BayCtx) (op : Instr) (x y : Word) : Except State State :=
  match (c.vctx v).badRead op with
  | some r => .error (s.vecError b c.asid v r)
  | none =>
    let load := fun (d : VReg) (k : KReg) =>
      match s.vecLoad c b v op d k x y with
      | .ok z => .ok (s.modC b i fun q => q.modV v fun _ => z)
      | .error key => .error (s.memError key c.asid)
    match op with
    | .vld d _ k _ => load d k
    | .vlds d _ _ k _ => load d k
    | .vldb d _ k _ => load d k
    | .vst d _ k _ => .ok (s.vecStore c b v op d k x y)
    | .vsts d _ _ k _ => .ok (s.vecStore c b v op d k x y)
    | _ => .ok (s.modC b i fun q => q.modV v fun z => z.run op x y)
/-- Fibres blocked for room in a queue: the head waiter's entry is placed, and its fibre goes on or waits for the value
(R248). -/
def State.vecRefill (s : State) (b i v : Nat) : State :=
  match s.bctx b i with
  | none => s
  | some c =>
    match c.vwaits.find? fun w => w.vc == v with
    | some w =>
      if c.vecRoom v then
        match s.findU w.uid with
        | some (p, _) =>
          let s' := (s.modC b i fun y => { y with vwaits := y.vwaits.filter (·.uid != w.uid) }).placeVec b i v p.slot w.ent
          match w.ent.kind with
          | .get _ _ => s'.modU w.uid fun f => { f with wait := .queued 0x40 }
          | .drain _ => s'.modU w.uid fun f => { f with wait := .queued 0x41 }
          | .free _ => s'.modU w.uid fun f => { f with wait := .queued 0x41 }
          | _ => s'.retireU w.uid fun f => { f with frame := none }
        | none => s
      else s
    | none => s.acceptWaiters b i 1 c.mport.wq
/-- The head entry of a queue is complete and leaves it (R247): its ring entry is done, the next one follows, and a
waiter takes the place. -/
def State.vecPop (s : State) (b i v : Nat) (e : VEnt) (r : List VEnt) : State :=
  let s1 := (s.modC b i fun y => y.modV v fun z => { z with queue := r, iter := 0, pos := 0 }).modEnt b i 0 e.seq fun x =>
    { x with done := true }
  let s2 := if r.isEmpty then s1 else s1.vecNext b i v
  s2.vecRefill b i v
/-- The fibre that an entry holds blocked. -/
def VEnt.waiter (e : VEnt) : Option Nat :=
  match e.kind with
  | .get u _ => some u
  | .drain u => some u
  | .free u => some u
  | .ins => none
  | .rdv _ => none
/-- A discarded VGET, VDRAIN or VFREE ends without effect: its fibre leaves the wait (R266). -/
def State.vecLeave (s : State) : List VEnt → State
  | [] => s
  | e :: r => State.vecLeave (match e.waiter with | some u => s.modU u fun f => { f with wait := .ready } | none => s) r
/-- A discarded rendezvous ends at the matrix engine too, without effect (log entry 17): its command leaves the port, or
the engine where it has begun. -/
def State.dropRdv (s : State) (b i : Nat) : List VEnt → State
  | [] => s
  | e :: r =>
    match e.kind with
    | .rdv q =>
      let s1 := (s.modC b i fun c => { c with
        mport := { c.mport with ents := c.mport.ents.filter fun m => m.seq != q }
        mact := if (match c.mact with | some m => m.seq == q | none => false) then none else c.mact }).modEnt b i 1 q
          fun x => { x with done := true, st := 3 }
      State.dropRdv s1 b i r
    | _ => State.dropRdv s b i r
/-- An engine fault in a vector context (R266): the queue is discarded, the fault goes into the ring and to the holding
fibre, and waits on the discarded entries end; a fibre that still waits for room in the queue goes on (R248).  Entries that
the holder places before its HRET run like others (log entry 78). -/
def State.vecFault (s : State) (b i v : Nat) (c : BayCtx) (e : VEnt) (hval : Word) : State :=
  let z := c.vctx v
  let s1 := s.modC b i fun y => y.modV v fun x => { x with queue := [], iter := 0, pos := 0 }
  let s2 := s1.modEnt b i 0 e.seq fun x =>
    { x with done := true, flt := true, sub := BitVec.ofNat 8 (causeCode .memerr), val := hval }
  let s3 := s2.deliver c.asid b (bits e.tag 39 32)
    { hcause := engineCause .memerr, hval := hval, hseq := e.tag, gen := e.gen, eng := some (b, c.asid, e.seq.toNat % 64) }
  let s4 := (((s3.vecLeave z.queue).dropRdv b i z.queue).leaveWaits s).pulse c.asid
  let s5 := s4.vecRefill b i v
  match s5.bctx b i with
  | some y => s5.acceptWaiters b i 1 y.mport.wq
  | none => s5
/-- HVAL of a vector engine fault (R265): word, position, iteration. -/
def vecHval (op : Instr) (pos iter : Nat) : Word := toW ((wordOf op).toNat + pos * 2 ^ 32 + iter * 2 ^ 36)
/-- What VGET returns, and the state after it (R254). -/
def VCtx.answer (z : VCtx) (x : Word) (a : VReg) (t : Ty) : Word × VCtx :=
  if x.getLsbD 63 then (z.nstat.setWidth 64, if x.getLsbD 62 then { z with nstat := 0 } else z)
  else
    let n := toW (vlane (z.vr a) (tyW t) x.toNat)
    (if t.isInt then sextW n (8 * tyW t) else n, z)
/-- One position of the head entry: the instruction with its fields stepped (R251). -/
def State.vecStep (s : State) (b i v : Nat) (c : BayCtx) (e : VEnt) (r : List VEnt) : State :=
  let z := c.vctx v
  match e.ins[z.pos]? with
  | none => s
  | some n =>
    match s.vecRun b i v c (stepIns z.iter e.sd e.sa e.sb n.op) (stepX z.iter e.sd n.op n.x) n.y with
    | .error t => t.vecFault b i v c e (vecHval n.op z.pos z.iter)
    | .ok t =>
      let t := (t.bump b c.asid 9 1).pulse c.asid
      if z.pos + 1 < e.ins.length then (t.modC b i fun y => y.modV v fun q => { q with pos := z.pos + 1 }).vecNext b i v
      else if z.iter + 1 < e.count then
        (t.modC b i fun y => y.modV v fun q => { q with pos := 0, iter := z.iter + 1 }).vecNext b i v
      else t.vecPop b i v e r
/-- VGET at the head of the queue (R254). -/
def State.vecGet (s : State) (b i v : Nat) (c : BayCtx) (e : VEnt) (r : List VEnt) (u : Nat) (gb : GReg) : State :=
  match e.ins with
  | { op := .vget g a _ t, x := x, y := _ } :: _ =>
    match (if x.getLsbD 63 then none else (c.vctx v).badRead (.vget g a gb t)) with
    | some n => (s.vecError b c.asid v n).vecFault b i v c e (vecHval (.vget g a gb t) 0 0)
    | none =>
      let (w, z) := (c.vctx v).answer x a t
      ((((s.modC b i fun y => y.modV v fun _ => z).bump b c.asid 9 1).pulse c.asid).vecPop b i v e r).retireU u fun f =>
        f.setReg gb w
  | _ => s
/-- VECTOR_ENTRY_EXECUTE: the head of a context's queue (R249); held while the power unit holds vector issue (R466), and
while the context is not active (R267). -/
def execVectorEntryExecute (s : State) : Out :=
  match s.ev with
  | .vectorEntryExecute b i v =>
    if s.mgmt.throttle || !s.activeAt b i then .next s.wait
    else
      match s.bctx b i with
      | none => .next s
      | some c =>
        match (c.vctx v).queue with
        | [] => .next s
        | e :: r =>
          match e.kind with
          | .ins => .next (s.vecStep b i v c e r)
          | .get u gb => .next (s.vecGet b i v c e r u gb)
          | .drain u => .next ((((s.bump b c.asid 9 1).pulse c.asid).vecPop b i v e r).retireU u id)
          | .free u =>
            .next (((((s.bump b c.asid 9 1).pulse c.asid).vecPop b i v e r).retireU u fun f => { f with vctx := none }).freeVec
              b i v)
          | .rdv _ => .next s
  | _ => .next s

end Sys2Proof.Machine
end

