-- ==== Sys2Proof/Machine/Matrix.lean ====
section
/-!
DEFINITION. The matrix engine: issue checks, weight panels, passes, tile commands, the rendezvous with the vector queue,
and remote commands (spec/10_matrix.md R296 to R327; spec/03_numbers.md R78 to R82).
-/
namespace Sys2Proof.Machine

/-! ### Panels (R300 to R303) -/

/-- Bits of an element of a class (R301). -/
def clsBits (cls : Nat) : Nat := if cls = 0 then 16 else if cls = 1 then 8 else 4
/-- Elements of a column (R301). -/
def clsK (cls : Nat) : Nat := if cls = 0 then 128 else if cls = 2 then 512 else 256
/-- Bytes of a column record (R301). -/
def recSize (cls cmp : Nat) : Nat :=
  let w := clsBits cls
  let k := clsK cls
  if cmp = 0 then k * w / 8 else if cmp = 1 then k / 2 * w / 8 + k / 8 else 16 * w / 8 + k / 2
/-- Bytes of the scale area (R301). -/
def scaleSize (cls sc : Nat) : Nat := if sc = 0 then 0 else 16 * (clsK cls / 32)
/-- P of R301. -/
def panelSize (cls cmp sc : Nat) : Nat := 64 + scaleSize cls sc + 16 * recSize cls cmp
/-- Element k of w bits of a row, record or codebook (R302). -/
def elemAt (x w k : Nat) : Nat := x / 2 ^ (w * k) % 2 ^ w
/-- Metadata nibble q of a 2:4 record (R302). -/
def metaNib (cls x q : Nat) : Nat := elemAt (x / 2 ^ (clsK cls / 2 * clsBits cls)) 4 q
/-- A 2:4 record has a metadata nibble with p0 ≥ p1 (R302). -/
def badMeta (cls x : Nat) : Bool :=
  (List.range (clsK cls / 4)).any fun q => decide (metaNib cls x q / 4 ≤ metaNib cls x q % 4)
/-- expand of R302: element k of a column. -/
def expandAt (cls cmp x k : Nat) : Nat :=
  let w := clsBits cls
  if cmp = 0 then elemAt x w k
  else if cmp = 1 then
    let n := metaNib cls x (k / 4)
    if k % 4 = n % 4 then elemAt x w (2 * (k / 4))
    else if k % 4 = n / 4 then elemAt x w (2 * (k / 4) + 1) else 0
  else elemAt x w (elemAt (x / 2 ^ (16 * w)) 4 k)
/-- The panel word of MLDW: SC, CLASS, PANEL (R303). -/
def panelHead (cmp cls sc : Nat) : Word := toW (0x4D * 2 ^ 16 + sc * 16 + cls * 4 + cmp)

/-! ### Formats of a pass (R78, R306) -/

/-- What FMT fixes: the formats (none is I8), bits of an element of A and of B, class, scaled. -/
structure PassFmt where
  fa : Option Fmt
  fb : Option Fmt
  wa : Nat
  wb : Nat
  cls : Nat
  sc : Nat
  deriving DecidableEq, Repr
/-- The table of R306; FMT 12 to 15 are no instruction. -/
def passFmt (f : Nat) : PassFmt :=
  if f = 0 then { fa := some bf16, fb := some bf16, wa := 16, wb := 16, cls := 0, sc := 0 }
  else if f = 1 then { fa := some fp16, fb := some fp16, wa := 16, wb := 16, cls := 0, sc := 0 }
  else if f = 2 then { fa := some e4m3, fb := some e4m3, wa := 8, wb := 8, cls := 1, sc := 0 }
  else if f = 3 then { fa := some e4m3, fb := some e5m2, wa := 8, wb := 8, cls := 1, sc := 0 }
  else if f = 4 then { fa := some e5m2, fb := some e4m3, wa := 8, wb := 8, cls := 1, sc := 0 }
  else if f = 5 then { fa := some e5m2, fb := some e5m2, wa := 8, wb := 8, cls := 1, sc := 0 }
  else if f = 6 then { fa := some e2m1, fb := some e2m1, wa := 4, wb := 4, cls := 2, sc := 0 }
  else if f = 7 then { fa := some e4m3, fb := some e2m1, wa := 8, wb := 4, cls := 3, sc := 0 }
  else if f = 8 then { fa := none, fb := none, wa := 8, wb := 8, cls := 1, sc := 0 }
  else if f = 9 then { fa := some e4m3, fb := some e4m3, wa := 8, wb := 8, cls := 1, sc := 1 }
  else if f = 10 then { fa := some e2m1, fb := some e2m1, wa := 4, wb := 4, cls := 2, sc := 1 }
  else { fa := some e4m3, fb := some e2m1, wa := 8, wb := 4, cls := 3, sc := 1 }
/-- Groups of a pass (R78). -/
def PassFmt.groups (p : PassFmt) : Nat := clsK p.cls / 32

/-! ### Checks (R299, R303, R305, R309) -/

/-- PANEL of an operand word, in bytes (R303, R304). -/
def panelOff (y : Word) : Nat := 64 * bits y 11 0
/-- The operand checks of a matrix command (step 4 of R299), against the quotas of the context where it runs. -/
def matCheck (q : Quota) (op : Instr) (x y : Word) : Option (Cause × Word) :=
  match op with
  | .mpass _ _ _ f _ =>
    let p := passFmt f.toNat
    let last := x.toNat + 15 * bits y 36 16
    if bits y 63 55 ≠ 0 ∨ bits y 39 37 ≠ 0 ∨ bits y 15 12 ≠ 0 ∨ bits y 36 16 % 64 ≠ 0 ∨ (p.sc = 0 ∧ bits y 54 40 ≠ 0) then
      some (.range, y)
    else if x.toNat % 64 ≠ 0 then some (.align, x)
    else if q.scratch < last + 256 then some (.quota, toW last)
    else if p.sc = 1 ∧ q.scratch < 64 * bits y 54 40 + 16 * p.groups then some (.quota, toW (64 * bits y 54 40))
    else if q.wbuf ≤ panelOff y then some (.quota, toW (panelOff y))
    else none
  | .mldw m _ _ _ =>
    let cls := bits y 13 12
    let sc := bits y 14 14
    let n := panelSize cls m.toNat sc - 64
    if bits y 63 15 ≠ 0 ∨ (m = 2 ∧ 2 ≤ cls) ∨ (sc = 1 ∧ cls = 0) then some (.range, y)
    else if x.toNat % 64 ≠ 0 then some (.align, x)
    else if q.scratch < x.toNat + n then some (.quota, x)
    else if q.wbuf < panelOff y + 64 + n then some (.quota, toW (panelOff y))
    else none
  | .mrd _ _ _ =>
    if x.toNat % 64 ≠ 0 then some (.align, x) else if q.scratch < x.toNat + 1088 then some (.quota, x) else none
  | .mwr _ _ _ =>
    if x.toNat % 64 ≠ 0 then some (.align, x) else if q.scratch < x.toNat + 1088 then some (.quota, x) else none
  | _ => none
/-- The tile that a command names. -/
def Instr.tile : Instr → Option Nat
  | .mpass c _ _ _ _ => some c.toNat
  | .mzero c _ => some c.toNat
  | .mrd c _ _ => some c.toNat
  | .mwr c _ _ => some c.toNat
  | .vtld c _ _ => some c.toNat
  | .vtst c _ _ => some c.toNat
  | _ => none
/-- QUOTA on the tile index (step 1 of R299). -/
def tileCheck (q : Quota) (op : Instr) : Option (Cause × Word) :=
  match Instr.tile op with
  | some t => if q.tiles ≤ t then some (.quota, toW t) else none
  | none => none
/-- QUOTA on the tile, then on the semaphore (steps 1 and 2 of R299). -/
def matEarly (op : Instr) (x : BitVec 10) (c : BayCtx) (f : Fibre) : Option (Cause × Word) :=
  match tileCheck c.quota op with
  | some k => some k
  | none => semEarly x c f
/-- A matrix command at issue (R298, R299): its checks, then the matrix port. -/
def matIssue (op : Instr) (sem : BitVec 10) (x y : Fibre → Word) (s : State) : Out :=
  issue op (matEarly op sem) (fun c f s =>
    match matCheck c.quota op (x f) (y f) with
    | some (k, w) => .fault k w
    | none => submit 1 (s.mkCmd c f op (x f) (y f) sem.toNat .ar .bay) none c s) s
/-- MPASS (R304 to R306). -/
def execMpass (c : BitVec 6) (a b : GReg) (f : BitVec 4) (y : BitVec 10) (s : State) : Out :=
  matIssue (.mpass c a b f y) y (fun g => g.reg a) (fun g => g.reg b) s
/-- MZERO (R308). -/
def execMzero (c : BitVec 6) (y : BitVec 10) (s : State) : Out :=
  matIssue (.mzero c y) y (fun _ => 0) (fun _ => 0) s
/-- MLDW (R303). -/
def execMldw (m : BitVec 2) (a b : GReg) (y : BitVec 10) (s : State) : Out :=
  matIssue (.mldw m a b y) y (fun g => g.reg a) (fun g => g.reg b) s
/-- MRD (R309). -/
def execMrd (c : BitVec 6) (a : GReg) (y : BitVec 10) (s : State) : Out :=
  matIssue (.mrd c a y) y (fun g => g.reg a) (fun _ => 0) s
/-- MWR (R309). -/
def execMwr (c : BitVec 6) (a : GReg) (y : BitVec 10) (s : State) : Out :=
  matIssue (.mwr c a y) y (fun g => g.reg a) (fun _ => 0) s
/-- VTLD and VTST: the tile quota, VNOBIND, then both queues (R299, R311). -/
def rdvIssue (op : Instr) (s : State) : Out :=
  issue op (fun c _ => tileCheck c.quota op) (fun c f s =>
    match f.vctx with
    | none => .fault .vnobind (wordOf op)
    | some v => submit 1 (s.mkCmd c f op (toW v) 0 0 .ar .bay) none c s) s
/-- VTLD (R310). -/
def execVtld (c : BitVec 6) (v : VReg) (q : BitVec 2) (s : State) : Out := rdvIssue (.vtld c v q) s
/-- VTST (R310). -/
def execVtst (c : BitVec 6) (v : VReg) (q : BitVec 2) (s : State) : Out := rdvIssue (.vtst c v q) s
/-- MGRANT (R318). -/
def execMgrant (a b : GReg) (s : State) : Out :=
  issue (.mgrant a b) noEarly (fun _ f s =>
    let x := f.reg a
    let y := f.reg b
    if bits x 63 32 ≠ 0 then .fault .range x
    else if 1 < y.toNat then .fault .range y
    else .done (s.modCurC fun c => { c with grantEn := y == 1, grantKey := x.setWidth 32 })) s

/-! ### The engine's reads (R306, R307, R325) -/

/-- How a command fails: cause and value, and the key of an uncorrectable error (R325). -/
abbrev MatErr := Cause × Word × Option Nat
/-- A scratchpad read of n bytes, as one number. -/
def State.matRead (s : State) (asid b a n : Nat) : Except MatErr Nat :=
  match s.bad (spadKey asid b a) n with
  | some o => .error (.memerr, toW (a + o), some (spadKey asid b a + o))
  | none => .ok (leNat (s.read (spadKey asid b a) n))
/-- A weight-buffer read of n bytes, as one number. -/
def State.wbufRead (s : State) (asid b a n : Nat) : Except MatErr Nat :=
  match s.bad (wbufKey asid b a) n with
  | some o => .error (.memerr, toW (2 ^ 62 + a + o), some (wbufKey asid b a + o))
  | none => .ok (leNat (s.read (wbufKey asid b a) n))
/-- A tile may be read: it is not poisoned and has no uncorrectable error (R326). -/
def State.tileOk (s : State) (c : BayCtx) (b t : Nat) : Except MatErr Unit :=
  if c.badTiles.contains t then .error (.memerr, toW (2 ^ 63 + t), none)
  else
    match s.bad (tileKey c.asid b (1024 * t)) 1024 with
    | some o => .error (.memerr, toW (2 ^ 63 + t), some (tileKey c.asid b (1024 * t) + o))
    | none => .ok ()
/-- Element n = 16 i + j of a tile (R296). -/
def State.tileElem (s : State) (asid b t n : Nat) : Nat := leNat (s.read (tileKey asid b (1024 * t + 4 * n)) 4)
/-- A tile written whole. -/
def State.setTile (s : State) (asid b t : Nat) (l : List Nat) : State :=
  s.write (tileKey asid b (1024 * t)) (l.flatMap fun x => leBytes 4 x)
/-- SAT of a tile (R296). -/
def BayCtx.setSat (c : BayCtx) (t : Nat) (v : Bool) : BayCtx :=
  { c with sat := (if v then [t] else []) ++ c.sat.filter (· != t) }
/-- A panel fault (R307). -/
def panelErr (reason off : Nat) : MatErr := (.panel, toW (reason * 2 ^ 32 + off), none)
/-- Reasons 1 to 5 of R307, from the header doubleword. -/
def headerErr (h : Word) (p : PassFmt) (off wbuf : Nat) : Option Nat :=
  let cmp := bits h 1 0
  if bits h 23 16 ≠ 0x4D then some 1
  else if bits h 3 2 ≠ p.cls then some 2
  else if bits h 4 4 ≠ p.sc then some 3
  else if cmp = 3 ∨ (cmp = 2 ∧ 2 ≤ bits h 3 2) then some 4
  else if wbuf < off + panelSize p.cls cmp p.sc then some 5
  else none
/-- The operands of a pass: A rows, B records with their compression, A scales, B scales (R306). -/
structure Operands where
  rows : List Nat
  recs : List Nat
  cmp : Nat
  sa : Nat
  sb : Nat
  deriving DecidableEq, Repr
/-- The next read of a pass's operand fetch, given what it has fetched: 16 rows, the header, 16 records, and two scale
blocks; none where it has everything.  Each is one read (R315), and the checks of R307 come in the order of R306. -/
def State.fetchNext (s : State) (c : BayCtx) (b : Nat) (p : PassFmt) (x y : Word) : Except MatErr (Option Nat) :=
  let l := c.fetched
  let k := l.length
  let off := panelOff y
  let hdr := toW (l.getD 16 0)
  let cmp := bits hdr 1 0
  let n := recSize p.cls cmp
  if k < 16 then (s.matRead c.asid b (x.toNat + k * bits y 36 16) 256).map some
  else if k = 16 then
    match s.wbufRead c.asid b off 8 with
    | .error e => .error e
    | .ok h =>
      match headerErr (toW h) p off c.quota.wbuf with
      | some r => .error (panelErr r off)
      | none => .ok (some h)
  else if k < 33 then (s.wbufRead c.asid b (off + 64 + scaleSize p.cls p.sc + (k - 17) * n) n).map some
  else if cmp = 1 ∧ (((l.drop 17).take 16).any (badMeta p.cls)) = true then .error (panelErr 6 off)
  else if bits hdr 63 24 ≠ 0 ∨ bits hdr 15 5 ≠ 0 then .error (panelErr 7 off)
  else if p.sc = 0 then .ok none
  else if k = 33 then (s.matRead c.asid b (64 * bits y 54 40) (16 * p.groups)).map some
  else if k = 34 then (s.wbufRead c.asid b (off + 64) (scaleSize p.cls 1)).map some
  else .ok none
/-- The operands of a pass from what it has fetched. -/
def opsOf (l : List Nat) : Operands :=
  { rows := l.take 16, recs := (l.drop 17).take 16, cmp := bits (toW (l.getD 16 0)) 1 0, sa := l.getD 33 0,
    sb := l.getD 34 0 }

/-! ### A pass (R79 to R81) -/

/-- The exact sum of 32 products from k on (R79, R80). -/
def groupSum (p : PassFmt) (o : Operands) (row rec : Nat) : Nat → Nat → FV
  | _, 0 => .num false 0 0
  | k, n + 1 =>
    let a := (p.fa.getD fp32).value (elemAt row p.wa k)
    let b := (p.fb.getD fp32).value (expandAt p.cls o.cmp rec k)
    (a.mul b).add (groupSum p o row rec (k + 1) n)
/-- The group sum times its scales: a code of 0xFF makes it NaN (R66, R79, R80). -/
def scaleFV (v : FV) (sa sb : Nat) : FV :=
  if sa = 255 ∨ sb = 255 then .nan
  else
    match v with
    | .nan => .nan
    | .inf n => .inf n
    | .num n m e => .num n m (e + ((sa : Int) - 127) + ((sb : Int) - 127))
/-- One element of a floating-point pass: its groups in order (R79). -/
def passElem (p : PassFmt) (o : Operands) (i j : Nat) : Nat → Nat → Nat → Nat
  | acc, _, 0 => acc
  | acc, g, n + 1 =>
    let v := groupSum p o (o.rows.getD i 0) (o.recs.getD j 0) (32 * g) 32
    let v' := if p.sc = 1 then scaleFV v (elemAt o.sa 8 (i * p.groups + g)) (elemAt o.sb 8 (j * p.groups + g)) else v
    let t := (fp32.result .rne v').1
    passElem p o i j (fop2 FV.add .f32 acc t).1 (g + 1) n
/-- The exact sum of 32 integer products (R81). -/
def groupInt (o : Operands) (row rec : Nat) : Nat → Nat → Int
  | _, 0 => 0
  | k, n + 1 => sint 8 (elemAt row 8 k) * sint 8 (expandAt 1 o.cmp rec k) + groupInt o row rec (k + 1) n
/-- One element of an INT8 pass, and whether it was clamped (R81). -/
def intElem (o : Operands) (i j : Nat) : Int → Bool → Nat → Nat → Int × Bool
  | acc, sat, _, 0 => (acc, sat)
  | acc, sat, g, n + 1 =>
    let (v, out) := clampN 32 (acc + groupInt o (o.rows.getD i 0) (o.recs.getD j 0) (32 * g) 32)
    intElem o i j v (sat || out) (g + 1) n
/-- The effect of MPASS on its tile (R306). -/
def State.passOn (s : State) (b i : Nat) (c : BayCtx) (t : Nat) (p : PassFmt) (o : Operands) : State :=
  let at_ := fun n => s.tileElem c.asid b t n
  if p.fa.isNone then
    let l := (List.range 256).map fun n => intElem o (n / 16) (n % 16) (sint 32 (at_ n)) false 0 p.groups
    let s' := s.setTile c.asid b t (l.map fun x => wrap 32 x.1)
    if l.any Prod.snd then s'.modC b i fun y => y.setSat t true else s'
  else s.setTile c.asid b t ((List.range 256).map fun n => passElem p o (n / 16) (n % 16) (at_ n) 0 p.groups)

/-! ### Commands (R303, R306 to R310) -/

/-- What a matrix command does, all at once (R314), or how it fails, changing nothing (R326). -/
def State.matRun (s : State) (b i : Nat) (c : BayCtx) (m : Cmd) : Except MatErr State := do
  match m.op with
  | .mpass t _ _ f _ =>
    s.tileOk c b t.toNat
    .ok (s.passOn b i c t.toNat (passFmt f.toNat) (opsOf c.fetched))
  | .mzero t _ =>
    .ok ((s.setTile c.asid b t.toNat (List.replicate 256 0)).modC b i fun y =>
      { y.setSat t.toNat false with badTiles := y.badTiles.filter (· != t.toNat) })
  | .mldw cmp _ _ _ =>
    let cls := bits m.y 13 12
    let sc := bits m.y 14 14
    let n := panelSize cls cmp.toNat sc - 64
    let body ← s.matRead c.asid b m.x.toNat n
    let recs := (List.range 16).map fun j =>
      body / 2 ^ (8 * (scaleSize cls sc + j * recSize cls cmp.toNat)) % 2 ^ (8 * recSize cls cmp.toNat)
    if cmp = 1 ∧ (recs.any (badMeta cls)) = true then .error (panelErr 6 (panelOff m.y))
    else
      .ok (s.write (wbufKey c.asid b (panelOff m.y))
        (leBytes 8 (panelHead cmp.toNat cls sc).toNat ++ List.replicate 56 0 ++ leBytes n body))
  | .mrd t _ _ =>
    s.tileOk c b t.toNat
    .ok (s.write (spadKey c.asid b m.x.toNat) (s.read (tileKey c.asid b (1024 * t.toNat)) 1024
      ++ leBytes 64 (if c.sat.contains t.toNat then 1 else 0)))
  | .mwr t _ _ =>
    let img ← s.matRead c.asid b m.x.toNat 1088
    .ok ((s.write (tileKey c.asid b (1024 * t.toNat)) (leBytes 1024 img)).modC b i fun y =>
      { y.setSat t.toNat (elemAt img 1 8192 == 1) with badTiles := y.badTiles.filter (· != t.toNat) })
  | _ => .ok s
/-- The completion post of a matrix command (R21, R322). -/
def State.matPost (s : State) (b asid : Nat) (m : Cmd) : State := s.sendPost b asid m 1
/-- A matrix command ends in an engine fault (R24, R325, R326): the record of an uncorrectable error, a poisoned tile,
the ring, the delivery, and the completion post. -/
def State.matFail (s : State) (b i : Nat) (c : BayCtx) (m : Cmd) (e : MatErr) : State :=
  let s1 := match e.2.2 with
    | some key => s.memError key c.asid
    | none => s
  let s2 := if e.1 = .memerr ∧ bits e.2.1 63 62 = 2 then
      s1.modC b i fun y => { y with badTiles := bits e.2.1 31 0 :: y.badTiles.filter (· != bits e.2.1 31 0) }
    else s1
  s2.failCmd b c.asid 1 m e.1 e.2.1 0 1
/-- The next read of the fetch of a command that has begun; none where nothing is left to fetch (R306, R315). -/
def State.fetchMore (s : State) (c : BayCtx) (b : Nat) (m : Cmd) : Except MatErr (Option Nat) :=
  match m.op with
  | .mpass _ _ _ f _ => s.fetchNext c b (passFmt f.toNat) m.x m.y
  | _ => .ok none
/-- The command is a pass. -/
def Cmd.isPass (m : Cmd) : Bool :=
  match m.op with
  | .mpass .. => true
  | _ => false
/-- The command that the engine has begun is over. -/
def State.clearMact (s : State) (b i : Nat) : State := s.modC b i fun c => { c with mact := none, fetched := [] }
/-- MATRIX_COMMAND_BEGIN (R312, R313, R321): the next command in sequence order, once the one before has completed and the
accesses of its fibre before it are performed; a remote command is checked against the quotas here.  Passes are held near a power limit (R466). -/
def execMatrixCommandBegin (s : State) : Out :=
  match s.ev with
  | .matrixCommandBegin b i =>
    match s.bctx b i with
    | none => .next s
    | some c =>
      let held := s.mgmt.throttle && c.mport.ents.head?.any Cmd.isPass
      if c.mact.isSome || held || !s.activeAt b i || !c.mport.ents.head?.all s.settled then .next s.wait
      else
        match s.takeCmd b i 1 with
        | none => .next s
        | some (m, t) =>
          let t := t.modC b i fun y => { y with mact := some m, fetched := [] }
          if m.isRdv then
            match (c.vctx m.x.toNat).queue with
            | e :: _ => .next (if e.kind = .rdv m.seq then t.postFront s.lane (.rendezvousTransfer b i) else t)
            | [] => .next t
          else
            match (if m.remote then (match tileCheck c.quota m.op with
                | some k => some k
                | none => matCheck c.quota m.op m.x m.y) else none) with
            | some (k, w) => .next ((t.matFail b i c m (k, w, none)).clearMact b i)
            | none => .next (t.postFront s.lane (.matrixCommandComplete b i))
  | _ => .next s
/-- MATRIX_COMMAND_COMPLETE: a pass fetches one operand after the other (R315); then the command's effects become visible
all at once and its completion is posted (R312, R314, R21). -/
def execMatrixCommandComplete (s : State) : Out :=
  match s.ev with
  | .matrixCommandComplete b i =>
    match s.bctx b i with
    | none => .next s
    | some c =>
      match c.mact with
      | none => .next s
      | some m =>
        match s.fetchMore c b m with
        | .error e => .next ((s.matFail b i c m e).clearMact b i)
        | .ok (some v) => .next ((s.modC b i fun y => { y with fetched := y.fetched ++ [v] }).wait)
        | .ok none =>
          match s.matRun b i c m with
          | .error e => .next ((s.matFail b i c m e).clearMact b i)
          | .ok t =>
            let pass := if m.isPass then 1 else 0
            .next ((((t.bump b c.asid 8 pass).completeCmd b c.asid 1 m 0).matPost b c.asid m).clearMact b i)
  | _ => .next s
/-- Quarter q of a tile as a vector register (R310). -/
def State.quarter (s : State) (asid b t q : Nat) : BitVec 2048 :=
  BitVec.ofNat 2048 (leNat (s.read (tileKey asid b (1024 * t + 256 * q)) 256))
/-- The transfer of a rendezvous (R310), or how it fails. -/
def State.rdvRun (s : State) (b i : Nat) (c : BayCtx) (m : Cmd) : Except MatErr State := do
  let v := m.x.toNat
  match m.op with
  | .vtld t d q =>
    s.tileOk c b t.toNat
    .ok (s.modC b i fun y => y.modV v fun z => z.setV d (s.quarter c.asid b t.toNat q.toNat))
  | .vtst t a q =>
    .ok (s.write (tileKey c.asid b (1024 * t.toNat + 256 * q.toNat)) (leBytes 256 ((c.vctx v).vr a).toNat))
  | _ => .ok s
/-- RENDEZVOUS_TRANSFER (R311): both sides have reached it; the entry leaves both.  A VTST whose source register has an
uncorrectable error is a fault of the vector context (R265), and its command ends without effect.  A VTLD whose command ends with
MEMERR leaves the vector queue as done, with vd unchanged: R310, R311 and R326 do not say what becomes of either (DESIGN
CHOICE, log entry 17). -/
def execRendezvousTransfer (s : State) : Out :=
  match s.ev with
  | .rendezvousTransfer b i =>
    match s.bctx b i with
    | none => .next s
    | some c =>
      match c.mact with
      | none => .next s
      | some m =>
        let v := m.x.toNat
        match (c.vctx v).queue with
        | [] => .next s
        | e :: r =>
          if !s.activeAt b i then .next s.wait
          else if e.kind ≠ .rdv m.seq then .next s
          else
            let src := match m.op with | .vtst _ a _ => (c.vctx v).bad.find? fun n => n == a.toNat | _ => none
            match src with
            | some n => .next ((s.vecError b c.asid v n).vecFault b i v c e (vecHval m.op 0 0))
            | none =>
              match s.rdvRun b i c m with
              | .error k => .next (((s.matFail b i c m k).clearMact b i).vecPop b i v e r)
              | .ok t => .next ((((t.bump b c.asid 9 1).completeCmd b c.asid 1 m 0).clearMact b i).vecPop b i v e r)
  | _ => .next s

/-! ### Remote commands (R319 to R322) -/

/-- The instruction of a remote command block, where R319 permits its word. -/
def remoteOp (w : BitVec 32) : Option Instr :=
  match decode w with
  | .ok (.mpass c a b f y) => if a = 0 ∧ b = 0 ∧ y = 0 then some (.mpass c a b f y) else none
  | .ok (.mzero c y) => if y = 0 then some (.mzero c y) else none
  | .ok (.mldw m a b y) => if a = 0 ∧ b = 0 ∧ y = 0 then some (.mldw m a b y) else none
  | .ok (.mrd c a y) => if a = 0 ∧ y = 0 then some (.mrd c a y) else none
  | .ok (.mwr c a y) => if a = 0 ∧ y = 0 then some (.mwr c a y) else none
  | _ => none
/-- The message of an MRCMD from its block (R319, R320). -/
def State.mrMsg (s : State) (c : BayCtx) (f : Fibre) (t sem : Nat) (blk : List Word) : MrMsg :=
  { target := t, asid := c.asid, key := ((blk.getD 0 0) >>> 32).setWidth 32, word := (blk.getD 0 0).setWidth 32,
    opA := blk.getD 1 0, opB := blk.getD 2 0, sem := sem, oBay := s.cur.bay, oSlot := s.cur.slot,
    oGen := (c.slot s.cur.slot).gen, uid := f.uid }
/-- The message of an MRCMD, read and checked, waits in its fibre (R320). -/
def State.holdMrcmd (s : State) (code : Nat) (m : MrMsg) : State :=
  s.modCur fun x =>
    { (if x.wait = .retry code then x else x.block (.retry code) (s.bay s.cur.bay).cycle) with mrHeld := some m }
/-- An MRCMD goes out, once its fibre has fewer than four unacknowledged ones and the release is made (R320, R162). -/
def State.sendMrcmd (s : State) (f : Fibre) (m : MrMsg) : Res :=
  if 4 ≤ f.mrUnack then .stay (s.holdMrcmd 0x19 m)
  else if s.releaseWaits .rel .pkg f then .stay (s.holdMrcmd 0x0D m)
  else .done (((s.releaseMark .rel).post (laneMesh s.cur.bay m.target) (.mrcmdArrival m)).modCur fun x =>
    { x with mrUnack := x.mrUnack + 1, mrHeld := none })
/-- MRCMD (R320): the checks and the read of the block come once, before its waits. -/
def execMrcmd (a b : GReg) (y : BitVec 10) (s : State) : Out :=
  issue (.mrcmd a b y) (semEarly y) (fun c f s =>
    let t := f.reg a
    let g := f.reg b
    let key := spadKey c.asid s.cur.bay g.toNat
    match f.mrHeld with
    | some m => s.sendMrcmd f m
    | none =>
    if !(decide (t.toNat < 1536) && s.inPart c.asid t.toNat && !(s.bay t.toNat).fenced) then .fault .range t
    else if g.toNat % 32 ≠ 0 then .fault .align g
    else if c.quota.scratch < g.toNat + 32 then .fault .quota g
    else
      match s.bad key 32 with
      | some o => .enter (s.memError (key + o) c.asid) .memerr (g + toW o) f.pc
      | none =>
        let blk := s.readDs key 4
        let w : BitVec 32 := (blk.getD 0 0).setWidth 32
        if (remoteOp w).isNone || blk.getD 3 0 != 0 then .fault .range (w.setWidth 64)
        else s.sendMrcmd f (s.mrMsg c f t.toNat y.toNat blk)) s
/-- The command that an MRCMD places at its target (R321). -/
def mrCmd (m : MrMsg) (op : Instr) : Cmd :=
  { op := op, x := m.opA, y := m.opB, desc := [], sem := m.sem, ord := .ar, scope := .pkg, seq := 0, tag := 0,
    gen := m.oGen, uid := m.uid, oBay := m.oBay, oSlot := m.oSlot, remote := true, after := [],
    issued := 0 }
/-- MRCMD_ARRIVAL (R321): the admission checks, then the port or its queue, and the acknowledgement.  While a remote command
holds the input slot of a full port, the others are held back in the mesh (R16). -/
def execMrcmdArrival (s : State) : Out :=
  match s.ev with
  | .mrcmdArrival m =>
    let t := m.target
    let answer := fun (u : State) (r : Nat) => u.post (laneMesh t m.oBay) (.mrcmdAckArrival m r)
    if (s.bay t).fenced then .next (answer s 4)
    else
      match (s.bay t).active.bind fun i => (s.bctx t i).map fun c => (i, c) with
      | none => .next (answer s 1)
      | some (i, c) =>
        if c.asid ≠ m.asid then .next (answer s 1)
        else if c.mport.wq.any Cmd.remote then .next s.wait
        else if !c.grantEn then .next (answer s 2)
        else if c.grantKey ≠ m.key then .next (answer s 3)
        else
          match remoteOp m.word with
          | none => .next s
          | some op =>
            if c.mport.ents.length < 16 ∧ c.mport.wq = [] then
              match s.accept t i 1 (mrCmd m op) with
              | .ok (u, _) => .next (answer u 0)
              | .error _ => .next s
            else .next (s.modC t i fun y => { y with mport := { y.mport with wq := y.mport.wq ++ [mrCmd m op] } })
  | _ => .next s
/-- MRCMD_ACK_ARRIVAL (R320, R321): one message fewer is unacknowledged; a rejection is an engine fault MREJECT of the
issuing fibre, with no ring entry, and posts the semaphore by 1. -/
def execMrcmdAckArrival (s : State) : Out :=
  match s.ev with
  | .mrcmdAckArrival m r =>
    let s1 := s.modHome m.uid fun f => { f with mrUnack := f.mrUnack - 1 }
    if r = 0 then .next s1
    else
      let i := (s.keyOf m.oBay m.asid).getD 0
      .next (s1.faultPost m.asid m.oBay m.oSlot m.sem 1
        { hcause := engineCause .mreject, hval := toW (m.target * 2 ^ 32 + r),
          hseq := mkTag 1 i m.oBay m.oSlot 0, gen := m.oGen, eng := none })
  | _ => .next s

end Sys2Proof.Machine
end

