-- ==== Sys2Proof/Machine/Reports.lean ====
section
/-!
DEFINITION. The reports of the front end (spec/15_front_end.md R440, R446, R449): the header and the signal of a completed
packet, the completion record of a launch, and what waits for room in the error queue.
-/
namespace Sys2Proof.Machine

/-- The doubleword at an offset of a packet's command block (R439). -/
def State.blkD (s : State) (h : HostPkt) (o : Nat) : Word := s.readD (compKey (h.blk + o))
/-- The state with a command queue changed. -/
def State.modQueue (s : State) (q : Nat) (f : HQueue → HQueue) : State :=
  { s with front := { s.front with queues := tmod f s.front.queues q } }
/-- n bytes at a companion address, aligned, lie in the arena of a queue (R447). -/
def State.inArena (s : State) (q a n al : Nat) : Bool :=
  match tfind s.front.queues q with
  | some u => a % al == 0 && decide (u.arena ≤ a) && decide (a + n ≤ u.arena + u.arenaLen)
  | none => false
/-- The reports of a packet (R440): the completion record of a launch, doubleword 0 of the header, and then SIGV at SIGA,
where that is 8-aligned in the arena (R447); the packet is no longer open in its queue. -/
def State.reportNow (s : State) (h : HostPkt) (dw0 : Nat) (rec : List Word) : State :=
  let s1 := if rec = [] then s else s.writeDs (compKey (s.blkD h 0x48).toNat) rec
  let s2 := s1.writeDs (compKey h.blk) [toW dw0]
  let a := s2.blkD h 8
  let s3 := if a = 0 ∨ s2.inArena h.queue a.toNat 8 8 = false then s2 else s2.writeDs (compKey a.toNat) [s2.blkD h 0x10]
  s3.modQueue h.queue fun q => { q with open_ := q.open_ - 1 }
/-- Doubleword 0 of a header: STATUS, TAG and RESULT (R439). -/
def statusWord (h : HostPkt) (status result : Nat) : Nat := result % 2 ^ 32 * 2 ^ 32 + h.tag.toNat * 2 ^ 16 + status
/-- A packet completes (R440). -/
def State.complete (s : State) (h : HostPkt) (status result : Nat) : State := s.reportNow h (statusWord h status result) []
/-- A launch completes with its record (R440, R446); the report of an ended one follows the error records that wait
(R431, R449). -/
def State.completeLaunch (s : State) (h : HostPkt) (status result : Nat) (rec : List Word) : State :=
  let w := statusWord h status result
  if status = 2 ∧ s.front.errWait ≠ [] then { s with front := { s.front with after := s.front.after ++ [(h, w, rec)] } }
  else s.reportNow h w rec
/-- The completion record of a launch that ran (R446). -/
def State.launchRecord (s : State) (c : Ctx) (l : Launch) (status endr : Nat) : List Word :=
  let (periods, overrun) := match l.contract with | some k => (k.begun, k.overrun) | none => (0, 0)
  [toW (status * 2 ^ 56 + endr * 2 ^ 48 + c.asid * 2 ^ 32 + c.ctxid.toNat), toW l.lseq, l.tfirst.getD 0, s.time.count,
   toW l.spawned, toW l.faults, toW (periods * 2 ^ 32 + overrun), toW (l.pkt.tag.toNat * 2 ^ 48)]
/-- The completion record of a refused launch (R216, R446); the spec gives it no launch number and no time of an end, and
these are free values (log entry 26). -/
def State.refusedRecord (s : State) (h : HostPkt) (c : Option Ctx) (status cond : Nat) : List Word × State :=
  let (asid, ctxid) := match c with | some x => (x.asid, x.ctxid.toNat) | none => (0, (s.blkD h 0x18).toNat % 2 ^ 32)
  ([toW (status * 2 ^ 56 + asid * 2 ^ 32 + ctxid), Config.freeWord s.free, 0, Config.freeWord (s.free + 1), 0, 0, 0,
    toW (h.tag.toNat * 2 ^ 48 + cond * 2 ^ 40)], { s with free := s.free + 2 })
/-- Records that wait are written while they fit, and the reports that follow them are made after the last (R449). -/
def State.flushErr : Nat → State → State
  | 0, s => s
  | n + 1, s =>
    match s.front.errWait with
    | [] =>
      s.front.after.foldl (fun (t : State) x => t.reportNow x.1 x.2.1 x.2.2) { s with front := { s.front with after := [] } }
    | w :: r =>
      if s.errFits w && s.mgmt.updating.isNone then
        let t := s.errWrite w
        State.flushErr n { t with front := { t.front with errWait := r } }
      else s
/-- All that may be written now (R449). -/
def State.flush (s : State) : State := s.flushErr (s.front.errWait.length + 1)
/-- The endings of a launch (R185, R427 item 5): the report, the launch is no longer the context's, and packets that wait
for it go on. -/
def State.closeLaunch (s : State) (asid status : Nat) : State :=
  match s.ctx asid with
  | none => s
  | some c =>
    match c.launch with
    | none => s
    | some l =>
      let endr := if status = 2 then (match c.ended with | some r => endCode r | none => 0) else 0
      (s.completeLaunch l.pkt status 0 (s.launchRecord c l status endr)).modCtx asid fun x => { x with launch := none }

end Sys2Proof.Machine
end

