-- ==== Sys2Proof/Machine/System.lean ====
section
/-!
DEFINITION. System instructions, system registers, event counters and the instruction cache (spec/04_sequencer.md R114 to
R121), fetch and illegal-word faults (spec/02_encoding.md R39, R50) and the taking of a pending fault
(spec/14_contexts.md R412).
-/
namespace Sys2Proof.Machine

/-- NOP (R117). -/
def execNop (s : State) : Out := issue .nop noEarly (fun _ _ s => .done s) s
/-- TRAP: cause TRAP with the code, resuming where R108 leads (R117).  It waits for the access ring as every entry does
(R409), and a deferred fault goes first. -/
def execTrap (i : BitVec 14) (s : State) : Out :=
  issue (.trap i) noEarly (fun _ f s =>
    if f.hm then .enter s .trap (i.setWidth 64) f.nextPc.pc
    else if !f.ring.isEmpty then .block 9
    else if !f.dfaults.isEmpty then .deferred
    else .enter ((s.modCur Fibre.retire).countRetired s.cur.bay s.cur.idx) .trap (i.setWidth 64) f.nextPc.pc) s
/-- Step 3 of R51 for HRET: ILLEGAL outside handler mode (R117). -/
def onlyHandler (i : Instr) (_ : BayCtx) (f : Fibre) : Option (Cause × Word) :=
  if f.hm then none else some (.illegal, wordOf i)
/-- HRET: a taking point (R147), then the return from handler mode; a misaligned HPC raises ALIGN after it (R117). -/
def execHret (s : State) : Out :=
  issue .hret (onlyHandler .hret) (fun _ f s =>
    if !f.ring.isEmpty then .block 9
    else if !f.dfaults.isEmpty then .deferred
    else
      let s' := s.modCur Fibre.leave
      if f.hpc.toNat % 4 ≠ 0 then .enter (s'.countRetired s.cur.bay s.cur.idx) .align f.hpc f.hpc else .jumped s') s

/-- A register of a fault-ring window (R417). -/
def ringReg (r : FRing) (e f : Nat) : Word :=
  let x := tget .init r.ents r.rsel.toNat
  if f = 0 then r.rsel.setWidth 64
  else if f = 1 then x.tag
  else if f = 2 then x.stat
  else if f = 3 then x.val
  else if f = 4 then (if e = 2 then toW (x.aux.toNat % 2 ^ 28) else 0)
  else if f = 5 then r.rlast.setWidth 64
  else 0
/-- The value of a system register (R114, R116, R417). -/
def sysReg (s : State) (c : BayCtx) (f : Fibre) (n : Nat) : Word :=
  if n = 0 then f.fstat
  else if n = 1 then f.hpc
  else if n = 2 then f.hcause
  else if n = 3 then f.hval
  else if n = 4 then f.hseq
  else if n = 5 then f.hscr
  else if n = 0x10 then toW s.cur.bay
  else if n = 0x11 then toW (s.chip.toNat * 2 ^ 42 + s.cur.idx % 4 * 2 ^ 24 + (c.quota.slots - 1) % 256 * 2 ^ 16 + c.asid % 2 ^ 16)
  else if n = 0x12 then c.launchArg
  else if 0x40 ≤ n ∧ n ≤ 0x7F then ringReg (c.ringOf ((n - 0x40) / 16)) ((n - 0x40) / 16) ((n - 0x40) % 16)
  else 0
/-- SYSRD (R115). -/
def execSysrd (d : GReg) (n : BitVec 14) (s : State) : Out :=
  issue (.sysrd d n) noEarly (fun c f s => .done (s.modCur fun x => x.setReg d (sysReg s c f n.toNat))) s
/-- A Handler register, which SYSWR writes only in handler mode (R114, R115). -/
def isHandlerReg (n : Nat) : Bool := decide (1 ≤ n) && decide (n ≤ 4)
/-- The write of a system register (R115, R417): RO registers ignore it. -/
def writeSys (s : State) (n : Nat) (v : Word) : State :=
  if n = 1 then s.modCur fun x => { x with hpc := v }
  else if n = 2 then s.modCur fun x => { x with hcause := v &&& 0xC00000000000FFFF#64 }
  else if n = 3 then s.modCur fun x => { x with hval := v }
  else if n = 4 then s.modCur fun x => { x with hseq := v }
  else if n = 5 then s.modCur fun x => { x with hscr := v }
  else if 0x40 ≤ n ∧ n ≤ 0x7F ∧ n % 16 = 0 then
    s.modCurC fun c => c.modRing ((n - 0x40) / 16) fun r => { r with rsel := v.setWidth 6 }
  else s
/-- SYSWR (R115); a Handler register outside handler mode is ILLEGAL at step 3 of R51 (R123). -/
def execSyswr (a : GReg) (n : BitVec 14) (s : State) : Out :=
  issue (.syswr a n)
    (fun _ f => if isHandlerReg n.toNat && !f.hm then some (.illegal, wordOf (.syswr a n)) else none)
    (fun _ f s => .done (writeSys s n.toNat (f.reg a))) s
/-- EVSEL: source, count 0, and the issuing context as owner (R119).  Its own retirement comes after the clear, and counts
where the new source is 2 (log entry 79). -/
def execEvsel (a : GReg) (k : BitVec 3) (s : State) : Out :=
  issue (.evsel a k) noEarly (fun c f s => .done (s.modBay s.cur.bay fun x =>
    { x with evc := tset x.evc k.toNat { src := (f.reg a).setWidth 16, count := 0, owner := c.asid } })) s
/-- EVRD (R119). -/
def execEvrd (d : GReg) (k : BitVec 3) (s : State) : Out :=
  issue (.evrd d k) noEarly (fun c _ s =>
    let e := tget .init (s.bay s.cur.bay).evc k.toNat
    .done (s.modCur fun x => x.setReg d (if e.owner = c.asid then e.count.setWidth 64 else 0))) s
/-- TIME (R118). -/
def execTime (d : GReg) (s : State) : Out :=
  issue (.time d) noEarly (fun _ _ s => .done (s.modCur fun x => x.setReg d s.time.count)) s

/-- The bay's cache without n lines of a context from an address on (R120). -/
def icDrop (l : Tab (BitVec 512)) (asid : Nat) (a : Word) (n : Nat) : Tab (BitVec 512) :=
  l.filter fun p => !(decide (p.1 / 2 ^ 64 = asid) && decide ((p.1 + 2 ^ 64 - a.toNat / 64 * 64) % 2 ^ 64 < 64 * n))
/-- ICINV removes the lines; the fibre is not ready until the last is gone (R120). -/
def execIcinv (a : GReg) (l : BitVec 14) (s : State) : Out :=
  issue (.icinv a l) noEarly (fun c f s =>
    .stay (((s.modBay s.cur.bay fun x => { x with icache := icDrop x.icache c.asid (f.reg a) l.toNat }).modCur fun x =>
      x.block (.queued 0x0C) (s.bay s.cur.bay).cycle).postFree (.icinvDone f.uid (f.reg a) l.toNat))) s
/-- ICINV_DONE: the last of the lines is gone, one that a fibre has fetched meanwhile too, and ICINV retires (R95, R120). -/
def execIcinvDone (s : State) : Out :=
  match s.ev with
  | .icinvDone u a n =>
    match s.findU u with
    | some (p, f) =>
      if f.wait = .queued 0x0C then
        let asid := match s.bctx p.bay p.idx with | some c => c.asid | none => 0
        .next ((s.modBay p.bay fun x => { x with icache := icDrop x.icache asid a n }).retireU u id)
      else .next s
    | none => .next s
  | _ => .next s

/-- The fibre needs the word at its PC: it is ready or evaluates its instruction again, and no pending fault goes before
(R39, R93, R412). -/
def Fibre.fetches (f : Fibre) : Bool :=
  (match f.wait with
    | .ready => f.pend.isEmpty || f.hm || f.frame.isSome
    | .retry _ => true
    | .queued _ => false
    | .entry _ _ _ _ => false)
/-- A line enters a bay's instruction cache, which holds 1,024: in a full one it takes the place of a line that the spec
leaves open (R121; log entry 45). -/
def icPut (l : Tab (BitVec 512)) (key n : Nat) (v : BitVec 512) : Tab (BitVec 512) :=
  tset (if decide (l.length < 1024) || (tfind l key).isSome then l else l.eraseIdx (n % l.length)) key v
/-- A line that has been read enters the bay's cache. -/
def State.icFill (s : State) (b key : Nat) (v : BitVec 512) : State :=
  { (s.modBay b fun x => { x with icache := icPut x.icache key (Config.freeWord s.free).toNat v }) with free := s.free + 1 }
/-- A fetch fault of every fibre of the context on the bay that waits for the line (R39); an instruction that waited to be evaluated
again runs anew after the handler, an MRCMD with a new read of its block (R320, R409). -/
def fetchFaults (b i : Nat) (line : Word) (c : Cause) : List Nat → State → State
  | [], s => s
  | k :: r, s =>
    match s.fib b i k with
    | some f =>
      if f.fetches = true ∧ f.pc.toNat / 64 = line.toNat / 64 then
        fetchFaults b i line c r
          ((s.modF b i k fun x => { x with mrHeld := none }).enterHandler { bay := b, idx := i, slot := k } f (causeWord c) f.pc 0
            f.pc)
      else fetchFaults b i line c r s
    | none => fetchFaults b i line c r s
/-- INSTRUCTION_LINE_FILL: a 64-byte global read under the context's ASID with execute permission fills the line, or
fails with IFETCH or MEMERR for the fibres that share it (R39, R121, R136). -/
def execInstructionLineFill (s : State) : Out :=
  match s.ev with
  | .instructionLineFill b asid line =>
    match s.keyOf b asid with
    | none => .next s
    | some i =>
      if !s.activeAt b i then .next s.wait
      else
        match s.bctx b i with
        | none => .next s
        | some c =>
          let fail := fun (s : State) (k : Cause) => fetchFaults b i line k (c.slots.map Prod.fst) s
          match s.translateAt (homeStation b) asid line .fetch with
          | (.ok (.phys pa), s') =>
            match physKey pa with
            | some key =>
              if (s'.bad key 64).isSome then .next (fail (s'.memError key asid) .memerr)
              else .next ((s'.tallyKey key .reads).icFill b (icKey asid line) (BitVec.ofNat 512 (leNat (s'.read key 64))))
            | none => .next (fail s' .ifetch)
          | (.ok (.remote _ _), s') => .next (fail s' .ifetch)
          | (.error .memerr, s') => .next (fail s' .memerr)
          | (.error _, s') => .next (fail s' .ifetch)
  | _ => .next s

/-- ILLEGAL_WORD: a word that no encoding of R46 to R49 allows traps with HVAL the word (R50). -/
def execIllegalWord (s : State) : Out :=
  match s.ev, s.curF with
  | .illegalWord w, some f => .next (s.raise f .illegal (w.setWidth 64))
  | _, _ => .next s

/-- A pending fault of the fibre may be taken (R412): ordinary mode, no open frame, not blocked, ring empty (R409). -/
def Fibre.takesPending (f : Fibre) : Bool :=
  !f.pend.isEmpty && !f.hm && f.frame.isNone && f.wait == .ready && f.ring.isEmpty
/-- The fault fibre's list takes the oldest fault of the backlog as it takes one (R416). -/
def State.refill (s : State) (p : Cur) : State :=
  match s.bctx p.bay p.idx with
  | none => s
  | some c =>
    match (s.ctx c.asid).map Ctx.backlog with
    | some (q :: r) =>
      ((s.modCtx c.asid fun x => { x with backlog := r }).markPend q fun e => { e with pend := true }).modF p.bay p.idx p.slot
        fun x => { x with pend := x.pend ++ [q] }
    | _ => s
/-- PENDING_FAULT_TAKEN: the oldest pending fault enters handler mode, resuming at the next instruction; an older
deferred fault goes first and leaves it pending (R409, R412). -/
def execPendingFaultTaken (s : State) : Out :=
  match s.ev with
  | .pendingFaultTaken b i k =>
    match s.fib b i k with
    | some f =>
      let p : Cur := { bay := b, idx := i, slot := k }
      if !f.takesPending then .next s
      else if !f.dfaults.isEmpty then .next (s.reportDeferred p f)
      else
        match f.pend with
        | [] => .next s
        | q :: r =>
          let s1 := (s.modF b i k fun x => { x with pend := r }).markPend q fun x => { x with pend := false }
          let s2 := if f.isFault then s1.refill p else s1
          .next (s2.enterHandler p f q.hcause q.hval q.hseq f.pc)
    | none => .next s
  | _ => .next s

end Sys2Proof.Machine
end

