-- ==== Sys2Proof/Machine/Context.lean ====
section
/-!
DEFINITION. The ends of contexts and launches, and the watchdog (spec/14_contexts.md R427 to R432, spec/06_scheduler.md
R185).
-/
namespace Sys2Proof.Machine

/-! ### What is in flight for a context -/

/-- Bay and key of the context that an event on a bay concerns. -/
def evPlace : Ev → Option (Nat × Nat)
  | .pendingFaultTaken b i _ => some (b, i)
  | .fibreEviction b i => some (b, i)
  | .cellarRestore b i => some (b, i)
  | .waitingCountThreshold b i _ => some (b, i)
  | .vectorEntryExecute b i _ => some (b, i)
  | .copyCommandBegin b i => some (b, i)
  | .copySegmentWritten b i _ => some (b, i)
  | .copyAccessFault b i _ _ _ => some (b, i)
  | .copyCommandComplete b i _ => some (b, i)
  | .cpymTileAck b i _ => some (b, i)
  | .matrixCommandBegin b i => some (b, i)
  | .matrixCommandComplete b i => some (b, i)
  | .rendezvousTransfer b i => some (b, i)
  | .fabricCommandBegin b i => some (b, i)
  | .fabricPiece b i _ => some (b, i)
  | .cpymWritten b i _ _ _ _ _ => some (b, i)
  | _ => none
/-- The same event under another key of its bay. -/
def evRekey (j : Nat) : Ev → Ev
  | .pendingFaultTaken b _ k => .pendingFaultTaken b j k
  | .fibreEviction b _ => .fibreEviction b j
  | .cellarRestore b _ => .cellarRestore b j
  | .waitingCountThreshold b _ k => .waitingCountThreshold b j k
  | .vectorEntryExecute b _ v => .vectorEntryExecute b j v
  | .copyCommandBegin b _ => .copyCommandBegin b j
  | .copySegmentWritten b _ q => .copySegmentWritten b j q
  | .copyAccessFault b _ q c v => .copyAccessFault b j q c v
  | .copyCommandComplete b _ q => .copyCommandComplete b j q
  | .cpymTileAck b _ q => .cpymTileAck b j q
  | .matrixCommandBegin b _ => .matrixCommandBegin b j
  | .matrixCommandComplete b _ => .matrixCommandComplete b j
  | .rendezvousTransfer b _ => .rendezvousTransfer b j
  | .fabricCommandBegin b _ => .fabricCommandBegin b j
  | .fabricPiece b _ q => .fabricPiece b j q
  | .cpymWritten b _ q m t k ps => .cpymWritten b j q m t k ps
  | e => e
/-- The ASID that an event names. -/
def evAsid : Ev → Option Nat
  | .instructionLineFill _ a _ => some a
  | .faultFibreStart a => some a
  | .spawnMessageArrival _ a _ _ => some a
  | .spawnAckArrival a _ => some a
  | .migrationArrival _ a _ => some a
  | .saveComplete _ a => some a
  | .restoreComplete _ a _ => some a
  | .contractPeriodStart a => some a
  | .barrierPhaseComplete a _ _ => some a
  | .gutterWordArrival _ a _ _ => some a
  | .gutterCreditReturn _ a _ => some a
  | .mrcmdArrival m => some m.asid
  | .mrcmdAckArrival m _ => some m.asid
  | .meshPostArrival _ a _ _ _ => some a
  | .carmAtUnit m => some m.asid
  | .caddAtUnit m => some m.asid
  | .creadAtUnit m => some m.asid
  | .cdisarmAtUnit m => some m.asid
  | .cisternSpawnRetry _ a _ _ _ => some a
  | .watchdogFire a => some a
  | .contextEnd a _ _ _ => some a
  | .launchEnd a => some a
  | .groupTreeRebuild a _ _ => some a
  | _ => none
/-- The bay states of a context, as bay and key. -/
def State.places (s : State) (asid : Nat) : List (Nat × Nat) :=
  s.bays.flatMap fun p => (p.2.ctxs.filter fun q => q.2.asid == asid).map fun q => (p.1, q.1)
/-- The items in flight that are not a context's own. -/
def State.otherItems (s : State) (asid : Nat) : List Item :=
  let l := s.places asid
  s.agenda.filter fun t => evAsid t.ev != some asid && (match evPlace t.ev with | some p => !l.contains p | none => true)

/-! ### The end of a context (R427) -/

/-- A key of a scratchpad, weight buffer or tile of a context, on one bay or on every bay. -/
def isUnitOf (asid : Nat) (bay : Option Nat) (key : Nat) : Bool :=
  decide (2 * 2 ^ 50 ≤ key) && (unitKey key).1 == asid && (match bay with | some b => (unitKey key).2.1 == b | none => true)
/-- The scratchpads, weight buffers and tiles of a context are zero (R128, R427 item 4), on one bay or on every bay. -/
def State.zeroUnits (s : State) (asid : Nat) (bay : Option Nat) : State :=
  { s with
    mem := s.mem.filter fun c => !isUnitOf asid bay c.1
    poison := s.poison.filter fun u => !isUnitOf asid bay (u * 8) }
/-- The ASID of a token (R362), where it names one. -/
def Tok.asid : Tok → Option Nat
  | .piece _ a _ _ _ => some a
  | .ramo _ a _ => some a
  | .copy _ a _ _ _ _ => some a
  | .load _ _ _ => none
/-- The packet is a request of a command or a fibre of this package. -/
def Own.local_ : Own → Bool
  | .cmd _ _ _ => true
  | .acc _ _ _ _ => true
  | .copy _ _ _ => true
  | .cons _ => false
  | .resp _ _ => false
  | .report => false
  | .none => false
/-- A stream's sender after the end of a context: what has gone out stays to be delivered, for nobody; what has not is
discarded (R427 items 2 and 3). -/
def Sender.forget (z : Sender) (asid : Nat) : Sender :=
  { z with
    unack := z.unack.map fun (p : BitVec 32 × Sent) =>
      (p.1, if p.2.pkt.asid = asid ∧ p.2.own.local_ = true then { p.2 with own := .none, uid := 0 } else p.2)
    waiting := z.waiting.filter fun (x : Sent) => !(x.pkt.asid == asid && x.own.local_) }
/-- All that a context holds on the package is released (R427 items 2 and 4); event counters that it owned are nobody's
(R119). -/
def State.releaseCtx (s : State) (asid : Nat) : State :=
  let here := s.places asid
  let keep := fun (b : Nat) (x : Option Nat) => match x with | some i => if here.contains (b, i) then none else some i | none => none
  let gone := (migrants (s.agenda ++ s.bays.flatMap fun p => p.2.ctxs.flatMap fun q => q.2.park)).filterMap fun p =>
    if p.1 = asid then some p.2 else none
  ({ s with
    agenda := s.otherItems asid
    bays := s.bays.map fun (p : Nat × Bay) => (p.1, { p.2 with
      ctxs := p.2.ctxs.filter fun q => q.2.asid != asid
      active := keep p.1 p.2.active
      incoming := keep p.1 p.2.incoming
      due := if p.2.due = some asid then none else p.2.due
      evc := tmap (fun e => if e.owner = asid then .init else e) p.2.evc
      icache := p.2.icache.filter fun q => q.1 / 2 ^ 64 != asid })
    tlb := s.tlb.map fun (p : Nat × List Tlb) => (p.1, p.2.filter fun t => t.asid != asid)
    dcists := s.dcists.filter fun p => p.1 / 4096 / 8 != asid
    groups := s.groups.filter fun p => p.1 / 4096 != asid
    windows := s.windows.filter fun p => p.2.owner != asid
    front := { s.front with farWins := s.front.farWins.filter fun p => p.2 != asid }
    mig := s.mig.filter fun p => !gone.contains p.1
    images := s.images.filter fun p => p.1 % 2 ^ 16 != asid
    toks := s.toks.filter fun p => p.2.tok.asid != some asid
    cons := s.cons.filter fun p => p.1 / 2 ^ 64 % 2 ^ 16 != asid
    senders := s.senders.map fun (p : Nat × Sender) => (p.1, p.2.forget asid) }).zeroUnits asid none
/-- The COPY packets of an ended context complete with NOCTX (log entry 27). -/
def State.dropCopies (s : State) (ctxid : BitVec 32) : State :=
  let mine := fun (x : HostPkt × CopyAct) => (s.blkD x.1 0x18).setWidth 32 == ctxid
  (s.front.copies.filter mine).foldl (fun (t : State) x => t.complete x.1 0x14 0)
    { s with front := { s.front with copies := s.front.copies.filter fun x => !mine x } }
/-- The record of an ended context: the time at which the first reason was found, the sections of every reason found
meanwhile after those of the first, and for FAULTS the number of backlog faults at offset 0x20 (R416, R427, R431). -/
def State.endRecord (s : State) (c : Ctx) (bay : Nat) (secs : List Word) : List Word :=
  let more := s.agenda.flatMap fun t => match t.ev with | .contextEnd a _ _ x => if a = c.asid then x else [] | _ => []
  let r := c.ended.getD .host
  let l := (s.record 1 (endCode r) c.asid bay (secs ++ more)).set 2 c.endTime
  if r = .faults then l.set 4 (toW c.backlog.length) else l
/-- CONTEXT_END: the package stops the context, writes its record, releases what it holds, and reports a running launch
as ENDED (R427, R431). -/
def execContextEnd (s : State) : Out :=
  match s.ev with
  | .contextEnd asid _ bay secs =>
    match s.ctx asid with
    | none => .next s
    | some c =>
      if c.closed then .next s
      else
        let s1 := ((s.errPush 1 (s.endRecord c bay secs)).closeLaunch asid 2).releaseCtx asid
        .next ((s1.dropCopies c.ctxid).modCtx asid fun x =>
          { x with closed := true, launch := none, live := 0, backlog := [], slice := [], silence := 0 })
  | _ => .next s

/-! ### The end of a launch (R185) -/

/-- A context's bay state holds an engine command that is accepted and not complete (R185). -/
def BayCtx.engaged (c : BayCtx) : Bool :=
  !c.mport.ents.isEmpty || !c.cport.ents.isEmpty || !c.fport.ents.isEmpty || c.mact.isSome || !c.cacts.isEmpty
    || c.facts.any (fun a => !a.past) || c.vctxs.any fun v => !v.2.queue.isEmpty
/-- The bay states of a context. -/
def State.bayCtxs (s : State) (asid : Nat) : List BayCtx :=
  s.bays.flatMap fun p => (p.2.ctxs.map Prod.snd).filter fun c => c.asid == asid
/-- An event that stands for a command of a context which is accepted and not complete: an MRCMD until the post of its
completion or of its rejection is made (R323), and CARM and CADD until the unit has applied them (R403). -/
def evCommand : Ev → Option Nat
  | .mrcmdArrival m => some m.asid
  | .mrcmdAckArrival m r => if r = 0 then none else some m.asid
  | .meshPostArrival _ a _ _ _ => some a
  | .carmAtUnit m => some m.asid
  | .caddAtUnit m => some m.asid
  | _ => none
/-- A command of the context is on its way, in the mesh or parked (R185). -/
def State.sending (s : State) (asid : Nat) : Bool :=
  (s.agenda ++ s.bays.flatMap fun p => p.2.ctxs.flatMap fun q => q.2.park).any fun t => evCommand t.ev == some asid
/-- LAUNCH_END: nothing of the launch is left on the package, and its report is made (R185, R440, R446). -/
def execLaunchEnd (s : State) : Out :=
  match s.ev with
  | .launchEnd asid =>
    match s.ctx asid with
    | none => .next s
    | some c =>
      if c.launch.isNone || c.ended.isSome then .next s
      else if c.live != 0 || (s.bayCtxs asid).any BayCtx.engaged || s.sending asid then .next s.wait
      else .next (s.closeLaunch asid 1)
  | _ => .next s

/-! ### The watchdog (R430, R432) -/

/-- The FIBRE section of a spawn request that is not yet placed (R430). -/
def State.requestSection (s : State) (b asid code : Nat) (r : SpawnReq) : List Word :=
  fibreSection (s.handle b 0 0) code { (Fibre.start 0 r.entry 0 (s.fibreOf asid (.spawn r)).pri) with g := Vector.replicate 8 0 }
/-- The section of a record of the cellar (R430, R432; log entry 28 for the handle of a parked fibre). -/
def State.cellarSection (s : State) (b asid code : Nat) : CRec → List Word
  | .fib f => fibreSection (s.handle b 0 0) code f
  | .spawn r => s.requestSection b asid (if code = 0x61 then 0x60 else code) r
/-- The sections of a context on one bay. -/
def State.baySections (s : State) (b : Nat) (c : BayCtx) : List Word :=
  (c.slots.flatMap fun p => match p.2.fib with
    | some f => fibreSection (s.handle b p.1 p.2.gen) (s.waitReason b c.asid c f) f
    | none => [])
  ++ (c.cellar.ring.flatMap fun r => s.cellarSection b c.asid 0x60 r.2)
  ++ (c.cellar.blocked.flatMap fun f => s.cellarSection b c.asid 0x61 (.fib f.2))
  ++ c.cellar.held.flatMap fun h => match h.msg with | .spawn r => s.requestSection b c.asid 0x62 r | .fib _ => []
/-- The section of a SPAWN packet that is held at its target, until a record frees (R360, R430). -/
def State.heldSpawns (s : State) (asid : Nat) : List Word :=
  s.receivers.flatMap fun x => x.2.win.flatMap fun w => match w.2 with
    | .held p => if p.opc = 8 ∧ p.asid = asid then
        s.requestSection (bits p.addr 41 31) asid 0x62 { entry := p.o0, arg := p.o1, pri := BitVec.ofNat 3 (bits p.o2 2 0) }
      else []
    | _ => []
/-- The sections of the spawns that wait at a cistern's entry behind the action that waits there (R394, R430); the first one's
own retry stands for it. -/
def State.queuedSpawns (s : State) (asid : Nat) (e : Cist) : List Word :=
  let ws := match e.queued with
    | (d, n) :: r => if ({ e with desc := d } : Cist).act = 2 then r else (d, n) :: r
    | [] => []
  ws.flatMap fun p =>
    let x : Cist := { e with desc := p.1 }
    if x.act = 2 then
      match (s.ctx asid).bind fun c => c.targets[x.actx]? with
      | some t =>
        let pri : BitVec 3 := BitVec.ofNat 3 (bits (x.dw 2) 52 50)
        s.requestSection x.tbay asid 0x62 { entry := t.entry, arg := x.dw 3, pri := if pri = 7 then t.pri else pri }
      | none => []
    else []
/-- Every cistern entry of a context on the package. -/
def State.cistsOf (s : State) (asid : Nat) : List Cist :=
  ((s.bayCtxs asid).flatMap fun c => c.cists.map Prod.snd)
    ++ (s.dcists.filter fun p => p.1 / 4096 / 8 == asid).map Prod.snd
/-- The sections of all fibres and waiting spawn requests of a context (R430). -/
def State.watchSections (s : State) (asid : Nat) : List Word :=
  (s.bays.flatMap fun p => (p.2.ctxs.filter fun q => q.2.asid == asid).flatMap fun q => s.baySections p.1 q.2)
  ++ ((s.agenda ++ s.bays.flatMap fun p => p.2.ctxs.flatMap fun q => q.2.park).flatMap fun t => match t.ev with
    | .spawnMessageArrival b a r _ => if a = asid then s.requestSection b asid 0x62 r else []
    | .cisternSpawnRetry b a r _ _ => if a = asid then s.requestSection b asid 0x62 r else []
    | _ => [])
  ++ s.heldSpawns asid ++ (s.cistsOf asid).flatMap (s.queuedSpawns asid)
/-- WATCHDOG_FIRE: the silence has reached the window, and the context ends with one section for each fibre (R430). -/
def execWatchdogFire (s : State) : Out :=
  match s.ev with
  | .watchdogFire asid =>
    match s.ctx asid with
    | none => .next s
    | some c =>
      if c.ended.isSome || c.launch.isNone then .next s
      else .next (s.endCtx asid .watchdog 0x7FF (s.watchSections asid))
  | _ => .next s

end Sys2Proof.Machine
end

