-- ==== Sys2Proof/Machine/Control.lean ====
section
/-!
DEFINITION. Branches, jumps, calls and hardware loops (spec/04_sequencer.md R104 to R110).
-/
namespace Sys2Proof.Machine

/-- A branch: taken, PC is the target and no loop-end test is made; not taken, PC follows R108 (R104). -/
def branchOp (i : Instr) (a b : GReg) (o : BitVec 17) (cond : Word → Word → Bool) (s : State) : Out :=
  issue i noEarly (fun _ f s =>
    if cond (f.reg a) (f.reg b) then .jumped (s.modCur fun x => { x with pc := wordTarget f.pc o }) else .done s) s
/-- BEQ (R104). -/
def execBeq (a b : GReg) (o : BitVec 17) (s : State) : Out := branchOp (.beq a b o) a b o (fun x y => x == y) s
/-- BNE (R104). -/
def execBne (a b : GReg) (o : BitVec 17) (s : State) : Out := branchOp (.bne a b o) a b o (fun x y => x != y) s
/-- BLT (R104). -/
def execBlt (a b : GReg) (o : BitVec 17) (s : State) : Out :=
  branchOp (.blt a b o) a b o (fun x y => decide (x.toInt < y.toInt)) s
/-- BGE (R104). -/
def execBge (a b : GReg) (o : BitVec 17) (s : State) : Out :=
  branchOp (.bge a b o) a b o (fun x y => decide (y.toInt ≤ x.toInt)) s
/-- BLTU (R104). -/
def execBltu (a b : GReg) (o : BitVec 17) (s : State) : Out :=
  branchOp (.bltu a b o) a b o (fun x y => decide (x.toNat < y.toNat)) s
/-- BGEU (R104). -/
def execBgeu (a b : GReg) (o : BitVec 17) (s : State) : Out :=
  branchOp (.bgeu a b o) a b o (fun x y => decide (y.toNat ≤ x.toNat)) s
/-- BBC (R104). -/
def execBbc (a b : GReg) (o : BitVec 17) (s : State) : Out :=
  branchOp (.bbc a b o) a b o (fun x y => !x.getLsbD (y.toNat % 64)) s
/-- BBS (R104). -/
def execBbs (a b : GReg) (o : BitVec 17) (s : State) : Out :=
  branchOp (.bbs a b o) a b o (fun x y => x.getLsbD (y.toNat % 64)) s

/-- JMP (R105). -/
def execJmp (o : BitVec 26) (s : State) : Out :=
  issue (.jmp o) noEarly (fun _ f s => .jumped (s.modCur fun x => { x with pc := wordTarget f.pc o })) s
/-- CALL writes g7 (R105). -/
def execCall (o : BitVec 26) (s : State) : Out :=
  issue (.call o) noEarly (fun _ f s =>
    .jumped (s.modCur fun x => { x.setReg 7 (f.pc + 4) with pc := wordTarget f.pc o })) s
/-- JR, with ALIGN for a misaligned target (R105). -/
def execJr (a : GReg) (s : State) : Out :=
  issue (.jr a) noEarly (fun _ f s =>
    if (f.reg a).toNat % 4 ≠ 0 then .fault .align (f.reg a)
    else .jumped (s.modCur fun x => { x with pc := f.reg a })) s
/-- CALLR reads its target before it writes g7 (R105). -/
def execCallr (a : GReg) (s : State) : Out :=
  issue (.callr a) noEarly (fun _ f s =>
    if (f.reg a).toNat % 4 ≠ 0 then .fault .align (f.reg a)
    else .jumped (s.modCur fun x => { x.setReg 7 (f.pc + 4) with pc := f.reg a })) s

/-- Step 3 of R51 for LOOP and LBRK: ILLEGAL in handler mode (R110, R123). -/
def notHandler (i : Instr) (_ : BayCtx) (f : Fibre) : Option (Cause × Word) :=
  if f.hm then some (.illegal, wordOf i) else none
/-- LOOP at a level with a count (R107). -/
def loopOp (l : BitVec 2) (n : Word) (e : BitVec 10) (f : Fibre) (s : State) : Res :=
  if f.loops.length < l.toNat then .fault .lstack (l.setWidth 64)
  else
    let stop := f.pc + 4 * e.setWidth 64
    if n = 0 then .jumped (s.modCur fun x => { x with pc := stop + 4 })
    else .jumped (s.modCur fun x => { x with
      loops := { start := f.pc + 4, stop := stop, rem := n } :: f.loops.drop (f.loops.length - l.toNat), pc := f.pc + 4 })
/-- LOOP with an immediate count (R107). -/
def execLoop (l : BitVec 2) (n e : BitVec 10) (s : State) : Out :=
  issue (.loop l n e) (notHandler (.loop l n e)) (fun _ f s => loopOp l (n.setWidth 64) e f s) s
/-- LOOP with a count from a register (R107). -/
def execLoopReg (l : BitVec 2) (a : GReg) (e : BitVec 10) (s : State) : Out :=
  issue (.loopReg l a e) (notHandler (.loopReg l a e)) (fun _ f s => loopOp l (f.reg a) e f s) s
/-- The entry of a loop level, counted from the outermost (R106). -/
def Fibre.loopAt (f : Fibre) (l : Nat) : Option LoopEnt :=
  if l < f.loops.length then f.loops[f.loops.length - 1 - l]? else none
/-- LBRK leaves a loop and every loop inside it (R109). -/
def execLbrk (l : BitVec 2) (s : State) : Out :=
  issue (.lbrk l) (notHandler (.lbrk l)) (fun _ f s =>
    match f.loopAt l.toNat with
    | some e => .jumped (s.modCur fun x => { x with pc := e.stop + 4, loops := f.loops.drop (f.loops.length - l.toNat) })
    | none => .fault .lstack (l.setWidth 64)) s
/-- LCNT (R109). -/
def execLcnt (d : GReg) (l : BitVec 2) (s : State) : Out :=
  aluOp (.lcnt d l) d (fun f => match f.loopAt l.toNat with | some e => e.rem | none => 0) s

end Sys2Proof.Machine
end

