-- ==== Sys2Proof/Machine/Copy.lean ====
section
/-!
DEFINITION. The copy engine (spec/09_copy.md R269 to R294).
-/
namespace Sys2Proof.Machine

/-! ### Instructions -/

/-- The checks of a descriptor form at issue, after the semaphore index (R270, R364). -/
def descCheck (c : BayCtx) (a : Word) (k : Res) : Res :=
  if a.toNat % 64 ≠ 0 then .fault .align a
  else if c.quota.scratch < a.toNat + 64 then .fault .quota a
  else k
/-- CPY (R269, R270). -/
def execCpy (a : GReg) (x : BitVec 10) (r : MemOrd) (p : Scope) (s : State) : Out :=
  issue (.cpy a x r p) (semEarly x) (fun c f s =>
    descCheck c (f.reg a) (submit 2 (s.mkCmd c f (.cpy a x r p) (f.reg a) 0 x.toNat r p) none c s)) s
/-- CPYM (R269, R270, R286). -/
def execCpym (a : GReg) (x : BitVec 10) (r : MemOrd) (p : Scope) (s : State) : Out :=
  issue (.cpym a x r p) (semEarly x) (fun c f s =>
    descCheck c (f.reg a) (submit 2 (s.mkCmd c f (.cpym a x r p) (f.reg a) 0 x.toNat r p) none c s)) s
/-- CPYT, which never waits and tells whether it was accepted (R18, R269). -/
def execCpyt (a b : GReg) (x : BitVec 10) (r : MemOrd) (p : Scope) (s : State) : Out :=
  issue (.cpyt a b x r p) (semEarly x) (fun c f s =>
    descCheck c (f.reg a) (submit 2 (s.mkCmd c f (.cpyt a b x r p) (f.reg a) 0 x.toNat r p) (some b) c s)) s
/-- CPYQ (R291). -/
def execCpyq (a b : GReg) (s : State) : Out :=
  issue (.cpyq a b) noEarly (fun c f s =>
    let q := f.reg a
    if 2 ^ 32 ≤ q.toNat then .fault .range q
    else
      .done (s.modCur fun g => g.setReg b (match (if q = 0 then none else c.cring.entry (q.setWidth 32)) with
        | some e => toW (e.st * 2 ^ 62 + (if e.flt then 2 ^ 61 else 0) + e.segs % 2 ^ 28)
        | none => 0))) s

/-! ### The descriptor (R271 to R273) -/

/-- Doubleword k of a command's descriptor. -/
def Cmd.d (m : Cmd) (k : Nat) : Word := m.desc.getD k 0
/-- The command is a CPYM. -/
def Cmd.multi (m : Cmd) : Bool := match m.op with | .cpym .. => true | _ => false
/-- SK. -/
def Cmd.sk (m : Cmd) : Nat := bits (m.d 2) 2 0
/-- DK. -/
def Cmd.dk (m : Cmd) : Nat := bits (m.d 2) 6 4
/-- N0. -/
def Cmd.n0 (m : Cmd) : Nat := bits (m.d 3) 23 0 + 1
/-- N1. -/
def Cmd.n1 (m : Cmd) : Nat := bits (m.d 3) 47 32 + 1
/-- N2. -/
def Cmd.n2 (m : Cmd) : Nat := bits (m.d 3) 63 48 + 1
/-- N3. -/
def Cmd.n3 (m : Cmd) : Nat := bits (m.d 2) 47 32 + 1
/-- Stream positions in all (R275). -/
def Cmd.total (m : Cmd) : Nat := m.n0 * m.n1 * m.n2 * m.n3
/-- The rectangle (R273). -/
def Cmd.rect (m : Cmd) : BitVec 26 := (m.d 7).setWidth 26
/-- MAPD. -/
def Cmd.mapd (m : Cmd) : Nat := bits (m.d 7) 49 48
/-- The block length. -/
def Cmd.blk (m : Cmd) : Nat := bits (m.d 7) 47 32 + 1
/-- A stride of the source in dimension k, 1 to 3, modulo 2^64 (R275). -/
def Cmd.ss (m : Cmd) (k : Nat) : Word := sextW (m.d (3 + k)) 32 <<< bits (m.d 2) 11 8
/-- A stride of the destination in dimension k, 1 to 3, modulo 2^64 (R275). -/
def Cmd.ds (m : Cmd) (k : Nat) : Word := sextW (m.d (3 + k) >>> 32) 32 <<< bits (m.d 2) 15 12
/-- The indices of a stream position (R275). -/
def Cmd.index (m : Cmd) (p : Nat) : Nat × Nat × Nat × Nat :=
  (p % m.n0, p / m.n0 % m.n1, p / m.n0 / m.n1 % m.n2, p / m.n0 / m.n1 / m.n2)
/-- Bay of the rectangle and address of a stream position on a side (R275, R276). -/
def Cmd.sideAt (m : Cmd) (kind : Nat) (base : Word) (st : Nat → Word) (p : Nat) : Nat × Word :=
  let (i0, i1, i2, i3) := m.index p
  let n := rectW m.rect * rectH m.rect
  let im := if m.mapd = 1 then i1 else if m.mapd = 2 then i2 else i3
  let q := if kind = 2 ∧ m.mapd ≠ 0 then im / m.blk % n else 0
  let j := im / m.blk / n * m.blk + im % m.blk
  let dealt := fun (e i : Nat) => if kind = 2 ∧ m.mapd = e then toW j else toW i
  (q, base + dealt 1 i1 * st 1 + dealt 2 i2 * st 2 + dealt 3 i3 * st 3 + toW i0)
/-- The source of a stream position. -/
def Cmd.srcAt (m : Cmd) (p : Nat) : Nat × Word := m.sideAt m.sk (m.d 0) m.ss p
/-- The destination of a stream position. -/
def Cmd.dstAt (m : Cmd) (p : Nat) : Nat × Word := m.sideAt m.dk (m.d 1) m.ds p

/-! ### The checks at begin (R277, R278) -/

/-- Some row start address of a weight-buffer side is not a multiple of 64 (R277): the base, or a stride that a second row
takes. -/
def wbufBad (m : Cmd) (base : Word) (st : Nat → Word) : Bool :=
  base.toNat % 64 != 0 || (m.n1 != 1 && (st 1).toNat % 64 != 0) || (m.n2 != 1 && (st 2).toNat % 64 != 0)
    || (m.n3 != 1 && (st 3).toNat % 64 != 0)
/-- A reserved field of a descriptor is not zero, or holds a value that is reserved (R271 to R274, R225). -/
def Cmd.reserved (m : Cmd) : Bool :=
  (m.d 2 &&& 0xFFFF0000FFFF0088#64) != 0 || bits (m.d 3) 31 24 != 0 || (m.d 7 &&& 0xFFFC0000FC88E0C0#64) != 0
    || decide (4 < m.sk) || decide (4 < m.dk) || rectKind m.rect == 3
/-- The offsets of the bad doublewords of a descriptor (R277; log entry 15 for the fields that take part: a RECT with sizes in KIND 1
or 2 is bad at 0x38, and an SK ZERO whose SRC is zero and whose SSH or SSk is not is bad at 0x10, the zero SRC taking no part). -/
def Cmd.badWords (m : Cmd) : List Nat :=
  let bad := fun (b : Bool) (o : Nat) => if b then [o] else []
  let rectUsed := m.multi || m.sk == 2 || m.dk == 2
  bad (m.sk == 4 && m.d 0 != 0) 0
  ++ bad (m.sk == 3 && wbufBad m (m.d 0) m.ss) 0
  ++ bad (m.dk == 3 && wbufBad m (m.d 1) m.ds) 8
  ++ bad ((m.d 2 &&& 0xFFFF0000FFFF0088#64) != 0) 0x10
  ++ bad (decide (4 < m.sk) || decide (3 < m.dk) || (m.sk == 2 && m.dk == 2)) 0x10
  ++ bad (m.sk == 4 && (bits (m.d 2) 11 8 != 0 || bits (m.d 4) 31 0 != 0 || bits (m.d 5) 31 0 != 0
      || bits (m.d 6) 31 0 != 0)) 0x10
  ++ bad (decide (12 < bits (m.d 2) 11 8) || decide (12 < bits (m.d 2) 15 12) || decide (2 ^ 40 < m.total)) 0x10
  ++ bad (if m.multi then !((m.dk == 2 || m.dk == 3) && (m.sk == 0 || m.sk == 1 || m.sk == 4))
      else if m.sk == 2 || m.dk == 2 then m.mapd == 0 else m.d 7 != 0) 0x10
  ++ bad ((m.sk == 3 || m.dk == 3) && m.n0 % 64 != 0) 0x10
  ++ bad (bits (m.d 3) 31 24 != 0) 0x18
  ++ bad ((m.d 7 &&& 0xFFFC0000FC88E0C0#64) != 0) 0x38
  ++ bad (m.multi && m.mapd != 0) 0x38
  ++ bad (rectUsed && !rectAligned m.rect) 0x38
/-- The lowest bad doubleword of a descriptor. -/
def Cmd.badWord (m : Cmd) : Option Nat :=
  match m.badWords with
  | [] => none
  | x :: r => some (r.foldl min x)
/-- The lowest number of a list. -/
def lowest : List Nat → Option Nat
  | [] => none
  | x :: r => some (r.foldl min x)
/-- The bays of the rectangle that the command may not use: outside the partition, fenced, or without state of the
context (R278). -/
def Cmd.badBay (m : Cmd) (s : State) (asid : Nat) : Option Nat :=
  if m.multi || m.sk == 2 || m.dk == 2 then lowest ((rectBays m.rect).filter fun b => !s.usable asid b) else none
/-- The quota of a side at a bay (R278). -/
def sideQuota (s : State) (asid b kind : Nat) : Nat :=
  match (s.keyOf b asid).bind fun i => s.bctx b i with
  | some c => if kind = 3 then c.quota.wbuf else c.quota.scratch
  | none => 0
/-- The first address of a row, n0 bytes from an address on, that is at or beyond a quota. -/
def rowOver (lim : Nat) (a : Word) (n0 : Nat) : Option Word :=
  if lim ≤ a.toNat then some a else if lim < a.toNat + n0 then some (toW lim) else none
/-- The first address of a side beyond its quota, in stream order (R278). -/
def Cmd.over (m : Cmd) (kind : Nat) (at_ : Nat → Nat × Word) (lim : Nat → Nat) : Option Word :=
  if kind = 0 ∨ kind = 2 ∨ kind = 3 then
    (List.range (m.n1 * m.n2 * m.n3)).findSome? fun r =>
      let (q, a) := at_ (r * m.n0)
      rowOver (lim q) a m.n0
  else none
/-- The quota failure of the extents, the source side first; for a CPYM the members in bay-number order (R278). -/
def Cmd.extent (m : Cmd) (s : State) (b asid : Nat) : Option Word :=
  let bayOfQ := fun (kind q : Nat) => if kind = 2 then rectBay m.rect q else b
  match m.over m.sk m.srcAt fun q => sideQuota s asid (bayOfQ m.sk q) m.sk with
  | some a => some a
  | none =>
    if m.multi then
      ((rectBays m.rect).mergeSort (· ≤ ·)).findSome? fun t => m.over m.dk m.dstAt fun _ => sideQuota s asid t m.dk
    else m.over m.dk m.dstAt fun q => sideQuota s asid (bayOfQ m.dk q) m.dk
/-- The posts that a faulting command makes: 1, and for a CPYM the tiles not yet posted (R289, R293). -/
def Cmd.faultPosts (m : Cmd) (tiles : Nat) : Nat := if m.multi then m.n3 - tiles else 1
/-- An active copy command. -/
def State.copyAct (s : State) (b i q : Nat) : Option CopyAct :=
  (s.bctx b i).bind fun c => c.cacts.find? fun a => a.cmd.seq.toNat == q
/-- Changes an active copy command. -/
def State.modCopy (s : State) (b i q : Nat) (f : CopyAct → CopyAct) : State :=
  s.modC b i fun c => { c with cacts := c.cacts.map fun a => if a.cmd.seq.toNat = q then f a else a }
/-- The command is no longer active. -/
def State.dropCopy (s : State) (b i q : Nat) : State :=
  s.modC b i fun c => { c with cacts := c.cacts.filter fun a => a.cmd.seq.toNat != q }
/-- A copy command as it begins. -/
def CopyAct.start (m : Cmd) : CopyAct :=
  { cmd := m, next := 0, tiles := 0, rbuf := [], rout := 0, wrote := false, wout := 0, rpos := 0, wpos := 0, mout := [],
    acks := 0, sout := [], bad := none }
/-- COPY_COMMAND_BEGIN: the engine takes its next command while fewer than four are active, and checks it (R277 to R279,
R282, R292, R294).  A fault found here has no segment: the segment index of its ring entry is 0 (log entry 81). -/
def execCopyCommandBegin (s : State) : Out :=
  match s.ev with
  | .copyCommandBegin b i =>
    match s.bctx b i with
    | none => .next s
    | some c =>
      if !s.activeAt b i || decide (4 ≤ c.cacts.length)
          || (match c.cport.ents with | m :: _ => hasAcq m.ord && !s.settled m | [] => false) then
        .next (s.post s.lane s.ev)
      else
        match s.takeCmd b i 2 with
        | none => .next s
        | some (m, s1) =>
          let fail := fun (k : Cause) (v : Word) => s1.failCmd b c.asid 2 m k v 0 (m.faultPosts 0)
          match m.badWord with
          | some o => .next (fail .desc (toW o))
          | none =>
            match m.badBay s1 c.asid with
            | some t => .next (fail .aperture (toW t))
            | none =>
              match m.extent s1 b c.asid with
              | some a => .next (fail .quota a)
              | none =>
                .next ((s1.modC b i fun y => { y with cacts := y.cacts ++ [CopyAct.start m] }).post (laneEng b i 2) (.copySegmentWritten b i m.seq.toNat))
  | _ => .next s

/-! ### Segments (R275, R276, R280 to R285) -/

/-- What a byte of the source is: at hand, or on a remote page. -/
inductive SrcByte where
  | here (v : Byte)
  | away (chip woff : Nat)
  deriving DecidableEq, Repr
/-- The remote chip lies in the context's domain (R138). -/
def State.inDomain (s : State) (asid chip : Nat) : Bool :=
  match s.ctx asid with | some c => s.inBox c.domain chip | none => false
/-- A byte at a key, or the uncorrectable error there (R151). -/
def State.readByte (s : State) (asid key : Nat) : Except Cause SrcByte × State :=
  if (s.bad key 1).isSome then (.error .memerr, s.memError key asid) else (.ok (.here (memGet s.mem key)), s)
/-- A byte of a scratchpad, which may be that of a save image (R361, R425). -/
def State.savedByte (s : State) (asid b off key : Nat) : Except Cause SrcByte × State :=
  match s.mayRead b asid off 1 with
  | (t, true) => t.readByte asid key
  | (t, false) => (.error .memerr, t)
/-- A byte at a global address, for an engine of a bay (R278). -/
def State.globalByte (s : State) (b asid : Nat) (a : Word) : Except Cause SrcByte × State :=
  if !globalForm a then (.error .gaddr, s)
  else if isAperture a then
    match s.aperture asid a 1 with
    | .ok key => s.savedByte asid (apBay a) (apOff a) key
    | .error c => (.error c, s)
  else
    match s.translateAt (homeStation b) asid a .read with
    | (.ok (.phys pa), t) =>
      (match physKey pa with | some key => (t.tallyKey key .reads).readByte asid key | none => (.error .xlate, t))
    | (.ok (.remote chip w), t) => if t.inDomain asid chip then (.ok (.away chip w), t) else (.error .domain, t)
    | (.error c, t) => (.error c, t)
/-- A byte of the source of a command (R274, R275), with the address that a fault records. -/
def State.copyRead (s : State) (b asid : Nat) (m : Cmd) (p : Nat) : (Except Cause SrcByte × State) × Word :=
  let (q, a) := m.srcAt p
  (if m.sk = 0 then s.readByte asid (spadKey asid b a.toNat)
   else if m.sk = 1 then s.globalByte b asid a
   else if m.sk = 2 then s.savedByte asid (rectBay m.rect q) a.toNat (spadKey asid (rectBay m.rect q) a.toNat)
   else if m.sk = 3 then s.readByte asid (wbufKey asid b a.toNat)
   else (.ok (.here 0), s), a)
/-- Bytes on their way to remote pages: chip, window-offset, bytes; runs that go on are joined, up to an aligned
512-byte boundary (R362). -/
def joinRun (l : List (Nat × Nat × List Byte)) (chip w : Nat) (d : List Byte) : List (Nat × Nat × List Byte) :=
  match l with
  | (c, o, e) :: r =>
    if c = chip ∧ o + e.length = w ∧ w % 512 ≠ 0 then (c, o, e ++ d) :: r else (chip, w, d) :: (c, o, e) :: r
  | [] => [(chip, w, d)]
/-- Writes a piece, within one aligned 8-byte unit, at a global address (R278, R283, R285): in place, or to be sent. -/
def State.globalPiece (s : State) (b asid : Nat) (a : Word) (d : List Byte) (out : List (Nat × Nat × List Byte)) :
    Except Cause (List (Nat × Nat × List Byte)) × State :=
  if !globalForm a then (.error .gaddr, s)
  else if isAperture a then
    match s.aperture asid a d.length with
    | .ok key =>
      match s.putSaved (apBay a) asid (apOff a) key d with
      | (t, true) => (.ok out, t.countLocal asid (apBay a) (apOff a) d.length)
      | (t, false) => (.error .memerr, t)
    | .error c => (.error c, s)
  else
    match s.translateAt (homeStation b) asid a .write with
    | (.ok (.phys pa), t) =>
      match physKey pa with
      | some key =>
        let t1 := (t.write key d).tallyKey key .writes
        (.ok out, if key < 2 ^ 50 then t1.countDie asid (stationOf key / 4) a.toNat d.length else t1)
      | none => (.error .xlate, t)
    | (.ok (.remote chip w), t) =>
      if t.inDomain asid chip then (.ok (joinRun out chip w d), t) else (.error .domain, t)
    | (.error c, t) => (.error c, t)
/-- A write of a piece to a scratchpad or weight buffer of a bay, or to the save image there (R274, R285, R361, R425). -/
def State.localPiece (s : State) (asid kind bay : Nat) (a : Word) (d : List Byte) : State :=
  let key := if kind = 3 then wbufKey asid bay a.toNat else spadKey asid bay a.toNat
  match s.putSaved bay asid ((if kind = 3 then s.wbufStart bay asid else 0) + a.toNat) key d with
  | (t, true) => if kind = 3 then t else t.countLocal asid bay a.toNat d.length
  | (t, false) => t
/-- A write of a piece of the stream at its destination (R275, R276). -/
def State.copyWrite (s : State) (b asid : Nat) (m : Cmd) (p : Nat) (d : List Byte) (out : List (Nat × Nat × List Byte)) :
    Except Cause (List (Nat × Nat × List Byte)) × State :=
  let (q, a) := m.dstAt p
  if m.dk = 1 then s.globalPiece b asid a d out
  else (.ok out, s.localPiece asid m.dk (if m.dk = 2 then rectBay m.rect q else b) a d)
/-- Positions from p on that lie in one row and one aligned 8-byte unit of the destination. -/
def Cmd.pieceLen (m : Cmd) (p stop : Nat) : Nat :=
  min (min (m.n0 - p % m.n0) (stop - p)) (8 - (m.dstAt p).2.toNat % 8)
/-- The bytes of n positions that have been read. -/
def bytesFrom (rbuf : Tab Byte) (p n : Nat) : List Byte := (List.range n).map fun j => tget 0 rbuf (p + j)
/-- Positions to read from remote pages, as runs: chip, window-offset, first position, length; a run goes on up to an aligned
512-byte boundary (R362). -/
def joinNeed (l : List (Nat × Nat × Nat × Nat)) (chip w p : Nat) : List (Nat × Nat × Nat × Nat) :=
  match l with
  | (c, o, q, k) :: r =>
    if c = chip ∧ o + k = w ∧ q + k = p ∧ w % 512 ≠ 0 then (c, o, q, k + 1) :: r else (chip, w, p, 1) :: l
  | [] => [(chip, w, p, 1)]
/-- Reads n positions: the bytes at hand, and the runs on remote pages. -/
def State.copyFetch (s : State) (b asid : Nat) (m : Cmd) (p : Nat) (buf : Tab Byte) (l : List (Nat × Nat × Nat × Nat)) :
    Nat → Except (Cause × Word) (Tab Byte × List (Nat × Nat × Nat × Nat)) × State
  | 0 => (.ok (buf, l), s)
  | n + 1 =>
    match s.copyRead b asid m p with
    | ((.error c, t), a) => (.error (c, a), t)
    | ((.ok (.here v), t), _) => State.copyFetch t b asid m (p + 1) (tset buf p v) l n
    | ((.ok (.away chip w), t), _) => State.copyFetch t b asid m (p + 1) buf (joinNeed l chip w p) n
/-- Sends the reads of remote pages (R138, R362). -/
def State.copyAsk (s : State) (b asid : Nat) (q : BitVec 32) : List (Nat × Nat × Nat × Nat) → State
  | [] => s
  | (chip, w, p, n) :: r =>
    let tok := s.nextId % 2 ^ 24
    let ptr := toW (chip * 2 ^ 42 + w)
    let s1 := { s with toks := tset s.toks tok (.init (.copy b asid q p n chip)), nextId := s.nextId + 1 }
    State.copyAsk (s1.sendSeq chip (s1.toSend (.copy b asid q) 0 (linesOf ptr n)
      (s1.packet chip 3 (s1.whoOf asid) 0 ptr (toW ((n - 1) * 2 ^ 32)) (toW tok) 0 []))) b asid q r
/-- Sends the writes to remote pages (R283). -/
def State.copyPut (s : State) (b asid : Nat) (q : BitVec 32) : List (Nat × Nat × List Byte) → State
  | [] => s
  | (chip, w, d) :: r =>
    let ptr := toW (chip * 2 ^ 42 + w)
    State.copyPut (s.sendSeq chip (s.toSend (.copy b asid q) 0 (linesOf ptr d.length)
      (s.packet chip 1 (s.whoOf asid) 0 ptr (toW ((d.length - 1) * 2 ^ 32)) 0 0 d))) b asid q r
/-- The writes of a beat, piece by piece in stream order (R281), until the first fault. -/
def State.copyPieces (s : State) (b asid : Nat) (m : Cmd) (rbuf : Tab Byte) (p stop : Nat)
    (out : List (Nat × Nat × List Byte)) : Nat → Except (Cause × Word) (List (Nat × Nat × List Byte)) × State
  | 0 => (.ok out, s)
  | n + 1 =>
    if stop ≤ p then (.ok out, s)
    else
      let k := m.pieceLen p stop
      match s.copyWrite b asid m p (bytesFrom rbuf p k) out with
      | (.error c, t) => (.error (c, (m.dstAt p).2), t)
      | (.ok out', t) => State.copyPieces t b asid m rbuf (p + k) stop out' n
/-- The writes of a beat of a CPYM at each member: addresses and bytes (R286). -/
def Cmd.castPieces (m : Cmd) (rbuf : Tab Byte) (p stop : Nat) : Nat → List (Word × List Byte)
  | 0 => []
  | n + 1 =>
    if stop ≤ p then []
    else
      let k := m.pieceLen p stop
      ((m.dstAt p).2, bytesFrom rbuf p k) :: Cmd.castPieces m rbuf (p + k) stop n
/-- Stream positions of a tile (R287). -/
def Cmd.tile (m : Cmd) : Nat := m.n0 * m.n1 * m.n2
/-- The first stream position of the segment that is next to be written, and the first after it (R280). -/
def CopyAct.first (a : CopyAct) : Nat := 4096 * a.next
/-- The end of that segment. -/
def CopyAct.stop (a : CopyAct) : Nat := min (a.first + 4096) a.cmd.total
/-- Some of the segment is written and the rest is not (R294). -/
def CopyAct.writing (a : CopyAct) : Bool := !a.wrote && a.wpos != a.first
/-- The segment finishes its writes at a gang stop: some of it is written, and the writes are not global ones (R294). -/
def CopyAct.finishes (a : CopyAct) : Bool := a.writing && a.cmd.dk != 1
/-- What a command waited for has come: every read of its segment, or the placement of its writes (R283). -/
def CopyAct.resumes (a : CopyAct) : Bool :=
  if a.wrote then a.wout == 0 else a.rpos == a.stop && a.rout == 0 && a.wpos == a.first
/-- A segment whose reads have not led to a write yet is abandoned and read again in full (R294). -/
def CopyAct.again (a : CopyAct) : CopyAct := { a with rbuf := [], rpos := a.first, rout := 0 }
/-- What a turn of a copy command comes to: a fault, another turn, a wait for answers, or the end of its segment. -/
inductive Turn where
  | fault (c : Cause) (v : Word) (s : State)
  | again (a : CopyAct) (s : State)
  | rest (a : CopyAct) (s : State)
  | done (a : CopyAct) (s : State)
/-- Writes on their way to members: n more of a tile and of a segment, at a stream position (R280, R287). -/
def CopyAct.sendOut (a : CopyAct) (p n : Nat) : CopyAct :=
  let t := p / a.cmd.tile
  let k := p / 4096
  { a with mout := tset a.mout t (tget 0 a.mout t + n), sout := tset a.sout k (tget 0 a.sout k + n) }
/-- A write has reached a member (R280, R287). -/
def CopyAct.wroteOut (a : CopyAct) (p : Nat) : CopyAct :=
  let t := p / a.cmd.tile
  let k := p / 4096
  let n := tget 0 a.sout k - 1
  { a with mout := tset a.mout t (tget 0 a.mout t - 1), sout := if n = 0 then tdel a.sout k else tset a.sout k n }
/-- The next segment may begin: fewer than four of the command are in flight (R280). -/
def CopyAct.mayBegin (a : CopyAct) : Bool := decide (a.sout.length < 4) || a.rpos != a.first
/-- A beat of a CPYM goes to every member over the mesh (R286). -/
def State.castBeat (s : State) (b i : Nat) (a : CopyAct) (stop : Nat) : Turn :=
  let m := a.cmd
  let ps := m.castPieces a.rbuf a.wpos stop 128
  let l := rectBays m.rect
  let a' := { a.sendOut a.wpos l.length with wpos := stop }
  let s1 := l.foldl (fun x y => x.post (laneCast b y) (.cpymWritten b i m.seq.toNat y a.wpos m.dk ps)) s
  if stop = a.stop then .done a' s1 else .again a' s1
/-- The end of a beat of writes: after up to 128 positions, and not inside an aligned 8-byte unit of the destination, which is
written in one step (R157, R279, R281). -/
def CopyAct.beatEnd (a : CopyAct) : Nat :=
  let e := a.wpos + 128
  if a.stop ≤ e then a.stop else e - min (e % a.cmd.n0) ((a.cmd.dstAt e).2.toNat % 8)
/-- One beat of up to 128 bytes of an active command (R279, R280, R283): of the reads of its next segment, and then of its
writes; those of a CPYM end with a tile.  The order of a command's reads and writes is free (R281): the model reads a whole
segment before it writes any of it, one segment after the other (log entry 80). -/
def State.copyTurn (s : State) (b i asid : Nat) (a : CopyAct) : Turn :=
  let m := a.cmd
  if a.wrote then .done a s
  else if a.rpos < a.stop then
    let n := min 128 (a.stop - a.rpos)
    match s.copyFetch b asid m a.rpos a.rbuf [] n with
    | (.error (c, v), t) => .fault c v t
    | (.ok (buf, needs), t) =>
      let a' := { a with rbuf := buf, rpos := a.rpos + n, rout := a.rout + needs.length }
      let t' := t.copyAsk b asid m.seq needs.reverse
      if a'.rpos = a.stop ∧ a'.rout ≠ 0 then .rest a' t' else .again a' t'
  else if a.rout ≠ 0 then .rest a s
  else
    let e := a.beatEnd
    if m.multi then s.castBeat b i a (min e ((a.wpos / m.tile + 1) * m.tile))
    else
      match s.copyPieces b asid m a.rbuf a.wpos e [] 128 with
      | (.error (c, v), t) => .fault c v t
      | (.ok out, t) =>
        let a' := { a with wpos := e, wout := a.wout + out.length, wrote := decide (e = a.stop ∧ a.wout + out.length ≠ 0) }
        let t' := t.copyPut b asid m.seq out.reverse
        if e ≠ a.stop then .again a' t' else if a'.wrote then .rest a' t' else .done a' t'
/-- The acknowledgements of the tiles that every member has written are on their way, in order (R287). -/
def State.tileAcks (s : State) (b i q : Nat) : Nat → State
  | 0 => s
  | n + 1 =>
    match s.copyAct b i q with
    | some a =>
      if a.acks < a.cmd.n3 ∧ (a.acks + 1) * a.cmd.tile ≤ a.wpos ∧ tget 0 a.mout a.acks = 0 then
        State.tileAcks ((s.modCopy b i q fun x => { x with acks := x.acks + 1 }).post (laneEng b i 0) (.cpymTileAck b i q)) b i q n
      else s
    | none => s
/-- The segment is written (R280): its ring entry counts it, and the next segment or the completion follows. -/
def State.copySegDone (s : State) (b i : Nat) (a : CopyAct) : State :=
  let m := a.cmd
  let q := m.seq.toNat
  let s1 := s.modCopy b i q fun x => { x with next := x.next + 1, rbuf := [], wrote := false }
  let s2 := if m.multi then s1 else s1.modEnt b i 2 m.seq fun e => { e with segs := a.next + 1 }
  if a.stop < m.total then s2.post (laneEng b i 2) (.copySegmentWritten b i q)
  else if m.multi then s2
  else s2.postFree (.copyCommandComplete b i q)
/-- A beat of writes has moved: the counter and the watchdog see it (R119, R428). -/
def State.countBeat (s : State) (b asid : Nat) (a x : CopyAct) : State :=
  if a.wpos = x.wpos then s else (s.bump b asid 10 1).pulse asid
/-- COPY_SEGMENT_WRITTEN: an active command has its turn at the engine; a segment is read, and then written, beat by beat,
until it is written (R275 to R285).  At a gang stop a segment that is being written finishes its local, BAYRECT and WBUF
writes; its global writes are parked, and go on once the context is active again, and so does every other segment (R294). -/
def execCopySegmentWritten (s : State) : Out :=
  match s.ev with
  | .copySegmentWritten b i q =>
    match s.bctx b i, s.copyAct b i q with
    | some c, some a =>
      if (!s.activeAt b i && !a.finishes) || !a.mayBegin then .next (s.post s.lane s.ev)
      else
        let put := fun (t : State) (x : CopyAct) => (t.modCopy b i q fun _ => x).countBeat b c.asid a x
        (match s.copyTurn b i c.asid a with
          | .fault k v t => .next (t.postFront (laneEng b i 2) (.copyAccessFault b i q k v))
          | .again x t => .next ((put t x).post s.lane s.ev)
          | .rest x t => .next (put t x)
          | .done x t => .next ((put t x).copySegDone b i x))
    | _, _ => .next s
  | _ => .next s
/-- COPY_ACCESS_FAULT: a fault found per access stops the command (R278, R289, R292, R293), and it posts once its remote writes
are placed (R283). -/
def execCopyAccessFault (s : State) : Out :=
  match s.ev with
  | .copyAccessFault b i q k v =>
    match s.bctx b i, s.copyAct b i q with
    | some c, some a =>
      if a.wout ≠ 0 then .next (s.post s.lane s.ev)
      else .next ((s.dropCopy b i q).failCmd b c.asid 2 a.cmd k v (toW a.next) (a.cmd.faultPosts a.tiles))
    | _, _ => .next s
  | _ => .next s
/-- COPY_COMMAND_COMPLETE: the command has performed all its effects and posts (R21, R282). -/
def execCopyCommandComplete (s : State) : Out :=
  match s.ev with
  | .copyCommandComplete b i q =>
    match s.bctx b i, s.copyAct b i q with
    | some c, some a =>
      if hasRel a.cmd.ord && !s.settled a.cmd then .next s.wait
      else .next ((s.dropCopy b i q).completeCmd b c.asid 2 a.cmd 1)
    | _, _ => .next s
  | _ => .next s
/-- CPYM data reaches a member, which writes it (R286, R288), though its command has faulted since (R293); with the last data
of a tile its acknowledgements combine (R287). -/
def State.castWritten (s : State) (b i q member pos kind : Nat) (ps : List (Word × List Byte)) : State :=
  match s.bctx b i with
  | none => s
  | some c =>
    let t := ps.foldl (fun t x => t.localPiece c.asid kind member x.1 x.2) s
    match t.copyAct b i q with
    | some a => (t.modCopy b i q fun x => x.wroteOut pos).tileAcks b i q a.cmd.n3
    | none => t
/-- CPYM_TILE_ACK: the acknowledgements of a tile have combined, and the semaphore is posted by 1; the last tile
completes the command (R287).  Before that, its data reaches its members. -/
def execCpymTileAck (s : State) : Out :=
  match s.ev with
  | .cpymWritten b i q member pos k ps => .next (s.castWritten b i q member pos k ps)
  | .cpymTileAck b i q =>
    match s.bctx b i, s.copyAct b i q with
    | some c, some a =>
      if hasRel a.cmd.ord && !s.settled a.cmd then .next s.wait
      else
        let n := a.tiles + 1
        let s1 := (s.modCopy b i q fun x => { x with tiles := n }).modEnt b i 2 a.cmd.seq fun e => { e with segs := n }
        let s2 := s1.postTo a.cmd.oBay c.asid a.cmd.sem 1
        .next (if n = a.cmd.n3 then (s2.dropCopy b i q).completeCmd b c.asid 2 a.cmd 0 else s2)
    | _, _ => .next s
  | _ => .next s

end Sys2Proof.Machine
end

