-- ==== Sys2Proof/Machine/Fabric.lean ====
section
/-!
DEFINITION. The fabric commands at their package: issue, descriptors, what is sent at begin, and completion
(spec/12_fabric_engine.md R363 to R374, R379).
-/
namespace Sys2Proof.Machine

/-! ### Issue (R363, R364) -/

/-- A descriptor form at issue (R364). -/
def fabDesc (op : Instr) (a : GReg) (x : BitVec 10) (r : MemOrd) (p : Scope) (s : State) : Out :=
  issue op (semEarly x) (fun c f s =>
    descCheck c (f.reg a) (submit 3 (s.mkCmd c f op (f.reg a) 0 x.toNat r p) none c s)) s
/-- RPUT (R367). -/
def execRput (a : GReg) (x : BitVec 10) (r : MemOrd) (p : Scope) (s : State) : Out := fabDesc (.rput a x r p) a x r p s
/-- RGET (R367). -/
def execRget (a : GReg) (x : BitVec 10) (r : MemOrd) (p : Scope) (s : State) : Out := fabDesc (.rget a x r p) a x r p s
/-- RAMO (R369). -/
def execRamo (a : GReg) (x : BitVec 10) (r : MemOrd) (p : Scope) (s : State) : Out := fabDesc (.ramo a x r p) a x r p s
/-- RSPAWN (R370). -/
def execRspawn (a : GReg) (x : BitVec 10) (r : MemOrd) (p : Scope) (s : State) : Out :=
  fabDesc (.rspawn a x r p) a x r p s
/-- CRD (R375). -/
def execCrd (a : GReg) (x : BitVec 10) (r : MemOrd) (p : Scope) (s : State) : Out := fabDesc (.crd a x r p) a x r p s
/-- CRDG (R377). -/
def execCrdg (a : GReg) (x : BitVec 10) (r : MemOrd) (p : Scope) (s : State) : Out := fabDesc (.crdg a x r p) a x r p s
/-- RPUTI (R364, R368). -/
def execRputi (a b : GReg) (x : BitVec 10) (r : MemOrd) (p : Scope) (s : State) : Out :=
  issue (.rputi a b x r p) (semEarly x) (fun c f s =>
    let v := f.reg a
    if v.toNat % 8 ≠ 0 then .fault .align v
    else if !s.chipOk (bits v 63 42) then .fault .range v
    else submit 3 (s.mkCmd c f (.rputi a b x r p) v (f.reg b) x.toNat r p) none c s) s
/-- RSIG (R364, R368). -/
def execRsig (a b : GReg) (x : BitVec 10) (r : MemOrd) (p : Scope) (s : State) : Out :=
  issue (.rsig a b x r p) (semEarly x) (fun c f s =>
    let v := f.reg a
    let n := f.reg b
    if !s.chipOk (bits v 63 42) then .fault .range v
    else if bits v 20 0 ≠ 0 ∨ 1536 ≤ bits v 41 31 then .fault .range v
    else if 2 ^ 24 ≤ n.toNat then .fault .range n
    else submit 3 (s.mkCmd c f (.rsig a b x r p) v n x.toNat r p) none c s) s
/-- The word that CRDQ gives for a ring entry (R379). -/
def FEnt.crdq (e : FEnt) : Word :=
  toW (e.st * 2 ^ 62 + (if e.flt then 2 ^ 61 else 0) + (if e.grp then 2 ^ 60 else 0) + e.rsn % 2 ^ 12 * 2 ^ 48
    + min (2 ^ 22 - 1) e.failn * 2 ^ 22 + min (2 ^ 22 - 1) e.okn)
/-- CRDQ (R379). -/
def execCrdq (a b : GReg) (s : State) : Out :=
  issue (.crdq a b) noEarly (fun c f s =>
    let q := f.reg a
    if 2 ^ 32 ≤ q.toNat then .fault .range q
    else
      .done (s.modCur fun g => g.setReg b (match (if q = 0 then none else c.fring.entry (q.setWidth 32)) with
        | some e => e.crdq
        | none => 0))) s
/-- FLUSH and FLUSHC after their checks (R373): the taking point, the acknowledgements, and a full fence. -/
def flushRes (f : Fibre) (chip : Option Nat) (s : State) : Res :=
  if !f.ring.isEmpty then .block 9
  else if !f.dfaults.isEmpty then .deferred
  else if s.remoteWrites f.uid chip || s.unsent f.uid (s.tick + 1) then .block 0x0A
  else .done (s.releaseMark .ar)
/-- FLUSH (R373). -/
def execFlush (p : Scope) (s : State) : Out := issue (.flush p) noEarly (fun _ f s => flushRes f none s) s
/-- FLUSHC (R364, R373). -/
def execFlushc (a : GReg) (p : Scope) (s : State) : Out :=
  issue (.flushc a p) noEarly (fun _ f s =>
    let v := f.reg a
    if bits v 63 22 ≠ 0 ∨ s.chipOk v.toNat = false then .fault .range v else flushRes f (some v.toNat) s) s
/-- STRMQ (R374). -/
def execStrmq (d a : GReg) (s : State) : Out :=
  issue (.strmq d a) noEarly (fun c f s =>
    let v := f.reg a
    if bits v 63 22 ≠ 0 ∨ s.chipOk v.toNat = false then .fault .range v
    else
      let e := s.sender v.toNat
      .done (s.modCur fun g => g.setReg d (toW ((if e.resident then 2 ^ 63 else 0) + (if e.torn then 2 ^ 62 else 0)
        + (if e.resident then e.unack.length % 2 ^ 11 * 2 ^ 32 else 0) + (16 - c.fport.ents.length))))) s

/-! ### Descriptors (R365, R366) -/

/-- SIGEN. -/
def Cmd.sigen (m : Cmd) : Bool := (m.d 2).getLsbD 27
/-- PLC. -/
def Cmd.plc (m : Cmd) : Bool := (m.d 2).getLsbD 26
/-- LK. -/
def Cmd.lk (m : Cmd) : Bool := (m.d 2).getLsbD 24
/-- The number of bytes. -/
def Cmd.flen (m : Cmd) : Nat := bits (m.d 2) 23 0 + 1
/-- AOP. -/
def Cmd.aop (m : Cmd) : Nat := bits (m.d 2) 4 0
/-- Size of a RAMO in bytes. -/
def Cmd.asz (m : Cmd) : Nat := if (m.d 2).getLsbD 5 then 8 else 4
/-- The RAMO returns a value. -/
def Cmd.aret (m : Cmd) : Bool := decide (m.aop < 16)
/-- The chip of a pointer or handle (R34). -/
def chipOfPtr (v : Word) : Nat := bits v 63 42
/-- The offsets of the doublewords from k to 7 that are not zero. -/
def Cmd.tailBad (m : Cmd) (k : Nat) : List Nat :=
  ((List.range (8 - k)).filter fun j => m.d (k + j) != 0).map fun j => 8 * (k + j)
/-- A signal handle with reserved bits or a bay that does not exist (R34). -/
def badHandle (v : Word) : Bool := bits v 20 0 != 0 || decide (1536 ≤ bits v 41 31)
/-- The bad doublewords of a descriptor (R366), at their byte offsets. -/
def Cmd.fabBad (m : Cmd) (s : State) (groups : Nat) : List Nat :=
  let bad := fun (b : Bool) (o : Nat) => if b then [o] else []
  let chip := fun (k : Nat) => !s.chipOk (chipOfPtr (m.d k))
  let sigZero := bad (!m.sigen && m.d 3 != 0) 0x10
  match m.op with
  | .rput .. =>
    bad (chip 0) 0 ++ bad ((m.d 2 &&& 0xFFFFFFFFF2000000#64) != 0) 0x10 ++ sigZero
      ++ bad (m.sigen && (badHandle (m.d 3) || chip 3)) 0x10 ++ bad (m.plc && m.sigen) 0x10 ++ m.tailBad 4
  | .rget .. =>
    bad (chip 0) 0 ++ bad ((m.d 2 &&& 0xFFFFFFFFFE000000#64) != 0) 0x10 ++ m.tailBad 3
  | .ramo .. =>
    let listed := decide (m.aop < 10) || (decide (16 ≤ m.aop) && decide (m.aop < 24))
    bad (chip 0) 0 ++ bad ((m.d 0).toNat % m.asz != 0) 0
      ++ bad (listed && m.aret && (m.d 1 == 0 || (m.d 1).toNat % 8 != 0)) 8 ++ bad (listed && !m.aret && m.d 1 != 0) 8
      ++ bad ((m.d 2 &&& 0xFFFFFFFFFBFFFFC0#64) != 0 || !listed || (listed && m.aret && m.plc)) 0x10
      ++ bad (m.d 3 != 0) 0x18 ++ bad (m.aop != 9 && m.d 5 != 0) 0x10 ++ m.tailBad 6
  | .rspawn .. =>
    bad (chip 0 || bits (m.d 0) 30 0 != 0 || decide (1536 ≤ bits (m.d 0) 41 31)) 0 ++ bad (bits (m.d 1) 1 0 != 0) 8
      ++ bad (bits (m.d 2) 63 3 != 0) 0x10 ++ m.tailBad 4
  | .crd .. =>
    bad (chip 0) 0 ++ bad (chip 1) 8 ++ bad ((m.d 2 &&& 0xFFFFFFFFF7000000#64) != 0) 0x10 ++ sigZero
      ++ bad (m.sigen && (badHandle (m.d 3) || chip 3)) 0x10
      ++ bad (m.sigen && chipOfPtr (m.d 3) != chipOfPtr (m.d 1)) 8 ++ m.tailBad 4
  | .crdg .. =>
    bad (chip 0) 0 ++ bad (bits (m.d 1) 63 42 != 0) 8 ++ bad ((m.d 2 &&& 0xFFFFFFFFF7000000#64) != 0) 0x10 ++ sigZero
      ++ bad (m.sigen && (badHandle (m.d 3) || chipOfPtr (m.d 3) != 0)) 0x10
      ++ bad (bits (m.d 4) 63 12 != 0 || decide (groups ≤ bits (m.d 4) 11 0)) 0x20 ++ m.tailBad 5
  | _ => []

/-! ### The local side (R366, R367) -/

/-- A byte of the local side, which must be reached from this package (R366). -/
def State.sideByte (s : State) (b asid : Nat) (lk : Bool) (a : Word) : Except Cause Byte × State :=
  match (if lk then s.globalByte b asid a else s.readByte asid (spadKey asid b a.toNat)) with
  | (.ok (.here v), t) => (.ok v, t)
  | (.ok (.away _ _), t) => (.error .domain, t)
  | (.error c, t) => (.error c, t)
/-- n bytes of the local side, or the fault with its address (R366). -/
def State.sideRead (s : State) (b asid : Nat) (lk : Bool) (a : Word) : Nat → Except (Cause × Word) (List Byte) × State
  | 0 => (.ok [], s)
  | n + 1 =>
    match s.sideByte b asid lk a with
    | (.error c, t) => (.error (c, a), t)
    | (.ok v, t) =>
      match State.sideRead t b asid lk (a + 1) n with
      | (.ok l, t') => (.ok (v :: l), t')
      | r => r
/-- Writes bytes on the local side in aligned 8-byte units (R157, R367), or the fault with its address. -/
def State.sideWrite (s : State) (b asid : Nat) (lk : Bool) : Nat → Word → List Byte → Option (Cause × Word) × State
  | 0, _, _ => (none, s)
  | n + 1, a, d =>
    if d.isEmpty then (none, s)
    else
      let k := 8 - a.toNat % 8
      let x := d.take k
      let next := fun (t : State) => State.sideWrite t b asid lk n (a + toW k) (d.drop k)
      if !lk then next (s.write (spadKey asid b a.toNat) x)
      else if !globalForm a then (some (.gaddr, a), s)
      else if isAperture a then
        match s.aperture asid a x.length with
        | .ok key =>
          match s.putSaved (apBay a) asid (apOff a) key x with
          | (t, true) => next t
          | (t, false) => (some (.memerr, a), t)
        | .error c => (some (c, a), s)
      else
        match s.translateAt (homeStation b) asid a .write with
        | (.ok (.phys pa), t) =>
          match physKey pa with
          | some key => next ((t.write key x).tallyKey key .writes)
          | none => (some (.xlate, a), t)
        | (.ok (.remote _ _), t) => (some (.domain, a), t)
        | (.error c, t) => (some (c, a), t)

/-! ### Completion (R371) -/

/-- A command that has begun, by its sequence number. -/
def State.fabAct (s : State) (b asid : Nat) (q : BitVec 32) : Option FabAct :=
  ((s.keyOf b asid).bind fun i => s.bctx b i).bind fun c => c.facts.find? fun a => a.cmd.seq == q
/-- Removes a command that has begun. -/
def State.dropAct (s : State) (b asid : Nat) (q : BitVec 32) : State :=
  match s.keyOf b asid with
  | some i => s.modC b i fun c => { c with facts := c.facts.filter fun a => a.cmd.seq != q }
  | none => s
/-- The command completes on departure (R371). -/
def Cmd.onDeparture (m : Cmd) : Bool :=
  match m.op with
  | .rput .. => !m.plc
  | .rputi .. => true
  | .rsig .. => true
  | .ramo .. => !m.aret && !m.plc
  | _ => false
/-- The command completes on acknowledgement (R371). -/
def Cmd.onAck (m : Cmd) : Bool :=
  match m.op with
  | .rput .. => m.plc
  | .ramo .. => !m.aret && m.plc
  | .rspawn .. => true
  | _ => false
/-- The command still has a packet to make (R367, R384). -/
def FabAct.more (a : FabAct) : Bool := !a.past && !a.toCome.isEmpty
/-- The moment of R371 has come, for the commands that no response completes. -/
def FabAct.ready (a : FabAct) : Bool :=
  !a.past && !a.more && a.unsent == 0 &&
    ((a.cmd.onDeparture && a.sent.isEmpty) || (a.cmd.onAck && a.unacked == 0))
/-- A begun command that is over: what R381 would report of unacknowledged packets is kept. -/
def State.fabOver (s : State) (b asid : Nat) (q : BitVec 32) (unacked : Nat) : State :=
  if unacked = 0 then s.dropAct b asid q else s.modAct b asid q fun x =>
    { x with past := true, next := x.cmd.pieces, sig := none }
/-- A fabric command completes (R21, R371); an RSPAWN no longer counts as live (R370). -/
def State.fabDone (s : State) (b asid : Nat) (a : FabAct) : State :=
  let s1 := s.completeCmd b asid 3 a.cmd 1
  (match a.cmd.op with | .rspawn .. => s1.subLive asid 1 | _ => s1).fabOver b asid a.cmd.seq a.unacked
/-- Looks whether a command is complete, or no longer needed (R371). -/
def State.fabCheck (s : State) (b asid : Nat) (q : BitVec 32) : State :=
  match s.fabAct b asid q with
  | some a =>
    if a.ready then s.fabDone b asid a
    else if a.past && a.unacked == 0 then s.dropAct b asid q
    else s
  | none => s
/-- A fabric command ends in an engine fault (R24, R366). -/
def State.fabFail (s : State) (b asid : Nat) (m : Cmd) (c : Cause) (v : Word) : State :=
  let s1 := match m.op with | .rspawn .. => s.subLive asid 1 | _ => s
  let n := match s.fabAct b asid m.seq with | some a => a.unacked | none => 0
  (s1.failCmd b asid 3 m c v 0 1).fabOver b asid m.seq n

/-! ### Sending (R342, R366 to R372) -/

/-- A packet of a command goes out on its stream (R352). -/
def State.cmdSend (s : State) (b asid : Nat) (m : Cmd) (chip : Nat) (lines : List Nat) (p : Packet) : State :=
  (s.modAct b asid m.seq fun a => { a with unsent := a.unsent + 1, unacked := a.unacked + 1 }).sendSeq chip
    (s.toSend (.cmd b asid m.seq) m.uid lines p)
/-- The release flag of a command; RSPAWN always releases (R370, R372). -/
def Cmd.releases (m : Cmd) : Bool := hasRel m.ord || (match m.op with | .rspawn .. => true | _ => false)
/-- RCNT toward each chip that a command writes to, as it stands when the command begins (R372 items 2 and 3). -/
def State.beginCnts (s : State) (m : Cmd) : Tab Nat :=
  if m.releases then m.chips.foldl (fun t c => tset t c (2 ^ 31 + (s.sender c).wsent.toNat)) [] else []
/-- RCNT of a command's next packet toward a chip. -/
def FabAct.rcnt (a : FabAct) (chip : Nat) : Nat := tget 0 a.cnts chip
/-- RCNT of a release packet behind every write that is sent or waits on a stream (R367). -/
def State.lastRcnt (s : State) (chip : Nat) : Nat :=
  let e := s.sender chip
  2 ^ 31 + (e.wsent.toNat + (e.waiting.filter Sent.write).length) % 2 ^ 31
/-- Length of the piece at a target offset (R367). -/
def pieceAt (p : Word) (left : Nat) : Nat := min left (512 - p.toNat % 512)
/-- How far the next packet of a command brings it: the bytes of its piece, or its one packet. -/
def FabAct.step (a : FabAct) : Nat :=
  match a.cmd.op with
  | .rput .. => pieceAt (a.cmd.d 0 + toW a.next) (a.cmd.flen - a.next)
  | .rget .. => pieceAt (a.cmd.d 0 + toW a.next) (a.cmd.flen - a.next)
  | _ => 1
/-- The consignment tag (R362). -/
def State.consTag (s : State) (b : Nat) (q : BitVec 32) : Word :=
  toW (s.chip.toNat * 2 ^ 42 + b * 2 ^ 31 + q.toNat % 2 ^ 31)
/-- The CRQ of a consignment (R362, R375, R377). -/
def State.crqPkt (s : State) (b asid : Nat) (a : FabAct) (group : Bool) : Packet :=
  let m := a.cmd
  let chip := chipOfPtr (m.d 0)
  let o1 := bits (m.d 2) 23 0 + (if group then 2 ^ 24 + bits (m.d 4) 11 0 * 2 ^ 36 else 0) + (if m.sigen then 2 ^ 25 else 0)
  s.packet chip 0x10 (s.whoOf asid) (a.rcnt chip) (m.d 0) (m.d 1) (toW o1) (m.d 3) (leBytes 64 (s.consTag b m.seq).toNat)
/-- A new token of this package (R362). -/
def State.newTok (s : State) (t : Tok) : State × Nat :=
  let tok := s.nextId % 2 ^ 24
  ({ s with toks := tset s.toks tok (.init t), nextId := s.nextId + 1 }, tok)
/-- The packet of a RAMO (R362, R369). -/
def State.amoPkt (s : State) (asid : Nat) (a : FabAct) (tok : Nat) : Packet :=
  let m := a.cmd
  let chip := chipOfPtr (m.d 0)
  let o0 := m.aop * 2 ^ 32 + (if m.asz = 8 then 2 ^ 37 else 0) + (if m.aret then tok * 2 ^ 40 else 0)
  s.packet chip 6 (s.whoOf asid) (a.rcnt chip) (m.d 0) (toW o0) (m.d 4) (m.d 5) []
/-- The next packet of a command, with the target lines it touches (R367 to R370, R375, R377); or the fault of its local
side (R366). -/
def State.makePkt (s : State) (b asid : Nat) (a : FabAct) : Except (Cause × Word) (Nat × List Nat × Packet) × State :=
  let m := a.cmd
  let chip := m.chip
  let w := s.whoOf asid
  if m.pieces ≤ a.next then
    let h := a.sig.getD 0
    (.ok (chipOfPtr h, [], s.packet (chipOfPtr h) 5 w (a.rcnt (chipOfPtr h)) h 1 0 0 []), s)
  else
    match m.op with
    | .rput .. =>
      let r := m.d 0 + toW a.next
      let n := a.step
      match s.sideRead b asid m.lk (m.d 1 + toW a.next) n with
      | (.error e, t) => (.error e, t)
      | (.ok d, t) => (.ok (chip, linesOf r n, t.packet chip 1 w (a.rcnt chip) r (toW ((n - 1) * 2 ^ 32)) 0 0 d), t)
    | .rget .. =>
      let r := m.d 0 + toW a.next
      let n := a.step
      let (t, tok) := s.newTok (.piece b asid m.seq a.next n)
      (.ok (chip, linesOf r n, t.packet chip 3 w (a.rcnt chip) r (toW ((n - 1) * 2 ^ 32)) (toW tok) 0 []), t)
    | .rputi .. => (.ok (chip, linesOf m.x 8, s.packet chip 2 w (a.rcnt chip) m.x 0 m.y 0 []), s)
    | .rsig .. => (.ok (chip, [], s.packet chip 5 w (a.rcnt chip) m.x m.y 0 0 []), s)
    | .ramo .. =>
      let (t, tok) := if m.aret then s.newTok (.ramo b asid m.seq) else (s, 0)
      (.ok (chip, linesOf (m.d 0) m.asz, t.amoPkt asid a tok), t)
    | .rspawn .. =>
      (.ok (chip, [], s.packet chip 8 w (a.rcnt chip) (m.d 0) (m.d 1) (m.d 3)
        (toW (bits (m.d 2) 2 0 + m.seq.toNat * 2 ^ 32)) []), s)
    | .crdg .. => (.ok (chip, [], s.crqPkt b asid a true), s)
    | _ => (.ok (chip, [], s.crqPkt b asid a false), s)
/-- The signal of an RPUT to another chip than its PUTs' waits until these are acknowledged (R367). -/
def FabAct.held (a : FabAct) : Bool :=
  decide (a.cmd.pieces ≤ a.next) && chipOfPtr (a.sig.getD 0) != a.cmd.chip && (a.unacked != 0 || a.unsent != 0)
/-- What the command has made once its staged packet goes out: after the last PUT, the signal on the same stream counts
every write before it (R367). -/
def FabAct.sentOne (a : FabAct) (last : Nat) : FabAct :=
  if a.cmd.pieces ≤ a.next then { a with sig := none }
  else
    { a with next := a.next + a.step,
             cnts := (match a.cmd.op, a.sig with
               | .rput .., some h =>
                 if a.next + a.step = a.cmd.flen ∧ chipOfPtr h = a.cmd.chip then tset a.cnts a.cmd.chip last else a.cnts
               | _, _ => a.cnts) }
/-- A staged packet whose flits are all present goes to the mesh (R342). -/
def State.stageSend (s : State) (b i asid : Nat) (a : FabAct) (g : Staged) : State :=
  let t := (s.modC b i fun c => { c with stage := none }).cmdSend b asid a.cmd g.chip g.lines g.pkt
  t.modAct b asid a.cmd.seq fun x => x.sentOne (t.lastRcnt g.chip)
/-- One flit more of a command's packet stands in the bay's staging buffer, or the packet, whole, leaves it; only while
the context is active (R342, R384).  One command at a time builds a packet there (log entry 68). -/
def State.fabStage (s : State) (b i q : Nat) : State :=
  match s.bctx b i with
  | none => s
  | some c =>
    match c.facts.find? fun a => a.cmd.seq.toNat == q with
    | none => s
    | some a =>
      if !s.activeAt b i then s.post s.lane s.ev
      else
        match c.stage with
        | some g =>
          if g.seq ≠ a.cmd.seq then s.post s.lane s.ev
          else if g.flits < g.pkt.len + 1 then
            (s.modC b i fun y => { y with stage := some { g with flits := g.flits + 1 } }).post s.lane s.ev
          else ((s.stageSend b i c.asid a g).post s.lane s.ev).fabCheck b c.asid a.cmd.seq
        | none =>
          if !a.more then s
          else if a.held then s.post s.lane s.ev
          else
            match s.makePkt b c.asid a with
            | (.error (k, v), t) => t.fabFail b c.asid a.cmd k v
            | (.ok (chip, lines, p), t) =>
              (t.modC b i fun y => { y with
                stage := some { seq := a.cmd.seq, chip := chip, lines := lines, pkt := p, flits := 0 } }).post s.lane s.ev
/-- The quota failure of the local side at begin (R366). -/
def Cmd.localOver (m : Cmd) (quota : Nat) : Option Word :=
  match m.op with
  | .rput .. => if m.lk then none else rowOver quota (m.d 1) m.flen
  | .rget .. => if m.lk then none else rowOver quota (m.d 1) m.flen
  | .ramo .. => if m.aret then rowOver quota (m.d 1) 8 else none
  | _ => none
/-- A fabric command that begins (R364, R367, R372): nothing of it is sent yet. -/
def FabAct.start (m : Cmd) (cnts : Tab Nat) : FabAct :=
  { cmd := m, unsent := 0, unacked := 0, left := (match m.op with | .rget .. => m.flen | _ => 0),
    sig := (match m.op with | .rput .. => if m.sigen then some (m.d 3) else none | _ => none),
    sent := [], past := false, next := 0, cnts := cnts, seqs := [] }
/-- The begun commands of a bay that are not over: those of its resident contexts (R364), or of every context of it. -/
def Bay.facts (x : Bay) (all : Bool) : List FabAct :=
  (x.ctxs.filter fun q => all || decide (q.1 < 4)).flatMap fun q => q.2.facts.filter fun a => !a.past
/-- The command may begin (R362, R364, R372): fewer than eight are active on the bay, its acquire and release conditions
hold, and no active consignment of the bay has its tag.  The acquire flag holds no CRD or CRDG (R378). -/
def State.fabMay (s : State) (b : Nat) (m : Cmd) : Bool :=
  let cons := fun (m : Cmd) => match m.op with | .crd .. => true | .crdg .. => true | _ => false
  let same := ((s.bay b).facts true).any fun a => cons a.cmd && a.cmd.seq.toNat % 2 ^ 31 == m.seq.toNat % 2 ^ 31
  decide (((s.bay b).facts false).length < 8) && !(hasAcq m.ord && !cons m && !s.settled m)
    && !(m.releases && (!s.settled m || s.unsent m.uid m.issued)) && !(cons m && same)
/-- FABRIC_COMMAND_BEGIN: the endpoint begins a bay's next command and checks its descriptor and its local side (R364,
R366); its packets are staged from then on (R342, R384). -/
def execFabricCommandBegin (s : State) : Out :=
  match s.ev with
  | .fabricCommandBegin b i =>
    match s.bctx b i with
    | none => .next s
    | some c =>
      if !s.activeAt b i || !(c.fport.ents.head?.all (s.fabMay b)) then .next (s.post s.lane s.ev)
      else
        match s.takeCmd b i 3 with
        | none => .next s
        | some (m, t) =>
          let groups := match s.ctx c.asid with | some x => x.groups.length | none => 0
          match lowest (m.fabBad s groups) with
          | some o => .next (t.fabFail b c.asid m .desc (toW o))
          | none =>
            match m.localOver c.quota.scratch with
            | some a => .next (t.fabFail b c.asid m .quota a)
            | none =>
              .next ((t.modC b i fun y => { y with facts := y.facts ++ [FabAct.start m (t.beginCnts m)] }).postFree
                (.fabricPiece b i m.seq.toNat))
  | .fabricPiece b i q => .next (s.fabStage b i q)
  | _ => .next s

end Sys2Proof.Machine
end

