-- ==== Sys2Proof/Machine/Tree.lean ====
section
/-!
DEFINITION. Directions and escape routes (spec/11_fabric.md R338), and the spanning trees of groups that follow them (R343),
with the packages that are lost from them left out (R349, spec/12_fabric_engine.md R377).
-/
namespace Sys2Proof.Machine

/-- A list without repeats. -/
def dedup : List Nat → List Nat
  | [] => []
  | x :: r => if r.contains x then dedup r else x :: dedup r
/-- The minimal direction of a ring offset: none, + (true) or − (R338). -/
def ringDir (n x y : Nat) : Option Bool :=
  let d := (y + n - x % n) % n
  if d = 0 then none else some (decide (2 * d ≤ n))
/-- The direction of a line offset. -/
def lineDir (x y : Nat) : Option Bool := if y = x then none else some (decide (x < y))
/-- The chip one hop on from a chip on the escape route to another: dimension order A, B, C, D (R338). -/
def State.escapeHop (s : State) (x dst : Nat) : Nat :=
  let (a, b, c, d) := chipPos x
  let (a', b', c', d') := chipPos dst
  match ringDir s.dims.1 a a', ringDir s.dims.2.1 b b', lineDir c c', lineDir d d' with
  | some up, _, _, _ => chipOf (if up then (a + 1) % s.dims.1 else (a + s.dims.1 - 1) % s.dims.1) b c d
  | none, some up, _, _ => chipOf a (if up then (b + 1) % s.dims.2.1 else (b + s.dims.2.1 - 1) % s.dims.2.1) c d
  | none, none, some up, _ => chipOf a b (if up then c + 1 else c - 1) d
  | none, none, none, some up => chipOf a b c (if up then d + 1 else d - 1)
  | none, none, none, none => x
/-- The port of a dimension and direction (R331). -/
def portFor (dim : Nat) (up : Bool) : Nat := (if dim = 0 then 0 else if dim = 1 then 4 else if dim = 2 then 2 else 6)
    + (if up then 0 else 1)
/-- The port at the other end of a link: the opposite direction of the same dimension (R331). -/
def otherEnd (k : Nat) : Nat := if k % 2 = 0 then k + 1 else k - 1
/-- The minimal ports of a chip toward another: those of A and B while they have an offset, then C, then D (R338). -/
def State.portsFrom (s : State) (x dst : Nat) : List Nat :=
  let (a, b, c, d) := chipPos x
  let (a', b', c', d') := chipPos dst
  let one := fun (dim : Nat) (y : Option Bool) => match y with | some u => [portFor dim u] | none => []
  let ab := one 0 (ringDir s.dims.1 a a') ++ one 1 (ringDir s.dims.2.1 b b')
  if !ab.isEmpty then ab
  else if c ≠ c' then one 2 (lineDir c c')
  else one 3 (lineDir d d')
/-- The child ports and the parent port of a tree at this package, each under the chip at its other end (R343): an edge is the hop of
the escape route from the parent, and so the same link at both ends.  An edge over a lost package is no hop, and has no port. -/
def State.edgePorts (s : State) (parent : Option Nat) (children : List Nat) : Tab Nat :=
  let me := s.chip.toNat
  let hop := fun (x y : Nat) => if x ≠ y ∧ s.escapeHop x y = y then (s.portsFrom x y).head? else none
  let down := children.filterMap fun c => (hop me c).map fun k => (c, k)
  match parent with
  | some p => (match hop p me with | some k => tset down p (otherEnd k) | none => down)
  | none => down
/-- The escape route from a chip to another, both included, of at most n hops. -/
def State.escapePath (s : State) (dst : Nat) : Nat → Nat → List Nat
  | 0, x => [x]
  | n + 1, x => if x = dst then [x] else x :: State.escapePath s dst n (s.escapeHop x dst)
/-- The chip before and the chip after one on a path. -/
def onPath (c : Nat) (before : Option Nat) : List Nat → Option (Option Nat × Option Nat)
  | [] => none
  | x :: r => if x = c then some (before, r.head?) else onPath c (some x) r
/-- The chips of a group's box. -/
def State.boxChips (s : State) (x : Box) : List Nat :=
  (List.range (min x.a.2 s.dims.1)).flatMap fun a => (List.range (min x.b.2 s.dims.2.1)).flatMap fun b =>
    (List.range x.c.2).flatMap fun c => (List.range x.d.2).map fun d =>
      chipOf ((x.a.1 + a) % s.dims.1) ((x.b.1 + b) % s.dims.2.1) (x.c.1 + c) (x.d.1 + d)
/-- The root of a tree: the member with the lowest chip ID (R343). -/
def lowestOf : List Nat → Nat
  | [] => 0
  | m :: r => r.foldl min m
/-- The way from the root to a chip in a tree: the escape route without the packages that are lost (R343, R377; log entry
77). -/
def State.treePath (s : State) (lost : List Nat) (root c : Nat) : List Nat :=
  (s.escapePath c 1100 root).filter fun y => !lost.contains y
/-- The packages that a tree over members passes through (R343). -/
def State.treeOver (s : State) (lost members : List Nat) : List Nat :=
  dedup (members.flatMap (s.treePath lost (lowestOf members)))
/-- The packages that a group's tree passes through (R343). -/
def State.treeChips (s : State) (x : Box) : List Nat := s.treeOver [] (s.boxChips x)
/-- The lost members that this package's entry answers for: those to which no package of the tree comes nearer on the way from the
root (R377; log entry 77). -/
def State.answersFor (s : State) (lost tree members : List Nat) (x : Box) : List Nat :=
  (s.boxChips x).filter fun z => lost.contains z &&
    ((s.escapePath z 1100 (lowestOf members)).filter tree.contains).getLast? == some s.chip.toNat
/-- A package's entry of a group over a box, with some packages lost: parent, children, expected count and ports in the spanning
tree (R343, R377); what the entry holds else stays. -/
def State.groupEntry (s : State) (x : Box) (lost : List Nat) (old : Group) : Option Group :=
  let members := (s.boxChips x).filter fun c => !lost.contains c
  let me := s.chip.toNat
  match members.filterMap fun c => onPath me none (s.treePath lost (lowestOf members) c) with
  | [] => none
  | (parent, after) :: hits =>
    let children := dedup (after.toList ++ hits.filterMap Prod.snd)
    let member := members.contains me
    some { old with
      box := x
      lost := lost
      expect := children.length + (if member then 1 else 0)
      parent := parent
      children := children
      member := member
      edges := s.edgePorts parent children
      dead := if lost.isEmpty then [] else s.answersFor lost (s.treeOver lost members) members x }

end Sys2Proof.Machine
end

