-- ==== Sys2Proof/Machine/Windows.lean ====
section
/-!
DEFINITION. Windows (spec/12_fabric_engine.md R358 to R361): the checks of a request at its owner, and the bytes that it
reads and writes there.
-/
namespace Sys2Proof.Machine

/-- The rights of a window (R358). -/
inductive Right where
  | read | write | atomic | consign | signal
  deriving DecidableEq, Repr
/-- The bit of a right in RIGHTS (R358). -/
def Right.bit : Right → Nat
  | .read => 0 | .write => 1 | .atomic => 2 | .consign => 3 | .signal => 4
/-- What an access with a right needs of a page (R136). -/
def Right.need : Right → Need
  | .read => .read
  | .atomic => .atomic
  | .write => .write
  | .consign => .write
  | .signal => .write
/-- A window entry. -/
def State.window (s : State) (w : Nat) : Win := tget .init s.windows w
/-- A run of bytes behind a window: its key, length, owner, its bay for a scratchpad, and the address that cisterns
match (R391). -/
structure Chunk where
  key : Nat
  n : Nat
  owner : Nat
  bay : Option Nat
  va : Nat
  deriving DecidableEq, Repr
/-- The checks of R359 that need no byte: the window in which the request begins and the position in its span, or the
reason. -/
def State.winHead (s : State) (w : Who) (x : Right) (o n : Nat) : Except Nat (Win × Nat) :=
  let k := o / 2 ^ 30 % 4096
  let e := s.window k
  if e.kind = 0 ∨ e.kind = 3 ∨ s.ctx e.owner = none then .error 1
  else if e.job ≠ 0 ∧ e.job ≠ w.job then .error 2
  else if e.rights.getLsbD x.bit = false then .error 3
  else
    let p := (k - e.spanf) * 2 ^ 30 + o % 2 ^ 30
    if (e.spann - 1) * 2 ^ 30 + (s.window (e.spanf + e.spann - 1)).len < p + n then .error 4 else .ok (e, p)
/-- The eave station that translates for windows of a context: the home station of its partition's first bay (log
entry 18). -/
def State.winStation (s : State) (asid : Nat) : Nat :=
  match s.ctx asid with | some c => homeStation (rectBay c.rect 0) | none => 0
/-- The bytes at one span position, at most n, within one window and 4 KiB (R359, R361). -/
def State.winChunk (s : State) (e : Win) (need : Need) (q n : Nat) : Except Nat Chunk × State :=
  let f := s.window (e.spanf + q / 2 ^ 30)
  if e.kind = 1 then
    let a := f.base.toNat + q % 2 ^ 30
    let m := min (min n (2 ^ 30 - q % 2 ^ 30)) (4096 - a % 4096)
    match s.translateAt (s.winStation e.owner) e.owner (toW a) need with
    | (.ok (.phys pa), t) =>
      match physKey pa with
      | some key => (.ok { key := key, n := m, owner := e.owner, bay := none, va := a }, t)
      | none => (.error 5, t)
    | (.ok (.remote _ _), t) => (.error 6, t)
    | (.error .perm, t) => (.error 6, t)
    | (.error .memerr, t) => (.error 7, t)
    | (.error _, t) => (.error 5, t)
  else
    let b := f.base.toNat / 2 ^ 21 % 2 ^ 11
    let off := f.base.toNat % 2 ^ 21 + q % 2 ^ 30
    match (s.keyOf b e.owner).bind fun i => s.bctx b i with
    | some c =>
      if !s.usable e.owner b then (.error 8, s)
      else if c.quota.scratch ≤ off then (.error 4, s)
      else (.ok { key := spadKey e.owner b off, n := min n (c.quota.scratch - off), owner := e.owner, bay := some b,
                  va := off }, s)
    | none => (.error 8, s)
/-- All the bytes of a request, or the reason and how far from its first byte it arose (R359). -/
def State.winChunks (s : State) (e : Win) (need : Need) : Nat → Nat → Nat → Nat → Except (Nat × Nat) (List Chunk) × State
  | 0, _, _, _ => (.ok [], s)
  | k + 1, q, at_, n =>
    if n = 0 then (.ok [], s)
    else
      match s.winChunk e need q n with
      | (.error r, t) => (.error (r, at_), t)
      | (.ok c, t) =>
        match State.winChunks t e need k (q + c.n) (at_ + c.n) (n - c.n) with
        | (.ok l, t') => (.ok (c :: l), t')
        | r => r
/-- The pages of saved images that runs of bytes touch verify (R425); otherwise how far from the first byte one does not,
and the saved context ends. -/
def State.pagesOk (s : State) (at_ : Nat) : List Chunk → Option Nat × State
  | [] => (none, s)
  | c :: r =>
    match c.bay with
    | none => State.pagesOk s (at_ + c.n) r
    | some b =>
      match s.mayRead b c.owner c.va c.n with
      | (t, true) => State.pagesOk t (at_ + c.n) r
      | (t, false) => (some at_, t)
/-- The check of a request for n bytes at a remote pointer (R359, R425): its bytes, or the reason with the offending
pointer. -/
def State.winAdmission (s : State) (w : Who) (x : Right) (a : Word) (n : Nat) : Except (Nat × Word) (List Chunk) × State :=
  match s.winHead w x (a.toNat % 2 ^ 42) n with
  | .error r => (.error (r, a), s)
  | .ok (e, p) =>
    match s.winChunks e x.need (n / 2048 + 4) p 0 n with
    | (.error (r, d), t) => (.error (r, a + toW d), t)
    | (.ok l, t) =>
      match t.pagesOk 0 l with
      | (some d, t') => (.error (7, a + toW d), t')
      | (none, t') => (.ok l, t')
/-- The station of a run's bytes, of a saved image or of HBM, counts an event (R361, R457). -/
def State.tallyChunk (s : State) (c : Chunk) (k : Tally) : State :=
  match c.bay with | some b => s.tallySaved b c.owner c.va c.n k | none => s.tallyKey c.key k
/-- The bytes read, or the offset of the first uncorrectable error (R151, R359 MEMERR), which is recorded (R459). -/
def State.readChunks (s : State) (at_ : Nat) : List Chunk → Except Nat (List Byte) × State
  | [] => (.ok [], s)
  | c :: r =>
    match s.bad c.key c.n with
    | some o => (.error (at_ + o), s.memError c.key c.owner)
    | none =>
      match State.readChunks (s.tallyKey c.key .reads) (at_ + c.n) r with
      | (.ok l, t) => (.ok (s.read c.key c.n ++ l), t)
      | e => e
/-- A counted write is matched at its bay, or at the die of the station that performs it (R390, R391); companion pages
count nothing. -/
def State.countChunk (s : State) (c : Chunk) : State :=
  match c.bay with
  | some b => s.countLocal c.owner b c.va c.n
  | none => if c.key < 2 ^ 50 then s.countDie c.owner (stationOf c.key / 4) c.va c.n else s
/-- A change behind a window is placed (R356), in a saved image with the tags of its pages (R425), and counted where the agent
is one that R390 lists. -/
def State.placeChunk (s t : State) (count : Bool) (c : Chunk) : State :=
  let count := fun (u : State) => if count then u.countChunk c else u
  match c.bay with
  | some b =>
    match s.viaPages t b c.owner (pagesOf c.va c.n) with
    | (u, true) => count u
    | (u, false) => u
  | none => count t
/-- The bytes of runs are placed. -/
def State.writeChunks (s : State) (count : Bool) : List Chunk → List Byte → State
  | [], _ => s
  | c :: r, d =>
    State.writeChunks (s.placeChunk ((s.write c.key (d.take c.n)).tallyKey c.key .writes) count c) count r (d.drop c.n)
/-- R360 item 1: some window of the requester's own context admits a signal. -/
def State.admitSignal (s : State) (w : Who) : Option Nat :=
  let own := s.windows.filter fun x => x.2.owner == w.asid && (x.2.kind == 1 || x.2.kind == 2)
  let job := own.filter fun x => x.2.job == 0 || x.2.job == w.job
  if s.ctx w.asid = none ∨ own.isEmpty = true then some 1
  else if job.isEmpty then some 2
  else if job.any fun x => x.2.rights.getLsbD Right.signal.bit then none
  else some 3
/-- R360 for a bay, and for a semaphore where the request signals: the reason of a refusal, or none. -/
def State.admitBay (s : State) (w : Who) (b : Nat) (sem : Option Nat) : Option Nat :=
  match s.admitSignal w with
  | some r => some r
  | none =>
    match (s.keyOf b w.asid).bind fun i => s.bctx b i with
    | some c =>
      if !s.usable w.asid b then some 8
      else
        match sem with
        | some n => if c.quota.sems ≤ n then some 8 else none
        | none => none
    | none => some 8

end Sys2Proof.Machine
end

