-- ==== Sys2Proof/Machine/Serve.lean ====
section
/-!
DEFINITION. What a target does for the requests of class 0 (spec/12_fabric_engine.md R356, R359 to R362, R367 to R370,
R375 to R378) and the group acknowledgements (spec/11_fabric.md R345).
-/
namespace Sys2Proof.Machine

/-- What performing a packet comes to: an acknowledgement, a refusal with its reason and address, or a wait. -/
inductive Perf where
  | ack (s : State)
  | refuse (s : State) (reason : Nat) (a : Word)
  | later (s : State)

/-- A sequenced answer to the chip of a request, stamped with its requester (R334, R352). -/
def State.replyAs (s : State) (own : Own) (p : Packet) (chip opc : Nat) (addr o0 o1 o2 : Word) (d : List Byte) : State :=
  s.sendSeq chip (s.toSend own 0 [] (s.packet chip opc (requester p) 0 addr o0 o1 o2 d))
/-- The response to a request, which is answered once its response has been sent (R356). -/
def State.reply (s : State) (p : Packet) (opc : Nat) (addr o0 o1 o2 : Word) (d : List Byte) : State :=
  s.replyAs (.resp p.src p.seq) p p.src opc addr o0 o1 o2 d

/-! ### Reads, writes, atomics (R356, R359, R361) -/

/-- A write of bytes through a window. -/
def State.servePut (s : State) (p : Packet) (count : Bool) (d : List Byte) : Perf :=
  match s.winAdmission (requester p) .write p.addr d.length with
  | (.error (r, a), t) => .refuse t r a
  | (.ok l, t) => .ack (t.writeChunks count l d)
/-- A read of bytes through a window, answered by GETR (R362). -/
def State.serveGet (s : State) (p : Packet) : Perf :=
  match s.winAdmission (requester p) .read p.addr p.count with
  | (.error (r, a), t) => .refuse t r a
  | (.ok l, t) =>
    match t.readChunks 0 l with
    | (.error o, t') => .refuse t' 7 (p.addr + toW o)
    | (.ok d, t') => .ack (t'.reply p 4 p.o1 (toW ((p.count - 1) * 2 ^ 32)) p.o1 0 d)
/-- The operation of a number of R141. -/
def atOfCode : Nat → AtFn
  | 0 => .add | 1 => .and | 2 => .or | 3 => .xor | 4 => .min | 5 => .max | 6 => .minu | 7 => .maxu | 8 => .swap
  | _ => .cas
/-- An atomic through a window, in the owner's atomic unit (R142, R369), answered by AMOR where it returns a value; one
that does not is counted (R390). -/
def State.serveAmo (s : State) (p : Packet) : Perf :=
  let fn := bits p.o0 36 32
  let n := if p.o0.getLsbD 37 then 8 else 4
  match s.winAdmission (requester p) .atomic p.addr n with
  | (.error (r, a), t) => .refuse t r a
  | (.ok l, t) =>
    match l with
    | [] => .ack t
    | c :: _ =>
      if (t.bad c.key n).isSome then .refuse ((t.mark c.key n).memError c.key c.owner) 7 p.addr
      else
        let (t0, old) := t.atomicAt c.key n (atOfCode (fn % 16)) p.o1 p.o2
        let t1 := t0.tallyChunk c .atomics
        if fn < 16 then .ack ((t.placeChunk t1 false c).reply p 7 0 0 (toW (bits p.o0 63 40)) old [])
        else .ack (t.placeChunk t1 true c)

/-! ### Signals and spawns (R360, R368, R370) -/

/-- A signal at a handle (R360, R195, R201, R425). -/
def State.serveSig (s : State) (p : Packet) : Perf :=
  let b := bits p.addr 41 31
  let n := bits p.addr 30 21
  match s.admitBay (requester p) b (some n) with
  | some r => .refuse s r p.addr
  | none =>
    match s.tryPost b p.asid n (bits p.o0 23 0) with
    | (t, true) => .ack t
    | (t, false) => .refuse t 7 p.addr
/-- A spawn (R360, R370): placed under R174 and R177, and answered once it is placed. -/
def State.serveSpawn (s : State) (p : Packet) : Perf :=
  let b := bits p.addr 41 31
  match s.admitBay (requester p) b none with
  | some r => .refuse s r p.addr
  | none =>
    match s.keyOf b p.asid with
    | none => .refuse s 8 p.addr
    | some i =>
      match s.place b i (.spawn { entry := p.o0, arg := p.o1, pri := BitVec.ofNat 3 (bits p.o2 2 0) }) with
      | some (t, _) => .ack t
      | none => .later s

/-! ### Consignments (R375 to R378) -/

/-- The chip of a consignment tag (R362). -/
def tagChip (tag : Word) : Nat := bits tag 63 42
/-- CDONE to the requester of a consignment (R362): bytes or members, members failed, reason, lowest failing chip. -/
def State.cdoneFor (s : State) (w : Who) (tag : Word) (ok failed reason low : Nat) : State :=
  s.sendSeq (tagChip tag) (s.toSend .report 0 []
    (s.packet (tagChip tag) 0x12 w 0 0 (toW (ok + failed * 2 ^ 25 + reason * 2 ^ 47)) tag (toW low) []))
/-- CDONE to the requester of a consignment, for a packet of it. -/
def State.sendCdone (s : State) (p : Packet) (tag : Word) (ok failed reason low : Nat) : State :=
  s.cdoneFor (requester p) tag ok failed reason low
/-- The CDATA packets of a consignment toward one consignee, cut at its aligned 512-byte boundaries (R362, R375). -/
def State.sendCdata (s : State) (p : Packet) (chip : Nat) (tag : Word) : Nat → Word → Nat → List Byte → State
  | 0, _, _, _ => s
  | k + 1, a, off, d =>
    if d.isEmpty then s
    else
      let n := pieceAt a d.length
      let sig := p.o1.getLsbD 25
      let o0 := (n - 1) * 2 ^ 32 + (if sig then 2 ^ 41 + bits p.o2 30 21 * 2 ^ 42 + bits p.o2 41 31 * 2 ^ 52 else 0)
      let o2 := off + bits p.o1 23 0 * 2 ^ 24 + (if p.o1.getLsbD 24 then bits p.o1 47 36 * 2 ^ 48 + 2 ^ 60 else 0)
      State.sendCdata (s.sendSeq chip (s.toSend (.cons tag) 0 (linesOf a n)
        (s.packet chip 0x11 (requester p) 0 a (toW o0) tag (toW o2) (d.take n)))) p chip tag k (a + toW n) (off + n) (d.drop n)
/-- The members of a group of the requester's context, as the owner knows them: from its own context where that is the
requester's, and otherwise from what management holds for it (R377; log entry 20). -/
def State.groupMembers (s : State) (p : Packet) (g : Nat) : List Nat :=
  match (s.ctx p.asid).filter fun c => s.inBox c.pkgs p.rqchip && c.job == p.job with
  | some c => ((c.groups[g]?).map s.boxChips).getD []
  | none => (Config.groupMembers p.rqchip p.asid g).filter s.chipOk
/-- The consignees of a CRQ with the pointer at each: one chip, or the members of the group (R375, R377). -/
def State.consignees (s : State) (p : Packet) : List (Nat × Word) :=
  if p.o1.getLsbD 24 then (s.groupMembers p (bits p.o1 47 36)).map fun m => (m, toW (m * 2 ^ 42) + p.o0)
  else [(chipOfPtr p.o0, p.o0)]
/-- CRQ at the owner (R375 steps 2 and 3, R377): the whole range is checked and read, and its data sent; a failure
refuses the request and tells the requester. -/
def State.serveCrq (s : State) (p : Packet) : Perf :=
  let tag := toW (leNat (p.payload.take 8))
  let n := bits p.o1 23 0 + 1
  let fail := fun (t : State) (r : Nat) (a : Word) =>
    Perf.refuse (t.sendCdone p tag 0 0 r t.chip.toNat) r a
  match s.winAdmission (requester p) .read p.addr n with
  | (.error (r, a), t) => fail t r a
  | (.ok l, t) =>
    match t.readChunks 0 l with
    | (.error o, t') => fail t' 7 (p.addr + toW o)
    | (.ok d, t') => .ack ((t'.consignees p).foldl (fun x c => x.sendCdata p c.1 tag (n / 512 + 2) c.2 0 d) t')
/-- The entry of a consignment at its consignee: owner, requester's ASID and tag (log entry 19). -/
def consKey (p : Packet) : Nat := (p.src * 2 ^ 16 + p.asid) * 2 ^ 64 + p.o1.toNat
/-- The data of a consignment. -/
def State.consOf (s : State) (p : Packet) : Cons := tget { placed := 0, seen := 0, failed := 0 } s.cons (consKey p)
/-- What a member of a group, or an entry of the tree, sends into the next entry (R345, R377; log entry 12). -/
def State.sendGack (s : State) (dst : Nat) (w : Who) (g : Nat) (tag : Word) (x : Part) (again : Bool) : Packet :=
  (s.packet dst 0x32 w 0 (toW g) (toW (x.ok + x.failed * 2 ^ 22 + x.reason * 2 ^ 44)) tag
    (toW (x.low + x.num.toNat * 2 ^ 22 + (if again then 2 ^ 38 else 0))) []).seal
/-- What a GACK carries (log entry 12). -/
def gackPart (p : Packet) : Part :=
  { num := BitVec.ofNat 16 (bits p.o2 37 22), ok := bits p.o0 21 0, failed := bits p.o0 43 22, low := bits p.o2 21 0,
    reason := bits p.o0 47 44 }
/-- The consignee's end of a consignment is reported (R375 step 5, R376, R377): CDONE, or GACK into the package's own
entry of the group. -/
def State.consReport (s : State) (p : Packet) (placed reason : Nat) : State :=
  let low := if reason = 0 then 0 else s.chip.toNat
  if p.o2.getLsbD 60 then
    s.postFree (.gack (s.sendGack s.chip.toNat (requester p) (bits p.o2 59 48) p.o1
      { num := 0, ok := if reason = 0 then 1 else 0, failed := if reason = 0 then 0 else 1, low := low, reason := reason } false))
  else s.sendCdone p p.o1 placed 0 reason low
/-- CSTOP to the owner (R362, R376). -/
def State.sendCstop (s : State) (p : Packet) (reason : Nat) : State :=
  s.control p.src 0x13 (requester p) 0 (toW reason) p.o1 0
/-- The consignee signal, once every byte is placed (R375 step 5, R360): the reason of a refusal, or 0. -/
def State.consSignal (s : State) (p : Packet) : State × Nat :=
  if !p.o0.getLsbD 41 then (s, 0)
  else
    match s.admitBay (requester p) (bits p.o0 62 52) (some (bits p.o0 51 42)) with
    | some r => (s.logEvent 1 r, r)
    | none =>
      match s.tryPost (bits p.o0 62 52) p.asid (bits p.o0 51 42) 1 with
      | (t, true) => (t, 0)
      | (t, false) => (t.logEvent 1 7, 7)
/-- CDATA at the consignee (R375 steps 4 and 5, R376; log entry 19). -/
def State.serveCdata (s : State) (p : Packet) : Perf :=
  let c := s.consOf p
  let n := p.count
  let len := bits p.o2 47 24 + 1
  let keep := fun (t : State) (x : Cons) =>
    { t with cons := if len ≤ x.seen then tdel t.cons (consKey p) else tset t.cons (consKey p) x }
  let seen := c.seen + n
  if c.failed ≠ 0 then .ack ((keep s { c with seen := seen }).sendCstop p c.failed)
  else
    match s.winAdmission (requester p) .consign p.addr n with
    | (.error (r, a), t) =>
      .refuse (((keep t { c with seen := seen, failed := r }).sendCstop p r).consReport p c.placed r) r a
    | (.ok l, t) =>
      let t1 := keep (t.writeChunks true l (p.payload.take n)) { c with seen := seen, placed := c.placed + n }
      if c.placed + n < len then .ack t1
      else
        let (t2, r) := t1.consSignal p
        .ack (t2.consReport p len r)
/-- Two results of a command's members together: counts add up, and the lowest failing chip stays (R345). -/
def Part.join (x y : Part) : Part :=
  let first := y.failed != 0 && (x.failed == 0 || decide (y.low < x.low))
  { num := x.num, ok := x.ok + y.ok, failed := x.failed + y.failed,
    low := if first then y.low else x.low, reason := if first then y.reason else x.reason }
/-- What an entry has of a command: the results of its sources, and each lost member that it answers for as one failed member
with reason 10 (R345, R377; log entry 77). -/
def Group.total (e : Group) (me : Nat) (x : Gather) : Part :=
  (((e.sources me).filterMap fun c => tfind x.parts c) ++ e.dead.map fun z => (⟨0, 0, 1, z, 10⟩ : Part)).foldl
    Part.join { num := x.num, ok := 0, failed := 0, low := 0, reason := 0 }
/-- Every acknowledgement that the entry waits for has come: its children's, and a member's own (R345). -/
def Group.complete (e : Group) (me : Nat) (x : Gather) : Bool := (e.sources me).all fun c => (tfind x.parts c).isSome
/-- The combined acknowledgement of a command goes to the parent's entry, and from the root to the requester (R345, R375). -/
def State.passUp (s : State) (e : Group) (asid g : Nat) (x : Gather) : State :=
  let w : Who := { rqchip := tagChip x.tag, job := x.job, asid := asid }
  let y := e.total s.chip.toNat x
  match e.parent with
  | some c => s.emit (s.sendGack c w g x.tag y x.again)
  | none => s.cdoneFor w x.tag y.ok y.failed y.reason y.low
/-- A command whose acknowledgements are all here is passed up, once; the entry keeps what it has passed up, so that one that
comes again counts for nothing, until another command has the same tag (R345, R349, R377; log entry 77). -/
def State.gathered (s : State) (e : Group) (asid g : Nat) (x : Gather) : State :=
  let rest := e.acks.filter fun z => z.tag != x.tag
  let keep := fun (y : Gather) => { s with groups := tset s.groups (State.groupKey asid g) { e with acks := rest ++ [y] } }
  if x.up || !e.complete s.chip.toNat x then keep x else (keep { x with up := true }).passUp e asid g x
/-- The acknowledgement is one that has come before: of a child, with the same number (R349; log entry 69). -/
def State.gackAgain (s : State) (x : Gather) (p : Packet) : Bool :=
  p.src != s.chip.toNat && ((tfind x.parts p.src).map fun y => y.num) == some (gackPart p).num
/-- GACK at this package's entry of a group (R345): the results of a command come together, and the root tells the requester (R377).
A command whose tag an earlier one had, all passed up, starts anew (R362). -/
def State.groupAck (s : State) (g : Nat) (p : Packet) : State :=
  match tfind s.groups (State.groupKey p.asid g) with
  | none => s
  | some e =>
    let fresh := s.gathered { e with acked := e.acked + 1 } p.asid g
      { tag := p.o1, job := p.job, parts := tset [] p.src (gackPart p), num := e.acked + 1, up := false, again := false }
    match e.acks.find? fun x => x.tag == p.o1 with
    | none => fresh
    | some x =>
      if s.gackAgain x p then s
      else if x.up && !p.o2.getLsbD 38 then fresh
      else s.gathered e p.asid g { x with parts := tset x.parts p.src (gackPart p) }
/-- GACK: from a child, or from the package itself (R345). -/
def execGack (s : State) : Out :=
  match s.ev with
  | .gack p => .next (s.arriving p fun s => s.groupAck p.addr.toNat p)
  | _ => .next s
/-- The key of what an owner keeps of a consignment toward one consignee: the consignee, the requester's ASID and the tag. -/
def outKey (chip asid : Nat) (tag : Word) : Nat := (chip * 2 ^ 16 + asid) * 2 ^ 64 + tag.toNat
/-- A packet is data of a consignment. -/
def Sent.isCons (x : Sent) (asid : Nat) (tag : Word) : Bool := x.own == .cons tag && x.pkt.asid == asid
/-- What the owner knows of a consignment toward one consignee changes; with no data of it left it is forgotten (R376). -/
def State.modOut (s : State) (chip asid : Nat) (tag : Word) (f : OutCons → OutCons) : State :=
  let e := s.sender chip
  let k := outKey chip asid tag
  if (e.unack.map Prod.snd ++ e.waiting).any fun x => x.isCons asid tag then
    { s with outs := tset s.outs k (f (tget { acked := 0, stopped := false } s.outs k)) }
  else { s with outs := tdel s.outs k }
/-- The consignee takes no more of a consignment: what waits of it is not sent (R376, R377). -/
def State.stopCons (s : State) (chip asid : Nat) (tag : Word) : State :=
  (s.modSender chip fun e => { e with waiting := e.waiting.filter fun x => !x.isCons asid tag }).modOut chip asid tag
    fun o => { o with stopped := true }
/-- CSTOP: the owner sends no further data of the consignment to that consignee (R376, R377). -/
def execCstop (s : State) : Out :=
  match s.ev with
  | .cstop p => .next (s.arriving p fun s => s.stopCons p.src p.asid p.o1)
  | _ => .next s

end Sys2Proof.Machine
end

