-- ==== Sys2Proof/Machine/Net.lean ====
section
/-!
DEFINITION. Packets that arrive, the answers at a requester, failed remote operations, timeouts and teardown
(spec/12_fabric_engine.md R353 to R357, R362, R367, R369, R371, R375 to R377, R379 to R383).
-/
namespace Sys2Proof.Machine

/-! ### Failed remote operations (R381) -/

/-- A REMOTE section (R432 type 3; log entry 21 for the order of its fields). -/
def remoteSection (reason chip opc : Nat) (seq addr tag handle : Word) (desc : List Word) (pc va : Word) : List Word :=
  section_ 3 3 ([toW reason, toW chip, toW opc, seq, addr, tag, handle] ++ (desc ++ List.replicate 8 0).take 8 ++ [pc, va])
/-- The number that stands for the front end's copy engine where a command names its bay (R448; log entry 32). -/
def hostBay : Nat := 2047
/-- What a REMOTE section says of whose request it was (R381 item 4): for a command its tag, the issuing fibre's handle with the
generation at issue, and the descriptor; for a remote-page access its instruction address and virtual address. -/
def State.ownFacts (s : State) : Own → Word × Word × List Word × Word × Word
  | .cmd b a q =>
    match s.fabAct b a q with
    | some x => (x.cmd.tag, s.handle x.cmd.oBay x.cmd.oSlot x.cmd.gen, x.cmd.desc, 0, 0)
    | none => (0, 0, [], 0, 0)
  | .copy b a q =>
    match (s.keyOf b a).bind fun i => s.copyAct b i q.toNat with
    | some x => (x.cmd.tag, s.handle x.cmd.oBay x.cmd.oSlot x.cmd.gen, x.cmd.desc, 0, 0)
    | none =>
      match s.front.copies.find? fun x => b == hostBay && x.2.cmd.seq == q with
      | some x => (x.2.cmd.tag, 0, x.2.cmd.desc, 0, 0)
      | none => (0, 0, [], 0, 0)
  | .acc _ _ pc va => (0, 0, [], pc, va)
  | .cons _ => (0, 0, [], 0, 0)
  | .resp _ _ => (0, 0, [], 0, 0)
  | .report => (0, 0, [], 0, 0)
  | .none => (0, 0, [], 0, 0)
/-- The REMOTE section of a request (R381 item 4). -/
def State.ownSection (s : State) (own : Own) (reason chip opc : Nat) (seq addr : Word) : List Word :=
  let (tag, handle, desc, pc, va) := s.ownFacts own
  remoteSection reason chip opc seq addr tag handle desc pc va
/-- The bay that a record names for a request: a command's, or none (R431). -/
def Own.bay : Own → Nat
  | .cmd b _ _ => b
  | .copy b _ _ => if b = hostBay then 0x7FF else b
  | _ => 0x7FF
/-- A request of a context has failed (R381): its command is marked, the context ends where this package has it, and the record
names what failed. -/
def State.remoteFail (s : State) (own : Own) (asid reason chip opc : Nat) (seq addr : Word) : State :=
  let s1 := match own with
    | .cmd b a q =>
      match s.keyOf b a with
      | some i => s.modEnt b i 3 q fun e => { e with flt := true, st := 3, rsn := reason }
      | none => s
    | _ => s
  if (s.ctx asid).isSome then s1.endCtx asid .remote own.bay (s.ownSection own reason chip opc seq addr) else s1

/-! ### Acknowledgements (R353, R371) -/

/-- The bytes that an acknowledged packet placed, as CRDQ counts them (R379): those of a returning RAMO count when its answer
comes. -/
def placedBytes (p : Packet) : Nat :=
  if p.opc = 1 then p.count
  else if p.opc = 2 then 8
  else if p.opc = 6 ∧ 16 ≤ bits p.o0 36 32 then (if p.o0.getLsbD 37 then 8 else 4)
  else 0
/-- A fabric command is told that a packet of it was acknowledged (R367, R370, R371, R379). -/
def State.cmdAcked (s : State) (b asid : Nat) (q : BitVec 32) (t : Nat) (p : Packet) : State :=
  let s1 := s.modAct b asid q fun a => { a with unacked := a.unacked - 1, sent := a.sent.filter (· != (t, p.seq.toNat)) }
  let s2 := match s1.keyOf b asid with
    | some i => s1.modEnt b i 3 q fun e => { e with okn := e.okn + placedBytes p }
    | none => s1
  s2.fabCheck b asid q
/-- An answer for a COPY packet: once every read of its segment has come, or every write is placed, it goes on (R448). -/
def State.hostCopyGot (s : State) (q : BitVec 32) (f : CopyAct → CopyAct) : State :=
  match s.front.copies.find? fun x => x.2.cmd.seq == q with
  | none => s
  | some (h, a) =>
    let a' := f a
    let s1 := { s with front := { s.front with copies := s.front.copies.map fun x => if x.2.cmd.seq = q then (h, a') else x } }
    if a'.resumes then s1.postFree (.copy h) else s1
/-- What an acknowledged packet means for whose it was. -/
def State.packetAcked (s : State) (t : Nat) (x : Sent) : State :=
  match x.own with
  | .cmd b asid q => s.cmdAcked b asid q t x.pkt
  | .cons g => s.modOut t x.pkt.asid g fun o => { o with acked := o.acked + x.pkt.count }
  | .copy b asid q =>
    if x.pkt.opc = 1 then
      if b = hostBay then s.hostCopyGot q fun a => { a with wout := a.wout - 1 } else
      match s.keyOf b asid with
      | some i =>
        let s1 := s.modCopy b i q.toNat fun a => { a with wout := a.wout - 1 }
        match s1.copyAct b i q.toNat with
        | some a => if a.resumes then s1.post (laneEng b i 2) (.copySegmentWritten b i q.toNat) else s1
        | none => s1
      | none => s
    else s
  | _ => s
/-- The packets that an answer names or that lie below its LOW leave the list (R353). -/
def State.dropSent (s : State) (t : Nat) (gone : BitVec 32 → Bool) : State × List Sent :=
  let l := (s.sender t).unack
  (s.modSender t fun e => { e with unack := l.filter fun x => !gone x.1 }, (l.filter fun x => gone x.1).map Prod.snd)
/-- What waits at the sender goes out where the list has room again (R352). -/
def State.drainOn (s : State) (t : Nat) : State :=
  let e := s.sender t
  if e.resident && !e.torn then s.drain t e.waiting else s
/-- ACK kind 0 at the sender (R353, R371). -/
def State.onAck (s : State) (p : Packet) : State :=
  let low : BitVec 32 := p.o1.setWidth 32
  let (s1, l) := s.dropSent p.src fun q => q == p.o0.setWidth 32 || decide (2 ^ 31 ≤ (q - low).toNat)
  (l.foldl (fun t x => (t.packetAcked p.src x).pulse x.pkt.asid) s1).drainOn p.src
/-- ACK_ANSWER. -/
def execAckAnswer (s : State) : Out :=
  match s.ev with
  | .ackAnswer p => .next (s.arriving p fun s => s.onAck p)
  | _ => .next s
/-- Whose request a token stands for. -/
def State.tokOwn (s : State) : Tok → Own
  | .piece b asid q _ _ => .cmd b asid q
  | .ramo b asid q => .cmd b asid q
  | .load u rid _ => match s.access u rid with | some a => .acc u rid a.pc a.ea | none => .none
  | .copy b asid q _ _ _ => .copy b asid q
/-- The chip whose answer a token waits for, and the context that waits, by command or access (R383 item 2). -/
def State.tokOwner (s : State) : Tok → Option (Nat × Nat)
  | .piece b asid q _ _ => ((s.fabAct b asid q).filter fun a => !a.past).map fun a => (asid, a.cmd.chip)
  | .ramo b asid q => ((s.fabAct b asid q).filter fun a => !a.past).map fun a => (asid, a.cmd.chip)
  | .load u rid chip => (s.access u rid).map fun a => (a.asid, chip)
  | .copy _ asid _ _ _ chip => some (asid, chip)
/-- Whose request a packet was that is no longer on the sender's list, and its opcode, where its command or its token still tells
(R381 item 4). -/
def State.requestOf (s : State) (t : Nat) (q : BitVec 32) : Option (Own × Nat) :=
  match s.toks.find? fun x => x.2.opc != 0 && x.2.seq == q && (s.tokOwner x.2.tok).any fun y => y.2 == t with
  | some x => some (s.tokOwn x.2.tok, x.2.opc)
  | none =>
    s.bays.findSome? fun p => p.2.ctxs.findSome? fun c => c.2.facts.findSome? fun a =>
      (a.seqs.find? fun y => y.1 == t && y.2.1 == q).map fun y => (.cmd p.1 c.2.asid a.cmd.seq, y.2.2)
/-- REFUSE at the sender (R381, R382): the packet is answered, and the context of the request ends, also where an
acknowledgement has taken the packet off the list before; a refusal of consignment data is left to CSTOP and CDONE, and the owner
keeps that the consignee has refused (R376).
MALFORMED is logged and ends the context of the header's ASID, whatever the packet was (R382). -/
def State.onRefuse (s : State) (p : Packet) : State :=
  let reason := bits p.o0 3 0
  let q : BitVec 32 := p.o1.setWidth 32
  let (s1, l) := s.dropSent p.src (· == q)
  let (own, opc) := match l with | x :: _ => (x.own, x.pkt.opc) | [] => (s.requestOf p.src q).getD (.none, 0)
  let fail := fun (t : State) => t.remoteFail own p.asid reason p.src opc (q.setWidth 64) p.o2
  let s2 := if reason = 9 then fail (s1.logEvent 1 (reason + 16 * q.toNat))
    else match own with
      | .cons g => s1.modOut p.src p.asid g fun o => { o with stopped := true }
      | .none => if l.isEmpty ∧ p.rqchip = s.chip.toNat then fail s1 else s1
      | _ => fail s1
  s2.drainOn p.src
/-- REFUSE. -/
def execRefuse (s : State) : Out :=
  match s.ev with
  | .refuse p => .next (s.arriving p fun s => s.onRefuse p)
  | _ => .next s

/-! ### Responses at the requester (R362, R367, R369, R375, R384) -/

/-- A piece of an RGET has come: written on the local side, and the command completes with its last byte (R367, R371). -/
def State.gotPiece (s : State) (b asid : Nat) (q : BitVec 32) (off n : Nat) (d : List Byte) : State :=
  match s.fabAct b asid q with
  | none => s
  | some a =>
    let m := a.cmd
    match (if a.past then (none, s) else s.sideWrite b asid m.lk (n + 2) (m.d 1 + toW off) (d.take n)) with
    | (some (c, v), t) => t.fabFail b asid m c v
    | (none, t0) =>
      let t := if m.lk || a.past then t0 else s.imaged t0 b asid
      let t1 := t.modAct b asid q fun x => { x with left := x.left - n }
      let t2 := match t1.keyOf b asid with
        | some i => t1.modEnt b i 3 q fun e => { e with okn := e.okn + n }
        | none => t1
      if a.past then s else if a.left ≤ n then (match t2.fabAct b asid q with | some x => t2.fabDone b asid x | none => t2) else t2
/-- The old value of a returning RAMO has come (R369, R371). -/
def State.gotRamo (s : State) (b asid : Nat) (q : BitVec 32) (old : Word) : State :=
  match s.fabAct b asid q with
  | none => s
  | some a =>
    let v := extend true a.cmd.asz old.toNat
    let t := s.imaged (s.write (spadKey asid b (a.cmd.d 1).toNat) (leBytes 8 v.toNat)) b asid
    (match t.keyOf b asid with
      | some i => t.modEnt b i 3 q fun e => { e with okn := e.okn + a.cmd.asz }
      | none => t).fabDone b asid a
/-- A read of a copy command has come: its bytes wait for the segment (R283). -/
def State.gotCopy (s : State) (b asid : Nat) (q : BitVec 32) (pos n : Nat) (d : List Byte) : State :=
  let take := fun (a : CopyAct) =>
    { a with rbuf := ((List.range n).zip d).foldl (fun r x => tset r (pos + x.1) x.2) a.rbuf, rout := a.rout - 1 }
  if b = hostBay then s.hostCopyGot q take else
  match s.keyOf b asid with
  | none => s
  | some i =>
    let s1 := s.modCopy b i q.toNat take
    match s1.copyAct b i q.toNat with
    | some a => if a.resumes then s1.post (laneEng b i 2) (.copySegmentWritten b i q.toNat) else s1
    | none => s1
/-- The data of a fibre's remote load or atomic has come (R138, R140, R141). -/
def State.gotLoad (s : State) (u rid : Nat) (v : Nat) : State :=
  match s.access u rid with
  | some a =>
    let signed := match a.kind with | .load g => g | .store => false | .atomic _ _ => true
    s.answer (stationEnd 33) a.bay (.loadDataReturn u (a.dest.getD 0) (extend signed a.size v) rid)
  | none => s
/-- GETR and AMOR: the token names what waits (R362). -/
def State.onToken (s : State) (tok : Nat) (d : List Byte) : State :=
  let s1 := { s with toks := tdel s.toks tok }
  match (tfind s.toks tok).map Asked.tok with
  | some (.piece b asid q off n) => s1.gotPiece b asid q off n d
  | some (.ramo b asid q) => s1.gotRamo b asid q (toW (leNat (d.take 8)))
  | some (.load u rid _) => s1.gotLoad u rid (leNat (d.take 8))
  | some (.copy b asid q pos n _) => s1.gotCopy b asid q pos n d
  | none => s1
/-- The command of a consignment tag (R362). -/
def State.consCmd (s : State) (asid : Nat) (tag : Word) : Option FabAct :=
  ((s.keyOf (bits tag 41 31) asid).bind fun i => s.bctx (bits tag 41 31) i).bind fun c => c.facts.find? fun a =>
    !a.past && a.cmd.seq.toNat % 2 ^ 31 == bits tag 30 0
      && (match a.cmd.op with | .crd .. => true | .crdg .. => true | _ => false)
/-- The address or handle that a failed consignment is reported with (R381): the signal's where every byte is placed, the
consignee's where a member or another chip than the owner's has failed, and otherwise the owner's (log entry 21). -/
def Cmd.consAddr (m : Cmd) (ok bad low : Nat) : Word :=
  if bad = 0 ∧ ok = m.flen ∧ m.sigen = true then m.d 3
  else if bad ≠ 0 ∨ (low = chipOfPtr (m.d 1) ∧ low ≠ chipOfPtr (m.d 0)) then m.d 1
  else m.d 0
/-- CDONE at the requester (R371, R375 to R377, R379): the command completes, or has failed. -/
def State.onCdone (s : State) (p : Packet) : State :=
  match s.consCmd p.asid p.o1 with
  | none => s
  | some a =>
    let b := bits p.o1 41 31
    let ok := bits p.o0 24 0
    let bad := bits p.o0 46 25
    let reason := bits p.o0 50 47
    let s1 := match s.keyOf b p.asid with
      | some i => s.modEnt b i 3 a.cmd.seq fun e => { e with okn := ok, failn := bad, rsn := reason }
      | none => s
    if reason = 0 ∧ bad = 0 then s1.fabDone b p.asid a
    else
      (s1.remoteFail (.cmd b p.asid a.cmd.seq) p.asid reason (bits p.o2 21 0) p.opc (p.seq.setWidth 64)
        (a.cmd.consAddr ok bad (bits p.o2 21 0))).fabOver b p.asid a.cmd.seq a.unacked

/-! ### Arrival of a sequenced packet (R353 to R357) -/

/-- What a sequenced packet does at its target. -/
def State.performPkt (s : State) (p : Packet) : Perf :=
  match p.opc with
  | 0x01 => s.servePut p true (p.payload.take p.count)
  | 0x02 => s.servePut p true (leBytes 8 p.o1.toNat)
  | 0x0A => s.servePut p false (leBytes (2 ^ bits p.o0 33 32) p.o1.toNat)
  | 0x03 => s.serveGet p
  | 0x09 => s.serveGet p
  | 0x06 => s.serveAmo p
  | 0x0B => s.serveAmo p
  | 0x05 => s.serveSig p
  | 0x08 => s.serveSpawn p
  | 0x10 => s.serveCrq p
  | 0x11 => s.serveCdata p
  | 0x04 => .ack (s.onToken p.o1.toNat (p.payload.take p.count))
  | 0x07 => .ack (s.onToken p.o1.toNat (leBytes 8 p.o2.toNat))
  | 0x12 => .ack (s.onCdone p)
  | _ => .ack s
/-- The response to a packet still waits at the sender (R356). -/
def State.unanswered (s : State) (p : Packet) : Bool :=
  (s.sender p.src).waiting.any fun x => x.own == .resp p.src p.seq
/-- A held packet is performed and answered, a read once its response has been sent (R353, R356); a refusal is logged where
it is found (R381). -/
def State.performNow (s : State) (p : Packet) : State :=
  match s.performPkt p with
  | .ack t =>
    if t.unanswered p then
      (t.pulse p.asid).modReceiver p.src fun r => { r with win := tset r.win p.seq.toNat (.performed p) }
    else ((t.pulse p.asid).answerPkt p .acked).stirHeld p.src
  | .refuse t r a => ((t.logEvent 1 (r + 16 * p.seq.toNat)).answerPkt p (.refused r a)).stirHeld p.src
  | .later t =>
    if t.agenda.any fun i => i.ev == .heldPacketPerform p.src p.seq.toNat then t
    else t.postFree (.heldPacketPerform p.src p.seq.toNat)
/-- A sequenced packet arrives (R336, R353, R357). -/
def State.receiveSeq (s : State) (p : Packet) : State :=
  s.arriving p fun s =>
    let r := s.receiver p.src
    if !r.resident then s.fetchReceiver p.src
    else
      match r.fate p.seq with
      | .again w => (s.tally endpointUnit .duplicates 1).sendAnswer p w
      | .stale => { s.tally endpointUnit .stale 1 with stale := s.stale + 1 }
      | .drop => s.tally endpointUnit .duplicates 1
      | .fresh =>
        let s1 := s.modReceiver p.src fun x => { x with win := tset x.win p.seq.toNat (.held p) }
        if r.allows p then s1.performNow p else s1
/-- PUT (R356, R359, R390). -/
def execPut (s : State) : Out := match s.ev with | .put p => .next (s.receiveSeq p) | _ => .next s
/-- PUTI (R368). -/
def execPuti (s : State) : Out := match s.ev with | .puti p => .next (s.receiveSeq p) | _ => .next s
/-- GETQ (R367). -/
def execGetq (s : State) : Out := match s.ev with | .getq p => .next (s.receiveSeq p) | _ => .next s
/-- GETR (R367, R371). -/
def execGetr (s : State) : Out := match s.ev with | .getr p => .next (s.receiveSeq p) | _ => .next s
/-- SIG (R360, R368). -/
def execSig (s : State) : Out := match s.ev with | .sig p => .next (s.receiveSeq p) | _ => .next s
/-- AMO (R369). -/
def execAmo (s : State) : Out := match s.ev with | .amo p => .next (s.receiveSeq p) | _ => .next s
/-- AMOR (R369, R371). -/
def execAmor (s : State) : Out := match s.ev with | .amor p => .next (s.receiveSeq p) | _ => .next s
/-- SPAWN (R360, R370). -/
def execSpawn (s : State) : Out := match s.ev with | .spawn p => .next (s.receiveSeq p) | _ => .next s
/-- PLD (R138, R359). -/
def execPld (s : State) : Out := match s.ev with | .pld p => .next (s.receiveSeq p) | _ => .next s
/-- PST (R138, R359). -/
def execPst (s : State) : Out := match s.ev with | .pst p => .next (s.receiveSeq p) | _ => .next s
/-- PAMO (R138, R359, R369). -/
def execPamo (s : State) : Out := match s.ev with | .pamo p => .next (s.receiveSeq p) | _ => .next s
/-- CRQ (R375 step 2, R377). -/
def execCrq (s : State) : Out := match s.ev with | .crq p => .next (s.receiveSeq p) | _ => .next s
/-- CDATA (R375 step 4, R376). -/
def execCdata (s : State) : Out := match s.ev with | .cdata p => .next (s.receiveSeq p) | _ => .next s
/-- CDONE (R371, R375 step 6). -/
def execCdone (s : State) : Out := match s.ev with | .cdone p => .next (s.receiveSeq p) | _ => .next s
/-- HELD_PACKET_PERFORM: a held packet whose conditions are met is performed, or one whose response has gone is answered (R353
to R356, R360). -/
def execHeldPacketPerform (s : State) : Out :=
  match s.ev with
  | .heldPacketPerform c q =>
    let r := s.receiver c
    match tfind r.win q with
    | some (.held p) => if r.allows p then .next (s.performNow p) else .next s
    | some (.performed p) => .next (if s.unanswered p then s else (s.answerPkt p .acked).stirHeld c)
    | _ => .next s
  | _ => .next s
/-- STREAM_STATE_FETCH_COMPLETE: an end of a stream is active, in the place of another where 4,096 are, and what waited for
it goes on (R357). -/
def execStreamStateFetchComplete (s : State) : Out :=
  match s.ev with
  | .streamStateFetchComplete c snd =>
    match s.makeRoom with
    | none => .next s.wait
    | some t0 =>
      let t := t0.tally endpointUnit .fetches 1
      .next (if snd then (t.modSender c fun e => { e with resident := true }).drainOn c
        else t.modReceiver c fun r => { r with resident := true })
  | _ => .next s

/-! ### Timeouts and teardown (R353, R383) -/

/-- RETRANSMISSION_TIMEOUT: a packet that no answer has reached in the interval goes out again (R353). -/
def execRetransmissionTimeout (s : State) : Out :=
  match s.ev with
  | .retransmissionTimeout t q =>
    match (s.sender t).unack.find? fun x => x.1.toNat == q with
    | none => .next s
    | some (_, x) =>
      if s.now < x.last + s.mgmt.retxAfter then .next s.wait
      else
        .next (((s.modSender t fun e => { e with unack := e.unack.map fun y =>
          if y.1.toNat = q then (y.1, { y.2 with last := s.now }) else y }).emitAt (switchOf (s.bayOfOwn x.own)) x.pkt).postFree
            (.retransmissionTimeout t q))
  | _ => .next s
/-- The context that an indeterminate packet belongs to: of its own request, or for a response of the header's ASID (R383;
log entry 20); consignment data is reported by CDONE. -/
def Sent.asid (x : Sent) : Option Nat :=
  match x.own with
  | .cmd _ a _ => some a
  | .copy _ a _ => some a
  | .acc _ _ _ _ => some x.pkt.asid
  | .resp _ _ => some x.pkt.asid
  | .report => some x.pkt.asid
  | .none => none
  | .cons _ => none
/-- The chips that a consignment has as owner or consignee (R376, R377). -/
def State.consChips (s : State) (asid : Nat) (m : Cmd) : List Nat :=
  match m.op with
  | .crd .. => [m.chip, chipOfPtr (m.d 1)]
  | .crdg .. => m.chip :: (((s.ctx asid).bind fun c => c.groups[bits (m.d 4) 11 0]?).map s.boxChips).getD []
  | _ => []
/-- What of a context waits for an answer over a stream (R383 item 2): whose request it is, its opcode, sequence number and
pointer. -/
structure Await where
  own : Own
  asid : Nat
  opc : Nat
  seq : BitVec 32
  addr : Word
  deriving DecidableEq, Repr
/-- A consignment of this package that a chip is owner or consignee of waits for its CDONE (R376, R383). -/
def State.consAwaits (s : State) (t : Nat) : List Await :=
  s.bays.flatMap fun p => p.2.ctxs.flatMap fun q =>
    (q.2.facts.filter fun a => !a.past && (s.consChips q.2.asid a.cmd).contains t).map fun a =>
      { own := .cmd p.1 q.2.asid a.cmd.seq, asid := q.2.asid, opc := 0x10,
        seq := match a.seqs with | y :: _ => y.2.1 | [] => 0, addr := a.cmd.d 0 }
/-- What waits for an answer of a chip: tokens and consignments (R383 item 2). -/
def State.awaits (s : State) (t : Nat) : List Await :=
  (s.toks.filterMap fun x => match s.tokOwner x.2.tok with
    | some (a, c) => if c = t then
        some { own := s.tokOwn x.2.tok, asid := a, opc := x.2.opc, seq := x.2.seq, addr := x.2.addr } else none
    | none => none) ++ s.consAwaits t
/-- The tokens that wait for an answer of a chip are forgotten. -/
def State.dropToks (s : State) (t : Nat) : State :=
  { s with toks := s.toks.filter fun x => !((s.tokOwner x.2.tok).any fun y => y.2 == t) }
/-- The length of a packet for a PACKET section (R383, R432 type 4): the bytes that it writes, asks for or returns; 0 for one that has
none (log entry 21). -/
def Packet.bytes (p : Packet) : Nat :=
  match p.opc with
  | 0x01 => p.count
  | 0x03 => p.count
  | 0x04 => p.count
  | 0x07 => 8
  | 0x09 => p.count
  | 0x02 => 8
  | 0x0A => 2 ^ bits p.o0 33 32
  | 0x06 => if p.o0.getLsbD 37 then 8 else 4
  | 0x0B => if p.o0.getLsbD 37 then 8 else 4
  | 0x10 => bits p.o1 23 0 + 1
  | _ => 0
/-- A PACKET section (R432 type 4). -/
def packetSection (x : Sent) : List Word :=
  section_ 4 1 [toW x.pkt.opc, x.pkt.seq.setWidth 64, x.pkt.addr, toW (Packet.bytes x.pkt)]
/-- The groups that wait on a member which cannot be reached end their contexts (R233). -/
def State.groupsLost (s : State) (t : Nat) : State :=
  (s.groups.filter fun g => s.inBox g.2.box t).foldl (fun x g =>
    match g.2.pending with
    | some phase => x.endCtx (g.1 / 4096) .group 0x7FF (groupSection (g.1 % 4096) phase (toW t))
    | none => x) s
/-- The contexts that a torn stream leaves with an indeterminate packet, or waiting, end with reason TIMEOUT; the record lists the
packets (R381, R383 item 2). -/
def State.endAwaiting (s : State) (t : Nat) (lost : List Sent) : State :=
  let l := s.awaits t
  ((dedup (lost.filterMap Sent.asid ++ l.map Await.asid)).filter fun a => (s.ctx a).isSome).foldl (fun x a =>
    let mine := lost.filter fun y => Sent.asid y == some a
    let head := match mine, l.find? fun y => y.asid == a with
      | y :: _, _ => x.ownSection y.own 10 t y.pkt.opc (y.pkt.seq.setWidth 64) y.pkt.addr
      | [], some y => x.ownSection y.own 10 t y.opc (y.seq.setWidth 64) y.addr
      | [], none => []
    x.endCtx a .remote 0x7FF (head ++ mine.flatMap packetSection)) s
/-- The tag of consignment data. -/
def Sent.tag (x : Sent) : Option Word := match x.own with | .cons g => some g | _ => none
/-- Which of the indeterminate packets were placed is a free choice: their bytes (R383 item 1). -/
def State.maybePlaced (s : State) (l : List Sent) : State × Nat :=
  l.foldl (fun y x => (y.1.spend, y.2 + if y.1.freeNat % 2 = 0 then x.pkt.count else 0)) (s, 0)
/-- The bytes of a consignment that its consignee has placed of those acknowledged: all of them, and a free choice where it has
refused or stopped the consignment, since it acknowledges also what it then discards (R376; log entry 19). -/
def State.ackedPlaced (s : State) (o : OutCons) : State × Nat :=
  if o.stopped then (s.spend, s.freeNat % (o.acked + 1)) else (s, o.acked)
/-- A consignment of a torn stream from its owner to its consignee: the owner tells the requester, with the bytes that the
consignee has placed: of those acknowledged, and of those indeterminate what was placed (R376, R383 item 3); for a group the
consignee counts as one failed member (R377). -/
def State.consTimeout (s : State) (t : Nat) (lost : List Sent) (x : Sent) (tag : Word) : State :=
  let k := outKey t x.pkt.asid tag
  let s0 := { s with outs := tdel s.outs k }
  let (s1, n) := s0.maybePlaced (lost.filter fun y => y.isCons x.pkt.asid tag)
  if x.pkt.o2.getLsbD 60 then s1.sendCdone x.pkt tag 0 1 10 t
  else
    let (s2, kept) := s1.ackedPlaced (tget { acked := 0, stopped := false } s.outs k)
    s2.sendCdone x.pkt tag (kept + n) 0 10 t
/-- The teardown of a stream (R383): its packets that wait at the switch end with it (R339 item 5), and so does the data of its
consignments that waits at the sender (R376). -/
def State.tearDown (s : State) (t : Nat) : State :=
  let e := s.sender t
  let lost := e.unack.map Prod.snd
  let base := e.nseq + 0x80000000#32
  let s1 := (s.endAwaiting t lost).dropToks t
  let s2 := { s1 with
    held := s1.held.filter fun x => !(x.1.src == s.chip.toNat && x.1.dst == t && isSequenced x.1.opc) }
  let s3 := s2.modSender t fun z => { z with
    unack := [], waiting := z.waiting.filter fun x => x.tag.isNone, nseq := base, torn := true, epoch := !z.epoch }
  let s4 := s3.control t 0x20 { rqchip := s.chip.toNat, job := 0, asid := 0 } 0 0 (toW (e.wsent.toNat * 2 ^ 32))
    (toW (2 + base.toNat * 2 ^ 32))
  let cons := (lost ++ e.waiting).filter fun x => x.tag.isSome
  let s5 := (dedup (cons.filterMap fun x => x.tag.map (outKey t x.pkt.asid))).foldl (fun x k =>
    match cons.find? fun c => c.tag.map (outKey t c.pkt.asid) == some k with
    | some c => x.consTimeout t lost c (toW k)
    | none => x) s4
  (s5.groupsLost t).logEvent 5 t
/-- STREAM_TIMEOUT: a packet has been unacknowledged for the stream timeout since its first sending (R383). -/
def execStreamTimeout (s : State) : Out :=
  match s.ev with
  | .streamTimeout t =>
    let l := (s.sender t).unack
    if l.isEmpty then .next s
    else if l.any fun x => decide (x.2.first + s.mgmt.streamAfter ≤ s.now) then .next (s.tearDown t)
    else .next s.wait
  | _ => .next s
/-- ACK kind 2 at the target (R383 item 4): held packets of the pair are discarded, LOW, the window and WPLACED are set,
and kind 3 echoes.  Consignments that were half placed from there are forgotten, and what of this package waits for an answer over
the pair is over (R376, R383 item 2; log entry 19). -/
def State.onResync (s : State) (p : Packet) : State :=
  if !(s.receiver p.src).resident then s.fetchReceiver p.src
  else
    let s1 := ({ s with cons := s.cons.filter fun x => x.1 / 2 ^ 80 != p.src }.endAwaiting p.src []).dropToks p.src
    (s1.modReceiver p.src fun r => { r with
      low := BitVec.ofNat 32 (bits p.o2 63 32), win := [], old := [], wplaced := BitVec.ofNat 31 (bits p.o1 62 32),
      epoch := !r.epoch }).control p.src 0x20 (requester p) 0 0 (toW (bits p.o1 62 32 * 2 ^ 32 + bits p.o2 63 32))
        (toW (3 + bits p.o2 63 32 * 2 ^ 32))
/-- ACK_RESYNCHRONISE. -/
def execAckResynchronise (s : State) : Out :=
  match s.ev with
  | .ackResynchronise p => .next (s.arriving p fun s => s.onResync p)
  | _ => .next s
/-- ACK_RESYNCHRONISED: the stream is whole again, and what waited is sent (R383). -/
def execAckResynchronised (s : State) : Out :=
  match s.ev with
  | .ackResynchronised p =>
    .next (s.arriving p fun s =>
      let e := s.sender p.src
      if e.torn && e.nseq.toNat == bits p.o2 63 32 then (s.modSender p.src fun z => { z with torn := false }).drainOn p.src
      else s)
  | _ => .next s

end Sys2Proof.Machine
end

