-- ==== Sys2Proof/Machine/GutterOps.lean ====
section
/-!
DEFINITION. Gutter instructions and what arrives over the links (spec/07_barriers_gutters.md R234 to R241).
-/
namespace Sys2Proof.Machine

/-- check(bay) of R237: RANGE with the bay number. -/
def gutterCheck (s : State) (c : BayCtx) (bay : Nat) (k : Res) : Res :=
  if s.usable c.asid bay then k else .fault .range (toW bay)
/-- QPUSH (R237). -/
def execQpush (a : GReg) (r : Dir) (s : State) : Out :=
  issue (.qpush a r) noEarly (fun c f s =>
    gutterCheck s c (neighbour s.cur.bay r) (
      let g := c.gut r
      if decide (0 < s.credits s.cur.bay c.asid r g) && g.pushes.isEmpty then .done (s.sendWord s.cur.bay s.cur.idx r (f.reg a))
      else .stay ((s.modCurC fun c => c.modGut r fun z =>
        { z with pushes := z.pushes ++ [{ uid := f.uid, d := 0, word := f.reg a, fwd := false }] }).modCur fun x =>
          x.block (.queued (0x30 + dirCode r)) (s.bay s.cur.bay).cycle))) s
/-- QPOP (R237). -/
def execQpop (d : GReg) (r : Dir) (s : State) : Out :=
  issue (.qpop d r) noEarly (fun c f s =>
    gutterCheck s c (neighbour s.cur.bay (if r = .east then .west else .east)) (
      let g := c.gut r
      match g.q with
      | w :: _ =>
        if g.pops.isEmpty then .done ((s.takeWord s.cur.bay s.cur.idx r).modCur fun x => x.setReg d w)
        else .stay ((s.modCurC fun c => c.modGut r fun z =>
          { z with pops := z.pops ++ [{ uid := f.uid, d := d, word := 0, fwd := false }] }).modCur fun x =>
            x.block (.queued (0x32 + dirCode r)) (s.bay s.cur.bay).cycle)
      | [] => .stay ((s.modCurC fun c => c.modGut r fun z =>
          { z with pops := z.pops ++ [{ uid := f.uid, d := d, word := 0, fwd := false }] }).modCur fun x =>
            x.block (.queued (0x32 + dirCode r)) (s.bay s.cur.bay).cycle))) s
/-- QPUSHT (R237). -/
def execQpusht (d a : GReg) (r : Dir) (s : State) : Out :=
  issue (.qpusht d a r) noEarly (fun c f s =>
    gutterCheck s c (neighbour s.cur.bay r) (
      let g := c.gut r
      if decide (0 < s.credits s.cur.bay c.asid r g) && g.pushes.isEmpty then
        .done ((s.sendWord s.cur.bay s.cur.idx r (f.reg a)).modCur fun x => x.setReg d 1)
      else .done (s.modCur fun x => x.setReg d 0))) s
/-- QPOPT: a failure writes only gb (R237). -/
def execQpopt (d b : GReg) (r : Dir) (s : State) : Out :=
  issue (.qpopt d b r) noEarly (fun c _ s =>
    gutterCheck s c (neighbour s.cur.bay (if r = .east then .west else .east)) (
      let g := c.gut r
      match g.q with
      | w :: _ =>
        if g.pops.isEmpty then
          .done ((s.takeWord s.cur.bay s.cur.idx r).modCur fun x => (x.setReg d w).setReg b 1)
        else .done (s.modCur fun x => x.setReg b 0)
      | [] => .done (s.modCur fun x => x.setReg b 0))) s
/-- QFWD: src is checked before out; it takes its place in both queues (R237). -/
def execQfwd (d : GReg) (r : Dir) (s : State) : Out :=
  issue (.qfwd d r) noEarly (fun c f s =>
    gutterCheck s c (neighbour s.cur.bay (if r = .east then .west else .east))
      (gutterCheck s c (neighbour s.cur.bay r) (
        let g := c.gut r
        match g.q with
        | w :: _ =>
          if decide (0 < s.credits s.cur.bay c.asid r g) && g.pops.isEmpty && g.pushes.isEmpty then
            .done (((s.takeWord s.cur.bay s.cur.idx r).sendWord s.cur.bay s.cur.idx r w).modCur fun x => x.setReg d w)
          else .stay ((s.modCurC fun c => c.modGut r fun z =>
            let e : GutWait := { uid := f.uid, d := d, word := 0, fwd := true }
            { z with pops := z.pops ++ [e], pushes := z.pushes ++ [e] }).modCur fun x =>
              x.block (.queued (0x34 + dirCode r)) (s.bay s.cur.bay).cycle)
        | [] => .stay ((s.modCurC fun c => c.modGut r fun z =>
            let e : GutWait := { uid := f.uid, d := d, word := 0, fwd := true }
            { z with pops := z.pops ++ [e], pushes := z.pushes ++ [e] }).modCur fun x =>
              x.block (.queued (0x34 + dirCode r)) (s.bay s.cur.bay).cycle)))) s
/-- QSTAT (R238). -/
def execQstat (d : GReg) (r : Dir) (s : State) : Out :=
  issue (.qstat d r) noEarly (fun c _ s =>
    let g := c.gut r
    .done (s.modCur fun x => x.setReg d (toW (g.pops.length * 2 ^ 31 + g.pushes.length * 2 ^ 22
      + s.credits s.cur.bay c.asid r g * 2 ^ 8 + g.q.length)))) s

/-- GUTTER_WORD_ARRIVAL: the word is placed in the queue, and a blocked popper goes on (R234, R235, R428). -/
def execGutterWordArrival (s : State) : Out :=
  match s.ev with
  | .gutterWordArrival b asid d w =>
    match s.keyOf b asid with
    | some i =>
      .next (((s.imaged (s.modC b i fun c => c.modGut d fun g => { g with q := g.q ++ [w] }) b asid).pulse asid).gutters b i d)
    | none => .next s
  | _ => .next s
/-- GUTTER_CREDIT_RETURN: a credit comes back, and a blocked pusher goes on (R235). -/
def execGutterCreditReturn (s : State) : Out :=
  match s.ev with
  | .gutterCreditReturn b asid d =>
    match s.keyOf b asid with
    | some i => .next ((s.imaged (s.modC b i fun c => c.modGut d fun g => { g with cred := g.cred + 1 }) b asid).gutters b i d)
    | none => .next s
  | _ => .next s

end Sys2Proof.Machine
end

