-- ==== Sys2Proof/Machine/Plan.lean ====
section
/-!
DEFINITION. Switch plans and gang switches, save and restore (spec/06_scheduler.md R210 to R212, spec/14_contexts.md R419
to R426), and real-time contracts (spec/06_scheduler.md R213 to R218).
-/
namespace Sys2Proof.Machine

/-! ### Stops and switches (R419 to R422) -/

/-- A context by its number, while it is neither ending nor ended (R440 NOCTX). -/
def State.ctxOf (s : State) (ctxid : BitVec 32) : Option Ctx :=
  (s.ctxs.map Prod.snd).find? fun c => c.ctxid == ctxid && c.ended.isNone
/-- Moves a context's state on a bay to another key, with what is in flight for it. -/
def State.moveKey (s : State) (b i j : Nat) : State :=
  match s.bctx b i with
  | none => s
  | some c =>
    let move := fun (t : Item) =>
      if evPlace t.ev = some (b, i) then
        { lane := if t.lane % 64 = 7 then laneVec b j (t.lane / 64 % 8)
            else if t.lane % 64 = 8 then laneEng b j (t.lane / 64 % 4) else t.lane
          ev := evRekey j t.ev }
      else t
    { (s.modBay b fun x => { x with ctxs := tset (tdel x.ctxs i) j c }) with agenda := s.agenda.map move }
/-- Every item that is in flight or parked. -/
def State.items (s : State) : List Item := s.agenda ++ s.bays.flatMap fun p => p.2.ctxs.flatMap fun q => q.2.park
/-- Bay and ASID for which an item of the mesh is parked, where the context is stopped there (R421; log entry 46): that of
the fibre whose access, request or answer it is, or of the bay that a message is on its way to. -/
def State.parkHome (s : State) : Ev → Option (Nat × Nat)
  | .loadDataReturn u _ _ rid => if rid = 0 then none else s.homeU u
  | .accessAccepted u _ => s.homeU u
  | .accessFaultRecorded u _ _ => s.homeU u
  | .globalAccessAtStation u _ => s.homeU u
  | .apertureAccess u _ => s.homeU u
  | .cisternAnswer u _ _ _ => s.homeU u
  | .spawnAckArrival _ u => s.homeU u
  | .mrcmdAckArrival m _ => some (m.oBay, m.asid)
  | .carmAtUnit m => s.homeU m.uid
  | .caddAtUnit m => s.homeU m.uid
  | .creadAtUnit m => s.homeU m.uid
  | .cdisarmAtUnit m => s.homeU m.uid
  | .instructionLineFill b a _ => some (b, a)
  | .spawnMessageArrival b a _ _ => some (b, a)
  | .migrationArrival b a _ => some (b, a)
  | .mrcmdArrival m => some (m.target, m.asid)
  | .meshPostArrival b a _ _ _ => some (b, a)
  | .cpymTileAck b i _ => (s.bctx b i).map fun c => (b, c.asid)
  | _ => none
/-- A response, which fills a register or lands at its engine on the bay (R421). -/
def isResponse : Ev → Bool
  | .loadDataReturn _ _ _ rid => rid != 0
  | .accessAccepted _ _ => true
  | .accessFaultRecorded _ _ _ => true
  | .cisternAnswer _ _ _ _ => true
  | .spawnAckArrival _ _ => true
  | .mrcmdAckArrival _ _ => true
  | .instructionLineFill _ _ _ => true
  | .cpymTileAck _ _ _ => true
  | _ => false
/-- Where an item that could come about now is parked instead (R419 item 3, R421): a response for a context that is not
active on its bay, and an item behind one of its lane that is parked (R10). -/
def State.parksAt (s : State) (t : Item) : Option (Nat × Nat) :=
  match s.parkHome t.ev with
  | none => none
  | some (b, a) =>
    match s.keyOf b a with
    | none => none
    | some i =>
      match s.bctx b i with
      | none => none
      | some c =>
        if (isResponse t.ev && !s.activeAt b i) || c.park.any (fun x => x.lane == t.lane) then some (b, i) else none
/-- An item is parked for a context; in a saved image with its tag (R421, R423, R425). -/
def State.parkItem (s : State) (b i : Nat) (t : Item) : State :=
  match s.bctx b i with
  | some c => s.imaged (s.modC b i fun c => { c with park := c.park ++ [t] }) b c.asid
  | none => s
/-- ICINV that has not retired is abandoned at a stop (R124, R420): the fibre issues it again. -/
def BayCtx.abandonIcinv (c : BayCtx) : BayCtx :=
  let again := fun (f : Fibre) => if f.wait = .queued 0x0C then { f with wait := .ready } else f
  { c with slots := tmap (fun x => { x with fib := x.fib.map again }) c.slots }
/-- The copy segments of a stopped context that have written nothing are abandoned, with what they still wait for (R294). -/
def State.abandonCopies (s : State) (b i asid : Nat) (l : List CopyAct) : State :=
  (l.filter fun a => !a.wrote && !a.writing).foldl (fun (t : State) a =>
    let t1 := t.modCopy b i a.cmd.seq.toNat CopyAct.again
    let t2 := { t1 with toks := t1.toks.filter fun x => match x.2.tok with
      | .copy y z q _ _ _ => !(y == b && z == asid && q == a.cmd.seq)
      | _ => true }
    if a.rpos = a.stop ∧ a.rout ≠ 0 then t2.post (laneEng b i 2) (.copySegmentWritten b i a.cmd.seq.toNat) else t2) s
/-- The bay stops its active context (R419 items 1 to 3): ICINV is abandoned, copy segments that have written nothing go back
(R294), and what the mesh carries for the context is parked, in its order. -/
def State.stopBay (s : State) (b : Nat) : State :=
  let off := fun (t : State) => t.modBay b fun x => { x with active := none, parked := true }
  match (s.bay b).active.bind fun i => (s.bctx b i).map fun c => (i, c) with
  | none => off s
  | some (i, c) =>
    let mine := fun (t : Item) => s.parkHome t.ev == some (b, c.asid)
    let dead := fun (t : Item) => match t.ev with
      | .icinvDone u _ _ => c.fibres.any fun f => f.uid == u && f.wait == .queued 0x0C
      | _ => false
    off ({ (s.modC b i fun y => { y.abandonIcinv with park := y.park ++ s.agenda.filter mine }) with
      agenda := s.agenda.filter fun t => !mine t && !dead t }.abandonCopies b i c.asid c.cacts)
/-- A gutter word of a context is on its way into the bay or out of it (R241). -/
def State.gutterBusy (s : State) (b asid : Nat) : Bool :=
  s.agenda.any fun t => match t.ev with
    | .gutterWordArrival x a d _ => a == asid && (x == b || x == neighbour b d)
    | _ => false
/-- CPYM data of a context is on its way from the bay to a member (R288, R420). -/
def State.castBusy (s : State) (b i : Nat) : Bool :=
  s.agenda.any fun t => match t.ev with
    | .cpymWritten x j _ _ _ _ _ => x == b && j == i
    | _ => false
/-- Everything begun on the bay before the stop is complete (R419 item 4, R420): local accesses, the divider, words on the
gutter links, the copy segments and multicast data that are being written but for global writes, which are parked (R294), and the matrix commands begun but for a
rendezvous, which waits.  A packet that is partly staged stays so (R342). -/
def State.captured (s : State) (b : Nat) : Bool :=
  !(s.bay b).divBusy && (s.bay b).ctxs.all fun p =>
    decide (4 ≤ p.1) || ((match p.2.mact with | some m => m.isRdv | none => true) && p.2.fibres.all (fun f => f.locals == 0)
      && p.2.cacts.all (fun a => !a.finishes) && !s.castBusy b p.1 && !s.gutterBusy b p.2.asid)
/-- STATE_CAPTURE: every class of R420 is complete on the bay. -/
def execStateCapture (s : State) : Out :=
  match s.ev with
  | .stateCapture b => .next (if s.captured b then s else s.wait)
  | _ => .next s
/-- The parked items of a context on a bay go on their way again (R421): its responses first, which come about before any
fibre of the bay issues; requests and messages keep their lanes, and all of them go before what has been sent since. -/
def State.unpark (s : State) (b i : Nat) : State :=
  match s.bctx b i with
  | none => s
  | some c =>
    let out := c.park.map fun t => ({ lane := if isResponse t.ev then laneRelease b else t.lane, ev := evRekey i t.ev } : Item)
    { (s.modC b i fun y => { y with park := [] }) with agenda := out ++ s.agenda }
/-- A context is being saved on some bay (R422). -/
def State.savingCtx (s : State) (asid : Nat) : Bool :=
  s.agenda.any fun t => match t.ev with | .saveComplete _ a => a == asid | _ => false
/-- The context at a resident index becomes active, unless it ends, the bay is fenced, or a later plan entry has stopped the bay
(R211, R422, R445, R462); that it is not being saved elsewhere is settled for all bays of an entry at once, at the entry's
timestamp (R422; log entry 54). -/
def State.activate (s : State) (b i : Nat) : State :=
  match s.bctx b i with
  | none => s
  | some c =>
    let ends := match s.ctx c.asid with | some x => x.ended.isSome | none => true
    if ends || (s.bay b).fenced || decide (4 ≤ i) || (s.bay b).halts != 0 then s
    else (s.unpark b i).modBay b fun x =>
      { x with active := some i, parked := false, since := s.now, due := some c.asid, incoming := none }
/-- RESIDENT_SWITCH_COMPLETE: the incoming context's fibres may issue (R422). -/
def execResidentSwitchComplete (s : State) : Out :=
  match s.ev with
  | .residentSwitchComplete b i => .next (s.activate b i)
  | _ => .next s
/-- SAVE_COMPLETE: a context's state on the bay is in its save image, and every page is written and has its tag (R423, R424, R457); an
uncorrectable write error, which is a free choice, ends the context at its page (R426). -/
def execSaveComplete (s : State) : Out :=
  match s.ev with
  | .saveComplete b asid =>
    match (s.keyOf b asid).bind fun i => (s.bctx b i).map fun c => (i, c) with
    | none => .next s
    | some (i, c) =>
      let t := { s with free := s.free + 1 }
      match Config.saveError s.free with
      | some k =>
        let j := k % c.quota.pages
        .next ((t.tallyPages b asid .writes (List.range j)).endImage b asid j false)
      | none => .next ((if i < 4 then t.moveKey b i (4 + asid) else t).sealPages b c (List.range c.quota.pages))
  | _ => .next s
/-- What is served on a bay at a restore, before any fibre issues (R201, R208, R177, R235, R241, R253). -/
def State.serveRestored (s : State) (b i : Nat) : State :=
  match s.bctx b i with
  | none => s
  | some c =>
    let s1 := c.sems.foldl (fun (t : State) p => t.serve b i p.1) s
    let s2 := c.chans.foldl (fun (t : State) p => if p.2.en then t.tryPhase b i p.1 else t) s1
    let s3 := ((s2.placeHeld b i c.cellar.held).reserve b i).serveBind b i
    let s4 := (s3.gutters b i .east).gutters b i .west
    let at_ := fun (t : State) (d : Dir) =>
      let n := neighbour b d
      match t.keyOf n c.asid with
      | some j => t.gutters n j (Dir.opp d)
      | none => t
    at_ (at_ s4 .east) .west
/-- A restore of the context is still under way on some bay, or due there by an entry that is being applied (R423). -/
def State.restoring (s : State) (asid : Nat) : Bool :=
  s.agenda.any fun t => match t.ev with
    | .restoreComplete _ a _ => a == asid
    | .planStep e _ _ => e.mode == 1 && (match s.ctxOf e.ctxid with | some c => c.asid == asid | none => false)
    | _ => false
/-- Once every page of every bay has been read and checked, the restored context becomes active on its bays (R423). -/
def State.joinRestored (s : State) (asid : Nat) : State :=
  if s.restoring asid then s
  else s.bays.foldl (fun (t : State) p =>
    match p.2.incoming with
    | some i =>
      (match t.bctx p.1 i with
        | some c => if c.asid = asid then (t.modBay p.1 fun x => { x with incoming := none }).activate p.1 i else t
        | none => t)
    | none => t) s
/-- RESTORE_COMPLETE: every page of the context's image on the bay is read and its tag checked (R423, R424, R457); the context is
back at an index, and becomes active with the last of its bays (R210 mode 1).  A page that does not verify, or that holds an
uncorrectable error, which is a free choice, ends it, and no bay of it becomes active (R426). -/
def execRestoreComplete (s : State) : Out :=
  match s.ev with
  | .restoreComplete b asid i =>
    let live := match s.ctx asid with | some x => x.ended.isNone | none => false
    match s.bctx b (4 + asid) with
    | none => .next (s.joinRestored asid)
    | some c =>
      if live && (s.bctx b i).isNone && !(s.bay b).fenced then
        let m := s.image b asid
        let t := { s with
          images := tset s.images (imageKey b asid) { m with err := m.err ++ Config.imageError s.free }, free := s.free + 1 }
        match t.imageBad b c with
        | some (k, mismatch) => .next ((t.tallyPages b asid .reads (List.range k)).endImage b asid k mismatch)
        | none =>
          .next (((((t.tallyPages b asid .reads (List.range c.quota.pages)).moveKey b (4 + asid) i).serveRestored b i).modBay b fun x =>
            { x with incoming := if x.due = some asid then some i else none }).joinRestored asid)
      else .next (s.joinRestored asid)
  | _ => .next s

/-! ### Plan entries (R210, R211, R445) -/

/-- Two rectangles share a bay. -/
def rectMeet (p q : BitVec 26) : Bool := (rectBays p).any fun b => inRect q b
/-- An accepted entry comes before this one on one of its bays (R211). -/
def State.planBefore (s : State) (e : PlanEntry) : Bool :=
  s.front.plan.any fun x => decide (x.time.toNat < e.time.toNat) && rectMeet x.rect e.rect
/-- The contract of a context's running launch, with the rectangle. -/
def Ctx.contract (c : Ctx) : Option (Contract × BitVec 26) :=
  if c.ended.isSome then none else c.launch.bind fun l => l.contract.map fun k => (k, l.rect)
/-- An entry for a package names a bay of a partition that holds a contract: the front end alone plans there, whichever partition
the entry's own context has (R27, R214; log entry 54). -/
def State.contractPart (s : State) (chip : Nat) (e : PlanEntry) : Bool :=
  s.ctxs.any fun p => p.2.contract.isSome && s.inBox p.2.pkgs chip && rectMeet e.rect p.2.rect
/-- What follows the stop on one bay, where the bay still meets the entry's check (R210, R445): events of the bay's plan
lane, the context that is saved, and the context that the bay is to run. -/
def State.planAct (s : State) (e : PlanEntry) (c : Ctx) (b : Nat) : List Ev × Option Nat × Option Nat :=
  let i := e.index.toNat
  let at_ := s.bctx b i
  if e.mode = 0 then
    (match at_ with
      | some x => if x.asid = c.asid then ([.residentSwitchComplete b i], none, some c.asid) else ([], none, none)
      | none => ([], none, none))
  else if e.mode = 1 then
    match at_ with
    | some x =>
      if (s.bctx b (4 + c.asid)).isSome then
        ([.saveComplete b x.asid, .restoreComplete b c.asid i], some x.asid, some c.asid)
      else ([], none, none)
    | none => ([], none, none)
  else if (s.bay b).due = some c.asid ∧ (match s.keyOf b c.asid with | some k => decide (k < 4) | none => false) = true then
    ([.saveComplete b c.asid], some c.asid, none)
  else ([], none, none)
/-- A save of a context by an entry advances its generation, once for all the bays of the entry (R424), and this bay's image
takes it. -/
def State.beginSave (s : State) (e : PlanEntry) (b asid : Nat) : State :=
  let s1 := if s.front.saving.contains (e, asid) then s
    else { (s.modCtx asid fun x => { x with gen := x.gen + 1 }) with
      front := { s.front with saving := s.front.saving ++ [(e, asid)] } }
  let g := match s1.ctx asid with | some x => x.gen | none => 0
  { s1 with images := tset s1.images (imageKey b asid) { gen := g, tags := [], err := [] } }
/-- Events go ahead of the others of a lane, in their order. -/
def State.postFronts (s : State) (lane : Nat) (l : List Ev) : State :=
  { s with agenda := (l.map fun v => ({ lane := lane, ev := v } : Item)) ++ s.agenda }
/-- An entry saves a context on some bay: mode 2 its own, mode 1 the one that it displaces (R210). -/
def State.savesCtx (s : State) (e : PlanEntry) (asid : Nat) : Bool :=
  (e.mode == 2 && (match s.ctxOf e.ctxid with | some c => c.asid == asid | none => false))
    || (e.mode == 1 && (rectBays e.rect).any fun b =>
      match s.bctx b e.index.toNat with | some x => x.asid == asid | none => false)
/-- A context that an entry activates is being saved elsewhere at its timestamp: a save runs, an entry that saves it has stopped
its bays, or one of an earlier or the same timestamp is due (R422). -/
def State.savedElsewhere (s : State) (e : PlanEntry) (asid : Nat) : Bool :=
  s.savingCtx asid
    || s.agenda.any (fun t => match t.ev with | .planStep x _ _ => x != e && s.savesCtx x asid | _ => false)
    || s.front.plan.any fun x => x != e && decide (x.time.toNat ≤ e.time.toNat) && s.savesCtx x asid
/-- The context that an entry activates is activated, on all of the entry's bays: it neither ends nor is being saved elsewhere
(R422). -/
def State.planGo (s : State) (e : PlanEntry) : Bool :=
  e.mode == 2 || match s.ctxOf e.ctxid with | some c => !s.savedElsewhere e c.asid | none => false
/-- An entry acts on one bay after its stop, in the order of the entries' timestamps there (R210, R211); one whose context is
not activated leaves the bay without an active context (R422). -/
def State.planStep (s : State) (e : PlanEntry) (b : Nat) (go : Bool) : State :=
  let (evs, saved, run) := match s.ctxOf e.ctxid with
    | some c => if (s.bay b).fenced then ([], none, none) else s.planAct e c b
    | none => ([], none, none)
  let due := if go then run else none
  let evs := if !go && e.mode == 0 then [] else evs
  let s1 := s.modBay b fun x => { x with halts := x.halts - 1, due := due, incoming := none }
  let s2 := match saved with | some a => s1.beginSave e b a | none => s1
  let s3 := s2.postFronts (lanePlan b) evs
  let s4 := match s.ctxOf e.ctxid with | some c => s3.joinRestored c.asid | none => s3
  let left := s4.agenda.any fun t => match t.ev with | .planStep x _ _ => x == e | _ => false
  if left then s4 else { s4 with front := { s4.front with saving := s4.front.saving.filter fun p => p.1 != e } }
/-- A plan entry at its timestamp (R210, R211, R419): every bay of its rectangle stops, and acts when it is captured.  Entries
that touch one bay are applied in timestamp order.  An entry accepted before its partition held a contract is dropped: the
front end alone produces the plan there (R214; log entry 54). -/
def State.planEntry (s : State) (e : PlanEntry) : State :=
  if s.now < e.time.toNat || s.planBefore e then s.wait
  else
    let s1 := { s with front := { s.front with plan := s.front.plan.filter (· != e) } }
    if s1.contractPart s1.chip.toNat e then s1
    else (rectBays e.rect).foldl (fun (t : State) b =>
      if (t.bay b).fenced then t
      else (((t.stopBay b).modBay b fun x => { x with halts := x.halts + 1, incoming := none }).post (lanePlan b)
        (.stateCapture b)).post (lanePlan b) (.planStep e b (s1.planGo e))) s1
/-- The timestamp of an entry, or its step on one bay. -/
def planOp (s : State) : Out :=
  match s.ev with
  | .planEntryActivate e => .next (s.planEntry e)
  | .planEntryRestore e => .next (s.planEntry e)
  | .planEntrySave e => .next (s.planEntry e)
  | .planStep e b go => .next (s.planStep e b go)
  | _ => .next s
/-- PLAN_ENTRY_ACTIVATE: mode 0, a resident context becomes active (R210). -/
def execPlanEntryActivate (s : State) : Out := planOp s
/-- PLAN_ENTRY_RESTORE: mode 1, a saved context is restored in place of a resident one (R210). -/
def execPlanEntryRestore (s : State) : Out := planOp s
/-- PLAN_ENTRY_SAVE: mode 2, the active context is saved and none is active (R210). -/
def execPlanEntrySave (s : State) : Out := planOp s
/-- The event of an accepted entry. -/
def planEv (e : PlanEntry) : Ev :=
  if e.mode = 0 then .planEntryActivate e else if e.mode = 1 then .planEntryRestore e else .planEntrySave e

/-! ### Contracts (R213 to R218) -/

/-- The contracts that touch a bay of a package (R216). -/
def State.contractsOn (s : State) (chip b : Nat) : List Contract :=
  s.ctxs.filterMap fun p => match p.2.contract with
    | some (k, r) => if s.inBox p.2.pkgs chip && inRect r b then some k else none
    | none => none
/-- The time up to which a contract's budget of this period must be given (R213). -/
def Contract.due (k : Contract) : Nat := k.t0 + (k.begun - 1) * k.p * 1000 + k.d * 1000
/-- The contract has budget left in the period that runs. -/
def Contract.wants (k : Contract) : Bool := k.begun != 0 && decide (k.spent < k.c * 1000)
/-- The contracts that want time, by deadline; of equal deadlines the spec prefers none, and the model takes the first in the
table of contexts (R214; log entry 64). -/
def byDeadline : List (Nat × Contract × BitVec 26) → List (Nat × Contract × BitVec 26)
  | [] => []
  | x :: r => put x (byDeadline r)
where
  /-- One more, at its place. -/
  put (x : Nat × Contract × BitVec 26) : List (Nat × Contract × BitVec 26) → List (Nat × Contract × BitVec 26)
    | [] => [x]
    | y :: r => if x.2.1.due ≤ y.2.1.due then x :: y :: r else y :: put x r
/-- The contexts that have the time of this package now (R213, R214): earliest deadline first, each on its whole launch rectangle,
which no earlier one touches. -/
def State.edf (s : State) : List (Nat × BitVec 26) :=
  let l := s.ctxs.filterMap fun p => match p.2.contract with
    | some (k, r) => if k.wants && s.inBox p.2.pkgs s.chip.toNat then some (p.1, k, r) else none
    | none => none
  (byDeadline l).foldl (fun (m : List (Nat × BitVec 26)) x => if m.any (fun y => rectMeet y.2 x.2.2) then m else m ++ [(x.1, x.2.2)]) []
/-- The bay lies in a partition that holds a contract (R214). -/
def State.contractBay (s : State) (b : Nat) : Bool := s.ctxs.any fun p => p.2.contract.isSome && s.inPart p.1 b
/-- The resident best-effort contexts of a bay, by index (R214). -/
def State.bestEffort (s : State) (b : Nat) : List Nat :=
  (s.bay b).ctxs.filterMap fun p =>
    if decide (p.1 < 4) && (match s.ctx p.2.asid with | some c => c.ended.isNone && c.contract.isNone | none => false)
    then some p.1 else none
/-- The best-effort index whose turn it is, with the time that it has had: the next one, round-robin in index order, when a
turn of BEQ is over (R202, R214). -/
def State.beTurn (s : State) (b : Nat) : Option (Nat × Nat) :=
  let l := s.bestEffort b
  let (i, used) := (s.bay b).turn
  let q := match (s.bctx b i).bind fun c => s.ctx c.asid with | some c => c.beq * 1000 | none => 0
  if l.contains i && decide (used < q) then some (i, used)
  else
    match l.find? fun j => decide (i < j) with
    | some j => some (j, 0)
    | none => l.head?.map fun j => (j, 0)
/-- The key whose turn it is on a bay: a contract's context, else a best-effort one (R214). -/
def State.turn (s : State) (b : Nat) : Option Nat :=
  match s.edf.find? fun x => inRect x.2 b with
  | some (a, _) => s.keyOf b a
  | none => (s.beTurn b).map Prod.fst
/-- A switch is under way on the bay. -/
def State.switching (s : State) (b : Nat) : Bool := s.agenda.any fun t => t.lane == lanePlan b
/-- The bay goes over to a context (R210, R215), unless it is being saved elsewhere (R422): a saved one is restored at a free index.  Where there is none the spec does
not say which context makes room, nor whether it comes back: the model saves the first best-effort context of the bay, and
leaves it saved (R214; log entry 64). -/
def State.switchTo (s : State) (b i : Nat) : State :=
  let to_ := match s.bctx b i with | some c => c.asid | none => 0
  let s1 := ((s.stopBay b).post (lanePlan b) (.stateCapture b)).modBay b fun x => { x with due := some to_ }
  if s.savingCtx to_ then s.stopBay b
  else if i < 4 then s1.post (lanePlan b) (.residentSwitchComplete b i)
  else
    let asid := i - 4
    match (List.range 4).find? fun j => (s.bctx b j).isNone with
    | some j => s1.post (lanePlan b) (.restoreComplete b asid j)
    | none =>
      match (s.bestEffort b).head? with
      | some j =>
        let old := match s.bctx b j with | some c => c.asid | none => 0
        let e : PlanEntry := { time := s.time.count, rect := 0, ctxid := 0, mode := 1, index := BitVec.ofNat 2 j }
        let s2 := s1.beginSave e b old
        (({ s2 with front := { s2.front with saving := s1.front.saving } }).post (lanePlan b) (.saveComplete b old)).post
          (lanePlan b) (.restoreComplete b asid j)
      | none => s1
/-- The bay of a contract partition follows its turn (R214); a bay that has no context to run stops. -/
def State.takeTurn (s : State) (b : Nat) : State :=
  if s.switching b || (s.bay b).fenced then s
  else
    let s1 := match s.beTurn b with | some t => s.modBay b fun x => { x with turn := t } | none => s
    match s.turn b with
    | some i => if s.activeAt b i then s1 else s1.switchTo b i
    | none => if (s.bay b).active.isSome then s1.stopBay b else s1
/-- The front end gives the time on the bays of a rectangle that lie in a partition with a contract (R214). -/
def State.turns (s : State) (part : BitVec 26) : State :=
  let next := fun (t : State) (b : Nat) =>
    if t.agenda.any fun x => x.ev == .bestEffortQuantumExpiry b then t else t.postFree (.bestEffortQuantumExpiry b)
  let bays := (s.bays.map Prod.fst).filter fun b => inRect part b && s.contractBay b
  bays.foldl next (bays.foldl (fun (t : State) b => t.takeTurn b) s)
/-- CONTRACT_PERIOD_START: a period of the contract begins, with its whole budget, and the front end gives the time on every
bay of the partition (R213, R214, R217). -/
def execContractPeriodStart (s : State) : Out :=
  match s.ev with
  | .contractPeriodStart asid =>
    match (s.ctx asid).bind fun c => c.contract.map fun k => (k.1, c.rect) with
    | none => .next s
    | some (k, part) =>
      if s.now < k.t0 + k.begun * k.p * 1000 then .next s.wait
      else
        let s1 := s.modCtx asid fun c => { c with launch := c.launch.map fun l => { l with
          contract := l.contract.map fun x => { x with begun := x.begun + 1, spent := 0 } } }
        .next ((s1.turns part).postFree (.contractPeriodStart asid))
  | _ => .next s
/-- BEST_EFFORT_QUANTUM_EXPIRY: a budget or a quantum is over on a bay of a contract partition, and the next context has
its turn (R214, R217).  The spec does not say what a bay does that the last contract leaves without an active context: in the
model it waits for the next plan entry (log entry 64). -/
def execBestEffortQuantumExpiry (s : State) : Out :=
  match s.ev with
  | .bestEffortQuantumExpiry b => if s.contractBay b then .next (s.takeTurn b).wait else .next s
  | _ => .next s

end Sys2Proof.Machine
end

