-- ==== Sys2Proof/Machine/Switch.lean ====
section
/-!
DEFINITION. The Ridge switches: forwarding, detours, links and ports, the rebuilding of group trees and the time tree
(spec/11_fabric.md R331 to R349).
-/
namespace Sys2Proof.Machine

/-! ### Ports (R331, R337, R348) -/

/-- A port. -/
def State.port (s : State) (k : Nat) : FPort := tget .init s.ports k
/-- The state with a port changed. -/
def State.modPort (s : State) (k : Nat) (f : FPort → FPort) : State := { s with ports := tset s.ports k (f (s.port k)) }
/-- The chip at the other end of a port, where there is one (R329, R331). -/
def State.neighbour (s : State) (k : Nat) : Option Nat :=
  let (a, b, c, d) := chipPos s.chip.toNat
  let (na, nb, nc, nd) := s.dims
  match k with
  | 0 => some (chipOf ((a + 1) % na) b c d)
  | 1 => some (chipOf ((a + na - 1) % na) b c d)
  | 2 => if c + 1 < nc then some (chipOf a b (c + 1) d) else none
  | 3 => if 0 < c then some (chipOf a b (c - 1) d) else none
  | 4 => some (chipOf a ((b + 1) % nb) c d)
  | 5 => some (chipOf a ((b + nb - 1) % nb) c d)
  | 6 => if d + 1 < nd then some (chipOf a b c (d + 1)) else none
  | 7 => if 0 < d then some (chipOf a b c (d - 1)) else none
  | _ => none
/-- The link of a port can carry a packet: ACTIVE, and not in the table of failed links, in which 8 stands for a whole
package (R339, R348; log entry 24). -/
def State.usablePort (s : State) (k : Nat) : Bool :=
  (s.port k).st == .active && !s.failed.contains (s.chip.toNat, k) &&
    (match s.neighbour k with
      | some n => !s.failed.contains (n, otherEnd k) && !s.failed.contains (n, 8)
      | none => true)
/-- Free flits of each channel downstream where the port has sent nothing: the 64 KiB buffer in nine parts (R337; log
entry 24). -/
def portCredits : Nat := 113
/-- The channel of a class: 0 ADP, 1 ESC0, 2 ESC1 (R337).  A packet in transit with CLS 3, which no switch checks (R336) and which has no
channel of its own in R337, takes channels 9 to 11, with credits of their own (DESIGN CHOICE, log entry 24). -/
def chanKey (cls k : Nat) : Nat := cls * 3 + k
/-- Free flits of a channel. -/
def FPort.credit (p : FPort) (c : Nat) : Nat := tget portCredits p.credits c
/-- The link acknowledges the oldest packets that it sent (R333; log entry 24). -/
def FPort.linkAck (p : FPort) (n : Nat) : FPort := { p with sent := p.sent.drop n }
/-- Flits of a channel that the other end has passed on are free again, up to all of the channel's; each channel gets its own
back (R337; log entry 24). -/
def FPort.regain (p : FPort) (c n : Nat) : FPort :=
  { p with credits := tset p.credits c (p.credit c + n % (portCredits + 1 - p.credit c)) }
/-- A packet goes out on a channel of a port (R341). -/
def FPort.send (p : FPort) (c : Nat) (x : Packet) : FPort :=
  { p with credits := tset p.credits c (p.credit c - (x.len + 1)), sent := p.sent ++ [(c, x)] }

/-! ### Routing (R338, R339) -/

/-- The minimal ports of this package toward a chip (R338). -/
def State.minimalPorts (s : State) (dst : Nat) : List Nat := s.portsFrom s.chip.toNat dst
/-- The link of a port crosses the wrap of its ring (R338). -/
def State.wraps (s : State) (k : Nat) : Bool :=
  let (a, b, _, _) := chipPos s.chip.toNat
  (k == 0 && a + 1 == s.dims.1) || (k == 1 && a == 0) || (k == 4 && b + 1 == s.dims.2.1) || (k == 5 && b == 0)
/-- The port of the first dimension, in the order A, B, C, D, that has an offset, and whether its link crosses the wrap
of its ring (R338 escape channel). -/
def State.escapePort (s : State) (dst : Nat) : Option (Nat × Bool) := (s.minimalPorts dst).head?.map fun k => (k, s.wraps k)
/-- The port of a group packet's edge, where this package sends it to its parent or a child: the tree's own (R343), or the one that
the edge has been led along (R349). -/
def State.edgePort (s : State) (p : Packet) : Option Nat :=
  if (p.opc = 0x30 ∨ p.opc = 0x31 ∨ p.opc = 0x32) ∧ p.src = s.chip.toNat then
    (tfind s.groups (State.groupKey p.asid p.addr.toNat)).bind fun g => tfind g.edges p.dst
  else none
/-- Of usable minimal ports, the one with most free credits in ADP for the class; the first on a tie (R338). -/
def State.bestPort (s : State) (cls : Nat) : List Nat → Option Nat
  | [] => none
  | k :: r =>
    match State.bestPort s cls r with
    | some j => if (s.port k).credit (chanKey cls 0) < (s.port j).credit (chanKey cls 0) then some j else some k
    | none => some k
/-- The port of a detour (R339 items 1 and 2): one hop in C, or else in D.  Between the ends of a line the direction is +, and the
other is not tried before D, since item 1 gives it only at the end (DESIGN CHOICE, log entry 24). -/
def State.detourPort (s : State) : Option Nat :=
  let (_, _, c, d) := chipPos s.chip.toNat
  let kc := portFor 2 (decide (c + 1 < s.dims.2.2.1))
  let kd := portFor 3 (decide (d + 1 < s.dims.2.2.2))
  if s.dims.2.2.1 ≠ 1 ∧ s.usablePort kc = true then some kc
  else if s.dims.2.2.2 ≠ 1 ∧ s.usablePort kd = true then some kd
  else none
/-- The packet with DET set (R334, R339). -/
def detoured (p : Packet) : Packet := { p with hdr := p.hdr ||| (1#512 <<< 58) }
/-- The edges of a group's entry, those whose link has failed led along a detour where there is one (R339, R349). -/
def State.rebuilt (s : State) (e : Group) : Group :=
  { e with edges := (s.edgePorts e.parent e.children).map fun x => (x.1, if s.usablePort x.2 then x.2 else s.detourPort.getD x.2) }
/-- The event of a packet's arrival at this package, by its opcode (R335); none where the opcode is not listed. -/
def arrivalEv (p : Packet) : Option Ev :=
  match p.opc with
  | 0x01 => some (.put p) | 0x02 => some (.puti p) | 0x03 => some (.getq p) | 0x04 => some (.getr p)
  | 0x05 => some (.sig p) | 0x06 => some (.amo p) | 0x07 => some (.amor p) | 0x08 => some (.spawn p)
  | 0x09 => some (.pld p) | 0x0A => some (.pst p) | 0x0B => some (.pamo p) | 0x10 => some (.crq p)
  | 0x11 => some (.cdata p) | 0x12 => some (.cdone p) | 0x13 => some (.cstop p)
  | 0x20 => some (if bits p.o2 1 0 = 3 then .ackResynchronised p else if bits p.o2 1 0 = 2 then .ackResynchronise p
      else .ackAnswer p)
  | 0x21 => some (.refuse p) | 0x30 => some (.bup p) | 0x31 => some (.bdown p) | 0x32 => some (.gack p)
  | 0x38 => some (.tsync p)
  | _ => none
/-- A packet of this package has left it (R371): its command may be complete, and a remote-page store or no-return atomic
is accepted (R143). -/
def State.departed (s : State) (p : Packet) : State :=
  if p.src ≠ s.chip.toNat ∨ isSequenced p.opc = false then s
  else
    match (s.sender p.dst).unack.find? fun x => x.1 == p.seq with
    | some (_, x) =>
      match x.own with
      | .cmd b asid q =>
        (s.modAct b asid q fun a => { a with sent := a.sent.filter (· != (p.dst, p.seq.toNat)) }).fabCheck b asid q
      | .acc u rid _ _ =>
        (match s.access u rid with
          | some a =>
            if p.opc = 10 ∨ (p.opc = 11 ∧ 16 ≤ bits p.o0 36 32) then s.answer (stationEnd 33) a.bay (.accessAccepted u rid)
            else s
          | none => s)
      | _ => s
    | none => s
/-- The channel of its class that a packet sits in at this package's ingress, or had when its link failed: none for one that starts
here. -/
def chanOf (h : Hop) : Option Nat :=
  match h.inp with | some x => some (x.2 % 3) | none => if h.esc = 0 then none else some h.esc
/-- The escape channel of a packet's next hop (R338): ESC1 where the hop crosses the wrap of its ring, and from then on. -/
def escapeOf (h : Hop) (wrap : Bool) : Nat := if wrap || chanOf h == some 2 then 2 else 1
/-- The packet is on the adaptive channel, or starts here (R338). -/
def adaptive (h : Hop) : Bool := match chanOf h with | some c => c == 0 | none => true
/-- The minimal ports that R338 allows a packet: on an escape channel only the one in dimension order. -/
def State.allowedPorts (s : State) (p : Packet) (h : Hop) : List Nat :=
  if adaptive h then s.minimalPorts p.dst else ((s.escapePort p.dst).map Prod.fst).toList
/-- The escape hop of a packet: in strict dimension order (R338), which a tree edge is by itself (R343), or on the port of its
detour (R339; log entry 24). -/
def State.escapeHopOf (s : State) (k : Nat) (p : Packet) (det : Bool) : Option (Nat × Bool) :=
  if det then some (k, false)
  else match s.edgePort p with
    | some j => some (j, s.wraps j)
    | none => s.escapePort p.dst
/-- The port and channel on which a packet leaves, if a channel that it may take has credits for the whole of it (R338,
R341): ADP on the port chosen, unless it is on an escape channel already, and otherwise an escape channel, which a packet
without ADP credits takes as soon as it has credits there (R338 says that it may: DESIGN CHOICE, log entry 24). -/
def State.route (s : State) (k : Nat) (p : Packet) (h : Hop) (det : Bool) : Option (Nat × Nat) :=
  if adaptive h && decide (p.len + 1 ≤ (s.port k).credit (chanKey p.cls 0)) then some (k, chanKey p.cls 0)
  else
    match s.escapeHopOf k p det with
    | some (j, wrap) =>
      let c := chanKey p.cls (escapeOf h wrap)
      if s.usablePort j && decide (p.len + 1 ≤ (s.port j).credit c) then some (j, c) else none
    | none => none
/-- A packet waits at the switch until the table of failed links changes (R339 item 5). -/
def State.holdPacket (s : State) (p : Packet) (h : Hop) : State := { s with held := s.held ++ [(p, h)] }
/-- The packets in the ingress buffer of a port's channel (R337). -/
def State.ingress (s : State) (k c : Nat) : List Packet :=
  (s.agenda.filterMap fun t => match t.ev with | .packetForward p h => if h.inp = some (k, c) then some p else none | _ => none)
    ++ s.held.filterMap fun x => if x.2.inp = some (k, c) then some x.1 else none
/-- The switch of a port (R331). -/
def switchOfPort (k : Nat) : Nat := if k < 4 then 0 else 1
/-- What the link of a port has acknowledged by now, and the flits of each channel of a class that are free again: how much is
a free choice (R333, R337; log entry 24). -/
def State.linkNews (s : State) (k cls : Nat) : State :=
  (List.range 3).foldl (fun (t : State) j => (t.modPort k fun x => x.regain (chanKey cls j) t.freeNat).spend)
    (s.modPort k fun x => x.linkAck (s.freeNat % (x.sent.length + 1))).spend
/-- A packet has left the ingress buffer of its port, which counts its flits as received (R457; log entry 35). -/
def State.taken (s : State) (p : Packet) (h : Hop) : State :=
  match h.inp with | some (k, _) => s.tally (32 + k) .received (p.len + 1) | none => s
/-- A packet leaves on a port toward which it is routed, with DET set where that hop is a detour (R339), over the internal
channel where the port belongs to the other switch (R331); without credits it waits where it is (R341). -/
def State.forwardOn (s : State) (k : Nat) (p : Packet) (h : Hop) (det : Bool) : State :=
  let s1 := s.linkNews k p.cls
  let s2 := match s.escapeHopOf k p det with | some (j, _) => if j = k then s1 else s1.linkNews j p.cls | none => s1
  match s2.route k p h det with
  | none => s2.post s.lane s.ev
  | some (j, c) =>
    if switchOfPort j ≠ h.sw then s.postFree (.packetForward p { h with sw := switchOfPort j })
    else
      let s3 := (s2.modPort j fun x => x.send c (if det then detoured p else p)).tally (32 + j) .sent (p.len + 1)
      ((if det then s3.tally (32 + j) .detoured 1 else s3).taken p h).departed p
/-- PACKET_FORWARD: a switch of this package delivers a packet, sends it on, detours it, holds it, or discards one whose
target is no package (R331, R336, R338, R339, R341).  A packet along a tree edge goes on that edge's port alone, and is held while
its link is lost, until management leads the edge along a detour (R343, R349). -/
def execPacketForward (s : State) : Out :=
  match s.ev with
  | .packetForward p h =>
    if p.dst = s.chip.toNat then
      let s1 := (s.taken p h).departed p
      match arrivalEv p with
      | some e => .next (s1.postFree e)
      | none => .next (if p.intact then s1.malformed p else s1)
    else if !s.chipOk p.dst then
      .next (((s.taken p h).logEvent 3 p.hdr.toNat).control p.src 0x21 (requester p) 0 9 (p.seq.setWidth 64) p.addr)
    else
      match s.edgePort p, s.bestPort p.cls ((s.allowedPorts p h).filter s.usablePort) with
      | some k, _ =>
        .next (if s.usablePort k then s.forwardOn k p h (s.neighbour k != some p.dst) else s.holdPacket p h)
      | none, some k => .next (s.forwardOn k p h false)
      | none, none =>
        if p.det then .next (s.holdPacket p h)
        else
          match s.detourPort with
          | some k => .next (s.forwardOn k p h true)
          | none => .next (s.holdPacket p h)
  | _ => .next s

/-! ### Links (R333, R348, R349) -/

/-- The packets that wait at the switch are routed again, since the table has changed (R339 item 5). -/
def State.release (s : State) : State :=
  s.held.foldl (fun t x => t.postFree (.packetForward x.1 x.2)) { s with held := [] }
/-- The packets of a port are routed again, from its switch; one that was on an escape channel stays on it (R338, R349). -/
def State.reinject (s : State) (k : Nat) (l : List (Nat × Packet)) : State :=
  l.foldl (fun t x => t.postFree (.packetForward x.2 { sw := switchOfPort k, inp := none, esc := x.1 % 3 })) s
/-- A port leaves ACTIVE (R349): the link joins the table of failed links, what the link had not acknowledged is routed
again, and management rebuilds the tree edges that cross it. -/
def State.linkLost (s : State) (k : Nat) (st : PortSt) : State :=
  let l := (s.port k).sent
  let s1 := { s.modPort k fun x => { x with st := st, sent := [], credits := [], replays := [] } with
    failed := (s.chip.toNat, k) :: s.failed.filter (· != (s.chip.toNat, k)) }
  let s2 := (s1.reinject k l).release
  match s.neighbour k with
  | some n =>
    (s.groups.filter fun g => g.2.parent == some n || g.2.children.contains n).foldl
      (fun t g => t.postFree (.groupTreeRebuild (g.1 / 4096) (g.1 % 4096) none)) s2
  | none => s2
/-- The link of a port carries traffic again, and so the package at its other end does (R339, R348). -/
def State.linkBack (s : State) (k : Nat) : State :=
  let far := match s.neighbour k with | some n => [(n, otherEnd k), (n, 8)] | none => []
  State.release { s with failed := s.failed.filter fun f => f != (s.chip.toNat, k) && !far.contains f }
/-- A port has a package at its other end (R329, R331): without one it is DOWN (R348). -/
def State.hasPartner (s : State) (k : Nat) : Bool := (s.neighbour k).isSome
/-- A port begins to train (R348): it is DOWN at once where it has no partner, and otherwise how its training ends is a free
choice: at 32, 16 or 8 lanes, at the full or the base rate, or not at all. -/
def State.train (s : State) (k : Nat) : State :=
  if !s.hasPartner k then s.modPort k fun x => { x with st := .down }
  else
    let w := s.freeNat
    let s1 := s.spend.modPort k fun x => { x with st := .retrain, since := s.now }
    if w % 4 = 0 then s1.postFree (.portDown k)
    else s1.postFree (.portTrained k (if w % 4 = 1 then 32 else if w % 4 = 2 then 16 else 8) (w / 4 % 2 == 0))
/-- The 10 ms in which a port must train are over (R348). -/
def State.trainOver (s : State) (k : Nat) : Bool := decide ((s.port k).since + 10000000 ≤ s.now)
/-- FLIT_REPLAY: a flit is sent again (R333); more than 64 in 1 ms retrain the port (R348). -/
def execFlitReplay (s : State) : Out :=
  match s.ev with
  | .flitReplay k =>
    if (s.port k).st ≠ .active then .next s
    else
      let l := ((s.port k).replays.filter fun t => decide (s.now < t + 1000000)) ++ [s.now]
      let s1 := (s.modPort k fun x => { x with replays := l }).tally (32 + k) .replayed 1
      .next (if 64 < l.length then s1.postFree (.portRetrain k) else s1)
  | _ => .next s
/-- PORT_RETRAIN: an ACTIVE port retrains in place (R348, R349). -/
def execPortRetrain (s : State) : Out :=
  match s.ev with
  | .portRetrain k => if (s.port k).st = .active then .next ((s.linkLost k .retrain).train k) else .next s
  | _ => .next s
/-- PORT_TRAINED: a port that trains is ACTIVE (R332, R348); one that has not trained within 10 ms is DOWN. -/
def execPortTrained (s : State) : Out :=
  match s.ev with
  | .portTrained k lanes full =>
    if (s.port k).st ≠ .retrain then .next s
    else if s.trainOver k then .next (s.modPort k fun x => { x with st := .down })
    else .next ((s.modPort k fun x => { x with st := .active, lanes := lanes, fullRate := full }).linkBack k)
  | _ => .next s
/-- PORT_DOWN: a port that has not trained at 8 lanes within 10 ms is DOWN (R348, R349). -/
def execPortDown (s : State) : Out :=
  match s.ev with
  | .portDown k =>
    if (s.port k).st = .fenced then .next s
    else if (s.port k).st = .active then .next (s.linkLost k .down)
    else if (s.port k).st = .retrain ∧ s.trainOver k = false then .next s.wait
    else .next (s.modPort k fun x => { x with st := .down })
  | _ => .next s
/-- LINK_PARTNER_ARRIVAL: a port that was DOWN for lack of a partner trains (R332, R348). -/
def execLinkPartnerArrival (s : State) : Out :=
  match s.ev with
  | .linkPartnerArrival k =>
    if (s.port k).st = .down then .next (s.train k) else .next s
  | _ => .next s

/-! ### The time base (R346, R347) -/

/-- Nanoseconds between TSYNC exchanges (R346). -/
def tsyncEvery : Nat := 10000
/-- TSYNC_INTERVAL: the package asks its parent in the time tree (R346). -/
def execTsyncInterval (s : State) : Out :=
  match s.ev with
  | .tsyncInterval =>
    if s.now < s.time.nextSync then .next s.wait
    else
      let s1 := { s with time := { s.time with nextSync := s.now + tsyncEvery } }.postFree .tsyncInterval
      if s.time.isRoot then .next s1
      else
        .next (s1.emit (s1.packet s.time.parent 0x38 { rqchip := s.chip.toNat, job := 0, asid := 0 } 0 0 0
          s.time.count 0 []).seal)
  | _ => .next s
/-- The rate correction for an offset in nanoseconds (R346): what would make it up until the next exchange, at most 100 ppm
(log entry 25). -/
def rateFor (offset : Int) : Int := max (-100) (min 100 (offset * 100))
/-- An answer of the parent (R346): the round trip gives the delay of the link, half of it, and the offset of the package's own
count; the count itself never steps. -/
def TimeSt.measure (t : TimeSt) (asked parent : Nat) : TimeSt :=
  let now : Int := t.count.toNat
  let delay := (now - asked) / 2
  let offset := (parent : Int) + delay - now
  { t with delay := delay, offset := offset, rate := rateFor offset }
/-- No valid TSYNC packet has come for 1 ms (R347). -/
def State.unheard (s : State) : Bool := decide (s.time.lastValid + 1000000 ≤ s.now)
/-- The package becomes unlocked, and logs it, once no valid TSYNC has come for 1 ms (R347). -/
def State.unlock (s : State) : State :=
  if s.time.locked && s.unheard then { s with time := { s.time with locked := false } }.logEvent 4 0 else s
/-- A valid TSYNC packet has come from the parent (R347): since when they have come without a gap of 1 ms. -/
def TimeSt.heed (t : TimeSt) : TimeSt :=
  let now := t.count.toNat
  { t with lastValid := now, heard := true,
           validSince := if !t.heard ∨ t.lastValid + 1000000 ≤ now then now else t.validSince }
/-- TSYNC: a request is answered with the package's count; an answer from the parent keeps the package aligned (R346) and
counts for the lock (R347; log entry 12 for the fields). -/
def execTsync (s : State) : Out :=
  match s.ev with
  | .tsync p =>
    .next (s.arriving p fun s =>
      if !p.o0.getLsbD 0 then
        s.emit (s.packet p.src 0x38 (requester p) 0 0 1 p.o1 s.time.count []).seal
      else if s.time.isRoot || p.src != s.time.parent then s
      else
        let u := s.unlock
        let s1 := { u with time := (u.time.measure p.o1.toNat p.o2.toNat).heed }
        let s2 := if s1.agenda.any fun i => i.ev == .timeUnlock then s1 else s1.postFree .timeUnlock
        if s2.time.locked || s2.agenda.any (fun i => i.ev == .timeLock) then s2 else s2.postFree .timeLock)
  | _ => .next s
/-- TIME_LOCK: valid TSYNC packets have come continuously for 1 s (R347); a package that replaces another is used for contexts from
then on (R464 item 4). -/
def execTimeLock (s : State) : Out :=
  match s.ev with
  | .timeLock =>
    if !s.time.heard || s.unheard then .next s
    else if s.now < s.time.validSince + 1000000000 then .next s.wait
    else .next ({ s with time := { s.time with locked := true }, mgmt := { s.mgmt with joining := false } }.logEvent 4 1)
  | _ => .next s
/-- TIME_UNLOCK: no valid TSYNC has come for 1 ms (R347). -/
def execTimeUnlock (s : State) : Out :=
  match s.ev with
  | .timeUnlock =>
    if s.unheard then .next s.unlock else .next s.wait
  | _ => .next s

end Sys2Proof.Machine
end

