-- ==== Sys2Proof/Machine/FrontEnd.lean ====
section
/-!
DEFINITION. The front end (spec/15_front_end.md R434 to R442, R447, R448): its registers, the command queues, the chain and
its capabilities, and the packets CONTEXT-CREATE, CONTEXT-DESTROY, WINDOW-OPEN, CISTERN-ARM, SIGNAL and INVALIDATE.
-/
namespace Sys2Proof.Machine

/-! ### Status (R440) -/

/-- Why a packet is refused: its status, RESULT, and the failed admission condition of a launch (R440, R446). -/
structure Bad where
  status : Nat
  result : Nat
  cond : Nat
  deriving DecidableEq, Repr
/-- A status with no result. -/
def refusal (status : Nat) : Bad := { status := status, result := 0, cond := 0 }
/-- RANGE with the byte offset of R440. -/
def rangeAt (off : Nat) : Bad := { status := 0x23, result := off, cond := 0 }
/-- The first failure of checks in their order (R440). -/
def firstBad : List (Bool × Bad) → Option Bad
  | [] => none
  | (b, x) :: r => if b then some x else firstBad r
/-- The bits of a doubleword outside hi to lo, of which some is set. -/
def outside (v : Word) (hi lo : Nat) : Bool := v.toNat != bits v hi lo * 2 ^ lo

/-! ### The chain and its capabilities (R436 to R438, R447) -/

/-- The reserved bits of a rectangle are zero, and its KIND is not the reserved one (R225, R440 RSVD). -/
def rectPlain (r : BitVec 26) : Bool := rectResv r && rectKind r != 3
/-- The pointer words of IND, each 8-aligned in the arena (R437): the block, or CAP. -/
def State.follow (s : State) (q : Nat) : Nat → Nat → Option Nat
  | 0, a => some a
  | n + 1, a => if s.inArena q a 8 8 then State.follow s q n (s.readD (compKey a)).toNat else none
/-- Bytes of a command block by packet type (R439). -/
def blockLen (type : Nat) : Nat :=
  match type with
  | 1 => 0xA8 | 2 => 0x20 | 3 => 0x60 | 4 => 0x60 | 5 => 0x60 | 6 => 0x30 | 7 => 0x80 | 8 => 0x30 | 9 => 0x30
  | _ => 0x20
/-- The sub-blocks that a block names, each as pointer and length (R438, R441, R443, R445). -/
def State.subs (s : State) (h : HostPkt) (type : Nat) : List (Nat × Nat) :=
  let d := s.blkD h
  if type = 1 then
    [((d 0x78).toNat, bits (d 0x80) 15 0 * 16), ((d 0x88).toNat, bits (d 0x90) 12 0 * 64),
     ((d 0x98).toNat, bits (d 0xA0) 12 0 * 64)].filter fun p => p.2 != 0
  else if type = 3 then [((d 0x38).toNat, 16)]
  else if type = 8 then [((d 0x20).toNat, bits (d 0x28) 15 0 * 32)]
  else []
/-- The chain of a packet (R438, R440 item 1, R447): TYPE, DEPTH or CAP, found as its words are read.  R447 wants a pointer aligned and
gives no number for sub-blocks and tables: the model wants 8 bytes (DESIGN CHOICE, log entry 49). -/
def State.chainBad (s : State) (h : HostPkt) (type ind : Nat) : Option Bad :=
  let subs := s.subs h type
  firstBad
    [(!(s.inArena h.queue h.blk (blockLen type) 64), refusal 0x10),
     (decide (4 < ind + 1 + subs.length), refusal 0x11),
     (subs.any fun p => !s.inArena h.queue p.1 p.2 8, refusal 0x10),
     (type == 3 && !s.inArena h.queue (s.blkD h 0x48).toNat 64 64, refusal 0x10),
     (s.blkD h 8 != 0 && !s.inArena h.queue (s.blkD h 8).toNat 8 8, refusal 0x10)]
/-- The reserved fields of a packet and of a block's header are zero (R437, R439). -/
def State.headResv (s : State) (p0 : Word) (h : HostPkt) : Bool :=
  bits p0 63 32 == 0 && bits p0 15 11 == 0 && bits (s.blkD h 0) 15 8 == 0 && bits (s.blkD h 0x18) 63 32 == 0
/-- The event of a packet type. -/
def typeEv (type : Nat) (h : HostPkt) : Option Ev :=
  match type with
  | 1 => some (.contextCreate h) | 2 => some (.contextDestroy h) | 3 => some (.launch h) | 4 => some (.windowOpen h)
  | 5 => some (.cisternArm h) | 6 => some (.signal h) | 7 => some (.copy h) | 8 => some (.switchPlan h)
  | 9 => some (.invalidate h)
  | _ => none
/-- A packet of a launch carries its refusal in a completion record as well (R216, R446). -/
def State.refuseTyped (s : State) (h : HostPkt) (type : Nat) (x : Bad) : State :=
  if type = 3 ∧ s.inArena h.queue (s.blkD h 0x48).toNat 64 64 = true then
    let (rec, t) := s.refusedRecord h (s.ctxOf ((s.blkD h 0x18).setWidth 32)) x.status x.cond
    t.completeLaunch h x.status x.result rec
  else s.complete h x.status x.result
/-- A launch of the context is running, or begins already (R186). -/
def State.launchBusy (s : State) (h : HostPkt) : Bool :=
  let id : BitVec 32 := (s.blkD h 0x18).setWidth 32
  (match s.ctxOf id with | some c => c.launch.isSome | none => false)
  || s.agenda.any fun t => match t.ev with | .launch g => g != h && (s.blkD g 0x18).setWidth 32 == id | _ => false
/-- The front end takes the packet at HEAD: HEAD moves on, and the packet is open in its queue (R436, R438). -/
def State.takePacket (s : State) (q : Nat) (u : HQueue) : State :=
  (s.modQueue q fun x => { x with head := x.head + 1, open_ := x.open_ + 1 }).writeDs (compKey (u.base + 8))
    [(u.head + 1).setWidth 64]
/-- The package may be used for contexts: its life cycle has left MANUFACTURE (R454; log entry 56), and one that replaces another has
locked (R464 item 4; log entry 85). -/
def State.takesContexts (s : State) : Bool := decide (2 ≤ s.mgmt.lc) && !s.mgmt.joining
/-- The packet at HEAD begins: its chain is followed and checked, and it goes to its handler or is refused (R437 to R440,
R447); none where it is a LAUNCH that waits for another (R186), or a CONTEXT-CREATE for a package that takes none yet (R454, R464). -/
def State.beginPacket (s : State) (q : Nat) (u : HQueue) : Option State :=
  let a := u.base + 64 + u.head.toNat % 2 ^ u.logSlots * 16
  let p0 := s.readD (compKey a)
  let type := bits p0 7 0
  let ind := bits p0 10 9
  let ptr := (s.readD (compKey (a + 8))).toNat
  match s.follow q ind ptr with
  | none => some (((s.takePacket q u).modQueue q fun x => { x with open_ := x.open_ - 1 }).errPush 2 (s.record 2 0 0 0x7FF []))
  | some blk =>
    let h : HostPkt := { queue := q, tag := BitVec.ofNat 16 (bits p0 31 16), blk := blk, num := u.head }
    if !s.inArena q blk 32 1 then
      some (((s.takePacket q u).modQueue q fun x => { x with open_ := x.open_ - 1 }).errPush 2 (s.record 2 0 0 0x7FF []))
    else
      match typeEv type h with
      | none => some ((s.takePacket q u).complete h 0x12 0)
      | some ev =>
        match s.chainBad h type ind with
        | some x => some ((s.takePacket q u).refuseTyped h type x)
        | none =>
          if (type = 3 ∧ s.launchBusy h = true) ∨ (type = 1 ∧ s.takesContexts = false) then none
          else if !s.headResv p0 h then some ((s.takePacket q u).refuseTyped h type (refusal 0x13))
          else some ((s.takePacket q u).postFree ev)
/-- A queue has no packet that the front end has not taken (R438). -/
def State.queueEmpty (s : State) (u : HQueue) : Bool := (s.readD (compKey u.base)).setWidth 32 == u.head
/-- What the queue's turn brings (R437, R438): the packet at HEAD begins; none where it cannot begin yet, a FENCE packet
while an earlier one of the queue is open among them. -/
def State.serveQueue (s : State) (q : Nat) (u : HQueue) : Option State :=
  let p0 := s.readD (compKey (u.base + 64 + u.head.toNat % 2 ^ u.logSlots * 16))
  if p0.getLsbD 8 && u.open_ != 0 then none else s.beginPacket q u
/-- Turns from the queue served last to a queue, round-robin among 64 (R438). -/
def State.turnOf (s : State) (q : Nat) : Nat := (q + 63 - s.front.served % 64) % 64
/-- Another queue whose doorbell was rung, with a packet that can begin, has its turn before this one (R438). -/
def State.notYet (s : State) (q : Nat) : Bool :=
  s.agenda.any fun t => match t.ev with
    | .dbell p => decide (s.turnOf p < s.turnOf q) && (match tfind s.front.queues p with
        | some u => !s.queueEmpty u && (s.serveQueue p u).isSome
        | none => false)
    | _ => false
/-- DBELL: the front end reads a queue's TAIL and serves one packet when the queue has its turn; while HEAD and TAIL differ
it comes back to the queue (R435, R438). -/
def execDbell (s : State) : Out :=
  match s.ev with
  | .dbell q =>
    match tfind s.front.queues q with
    | none => .next s
    | some u =>
      if !s.mgmt.ready || s.mgmt.updating.isSome then .next s.wait
      else if s.queueEmpty u then .next s
      else if s.notYet q then .next s.wait
      else
        match s.serveQueue q u with
        | none => .next s.wait
        | some t => .next ({ t with front := { t.front with served := q } }.postFree (.dbell q))
  | _ => .next s

/-! ### Registers and the host's accesses (R434, R435, R449) -/

/-- ERRHEAD_WRITE: the host has read records, and those that wait follow (R435, R449). -/
def execErrheadWrite (s : State) : Out :=
  match s.ev with
  | .errheadWrite v => .next ({ s with front := { s.front with errHead := v } }).flush
  | _ => .next s
/-- REGISTER_WRITE: the register page (R435); other offsets ignore writes. -/
def execRegisterWrite (s : State) : Out :=
  match s.ev with
  | .registerWrite off v =>
    .next (if off = 0 then s.postFree (.dbell (bits v 5 0))
      else if off = 0x10 then ({ s with front := { s.front with errBase := v } }).flush
      else if off = 0x18 then ({ s with front := { s.front with errCfg := v &&& 0xF00000000#64 } }).flush
      else if off = 0x20 then ({ s with front := { s.front with errHead := v } }).flush
      else s)
  | _ => .next s
/-- The package is locked (R347): it has heard its parent for long enough, or is the time root, which has none to hear (DESIGN
CHOICE, log entry 82). -/
def State.locked (s : State) : Bool := s.time.locked || s.time.isRoot
/-- Every package of a list is locked (R347): this one as it knows, another as it reports it (log entry 72). -/
def State.allLocked (s : State) (l : List Nat) : Bool :=
  l.all fun c => if c = s.chip.toNat then s.locked else Config.peerLocked s.tick c
/-- A register of the register page, as the host reads it (R435). -/
def State.frontReg (s : State) (off : Nat) : Word :=
  if off = 8 then
    toW ((if s.mgmt.ready then 2 ^ 63 else 0) + (if s.locked then 2 ^ 62 else 0) + s.chip.toNat)
  else if off = 0x10 then s.front.errBase
  else if off = 0x18 then s.front.errCfg
  else if off = 0x20 then s.front.errHead
  else if off = 0x28 then s.front.errTail
  else if off = 0x30 then s.front.errOvf
  else 0
/-- Bytes that the host writes from a physical address on, each run of them within one 4 KiB block of the address space, which the
interleaved view spreads over the stacks (R135, R434). -/
def State.hostWrite : Nat → State → Nat → List Byte → State
  | 0, s, _, _ => s
  | n + 1, s, a, d =>
    if d.isEmpty then s
    else
      let k := 4096 - a % 4096
      State.hostWrite n (match physKey a with | some key => s.write key (d.take k) | none => s) (a + k) (d.drop k)
/-- HOST_ACCESS: the host reads or writes device or companion memory at a physical address; cisterns do not count it
(R168, R390, R434). -/
def execHostAccess (s : State) : Out :=
  match s.ev with
  | .hostAccess a (some d) => .next (State.hostWrite d.length s a d)
  | _ => .next s

/-! ### Windows (R358, R442) -/

/-- What WINDOW-OPEN and an initial window give (R439): chip, window number, and the entry's doublewords. -/
structure WinReq where
  chip : Word
  num : Word
  e : List Word
  deriving DecidableEq, Repr
/-- Doubleword k of the entry. -/
def WinReq.dw (w : WinReq) (k : Nat) : Word := w.e.getD k 0
/-- A reserved field is set, or KIND is 3 (R442, R358). -/
def WinReq.resv (w : WinReq) : Bool :=
  outside w.chip 21 0 || outside w.num 12 0 || bits (w.dw 1) 63 31 != 0 || bits (w.dw 2) 23 13 != 0 || bits (w.dw 2) 7 2 != 0
    || bits (w.dw 3) 63 25 != 0 || bits (w.dw 2) 1 0 == 3
/-- The entry (R358). -/
def WinReq.win (w : WinReq) : Win :=
  { base := w.dw 0, len := bits (w.dw 1) 30 0, owner := bits (w.dw 2) 63 48, job := BitVec.ofNat 24 (bits (w.dw 2) 47 24),
    rights := BitVec.ofNat 5 (bits (w.dw 2) 12 8), kind := bits (w.dw 2) 1 0, spanf := bits (w.dw 3) 24 13,
    spann := bits (w.dw 3) 12 0 }
/-- The field rules of an open entry at a window number (R358). -/
def winFields (n : Nat) (e : Win) : Bool :=
  decide (64 ≤ e.len) && decide (e.len ≤ 2 ^ 30) && e.len % 64 == 0
    && (if e.kind = 1 then decide (e.base.toNat < 2 ^ 56)
        else decide (e.base.toNat < 2 ^ 32) && decide (e.base.toNat % 2 ^ 21 + e.len ≤ 2 ^ 21))
    && decide (1 ≤ e.spann) && decide (e.spann ≤ 4096) && decide (e.spanf ≤ n) && decide (n < e.spanf + e.spann)
    && decide (e.spanf + e.spann ≤ 4096) && (n + 1 == e.spanf + e.spann || e.len == 2 ^ 30)
/-- The window is one of another package than this. -/
def State.winFar (s : State) (w : WinReq) : Bool := w.chip != s.chip.setWidth 64
/-- The key of an entry of another package that this front end has opened. -/
def farKey (chip : Word) (n : Nat) : Nat := chip.toNat * 4096 + n
/-- Who has an entry open on the chip that a request names: on another package as far as this front end has opened it. -/
def State.winOwner (s : State) (w : WinReq) (n : Nat) : Option Nat :=
  if s.winFar w then tfind s.front.farWins (farKey w.chip n)
  else if (s.window n).kind = 0 then none else some (s.window n).owner
/-- Another package has the entry in use for a context that this front end knows nothing of, or has none free: a free choice
(R442; log entry 86). -/
def State.winElse (s : State) (w : WinReq) : Bool := s.winFar w && s.freeNat / 2 ^ 32 % 2 == 1
/-- The window number that a request takes: its own, or any free one, a free choice (R439). -/
def State.winNum (s : State) (w : WinReq) : Option Nat :=
  if w.num.getLsbD 12 then
    let free := (List.range 4096).filter fun k => s.winOwner w k == none
    if free.isEmpty || s.winElse w then none else free[s.freeNat % free.length]?
  else some (bits w.num 11 0)
/-- The checks of a window for a context, after RSVD, and the window number (R442, R440). -/
def State.winCheck (s : State) (c : Ctx) (w : WinReq) (offChip offNum : Nat) : Except Bad Nat :=
  if !s.inBox c.pkgs w.chip.toNat then .error (rangeAt offChip)
  else if w.num.getLsbD 12 && bits w.num 11 0 != 0 then .error (rangeAt offNum)
  else
    match s.winNum w with
    | none => .error (refusal 0x1E)
    | some n =>
      let e := w.win
      let taken := match s.winOwner w n with | some a => a != c.asid | none => !w.num.getLsbD 12 && s.winElse w
      if e.owner ≠ c.asid ∨ taken = true ∨ (e.kind ≠ 0 ∧ winFields n e = false) then .error (refusal 0x1E)
      else .ok n
/-- The entry is written on its chip (R442); KIND 0 closes it.  Of another package this one keeps who has the entry. -/
def State.winWrite (s : State) (w : WinReq) (n : Nat) : State :=
  if s.winFar w then
    let k := farKey w.chip n
    { s.spend with front := { s.front with
        farWins := if w.win.kind = 0 then tdel s.front.farWins k else tset s.front.farWins k w.win.owner } }
  else { s.spend with windows := if w.win.kind = 0 then tdel s.windows n else tset s.windows n w.win }
/-- WINDOW_OPEN (R439, R442). -/
def execWindowOpen (s : State) : Out :=
  match s.ev with
  | .windowOpen h =>
    let w : WinReq := { chip := s.blkD h 0x20, num := s.blkD h 0x28, e := s.readDs (compKey (h.blk + 0x40)) 4 }
    if w.resv || s.blkD h 0x30 != 0 || s.blkD h 0x38 != 0 then .next (s.complete h 0x13 0)
    else
      match s.ctxOf ((s.blkD h 0x18).setWidth 32) with
      | none => .next (s.complete h 0x14 0)
      | some c =>
        match s.winCheck c w 0x20 0x28 with
        | .error x => .next (s.complete h x.status x.result)
        | .ok n => .next ((s.winWrite w n).complete h 1 n)
  | _ => .next s

/-! ### CONTEXT-CREATE (R441) -/

/-- A box of packages as a block gives it: per dimension the start and the extent minus 1 (R441). -/
def boxOf (v : Word) : Box :=
  let d := fun (k : Nat) => (bits v (16 * k + 8) (16 * k), bits v (16 * k + 12) (16 * k + 9) + 1)
  { a := d 0, b := d 1, c := d 2, d := d 3 }
/-- The bits of a box that its layout does not use are zero. -/
def boxResv (v : Word) : Bool := (v &&& 0xE000E000E000E000#64) == 0
/-- The limits of R330 on a box of packages; the A and B ranges may cross the wrap point. -/
def State.boxOk (s : State) (x : Box) : Bool :=
  decide (x.c.1 + x.c.2 ≤ s.dims.2.2.1)
    && decide (x.d.1 + x.d.2 ≤ s.dims.2.2.2) && decide (x.a.2 ≤ 16) && decide (x.b.2 ≤ 16)
/-- Every package of box y lies in box x. -/
def State.boxIn (s : State) (y x : Box) : Bool := (s.boxChips y).all fun c => s.inBox x c
/-- Some package would hold more than 16,384 group entries with those of new groups: over the contexts that this package knows and
the groups that only its own entries are of (R343, R464; log entry 71). -/
def State.groupsOver (s : State) (new : List Box) : Bool :=
  let given := s.groups.filter fun p => ((s.ctx (p.1 / 4096)).bind fun c => c.groups[p.1 % 4096]?).isNone
  let all := (s.ctxs.flatMap fun p => if p.2.closed then [] else p.2.groups) ++ (given.map fun p => p.2.box) ++ new
  decide (16384 < all.length) && (new.flatMap s.treeChips).any fun c =>
    decide (16384 < (all.filter fun x => (s.treeChips x).contains c).length)
/-- The records of a table, n of them, each of k doublewords. -/
def State.table (s : State) (ptr k n : Nat) : List (List Word) :=
  (List.range n).map fun j => s.readDs (compKey (ptr + 8 * k * j)) k
/-- The tables of a CONTEXT-CREATE: spawn targets, groups, initial windows (R441). -/
def State.createTables (s : State) (h : HostPkt) : List (List Word) × List (List Word) × List WinReq :=
  (s.table (s.blkD h 0x78).toNat 2 (bits (s.blkD h 0x80) 15 0), s.table (s.blkD h 0x88).toNat 8 (bits (s.blkD h 0x90) 12 0),
   (s.table (s.blkD h 0x98).toNat 8 (bits (s.blkD h 0xA0) 12 0)).map fun l =>
     { chip := l.getD 0 0, num := l.getD 1 0, e := l.drop 4 })
/-- A reserved field of a CONTEXT-CREATE is set (R440, R441). -/
def State.createResv (s : State) (h : HostPkt) : Bool :=
  let d := s.blkD h
  let (ts, gs, ws) := s.createTables h
  outside (d 0x20) 39 0 || !boxResv (d 0x30) || !boxResv (d 0x38) || outside (d 0x40) 25 0
    || !rectPlain ((d 0x40).setWidth 26) || bits (d 0x58) 63 45 != 0 || bits (d 0x68) 63 39 != 0 || bits (d 0x70) 63 49 != 0
    || outside (d 0x80) 15 0 || outside (d 0x90) 12 0 || outside (d 0xA0) 12 0
    || ts.any (fun l => bits (l.getD 1 0) 63 16 != 0 || bits (l.getD 1 0) 7 2 != 0)
    || gs.any (fun l => !boxResv (l.getD 0 0) || (l.drop 1).any (· != 0)) || ws.any WinReq.resv
    || (s.table (s.blkD h 0x98).toNat 8 (bits (d 0xA0) 12 0)).any fun l => l.getD 2 0 != 0 || l.getD 3 0 != 0
/-- The fields of a CONTEXT-CREATE in their order, but for the initial windows (R440, R441).  No field is refused because the
die cisterns of several contexts sum up beyond the 4,096 entries of R386 (log entry 83). -/
def State.createBad (s : State) (h : HostPkt) : Option Bad :=
  let d := s.blkD h
  let asid := bits (d 0x20) 15 0
  let dom := boxOf (d 0x30)
  let pkgs := boxOf (d 0x38)
  let k := bits (d 0x68) 4 0
  let high := bits (d 0x68) 21 5
  let low := bits (d 0x68) 38 22
  let evict := bits (d 0x70) 31 0
  let beq := bits (d 0x70) 48 32
  let (ts, gs, _) := s.createTables h
  let boxes := gs.map fun l => boxOf (l.getD 0 0)
  firstBad
    [(asid == 0 || (s.ctx asid).isSome, refusal 0x20),
     ((d 0x28).toNat % 2 ^ 20 != 0 || decide (2 ^ 44 ≤ (d 0x28).toNat), rangeAt 0x28),
     (!s.boxOk dom || (s.boxOk pkgs && !s.boxIn pkgs dom), refusal 0x19),
     (!s.boxOk pkgs, rangeAt 0x38),
     (!rectOk ((d 0x40).setWidth 26), refusal 0x16),
     ((d 0x48).toNat % 4 != 0, rangeAt 0x48),
     ((d 0x50).toNat % 4 != 0, rangeAt 0x50),
     (decide (10000000 < bits (d 0x58) 31 0) || decide (4096 < bits (d 0x58) 44 32), rangeAt 0x58),
     (!isTranslated (d 0x60) || (d 0x60).toNat % 4096 != 0, refusal 0x18),
     (decide (k < 6) || decide (16 < k) || high == 0 || decide (2 ^ k < high) || decide (high ≤ low), refusal 0x18),
     ((evict != 0 && decide (evict < 1024)) || decide (beq < 100) || decide (100000 < beq), refusal 0x18),
     (ts.any fun l => decide (6 < bits (l.getD 1 0) 15 8), rangeAt 0x78),
     (boxes.any fun x => !(s.boxOk x && s.boxIn x pkgs), rangeAt 0x88),
     (s.groupsOver boxes, refusal 0x1A),
     (decide (4096 < bits (d 0x90) 12 0), rangeAt 0x90)]
/-- The spawn-target table (R173, R388): the records with flag bit 1, in their order; an entry address that is no multiple of
4 is taken without its low two bits (R38; log entry 65). -/
def targetsOf (ts : List (List Word)) : List Target :=
  (ts.filter fun l => (l.getD 1 0).getLsbD 1).map fun l =>
    { entry := l.getD 0 0 &&& ~~~3#64, pri := BitVec.ofNat 3 (bits (l.getD 1 0) 15 8) }
/-- The context that a CONTEXT-CREATE names (R441). -/
def State.newCtx (s : State) (h : HostPkt) : Ctx :=
  let d := s.blkD h
  let (ts, gs, _) := s.createTables h
  { ctxid := s.front.nextCtx, asid := bits (d 0x20) 15 0, job := BitVec.ofNat 24 (bits (d 0x20) 39 16), root := d 0x28,
    domain := boxOf (d 0x30), pkgs := boxOf (d 0x38), rect := (d 0x40).setWidth 26, hentry := d 0x48, fentry := d 0x50,
    wdw := bits (d 0x58) 31 0, dcq := bits (d 0x58) 44 32, cellarVa := d 0x60, capK := bits (d 0x68) 4 0,
    high := bits (d 0x68) 21 5, low := bits (d 0x68) 38 22, evict := bits (d 0x70) 31 0, beq := bits (d 0x70) 48 32,
    targets := targetsOf ts,
    groups := gs.map fun l => boxOf (l.getD 0 0), live := 0, launch := none, lseq := 0, ended := none, endTime := 0,
    closed := false, silence := 0, backlog := [], slice := [], gen := 0 }
/-- The initial windows of a context, checked and written one after another (R442). -/
def State.openAll (s : State) (c : Ctx) : List WinReq → Except Bad State
  | [] => .ok s
  | w :: r =>
    match s.winCheck c w 0x98 0x98 with
    | .error x => .error x
    | .ok n => State.openAll (s.winWrite w n) c r
/-- The group entries of a context on this package (R343). -/
def State.openGroups (s : State) (asid g : Nat) : List Box → State
  | [] => s
  | x :: r =>
    match s.groupEntry x [] .init with
    | some e => State.openGroups { s with groups := tset s.groups (State.groupKey asid g) (s.rebuilt e) } asid (g + 1) r
    | none => State.openGroups s asid (g + 1) r
/-- CONTEXT_CREATE: the body is checked in table order, then windows, groups and spawn tables are built and a CTXID is
given (R441). -/
def execContextCreate (s : State) : Out :=
  match s.ev with
  | .contextCreate h =>
    if s.createResv h then .next (s.complete h 0x13 0)
    else if (s.blkD h 0x18).setWidth 32 ≠ (0 : BitVec 32) then .next (s.complete h 0x23 0x18)
    else
      match s.createBad h with
      | some x => .next (s.complete h x.status x.result)
      | none =>
        let c := s.newCtx h
        match s.openAll c (s.createTables h).2.2 with
        | .error x => .next (s.complete h x.status x.result)
        | .ok t =>
          if 4096 < bits (s.blkD h 0xA0) 12 0 then .next (s.complete h 0x23 0xA0)
          else
            let t1 := t.openGroups c.asid 0 c.groups
            .next ({ t1 with
              ctxs := tset t1.ctxs c.asid c
              front := { t1.front with nextCtx := if c.ctxid + 1 = 0 then 1 else c.ctxid + 1 } }.complete h 1 c.ctxid.toNat)
  | _ => .next s
/-- CONTEXT_DESTROY: the context ends with reason HOST unless it has another already, and once it has ended its CTXID and
ASID are free (R442). -/
def execContextDestroy (s : State) : Out :=
  match s.ev with
  | .contextDestroy h =>
    match (s.ctxs.map Prod.snd).find? fun c => c.ctxid == (s.blkD h 0x18).setWidth 32 with
    | none => .next (s.complete h 0x14 0)
    | some c =>
      if c.closed then .next ({ s with ctxs := tdel s.ctxs c.asid }.complete h 1 0)
      else if c.ended.isSome then .next s.wait
      else .next (s.endCtx c.asid .host 0x7FF []).wait
  | _ => .next s

/-! ### CISTERN-ARM, SIGNAL, INVALIDATE (R439, R448) -/

/-- The handle checks of R387 that a handle of another package of the partition meets here: the partition's rectangle is the same on
each (R441). -/
def handleFar (c : Ctx) (h : Word) : Bool :=
  let u := handleUnit h
  bits h 17 0 == 0 && (if u < 2048 then decide (u < 1536) && inRect c.rect u && decide (handleIndex h ≤ 63)
    else decide (u - 2048 ≤ 7))
/-- The target of a cistern of another package is one that its unit cannot take, as far as the context says: TBAY outside the
partition, or an index beyond the spawn-target table (R399 TARGET). -/
def targetFar (c : Ctx) (e : Cist) : Bool := !inRect c.rect e.tbay || (e.act == 2 && decide (c.targets.length ≤ e.actx))
/-- What the unit of another package may answer to CISTERN-ARM, as status and RESULT: an index beyond a die's share is QUOTA; otherwise
done, unless its target is refused for certain, or what depends on its own state: a fenced bay, a saved image that does not verify,
and the reasons of R399 that can arise for its kind and mode (R448; log entry 86). -/
def farAnswers (c : Ctx) (a : Word) (e : Cist) : List (Nat × Nat) :=
  let u := handleUnit a
  if 2048 ≤ u ∧ dieShare c (u - 2048) ≤ handleIndex a then [(0x21, 3)]
  else (if targetFar c e then [] else [(1, 0)]) ++ (if u < 2048 then [(0x23, 0x20), (0x14, 0), (0x21, 3)] else [])
    ++ [(0x21, 2), (0x21, 6)] ++ (if e.sig then [] else (if u < 2048 then [(0x21, 4)] else []) ++ [(0x21, 5)])
/-- Another package answers to CISTERN-ARM: which of what may be is the other package's (R448; log entry 86). -/
def State.farArm (s : State) (h : HostPkt) (c : Ctx) (a : Word) (e : Cist) : State :=
  let l := farAnswers c a e
  match l[Config.peerAnswer s.tick (bits a 63 42) % l.length]? with
  | some x => s.complete h x.1 x.2
  | none => s.complete h 0x21 6
/-- What another package answers to a SIGNAL for a bay in the partition: done, or RECT, QUOTA or NOCTX by its own state (R448; log
entry 86). -/
def State.farSignal (s : State) (h : HostPkt) (chip : Nat) : State :=
  let r := Config.peerAnswer s.tick chip % 4
  s.complete h (if r = 0 then 1 else if r = 1 then 0x16 else if r = 2 then 0x15 else 0x14) 0
/-- CISTERN_ARM: as CARM on the cistern's own package (R387, R389, R399, R448); where a saved image holds the entry and its page does
not verify, the context has ended, and the status is NOCTX (R425; log entry 67). -/
def execCisternArm (s : State) : Out :=
  match s.ev with
  | .cisternArm h =>
    let a := s.blkD h 0x20
    let desc := s.readDs (compKey (h.blk + 0x40)) 4
    if bits a 17 0 != 0 || s.blkD h 0x28 != 0 || s.blkD h 0x30 != 0 || s.blkD h 0x38 != 0
        || bits (desc.getD 0 0) 59 56 != 0 || bits (desc.getD 2 0) 49 41 != 0 then .next (s.complete h 0x13 0)
    else
      match s.ctxOf ((s.blkD h 0x18).setWidth 32) with
      | none => .next (s.complete h 0x14 0)
      | some c =>
        let far := bits a 63 42 != s.chip.toNat && s.inBox c.pkgs (bits a 63 42)
        if !(if far then handleFar c a else handleFor s c.asid a) then .next (s.complete h 0x23 0x20)
        else if !descOk (handleUnit a) { Cist.init with desc := desc } then .next (s.complete h 0x21 1)
        else if far then .next (s.farArm h c a { Cist.init with desc := desc })
        else
          match s.mayCist c.asid (handleUnit a) with
          | (t, false) => .next (t.complete h 0x14 0)
          | (s, true) =>
            let (t, r) := s.cistArm c.asid a desc
            .next (if r = 0 then t.complete h 1 0 else s.complete h 0x21 r)
  | _ => .next s
/-- SIGNAL: a post without the window check (R195, R360, R448).  One that a saved image refuses has ended its context, and
reports NOCTX (R425; log entry 67). -/
def execSignal (s : State) : Out :=
  match s.ev with
  | .signal h =>
    let a := s.blkD h 0x20
    let n := s.blkD h 0x28
    if bits a 20 0 != 0 || outside n 23 0 then .next (s.complete h 0x13 0)
    else
      match s.ctxOf ((s.blkD h 0x18).setWidth 32) with
      | none => .next (s.complete h 0x14 0)
      | some c =>
        let b := bits a 41 31
        if !s.inBox c.pkgs (bits a 63 42) then .next (s.complete h 0x23 0x20)
        else if bits a 63 42 ≠ s.chip.toNat then
          .next (if decide (b < 1536) && inRect c.rect b then s.farSignal h (bits a 63 42) else s.complete h 0x16 0)
        else if !s.usable c.asid b then .next (s.complete h 0x16 0)
        else if (match (s.keyOf b c.asid).bind fun i => s.bctx b i with
            | some x => decide (x.quota.sems ≤ bits a 30 21) | none => true) then .next (s.complete h 0x15 0)
        else
          match s.tryPost b c.asid (bits a 30 21) (bits n 23 0) with
          | (t, true) => .next (t.complete h 1 0)
          | (t, false) => .next (t.complete h 0x14 0)
  | _ => .next s
/-- INVALIDATE: every eave station has dropped the range (R137, R442). -/
def execInvalidate (s : State) : Out :=
  match s.ev with
  | .invalidate h =>
    match s.ctxOf ((s.blkD h 0x18).setWidth 32) with
    | none => .next (s.complete h 0x14 0)
    | some c =>
      let va := (s.blkD h 0x20).toNat
      let n := (s.blkD h 0x28).toNat
      if va % 65536 ≠ 0 then .next (s.complete h 0x23 0x20)
      else if n % 65536 ≠ 0 then .next (s.complete h 0x23 0x28)
      else
        let hit := fun (t : Tlb) => t.asid == c.asid && decide (0 < overlap va n (t.va * 2 ^ t.bits) (2 ^ t.bits))
        .next ({ s with tlb := s.tlb.map fun (p : Nat × List Tlb) => (p.1, p.2.filter fun t => !hit t) }.complete h 1 0)
  | _ => .next s

end Sys2Proof.Machine
end

