-- ==== Sys2Proof/Machine/GroupTree.lean ====
section
/-!
DEFINITION. The rebuilding of a group's tree (spec/11_fabric.md R349, spec/12_fabric_engine.md R377,
spec/07_barriers_gutters.md R233).
-/
namespace Sys2Proof.Machine

/-- The commands that have acknowledgements here look again at what they wait for in the rebuilt tree; what has been passed up
to a parent that is no longer the entry's own is passed up again (R377; log entry 77). -/
def State.regather (s : State) (asid g : Nat) (moved : Bool) : List Gather → State
  | [] => s
  | x :: r =>
    State.regather (match tfind s.groups (State.groupKey asid g) with
      | some e => s.gathered e asid g (if x.up && moved then { x with up := false, again := true } else x)
      | none => s) asid g moved r
/-- The entry of a group that this package holds, or that of a context here whose tree has not led through it so far (R343). -/
def State.entryOf (s : State) (asid g : Nat) : Option Group :=
  match tfind s.groups (State.groupKey asid g) with
  | some e => some e
  | none => ((s.ctx asid).bind fun c => c.groups[g]?).map fun x =>
    { Group.init with sent := none, box := x, lost := (s.failed.filter fun f => f.2 == 8).map Prod.fst }
/-- An entry takes its place in the tree without a lost package (R349, R377): the arrivals of the sources that it keeps count as
before, also those of counts that were passed up and have no completion yet, which are passed up again once they are full in the
new tree; the parent drops what it has counted already (log entries 69 and 77). -/
def State.replant (s : State) (asid g : Nat) (e e' : Group) : State :=
  let mine := e'.sources s.chip.toNat
  let again := e.gone.flatMap fun q => (e.sources s.chip.toNat).map fun c => { src := c, serial := q.1, phase := q.2 : Arrival }
  let came := (again ++ e.came).filter fun a => mine.contains a.src
  let sent := match e.gone.head? with | some q => some (q.1 - 1) | none => e.sent
  { s with groups := tset s.groups (State.groupKey asid g) { e' with came := came, sent := sent, gone := [] } }.settle asid g
    came.length
/-- A group's tree is rebuilt without a lost package: what the package lacks here counts as failed, and where it was a member, a
barrier that waits for it ends the context (R233, R349, R377). -/
def State.dropLost (s : State) (asid g m : Nat) (e : Group) : State :=
  let lost := if e.lost.contains m then e.lost else m :: e.lost
  let s1 := match s.groupEntry e.box lost e with
    | some e' => State.regather (s.replant asid g e (s.rebuilt e')) asid g (e'.parent != e.parent) e.acks
    | none => { s with groups := tdel s.groups (State.groupKey asid g) }
  match e.pending with
  | some phase => if (s.ctx asid).isSome && s.inBox e.box m then s1.endCtx asid .group 0x7FF (groupSection g phase (toW m)) else s1
  | none => s1
/-- GROUP_TREE_REBUILD: management has led an edge of a group's tree along another route, and what was held at its ends
goes on; or it rebuilds the tree without a lost package, which joins the table of what has failed (R233, R349, R377). -/
def execGroupTreeRebuild (s : State) : Out :=
  match s.ev with
  | .groupTreeRebuild asid g none =>
    let k := State.groupKey asid g
    match tfind s.groups k with
    | none => .next s
    | some e =>
      let mine := fun (x : Packet × Hop) =>
        (x.1.opc == 0x30 || x.1.opc == 0x31 || x.1.opc == 0x32) && x.1.asid == asid && x.1.addr.toNat == g
      .next ((s.held.filter mine).foldl (fun t x => t.postFree (.packetForward x.1 x.2))
        { s with held := s.held.filter fun x => !mine x, groups := tset s.groups k (s.rebuilt e) })
  | .groupTreeRebuild asid g (some m) =>
    match s.entryOf asid g with
    | none => .next s
    | some e =>
      .next (if s.failed.contains (m, 8) then s.dropLost asid g m e
        else ({ s with failed := (m, 8) :: s.failed }.dropLost asid g m e).release)
  | _ => .next s

end Sys2Proof.Machine
end

