-- ==== Sys2Proof/Machine/Launching.lean ====
section
/-!
DEFINITION. LAUNCH with its checks and contracts (spec/15_front_end.md R443, R444, spec/01_engines.md R30,
spec/06_scheduler.md R213 to R216, spec/07_barriers_gutters.md R222), and SWITCH-PLAN (spec/15_front_end.md R445).
-/
namespace Sys2Proof.Machine

/-! ### The body of a LAUNCH (R443) -/

/-- Field k of a quota sub-block: units of row k of R30. -/
def quotaField (q : Word × Word) (k : Nat) : Nat := bits (if k < 4 then q.1 else q.2) (16 * (k % 4) + 15) (16 * (k % 4))
/-- The quotas in the units of their names (R30, R443). -/
def quotaOf (q : Word × Word) : Quota :=
  { slots := 16 * quotaField q 0, scratch := 65536 * quotaField q 1, sems := 64 * quotaField q 2, chans := quotaField q 3,
    cists := quotaField q 4, vctxs := quotaField q 5, tiles := 8 * quotaField q 6, wbuf := 16384 * quotaField q 7 }
/-- The quotas as a list, in the order of R30. -/
def Quota.list (q : Quota) : List Nat := [q.slots, q.scratch, q.sems, q.chans, q.cists, q.vctxs, q.tiles, q.wbuf]
/-- A bay's totals (R30). -/
def bayTotals : List Nat := wholeQuota.list
  where wholeQuota : Quota :=
    { slots := 256, scratch := 2 ^ 21, sems := 1024, chans := 48, cists := 64, vctxs := 8, tiles := 64, wbuf := 2 ^ 18 }
/-- The quotas stay within the totals and reach the minima (R30). -/
def Quota.ok (q : Quota) : Bool :=
  (q.list.zip bayTotals).all (fun p => decide (p.1 ≤ p.2)) && decide (16 ≤ q.slots) && decide (64 ≤ q.sems)
/-- What a LAUNCH asks for. -/
structure LaunchReq where
  entry : Word
  arg : Word
  rect : BitVec 26
  pri : BitVec 3
  fibres : Nat
  quota : Quota
  contract : Word
  image : Word
  imageLen : Nat
  deriving DecidableEq, Repr
/-- The body of a LAUNCH (R443). -/
def State.launchReq (s : State) (h : HostPkt) : LaunchReq :=
  let d := s.blkD h
  let qp := (d 0x38).toNat
  { entry := d 0x20, arg := d 0x28, rect := (d 0x30).setWidth 26, pri := BitVec.ofNat 3 (bits (d 0x30) 34 32),
    fibres := bits (d 0x30) 55 40 + 1, quota := quotaOf (s.readD (compKey qp), s.readD (compKey (qp + 8))),
    contract := d 0x40, image := d 0x50, imageLen := (d 0x58).toNat }
/-- A reserved field of a LAUNCH is set (R443). -/
def State.launchResv (s : State) (h : HostPkt) : Bool :=
  let d := s.blkD h
  bits (d 0x30) 31 26 != 0 || bits (d 0x30) 39 35 != 0 || bits (d 0x30) 63 56 != 0 || !rectPlain ((d 0x30).setWidth 26)
    || bits (d 0x40) 62 60 != 0
/-- The fields of the body in offset order (R444 item 2). -/
def LaunchReq.fieldBad (r : LaunchReq) (c : Ctx) : Option Bad :=
  firstBad
    [(r.entry.toNat % 4 != 0, rangeAt 0x20),
     (!rectOk r.rect || !rectIn r.rect c.rect, refusal 0x16),
     (r.pri == 7, rangeAt 0x30),
     (decide (256 < r.fibres), rangeAt 0x30),
     (!r.quota.ok, refusal 0x15),
     (decide (r.quota.scratch < r.imageLen), refusal 0x15)]
/-- The quotas of a bay's resident contexts together with new ones stay within the totals (R30). -/
def State.quotasFit (s : State) (b : Nat) (q : Quota) : Bool :=
  let l := (s.bay b).ctxs.filter fun p => decide (p.1 < 4)
  let sum := fun (k : Nat) => l.foldl (fun n p => n + p.2.quota.list.getD k 0) (q.list.getD k 0)
  (List.range 8).all fun k => decide (sum k ≤ bayTotals.getD k 0)
/-- The context is resident on the bay, at this index. -/
def State.residentAt (s : State) (b asid : Nat) : Option Nat :=
  match s.keyOf b asid with
  | some i => if i < 4 then some i else none
  | none => none
/-- An index of the bay that no context holds (R29). -/
def State.freeIndex (s : State) (b : Nat) : Option Nat := (List.range 4).find? fun i => (s.bctx b i).isNone
/-- The checks of one bay (R444 item 2). -/
def State.bayBad (s : State) (c : Ctx) (r : LaunchReq) (b : Nat) : Option Bad :=
  if (s.bay b).fenced then some (refusal 0x16)
  else
    match s.residentAt b c.asid with
    | some i =>
      match s.bctx b i with
      | some x => if x.quota ≠ r.quota ∨ x.quota.slots < r.fibres then some (refusal 0x15) else none
      | none => none
    | none =>
      if (s.freeIndex b).isNone then some (refusal 0x1F)
      else if !s.quotasFit b r.quota || decide (r.quota.slots < r.fibres) then some (refusal 0x15)
      else none
/-- The bays of the rectangle in increasing number (R444). -/
def launchBays (r : BitVec 26) : List Nat := (List.range 1536).filter (inRect r)
/-- Physical channels n to n + q - 1 are free on a bay (R222); those of a context that is saved off the bay are not held there
(log entry 70). -/
def State.chansFree (s : State) (b n q : Nat) : Bool :=
  decide (n + q ≤ 48) && (s.bay b).ctxs.all fun p => decide (4 ≤ p.1) || overlap n q p.2.base p.2.quota.chans == 0
/-- The base channel of the context on the bays where it is to be created (R222): the one that it has on other bays where that
range is free there too, or else the lowest that is free on all of them (log entry 70). -/
def State.baseChan (s : State) (c : Ctx) (q : Nat) (bays : List Nat) : Option Nat :=
  let fits := fun (n : Nat) => bays.all fun b => s.chansFree b n q
  let old := match (s.bayCtxs c.asid).head? with | some x => [x.base] | none => []
  if q = 0 then some 0 else (old ++ List.range 48).find? fits

/-! ### Contracts (R213, R215, R216) -/

/-- The switch charge in microseconds (R215). -/
def switchCharge (resident : Bool) (q : Quota) : Nat := if resident then 3 else 3 + (2 * q.bytes + 15999) / 16000
/-- The limits of R213. -/
def contractOk (p c d sc : Nat) : Bool :=
  decide (50 ≤ p) && decide (p ≤ 1000000) && decide (1 ≤ c) && decide (c + sc ≤ d) && decide (d ≤ p)
/-- A sum of fractions, as numerator and denominator. -/
def addFrac (x : Nat × Nat) (n d : Nat) : Nat × Nat := (x.1 * d + n * x.2, x.2 * d)
/-- The first condition of R216 that a contract breaks, over the bays it touches on each of its packages: 1, 2 or 3. -/
def State.admission (s : State) (c : Ctx) (rect : BitVec 26) (k : Contract) : Option Nat :=
  let sum := fun (f : Contract → Nat) (p : Nat × Nat) =>
    (k :: s.contractsOn p.1 p.2).foldl (fun x y => addFrac x (y.c + y.sc) (f y)) (0, 1)
  let bays := (s.boxChips c.pkgs).flatMap fun y => (rectBays rect).map fun b => (y, b)
  if bays.any fun b => let x := sum Contract.p b; decide (92 * x.2 < 100 * x.1) then some 1
  else if bays.any fun b => let x := sum Contract.d b; decide (x.2 < x.1) then some 2
  else if 64 ≤ (s.ctxs.filter fun p => p.2.contract.isSome && p.2.rect == c.rect && p.2.pkgs == c.pkgs).length then some 3
  else none
/-- The contract that a LAUNCH asks for: none, one that is admitted with a start at least 5 µs ahead, or the refusal
(R213, R216, R347, R444 item 3). -/
def State.admit_ (s : State) (c : Ctx) (r : LaunchReq) : Except Bad (Option Contract) :=
  if !r.contract.getLsbD 63 then .ok none
  else
    let p := bits r.contract 19 0
    let b := bits r.contract 39 20
    let d := bits r.contract 59 40
    let sc := switchCharge ((rectBays r.rect).all fun x => (s.residentAt x c.asid).isSome) r.quota
    if decide (1 < (s.boxChips c.pkgs).length) && !s.allLocked (s.boxChips c.pkgs) then .error (refusal 0x1C)
    else if !contractOk p b d sc then .error (refusal 0x1D)
    else
      let k : Contract := { p := p, c := b, d := d, sc := sc, t0 := s.now + 5000 + s.freeNat % 2 ^ 32, begun := 0,
                            overrun := 0, spent := 0 }
      match s.admission c r.rect k with
      | some n => .error { status := 0x1D, result := n, cond := n }
      | none => .ok (some k)

/-! ### The launch (R444 items 4 and 5) -/

/-- The `.local` image, byte by byte, or the fault of its first byte that cannot be read (R128, R444 item 4); a byte on
another chip's page is a free value (log entry 29). -/
def State.readImage (s : State) (b asid : Nat) (a : Word) : Nat → Except Cause (List Byte) × State
  | 0 => (.ok [], s)
  | n + 1 =>
    match s.globalByte b asid a with
    | (.error c, t) => (.error c, t)
    | (.ok x, t) =>
      let (v, t1) := match x with
        | .here v => (v, t)
        | .away _ _ => ((Config.freeWord t.free).setWidth 8, t.spend)
      match State.readImage t1 b asid (a + 1) n with
      | (.ok l, t2) => (.ok (v :: l), t2)
      | r => r
/-- The context is created on a bay: resources zeroed, the image in place (R128, R444 item 4).  Its gutter credits and its
neighbours' match the queues as they are, and pushers that waited for the bay go on (R235). -/
def State.createOn (s : State) (asid base : Nat) (q : Quota) (image : List Byte) (b : Nat) : State :=
  match s.freeIndex b with
  | none => s
  | some i =>
    let s1 := { s with agenda := s.agenda.filter fun t => evPlace t.ev != some (b, 4 + asid) }
    let s2 := (s1.zeroUnits asid (some b)).modBay b fun x =>
      { x with ctxs := tset (tdel x.ctxs (4 + asid)) i (BayCtx.init asid q base) }
    let s3 := s2.write (spadKey asid b 0) image
    [Dir.east, Dir.west].foldl (fun (t : State) d =>
      let x := Sys2Proof.Machine.neighbour b (Sys2Proof.Machine.Dir.opp d)
      let t0 := t.matchCredit b asid d
      let t1 := t0.imaged (t0.matchCredit x asid d) x asid
      match t1.keyOf x asid with
      | some j => t1.gutters x j d
      | none => t1) s3
/-- The launch's fibres on one bay, in slots 0 to F - 1 (R444 item 5). -/
def State.placeFibres (s : State) (asid : Nat) (r : LaunchReq) (b : Nat) : State :=
  match s.residentAt b asid with
  | none => s
  | some i =>
    let put := fun (x : BayCtx) (f : Nat) => x.modSlot f fun z =>
      { z with fib := some (Fibre.start (s.nextId + f) r.entry (toW f) r.pri), resv := false }
    let s1 := s.modC b i fun x => (List.range r.fibres).foldl put { x with launchArg := r.arg }
    { s1 with nextId := s.nextId + r.fibres }
/-- The bay's context issues at once where no other is active, no plan entry has left the bay without one, and the front
end does not give the time there, as it does from the launch of a contract on (R214, R422, R444 item 5). -/
def State.startOn (s : State) (asid b : Nat) : State :=
  match s.residentAt b asid with
  | none => s
  | some i =>
    if (s.bay b).active.isNone && !(s.bay b).parked && !s.contractBay b then s.activate b i else s
/-- A launch starts (R444 items 4 and 5, R185, R186, R429). -/
def State.startLaunch (s : State) (h : HostPkt) (c : Ctx) (r : LaunchReq) (base : Nat) (k : Option Contract)
    (image : List Byte) : State :=
  let bays := if s.inBox c.pkgs s.chip.toNat then launchBays r.rect else []
  let fresh := bays.filter fun b => (s.residentAt b c.asid).isNone
  let s1 := fresh.foldl (fun (t : State) b => t.createOn c.asid base r.quota image b) s
  let s2 := bays.foldl (fun (t : State) b => t.placeFibres c.asid r b) s1
  let n := r.fibres * bays.length
  let parked := (s2.bayCtxs c.asid).foldl (fun m x => m + x.cellar.ring.length) 0
  let s3 := s2.modCtx c.asid fun x => { x with
    live := x.live + n + parked, lseq := x.lseq + 1, silence := 0
    launch := some { pkt := h, rect := r.rect, lseq := x.lseq + 1, tfirst := none, spawned := n, faults := 0, contract := k } }
  let s4 := (s3.places c.asid).foldl (fun (t : State) p => t.reserve p.1 p.2) s3
  let s5 := bays.foldl (fun (t : State) b => t.startOn c.asid b) s4
  let s6 := (s5.turns c.rect).postFree (.launchEnd c.asid)
  if k.isSome then s6.spend.postFree (.contractPeriodStart c.asid) else s6
/-- LAUNCH: it waits for the context's earlier launch, is checked, and starts (R186, R444). -/
def execLaunch (s : State) : Out :=
  match s.ev with
  | .launch h =>
    let refuse := fun (t : State) (x : Bad) => t.refuseTyped h 3 x
    if s.launchResv h then .next (refuse s (refusal 0x13))
    else
      match s.ctxOf ((s.blkD h 0x18).setWidth 32) with
      | none => .next (refuse s (refusal 0x14))
      | some c =>
        if c.launch.isSome then .next s.wait
        else
          let r := s.launchReq h
          let bays := if s.inBox c.pkgs s.chip.toNat then launchBays r.rect else []
          match r.fieldBad c with
          | some x => .next (refuse s x)
          | none =>
            match bays.findSome? (s.bayBad c r) with
            | some x => .next (refuse s x)
            | none =>
              let fresh := bays.filter fun b => (s.residentAt b c.asid).isNone
              match (if fresh.isEmpty then some 0 else s.baseChan c r.quota.chans fresh) with
              | none => .next (refuse s (refusal 0x17))
              | some base =>
                match s.admit_ c r with
                | .error x => .next (refuse s x)
                | .ok k =>
                  let n := if fresh.isEmpty then 0 else r.imageLen
                  match s.readImage (fresh.headD 0) c.asid r.image n with
                  | (.error e, t) => .next (refuse t { status := 0x22, result := causeCode e, cond := 0 })
                  | (.ok image, t) => .next (t.startLaunch h c r base k image)
  | _ => .next s

/-! ### SWITCH-PLAN (R445) -/

/-- An entry of a plan: its doublewords, and the chip that it names. -/
structure PlanReq where
  e : PlanEntry
  chip : Nat
  resv : Bool
  deriving DecidableEq, Repr
/-- An entry of 32 bytes (R445). -/
def planReq (l : List Word) : PlanReq :=
  let d := fun (k : Nat) => l.getD k 0
  { e := { time := d 0, rect := (d 1).setWidth 26, ctxid := (d 2).setWidth 32, mode := BitVec.ofNat 2 (bits (d 3) 1 0),
           index := BitVec.ofNat 2 (bits (d 3) 9 8) }
    chip := bits (d 1) 63 42
    resv := bits (d 1) 41 26 != 0 || !rectPlain ((d 1).setWidth 26) || bits (d 2) 63 32 != 0 || bits (d 3) 7 2 != 0
      || bits (d 3) 63 10 != 0 }
/-- The fields of an entry in offset order (R210, R440, R445). -/
def State.planField (s : State) (x : PlanReq) : Option Bad :=
  match s.ctxOf x.e.ctxid with
  | none => some (if !rectOk x.e.rect then refusal 0x16 else refusal 0x14)
  | some c =>
    firstBad [(!rectOk x.e.rect || !rectIn x.e.rect c.rect, refusal 0x16), (!s.inBox c.pkgs x.chip, rangeAt 0x20),
      (x.e.mode == 3, rangeAt 0x20)]
/-- Who is resident, saved and active on a bay, by ASID. -/
structure Resid where
  res : Tab Nat
  saved : List Nat
  act : Option Nat
  deriving DecidableEq, Repr
/-- An entry's check against the residency of a bay (R445). -/
def Resid.meets (r : Resid) (e : PlanEntry) (asid : Nat) : Bool :=
  if e.mode = 0 then tfind r.res e.index.toNat == some asid
  else if e.mode = 1 then (tfind r.res e.index.toNat).isSome && r.saved.contains asid
  else r.act == some asid
/-- What an entry makes of the residency of a bay (R210). -/
def Resid.apply (r : Resid) (e : PlanEntry) (asid : Nat) : Resid :=
  if !r.meets e asid then { r with act := none }
  else if e.mode = 0 then { r with act := some asid }
  else if e.mode = 1 then
    match tfind r.res e.index.toNat with
    | some o => { res := tset r.res e.index.toNat asid, saved := o :: r.saved.filter (· != asid), act := some asid }
    | none => r
  else { res := r.res.filter fun p => p.2 != asid, saved := asid :: r.saved, act := none }
/-- The residency of a bay now, with what the entries that have stopped it are still to do there. -/
def State.resid (s : State) (b : Nat) : Resid :=
  let l := (s.bay b).ctxs
  let first := match (s.bay b).incoming with | some i => some i | none => (s.bay b).active
  let r : Resid :=
    { res := (l.filter fun p => decide (p.1 < 4)).map fun p => (p.1, p.2.asid)
      saved := (l.filter fun p => decide (4 ≤ p.1)).map fun p => p.2.asid
      act := (first.bind fun i => tfind l i).map BayCtx.asid }
  (s.agenda.filter fun t => t.lane == lanePlan b).foldl (fun (x : Resid) t => match t.ev with
    | .residentSwitchComplete _ i => { x with act := tfind x.res i }
    | .saveComplete _ a => { x with res := x.res.filter fun p => p.2 != a, saved := a :: x.saved, act := none }
    | .restoreComplete _ a i => { res := tset x.res i a, saved := x.saved.filter (· != a),
                                     act := if (s.bay b).due = some a then some a else none }
    | .planStep e _ go => (match s.ctxOf e.ctxid with
        | some c => (let y := x.apply e c.asid; if go then y else { y with act := none })
        | none => { x with act := none })
    | _ => x) r
/-- Puts an entry, marked new or not, in timestamp order. -/
def planInsert (x : PlanEntry × Bool) : List (PlanEntry × Bool) → List (PlanEntry × Bool)
  | [] => [x]
  | y :: r => if x.1.time.toNat < y.1.time.toNat then x :: y :: r else y :: planInsert x r
/-- The new ones among a bay's entries, in timestamp order, all meet the residency that they will see (R445). -/
def State.planWalk (s : State) : Resid → List (PlanEntry × Bool) → Bool
  | _, [] => true
  | r, (e, new) :: l =>
    let asid := match s.ctxOf e.ctxid with | some c => c.asid | none => 0
    (!new || r.meets e asid) && State.planWalk s (r.apply e asid) l
/-- The set meets the residency of every bay it touches (R445). -/
def State.planResid (s : State) (new : List PlanEntry) : Bool :=
  (List.range 1536).all fun b =>
    let mine := new.filter fun e => inRect e.rect b
    mine.isEmpty ||
      (let all := (s.front.plan.filter fun e => inRect e.rect b).map (·, false) ++ mine.map (·, true)
       s.planWalk (s.resid b) (all.foldl (fun l x => planInsert x l) []))
/-- Entries with one timestamp that share a bay of one package (R211); each stands with its chip. -/
def clash : List (Nat × PlanEntry) → Bool
  | [] => false
  | e :: r => r.any (fun x => x.1 == e.1 && x.2.time == e.2.time && rectMeet x.2.rect e.2.rect) || clash r
/-- The checks of the set (R211, R214, R347, R445), all entries together.  Who is resident on another package's bays is that
package's state: its residency check is made there (R445; log entry 66). -/
def State.planBad (s : State) (l : List PlanReq) : Option Bad :=
  let here := (l.filter fun x => x.chip == s.chip.toNat).map PlanReq.e
  let span := l.any fun x => x.chip != (match l with | y :: _ => y.chip | [] => 0)
  firstBad
    [(l.any fun x => decide (x.e.time.toNat < s.now + 5000), refusal 0x1B),
     (clash (l.map (fun x => (x.chip, x.e)) ++ s.front.plan.map (fun e => (s.chip.toNat, e)) ++ s.front.away), refusal 0x1B),
     (l.any fun x => s.contractPart x.chip x.e, refusal 0x1B),
     (span && !s.allLocked (l.map fun x => x.chip), refusal 0x1C),
     (!s.planResid here, refusal 0x1B)]
/-- SWITCH_PLAN: the entries are checked as one set, and each goes to the bays of its rectangle (R211, R445). -/
def execSwitchPlan (s : State) : Out :=
  match s.ev with
  | .switchPlan h =>
    let n := bits (s.blkD h 0x28) 15 0
    let l := (s.table (s.blkD h 0x20).toNat 4 n).map planReq
    if outside (s.blkD h 0x28) 15 0 || l.any PlanReq.resv then .next (s.complete h 0x13 0)
    else if (s.ctxOf ((s.blkD h 0x18).setWidth 32)).isNone then .next (s.complete h 0x14 0)
    else if n = 0 ∨ 4096 < n then .next (s.complete h 0x23 0x28)
    else
      match l.findSome? s.planField with
      | some x => .next (s.complete h x.status x.result)
      | none =>
        match s.planBad l with
        | some x => .next (s.complete h x.status x.result)
        | none =>
          let here := (l.filter fun x => x.chip == s.chip.toNat).map PlanReq.e
          let others := (l.filter fun x => x.chip != s.chip.toNat).map fun x => (x.chip, x.e)
          let s1 := { s with front := { s.front with
            plan := s.front.plan ++ here
            away := (s.front.away.filter fun x => decide (s.now ≤ x.2.time.toNat)) ++ others } }
          .next ((here.foldl (fun (t : State) e => t.postFree (planEv e)) s1).complete h 1 0)
  | _ => .next s

end Sys2Proof.Machine
end

