-- ==== Sys2Proof/Machine/HostCopy.lean ====
section
/-!
DEFINITION. COPY on the front end's copy engine (spec/15_front_end.md R439, R448, spec/09_copy.md R271 to R285).
-/
namespace Sys2Proof.Machine

/-- A COPY packet as a copy command, named by a fresh number. -/
def State.hostCmd (s : State) (h : HostPkt) : Cmd :=
  { op := .cpy 0 0 .rlx .sys, x := 0, y := 0, desc := s.readDs (compKey (h.blk + 0x40)) 8, sem := 0, ord := .rlx,
    scope := .sys, seq := BitVec.ofNat 32 s.nextId, tag := 0, gen := 0, uid := 0, oBay := hostBay, oSlot := 0, remote := false,
    after := [], issued := s.tick }
/-- The COPY packet completes. -/
def State.copyEnd (s : State) (h : HostPkt) (status result : Nat) : State :=
  { s with front := { s.front with copies := s.front.copies.filter fun x => x.1 != h } }.complete h status result
/-- Changes a COPY packet under way. -/
def State.modHost (s : State) (h : HostPkt) (a : CopyAct) : State :=
  { s with front := { s.front with copies := s.front.copies.map fun x => if x.1 = h then (h, a) else x } }
/-- A turn of a COPY packet (R275, R276, R279 to R285), as the copy engines give theirs; one that has met a fault ends once its
remote writes are placed (R283). -/
def State.hostTurn (s : State) (h : HostPkt) (asid : Nat) (a : CopyAct) : State :=
  match a.bad with
  | some (c, _) => if a.wout = 0 then s.copyEnd h 0x22 (causeCode c) else s.postFree (.copy h)
  | none =>
  match s.copyTurn hostBay 0 asid a with
  | .fault c v t => if a.wout = 0 then t.copyEnd h 0x22 (causeCode c) else (t.modHost h { a with bad := some (c, v) }).postFree (.copy h)
  | .again x t => (t.modHost h x).postFree (.copy h)
  | .rest x t => t.modHost h x
  | .done x t =>
    if x.stop < x.cmd.total then
      (t.modHost h { x with next := x.next + 1, rbuf := [], wrote := false }).postFree (.copy h)
    else t.copyEnd h 1 0
/-- COPY: the descriptor is checked, and its beats follow one another; its fault gives FAULT with the cause (R440, R448).  A
reserved field of the block or of the descriptor comes first (R439), and kinds that a COPY has no bay for give RANGE. -/
def execCopy (s : State) : Out :=
  match s.ev with
  | .copy h =>
    match s.front.copies.find? fun x => x.1 == h with
    | some (_, a) =>
      match s.ctxOf ((s.blkD h 0x18).setWidth 32) with
      | none => .next (s.copyEnd h 0x14 0)
      | some c => .next (s.hostTurn h c.asid a)
    | none =>
      let m := s.hostCmd h
      if ([0x20, 0x28, 0x30, 0x38].any fun o => s.blkD h o != 0) || m.reserved then .next (s.complete h 0x13 0)
      else
        match s.ctxOf ((s.blkD h 0x18).setWidth 32) with
        | none => .next (s.complete h 0x14 0)
        | some c =>
          if !(m.sk == 1 || m.sk == 2 || m.sk == 4) || !(m.dk == 1 || m.dk == 2) then .next (s.complete h 0x23 0x50)
          else if m.badWord.isSome then .next (s.complete h 0x22 (causeCode .desc))
          else if (m.badBay s c.asid).isSome then .next (s.complete h 0x22 (causeCode .aperture))
          else if (m.extent s hostBay c.asid).isSome then .next (s.complete h 0x22 (causeCode .quota))
          else
            .next ({ s with
              front := { s.front with copies := s.front.copies ++ [(h, CopyAct.start m)] }
              nextId := s.nextId + 1 }.postFree (.copy h))
  | _ => .next s

end Sys2Proof.Machine
end

