-- ==== Sys2Proof/Machine/Integer.lean ====
section
/-!
DEFINITION. Integer, logical, bit, address and constant instructions (spec/04_sequencer.md R96 to R103) and the
completion of a division (R100).
-/
namespace Sys2Proof.Machine

/-- Left shift by the low six bits (R96). -/
def shl6 (x : Word) (n : Nat) : Word := x <<< n
/-- Two's-complement minimum (R96). -/
def sminW (a b : Word) : Word := if a.toInt < b.toInt then a else b
/-- Two's-complement maximum (R96). -/
def smaxW (a b : Word) : Word := if a.toInt > b.toInt then a else b
/-- Unsigned minimum (R96). -/
def uminW (a b : Word) : Word := if a.toNat < b.toNat then a else b
/-- Unsigned maximum (R96). -/
def umaxW (a b : Word) : Word := if a.toNat > b.toNat then a else b
/-- The shift amount of a register, bits [5:0] (R96). -/
def sh6 (b : Word) : Nat := b.toNat % 64
/-- Rotation to the left (R96). -/
def rolW (a : Word) (n : Nat) : Word := if n = 0 then a else (a <<< n) ||| (a >>> (64 - n))
/-- Signed quotient, toward zero, with the corners of R99. -/
def divW (a b : Word) : Word := if b = 0 then BitVec.allOnes 64 else BitVec.ofInt 64 (a.toInt.tdiv b.toInt)
/-- Signed remainder, with the corners of R99. -/
def remW (a b : Word) : Word :=
  if b = 0 then a else BitVec.ofInt 64 (a.toInt - b.toInt * a.toInt.tdiv b.toInt)
/-- Unsigned quotient (R99). -/
def divuW (a b : Word) : Word := if b = 0 then BitVec.allOnes 64 else toW (a.toNat / b.toNat)
/-- Unsigned remainder (R99). -/
def remuW (a b : Word) : Word := if b = 0 then a else toW (a.toNat - b.toNat * (a.toNat / b.toNat))
/-- High half of the signed product (R99). -/
def mulhW (a b : Word) : Word := BitVec.ofInt 64 ((a.toInt * b.toInt) / 2 ^ 64)
/-- High half of the unsigned product (R99). -/
def mulhuW (a b : Word) : Word := toW ((a.toNat * b.toNat) / 2 ^ 64)
/-- The number of 1 bits among the low n (R101). -/
def popcN : Nat → Nat → Nat
  | 0, _ => 0
  | n + 1, x => x % 2 + popcN n (x / 2)
/-- The number of trailing 0 bits among the low n (R101). -/
def ctzN : Nat → Nat → Nat
  | 0, _ => 0
  | n + 1, x => if x % 2 = 1 then 0 else 1 + ctzN n (x / 2)
/-- The number of leading 0 bits among the low n (R101). -/
def clzN : Nat → Nat → Nat
  | 0, _ => 0
  | n + 1, x => if x / 2 ^ n % 2 = 1 then 0 else 1 + clzN n x
/-- The bytes in reverse order (R101). -/
def bswapW (x : Word) : Word := toW (leNat (leBytes 8 x.toNat).reverse)
/-- The width field of BEXT and BINS, gb[12:6], at most 64 (R101). -/
def fieldW (b : Word) : Nat := min (bits b 12 6) 64
/-- A field taken out (R101). -/
def bextW (a b : Word) : Word := toW ((a.toNat >>> sh6 b) % 2 ^ fieldW b)
/-- The mask of a field (R101). -/
def fieldMask (b : Word) : Word := toW ((2 ^ fieldW b - 1) <<< sh6 b)
/-- A field put in (R101). -/
def binsW (old a b : Word) : Word := (old &&& ~~~fieldMask b) ||| ((a <<< sh6 b) &&& fieldMask b)

/-- ADD (R96). -/
def execAdd (d a b : GReg) (s : State) : Out := aluOp (.add d a b) d (fun f => f.reg a + f.reg b) s
/-- SUB (R96). -/
def execSub (d a b : GReg) (s : State) : Out := aluOp (.sub d a b) d (fun f => f.reg a - f.reg b) s
/-- AND (R96). -/
def execAnd (d a b : GReg) (s : State) : Out := aluOp (.and d a b) d (fun f => f.reg a &&& f.reg b) s
/-- OR (R96). -/
def execOr (d a b : GReg) (s : State) : Out := aluOp (.or d a b) d (fun f => f.reg a ||| f.reg b) s
/-- XOR (R96). -/
def execXor (d a b : GReg) (s : State) : Out := aluOp (.xor d a b) d (fun f => f.reg a ^^^ f.reg b) s
/-- ANDN (R96). -/
def execAndn (d a b : GReg) (s : State) : Out := aluOp (.andn d a b) d (fun f => f.reg a &&& ~~~f.reg b) s
/-- SLL (R96). -/
def execSll (d a b : GReg) (s : State) : Out := aluOp (.sll d a b) d (fun f => f.reg a <<< sh6 (f.reg b)) s
/-- SRL (R96). -/
def execSrl (d a b : GReg) (s : State) : Out := aluOp (.srl d a b) d (fun f => f.reg a >>> sh6 (f.reg b)) s
/-- SRA (R96). -/
def execSra (d a b : GReg) (s : State) : Out :=
  aluOp (.sra d a b) d (fun f => (f.reg a).sshiftRight (sh6 (f.reg b))) s
/-- ROL (R96). -/
def execRol (d a b : GReg) (s : State) : Out := aluOp (.rol d a b) d (fun f => rolW (f.reg a) (sh6 (f.reg b))) s
/-- SLT (R96). -/
def execSlt (d a b : GReg) (s : State) : Out :=
  aluOp (.slt d a b) d (fun f => boolW (decide ((f.reg a).toInt < (f.reg b).toInt))) s
/-- SLTU (R96). -/
def execSltu (d a b : GReg) (s : State) : Out :=
  aluOp (.sltu d a b) d (fun f => boolW (decide ((f.reg a).toNat < (f.reg b).toNat))) s
/-- SEQ (R96). -/
def execSeq (d a b : GReg) (s : State) : Out := aluOp (.seq d a b) d (fun f => boolW (f.reg a == f.reg b)) s
/-- MIN (R96). -/
def execMin (d a b : GReg) (s : State) : Out := aluOp (.min d a b) d (fun f => sminW (f.reg a) (f.reg b)) s
/-- MAX (R96). -/
def execMax (d a b : GReg) (s : State) : Out := aluOp (.max d a b) d (fun f => smaxW (f.reg a) (f.reg b)) s
/-- MINU (R96). -/
def execMinu (d a b : GReg) (s : State) : Out := aluOp (.minu d a b) d (fun f => uminW (f.reg a) (f.reg b)) s
/-- MAXU (R96). -/
def execMaxu (d a b : GReg) (s : State) : Out := aluOp (.maxu d a b) d (fun f => umaxW (f.reg a) (f.reg b)) s
/-- SLLI (R96). -/
def execSlli (d a : GReg) (o : BitVec 6) (s : State) : Out := aluOp (.slli d a o) d (fun f => f.reg a <<< o.toNat) s
/-- SRLI (R96). -/
def execSrli (d a : GReg) (o : BitVec 6) (s : State) : Out := aluOp (.srli d a o) d (fun f => f.reg a >>> o.toNat) s
/-- SRAI (R96). -/
def execSrai (d a : GReg) (o : BitVec 6) (s : State) : Out :=
  aluOp (.srai d a o) d (fun f => (f.reg a).sshiftRight o.toNat) s
/-- SEL: the old gd is the condition (R96). -/
def execSel (d a b : GReg) (s : State) : Out :=
  aluOp (.sel d a b) d (fun f => if f.reg d ≠ 0 then f.reg a else f.reg b) s
/-- ADDW (R96). -/
def execAddw (d a b : GReg) (s : State) : Out := aluOp (.addw d a b) d (fun f => sextW (f.reg a + f.reg b) 32) s
/-- SUBW (R96). -/
def execSubw (d a b : GReg) (s : State) : Out := aluOp (.subw d a b) d (fun f => sextW (f.reg a - f.reg b) 32) s

/-- ADDI (R97). -/
def execAddi (d a : GReg) (i : BitVec 20) (s : State) : Out := aluOp (.addi d a i) d (fun f => f.reg a + imm20 i) s
/-- ANDI (R97). -/
def execAndi (d a : GReg) (i : BitVec 20) (s : State) : Out := aluOp (.andi d a i) d (fun f => f.reg a &&& imm20 i) s
/-- ORI (R97). -/
def execOri (d a : GReg) (i : BitVec 20) (s : State) : Out := aluOp (.ori d a i) d (fun f => f.reg a ||| imm20 i) s
/-- XORI (R97). -/
def execXori (d a : GReg) (i : BitVec 20) (s : State) : Out := aluOp (.xori d a i) d (fun f => f.reg a ^^^ imm20 i) s
/-- SLTI (R97). -/
def execSlti (d a : GReg) (i : BitVec 20) (s : State) : Out :=
  aluOp (.slti d a i) d (fun f => boolW (decide ((f.reg a).toInt < (imm20 i).toInt))) s
/-- SLTIU (R97). -/
def execSltiu (d a : GReg) (i : BitVec 20) (s : State) : Out :=
  aluOp (.sltiu d a i) d (fun f => boolW (decide ((f.reg a).toNat < (imm20 i).toNat))) s
/-- LIMM (R98). -/
def execLimm (d : GReg) (i : BitVec 23) (s : State) : Out := aluOp (.limm d i) d (fun _ => i.signExtend 64) s
/-- LSHI reads the old gd (R98). -/
def execLshi (d : GReg) (i : BitVec 23) (s : State) : Out :=
  aluOp (.lshi d i) d (fun f => (f.reg d <<< 23) ||| i.setWidth 64) s
/-- ADDPC (R102). -/
def execAddpc (d : GReg) (i : BitVec 20) (s : State) : Out := aluOp (.addpc d i) d (fun f => wordTarget f.pc i) s

/-- MUL (R99). -/
def execMul (d a b : GReg) (s : State) : Out := aluOp (.mul d a b) d (fun f => f.reg a * f.reg b) s
/-- MULH (R99). -/
def execMulh (d a b : GReg) (s : State) : Out := aluOp (.mulh d a b) d (fun f => mulhW (f.reg a) (f.reg b)) s
/-- MULHU (R99). -/
def execMulhu (d a b : GReg) (s : State) : Out := aluOp (.mulhu d a b) d (fun f => mulhuW (f.reg a) (f.reg b)) s
/-- MULW (R99). -/
def execMulw (d a b : GReg) (s : State) : Out :=
  aluOp (.mulw d a b) d (fun f => sextW (zextW (f.reg a) 32 * zextW (f.reg b) 32) 32) s

/-- A division: it issues when the bay's divider is free, marks gd empty, and DIVIDE_COMPLETE fills it 20 bay cycles after
the cycle of issue, which the bay has counted when the instruction has its effect (R93 item 5, R99, R100). -/
def divOp (i : Instr) (d a b : GReg) (v : Word → Word → Word) (s : State) : Out :=
  if (s.bay s.cur.bay).divBusy && s.curF.isSome then .next s
  else issue i noEarly (fun _ f s =>
    .done (((s.modBay s.cur.bay fun x => { x with divBusy := true, divEnd := x.cycle + 19 }).modCur fun x =>
      { x.setEmpty d with locals := x.locals + 1 }).postFree
        (.divideComplete s.cur.bay f.uid d (v (f.reg a) (f.reg b))))) s
/-- DIV (R99). -/
def execDiv (d a b : GReg) (s : State) : Out := divOp (.div d a b) d a b divW s
/-- DIVU (R99). -/
def execDivu (d a b : GReg) (s : State) : Out := divOp (.divu d a b) d a b divuW s
/-- REM (R99). -/
def execRem (d a b : GReg) (s : State) : Out := divOp (.rem d a b) d a b remW s
/-- REMU (R99). -/
def execRemu (d a b : GReg) (s : State) : Out := divOp (.remu d a b) d a b remuW s
/-- DIVIDE_COMPLETE: gd becomes full and the divider free, no sooner than 20 bay cycles after the issue; a bay that has been
stopped counts no cycles, and its division ends (R99, R100, R124). -/
def execDivideComplete (s : State) : Out :=
  match s.ev with
  | .divideComplete bay u d v =>
    if (s.bay bay).active.isSome && decide ((s.bay bay).cycle < (s.bay bay).divEnd) then .next s.wait
    else
      .next (((s.modU u fun x => { x.setReg d v with locals := x.locals - 1 }).modBay bay fun x =>
        { x with divBusy := false }).entryReady u)
  | _ => .next s

/-- POPC (R101). -/
def execPopc (d a : GReg) (s : State) : Out := aluOp (.popc d a) d (fun f => toW (popcN 64 (f.reg a).toNat)) s
/-- CLZ (R101). -/
def execClz (d a : GReg) (s : State) : Out := aluOp (.clz d a) d (fun f => toW (clzN 64 (f.reg a).toNat)) s
/-- CTZ (R101). -/
def execCtz (d a : GReg) (s : State) : Out := aluOp (.ctz d a) d (fun f => toW (ctzN 64 (f.reg a).toNat)) s
/-- BSWAP (R101). -/
def execBswap (d a : GReg) (s : State) : Out := aluOp (.bswap d a) d (fun f => bswapW (f.reg a)) s
/-- BEXT (R101). -/
def execBext (d a b : GReg) (s : State) : Out := aluOp (.bext d a b) d (fun f => bextW (f.reg a) (f.reg b)) s
/-- BINS reads the old gd (R101). -/
def execBins (d a b : GReg) (s : State) : Out :=
  aluOp (.bins d a b) d (fun f => binsW (f.reg d) (f.reg a) (f.reg b)) s
/-- SEXT: OPT[5:0] is n - 1 (R101). -/
def execSext (d a : GReg) (o : BitVec 6) (s : State) : Out :=
  aluOp (.sext d a o) d (fun f => sextW (f.reg a) (o.toNat + 1)) s
/-- ZEXT: OPT[5:0] is n - 1 (R101). -/
def execZext (d a : GReg) (o : BitVec 6) (s : State) : Out :=
  aluOp (.zext d a o) d (fun f => zextW (f.reg a) (o.toNat + 1)) s

/-- LEA (R103). -/
def execLea (d a b : GReg) (o : BitVec 2) (s : State) : Out :=
  aluOp (.lea d a b o) d (fun f => f.reg a + (f.reg b <<< o.toNat)) s
/-- BAYN, with RANGE for coordinates outside the mesh (R103). -/
def execBayn (d a b : GReg) (s : State) : Out :=
  issue (.bayn d a b) noEarly (fun _ f s =>
    if 63 < (f.reg a).toNat then .fault .range (f.reg a)
    else if 23 < (f.reg b).toNat then .fault .range (f.reg b)
    else .done (s.modCur fun x => x.setReg d (toW (bayOf (f.reg a).toNat (f.reg b).toNat)))) s
/-- BAYA, with RANGE for a byte or a bay out of range (R103). -/
def execBaya (d a b : GReg) (s : State) : Out :=
  issue (.baya d a b) noEarly (fun _ f s =>
    if 2 ^ 21 ≤ (f.reg a).toNat then .fault .range (f.reg a)
    else if 1536 ≤ (f.reg b).toNat then .fault .range (f.reg b)
    else .done (s.modCur fun x => x.setReg d (0x00FE000000000000 + f.reg b * 2 ^ 21 + f.reg a))) s

end Sys2Proof.Machine
end

