-- ==== Sys2Proof/Machine/Semaphore.lean ====
section
/-!
DEFINITION. Semaphore instructions and posts over the mesh (spec/06_scheduler.md R193 to R201).
-/
namespace Sys2Proof.Machine

/-- SPOST: the count is ga[23:0] (R199). -/
def execSpost (a : GReg) (x : BitVec 10) (r : MemOrd) (p : Scope) (s : State) : Out :=
  issue (.spost a x r p) (semEarly x) (fun _ f s =>
    withRelease r p f s fun s => .done (s.postSem s.cur.bay s.cur.idx x.toNat ((f.reg a).toNat % 2 ^ 24))) s
/-- What is left of a semaphore when n units are taken at once (R199). -/
def Sem.take (y : Sem) (n : Nat) : Sem := { y with value := y.value - BitVec.ofNat 24 n }
/-- n units can be taken at once: nobody waits and VALUE suffices (R199). -/
def Sem.takes (y : Sem) (n : Nat) : Bool := y.queue.isEmpty && decide (n ≤ y.value.toNat)
/-- SWAIT (R199). -/
def execSwait (a : GReg) (x : BitVec 10) (r : MemOrd) (p : Scope) (s : State) : Out :=
  issue (.swait a x r p) (semEarly x) (fun c f s =>
    let n := (f.reg a).toNat
    let y := c.sem x.toNat
    if 2 ^ 24 ≤ n then .fault .range (f.reg a)
    else withRelease r p f s fun s =>
      if x = 0 ∨ n = 0 then .done s
      else if y.takes n then .done (s.modCurC fun c => c.setSem x.toNat (y.take n))
      else .stay ((s.modCurC fun c => c.setSem x.toNat { y with queue := y.queue ++ [(f.uid, n)] }).modCur fun g =>
        g.block (.queued 0x10) (s.bay s.cur.bay).cycle)) s
/-- STRY (R199). -/
def execStry (a b : GReg) (x : BitVec 10) (r : MemOrd) (p : Scope) (s : State) : Out :=
  issue (.stry a b x r p) (semEarly x) (fun c f s =>
    let n := (f.reg a).toNat
    let y := c.sem x.toNat
    if 2 ^ 24 ≤ n then .fault .range (f.reg a)
    else withRelease r p f s fun s =>
      if x = 0 ∨ n = 0 then .done (s.modCur fun g => g.setReg b 1)
      else if y.takes n then .done ((s.modCurC fun c => c.setSem x.toNat (y.take n)).modCur fun g => g.setReg b 1)
      else .done (s.modCur fun g => g.setReg b 0)) s
/-- What SREAD gives: VALUE, OVF and whether someone waits (R199); s0 gives 0 (R194). -/
def Sem.word (y : Sem) : Word :=
  toW ((if y.queue.isEmpty then 0 else 2 ^ 25) + (if y.ovf then 2 ^ 24 else 0) + y.value.toNat)
/-- SREAD (R199). -/
def execSread (b : GReg) (x : BitVec 10) (s : State) : Out :=
  issue (.sread b x) (semEarly x) (fun c _ s =>
    .done (s.modCur fun g => g.setReg b (if x = 0 then 0 else (c.sem x.toNat).word))) s
/-- SINIT (R199). -/
def execSinit (a : GReg) (x : BitVec 10) (s : State) : Out :=
  issue (.sinit a x) (semEarly x) (fun _ f s =>
    let v := f.reg a
    if 2 ^ 24 ≤ v.toNat then .fault .range v
    else if x = 0 then .done s
    else .done ((s.modCurC fun c => c.setSem x.toNat { c.sem x.toNat with value := v.setWidth 24, ovf := false }).serve
      s.cur.bay s.cur.idx x.toNat)) s
/-- MESH_POST_ARRIVAL: a completion post from another bay is applied (R195, R201, R322). -/
def execMeshPostArrival (s : State) : Out :=
  match s.ev with
  | .meshPostArrival b asid n k none => .next (s.postTo b asid n k)
  | .meshPostArrival b asid n k (some (slot, p)) => .next (s.faultPost asid b slot n k p)
  | _ => .next s

end Sys2Proof.Machine
end

