-- ==== Sys2Proof/Machine/Service.lean ====
section
/-!
DEFINITION. Management and service (spec/16_service.md R450 to R466): reset and wipe, the mailbox commands, firmware
update, fences, soft errors, and the power stage.
-/
namespace Sys2Proof.Machine

/-- The answer of a mailbox command (R451). -/
def State.answerWith (s : State) (n : Nat) : State := { s with mgmt := { s.mgmt with answer := n } }
/-- A refusal: its code is what the firmware release lists, a free value that is not 0 (R451; log entry 33). -/
def State.refuseMail (s : State) : State := (s.spend).answerWith (1 + s.freeNat % (2 ^ 32 - 1))
/-- In recovery the mailbox accepts only UPDATE and ATTEST (R452). -/
def State.mail (s : State) (k : State) : State := if s.mgmt.recovery then s.refuseMail else k

/-! ### Reset, boot and wipe (R452, R455) -/

/-- An image verifies under the fused digest (R452). -/
def Mgmt.verifies (m : Mgmt) (image : List Byte) : Bool := Config.verifies m.keyDigest image
/-- The boot ROM verifies stage 1, and stage 1 both slots, as they are stored (R452). -/
def Mgmt.verified (m : Mgmt) : Mgmt := { m with ok1 := m.verifies m.img1, okA := m.verifies m.imgA, okB := m.verifies m.imgB }
/-- A firmware slot verifies and its version is not below the fused minimum (R452). -/
def Mgmt.slotOk (m : Mgmt) (k : Nat) : Bool := if k = 0 then m.okA && decide (m.minVer ≤ m.verA) else m.okB && decide (m.minVer ≤ m.verB)
/-- The version in a slot. -/
def Mgmt.ver (m : Mgmt) (k : Nat) : Nat := if k = 0 then m.verA else m.verB
/-- The image in a slot. -/
def Mgmt.img (m : Mgmt) (k : Nat) : List Byte := if k = 0 then m.imgA else m.imgB
/-- The slot that stage 1 runs: the verified one with the higher version; none is recovery (R452).  The boot ROM runs stage 1 only
where that verifies; where it does not, no slot runs (log entry 31). -/
def Mgmt.bootSlot (m : Mgmt) : Option Nat :=
  if !m.ok1 then none
  else if m.slotOk 0 && (!m.slotOk 1 || decide (m.verB ≤ m.verA)) then some 0
  else if m.slotOk 1 then some 1
  else none
/-- The harts run a slot: its image is loaded, and it and the front-end image are measured before (R452, R453, R461). -/
def Mgmt.run (m : Mgmt) (k : Nat) : Mgmt :=
  { m with
    slot := k
    harts := List.replicate 4 (some k)
    sram := (m.img k).take sramBytes
    imgF := Config.frontImage (m.ver k)
    ms1 := sha384 (m.img k)
    mfw := sha384 (Config.frontImage (m.ver k)) }
/-- The management complex after a reset: the boot ROM, the fuses, the stored images and the event log stay (R452, R454, R466); the
boot ROM measures stage 1, loads it and, where it verifies, runs it, and stage 1 verifies the firmware slots and runs one (R452, R453). -/
def Mgmt.boot (old : Mgmt) : Mgmt :=
  let m := old.verified
  let b := { Mgmt.init with
    rom := m.rom
    keyDigest := m.keyDigest
    lc := m.lc
    verA := m.verA
    verB := m.verB
    okA := m.okA
    okB := m.okB
    ok1 := m.ok1
    imgA := m.imgA
    imgB := m.imgB
    img1 := m.img1
    sram := m.img1.take sramBytes
    ms1 := 0
    mfw := 0
    mrom := sha384 m.img1
    minVer := m.minVer
    idKey := m.idKey
    boots := m.boots + 1
    log := m.log
    harts := List.replicate 4 none
    recovery := m.bootSlot.isNone }
  match m.bootSlot with
  | some k => b.run k
  | none => b
/-- A key of companion memory, which belongs to the host: no reset and no wipe of the device changes it (R434, R455). -/
def isCompKey (k : Nat) : Bool := decide (2 ^ 50 ≤ k) && decide (k < 2 ^ 51)
/-- Every piece of state but the fuses as after reset, and the wipe begins (R452, R455); memory stands until it is wiped. -/
def State.resetAll (s : State) : State :=
  { State.reset with
    mem := s.mem, poison := s.poison, mgmt := s.mgmt.boot, tick := s.tick, free := s.free, nextId := s.nextId }
/-- RESET (R452, R455). -/
def execReset (s : State) : Out :=
  match s.ev with
  | .reset => .next s.resetAll
  | _ => .next s
/-- The queues that firmware registers (R436; log entry 30). -/
def bootQueues : Tab HQueue :=
  (List.range (min 64 Config.queueCount)).map fun k =>
    let (base, n, arena, len) := Config.queue k
    (k, { base := base % 2 ^ 42 / 64 * 64, logSlots := 4 + n % 13, arena := arena % 2 ^ 42,
          arenaLen := min len (2 ^ 42 - arena % 2 ^ 42), head := 0, open_ := 0 })
/-- A chip ID brought into the sizes of the system (R329). -/
def intoDims (n : Nat × Nat × Nat × Nat) (c : Nat) : Nat :=
  let (a, b, x, d) := chipPos c
  chipOf (a % n.1) (b % n.2.1) (x % n.2.2.1) (d % n.2.2.2)
/-- The place of the package in the time tree, which follows the escape routes from the root, and the count that the root alone
takes (R346; log entries 25 and 30). -/
def State.timeTree (s : State) : State :=
  let root := intoDims s.dims Config.timeRoot.1.toNat
  let me := s.chip.toNat
  let up := ((s.escapePath me 1100 root).dropLast.getLast?).getD me
  { s with time := { s.time with
      isRoot := root == me, parent := up, count := if root = me then Config.timeRoot.2 else s.time.count } }
/-- The group entries of the package's position, as firmware gives them to one that replaces another (R343, R464 item 3). -/
def State.givenGroups (s : State) : State :=
  Config.replaces.2.foldl (fun (t : State) x => match t.groupEntry (boxOf x.2.2) [] { Group.init with sent := none } with
    | some e => { t with groups := tset t.groups (State.groupKey x.1 x.2.1) e }
    | none => t) s
/-- The bring-up after the first wipe: chip ID, sizes, time tree, the intervals of streams, queues, and the ports begin to
train (R329, R332, R346, R353, R383, R436; log entries 30 and 36).  One that replaces another gets its group entries, and is used
for contexts once it is locked (R464; log entry 85). -/
def State.bringUp (s : State) : State :=
  let (a, b, c, d) := Config.dims
  let s1 : State :=
    { s with
      chip := BitVec.ofNat 22 (intoDims (a % 512 + 1, b % 512 + 1, c % 4 + 1, d % 4 + 1) Config.chipId.toNat)
      dims := (a % 512 + 1, b % 512 + 1, c % 4 + 1, d % 4 + 1)
      mgmt := { s.mgmt with
        up := true
        retxAfter := max 2000 (min 1000000 Config.intervals.1)
        streamAfter := max 1000000 (min 10000000000 Config.intervals.2) }
      front := { s.front with queues := bootQueues } }
  let s2 := s1.timeTree
  let s3 := { s2 with mgmt := { s2.mgmt with joining := Config.replaces.1 && !s2.time.isRoot } }.givenGroups
  ((List.range 8).foldl (fun (t : State) k => t.train k) s3).postFree
    .tsyncInterval
/-- Opens the front end: bring-up where it has not been done, and the queues are read from now on (R435, R436). -/
def State.openFront (s : State) : State :=
  let t := if s.mgmt.up then s else s.bringUp
  { t with mgmt := { t.mgmt with ready := true } }
/-- WIPE_COMPLETE: every memory of the device is zero, the save pool, the stream table and the ingress buffers among them,
the per-boot key is drawn afresh, and FESTAT reads ready unless the device is in recovery; a wipe that a new one has
interrupted ends nothing (R452, R455). -/
def execWipeComplete (s : State) : Out :=
  match s.ev with
  | .wipeComplete =>
    if s.agenda.any fun x => x.ev == .wipeComplete then .next s else
    let key := (Config.freeWord s.free) ++ (Config.freeWord (s.free + 1)) ++ (Config.freeWord (s.free + 2))
      ++ (Config.freeWord (s.free + 3))
    let t : State :=
      { s with
        mem := s.mem.filter fun c => isCompKey c.1
        poison := s.poison.filter fun u => isCompKey (8 * u)
        tlb := []
        senders := []
        receivers := []
        images := []
        held := []
        agenda := s.agenda.filter fun x => match x.ev with | .packetForward _ h => h.inp.isNone | _ => true
        free := s.free + 4
        mgmt := { s.mgmt with wiping := false, bootKey := key.setWidth 256 } }
    .next (if t.mgmt.recovery then t else t.openFront)
  | _ => .next s

/-! ### Mailbox commands (R451, R453, R454, R457, R461 to R463) -/

/-- The fields of the report of ATTEST before its certificate (R453). -/
def State.reportBody (s : State) (nonce : List Byte) : List Byte :=
  let m := s.mgmt
  (nonce ++ List.replicate 32 0).take 32 ++ leBytes 8 (if m.up then s.chip.toNat else 0x3FFFFF) ++ leBytes 8 m.lc
    ++ leBytes 48 m.mrom.toNat ++ leBytes 48 m.ms1.toNat ++ leBytes 48 m.mfw.toNat ++ leBytes 8 m.slot ++ leBytes 8 (m.ver m.slot)
/-- The report of ATTEST (R453; log entry 31): certificate and signature are there while the device has its identity key, from
PROVISIONED to RETURN (R454). -/
def State.report (s : State) (nonce : List Byte) : List Byte :=
  match s.mgmt.idKey with
  | some k =>
    let body := s.reportBody nonce ++ Config.certificate k
    body ++ leBytes 96 (Config.signature k body).toNat
  | none => s.reportBody nonce
/-- ATTEST is never refused (R451, R453). -/
def execAttest (s : State) : Out :=
  match s.ev with
  | .attest nonce => .next ({ s with mgmt := { s.mgmt with report := s.report nonce } }.answerWith 0)
  | _ => .next s
/-- The transitions of the life cycle (R454). -/
def lcNext (a b : Nat) : Bool := (a == 1 && b == 2) || (a == 2 && (b == 3 || b == 4)) || (a == 3 && b == 4)
/-- A key drawn from six free values. -/
def State.drawKey (s : State) : BitVec 384 :=
  Config.freeWord s.free ++ Config.freeWord (s.free + 1) ++ Config.freeWord (s.free + 2) ++ Config.freeWord (s.free + 3)
    ++ Config.freeWord (s.free + 4) ++ Config.freeWord (s.free + 5)
/-- The identity key after a change of life-cycle state: drawn on entry to PROVISIONED, destroyed on entry to RETURN (R453, R454). -/
def State.keyAfter (s : State) (code : Nat) : Option (BitVec 384) :=
  if code = 2 then some s.drawKey else if code = 4 then none else s.mgmt.idKey
/-- LCSET: a permitted change of life-cycle state, with the keys and fuses that it concerns, and a wipe (R451, R454, R455;
log entry 34 for the version that is fused). -/
def execLcset (s : State) : Out :=
  match s.ev with
  | .lcset code =>
    .next (s.mail (if !lcNext s.mgmt.lc code || !s.ctxs.isEmpty then s.refuseMail
      else
        let m := { s.mgmt with
          lc := code
          idKey := s.keyAfter code
          minVer := if code = 3 then s.freeNat else s.mgmt.minVer
          ready := false
          wiping := true }
        ({ s with mgmt := m, free := s.free + 6 }.answerWith 0).postFree .wipeComplete))
  | _ => .next s
/-- UPDATE: the inactive slot is written and verified; the front end stops beginning packets while the harts restart on the
new image, which starts or does not within 1 s (R451, R461). -/
def execUpdate (s : State) : Out :=
  match s.ev with
  | .update v image =>
    let k := 1 - s.mgmt.slot
    let good := s.mgmt.verifies image && decide (s.mgmt.minVer ≤ v)
    let m := if k = 0 then { s.mgmt with verA := v, okA := good, imgA := image }
      else { s.mgmt with verB := v, okB := good, imgB := image }
    let t := { s with mgmt := m }
    if !good then .next t.refuseMail
    else
      let t1 := { t with mgmt := { m with
        updating := some s.mgmt.slot, updSince := s.now, harts := List.replicate 4 none } }.answerWith 0
      .next ((t1.postFree .updateRestartComplete).postFree .updateStartTimeout)
  | _ => .next s
/-- An update under way has lasted 1 s (R461). -/
def State.updateOver (s : State) : Bool := decide (s.mgmt.updSince + 1000000000 ≤ s.now)
/-- UPDATE_RESTART_COMPLETE: the new image runs, queues are read from their HEAD on, and records that waited are written;
one that comes after 1 s comes too late (R449, R461). -/
def execUpdateRestartComplete (s : State) : Out :=
  match s.ev with
  | .updateRestartComplete =>
    match s.mgmt.updating with
    | none => .next s
    | some k =>
      if s.updateOver then .next s else
      let t := { s with mgmt := { s.mgmt with
        updating := none, recovery := false }.run (1 - k) }
      .next (if s.mgmt.recovery && !s.mgmt.wiping then t.openFront.flush else t.flush)
  | _ => .next s
/-- UPDATE_START_TIMEOUT: an image that does not start within 1 s is abandoned, and the previous slot runs again (R461). -/
def execUpdateStartTimeout (s : State) : Out :=
  match s.ev with
  | .updateStartTimeout =>
    if s.mgmt.updating.isNone then .next s
    else if !s.updateOver then .next s.wait
    else
      let run := if s.mgmt.recovery then none else some s.mgmt.slot
      .next ({ s with mgmt := { s.mgmt with updating := none, harts := List.replicate 4 run } }).flush
  | _ => .next s
/-- A bay is fenced (R462): its resident contexts end with reason HOST and a FENCE section, and it issues nothing. -/
def State.fenceBay (s : State) (b origin what : Nat) : State :=
  let sec := section_ 8 1 [toW (b + origin * 2 ^ 16 + what * 2 ^ 24)]
  let asids := (s.bay b).ctxs.filterMap fun p => if p.1 < 4 then some p.2.asid else none
  let live := asids.filter fun a => match s.ctx a with | some c => !c.closed | none => false
  (live.foldl (fun (t : State) a => t.endCtx a .host b sec) s).modBay b fun x => { x with fenced := true, active := none }
/-- MAILBOX_FENCE (R451, R462). -/
def execMailboxFence (s : State) : Out :=
  match s.ev with
  | .mailboxFence b => .next (s.mail (if 1536 ≤ b then s.refuseMail else (s.fenceBay b 1 0).answerWith 0))
  | _ => .next s
/-- A key of a bay's own memories. -/
def ofBay (b key : Nat) : Bool := decide (2 ^ 51 ≤ key) && (unitKey key).2.1 == b
/-- A bay is wiped: its memories read zero, and no context has state there, saved or not (R455, R463). -/
def State.wipeBay (s : State) (b : Nat) (fenced : Bool) : State :=
  { s.modBay b (fun x => { Bay.init with cycle := x.cycle, divBusy := x.divBusy, divEnd := x.divEnd, fenced := fenced }) with
    mem := s.mem.filter fun c => !ofBay b c.1
    poison := s.poison.filter fun u => !ofBay b (8 * u)
    images := s.images.filter fun p => p.1 / 2 ^ 16 != b }
/-- READMIT: the self-test of a fenced bay, its wipe, and the end of the fence where the test passes; no earlier state of a
context returns (R451, R463). -/
def execReadmit (s : State) : Out :=
  match s.ev with
  | .readmit b pass =>
    .next (s.mail (if 1536 ≤ b then s.refuseMail
      else if (s.bay b).fenced then (s.wipeBay b !pass).answerWith 0
      else s.answerWith 0))
  | _ => .next s
/-- The package is being replaced: once all of its ports are FENCED, every context with a bay on it ends with reason HOST (R464;
log entry 74). -/
def State.replaced (s : State) : State :=
  if (List.range 8).all fun k => (s.port k).st == .fenced then
    (s.ctxs.filter fun p => !p.2.closed && s.inBox p.2.pkgs s.chip.toNat).foldl
      (fun (t : State) p => t.endCtx p.1 .host 0x7FF []) s
  else s
/-- PORTSET: a port is FENCED, or trains again (R348, R451, R464). -/
def execPortset (s : State) : Out :=
  match s.ev with
  | .portset k fence =>
    .next (s.mail (if 8 ≤ k then s.refuseMail
      else if fence then ((s.linkLost k .fenced).replaced).answerWith 0
      else if (s.port k).st = .fenced then (s.train k).answerWith 0
      else s.answerWith 0))
  | _ => .next s
/-- CTRRD: a counter of an eave station (units 0 to 31) or a port (units 32 to 39), which counts what management has selected
for it (R451, R457; log entry 35). -/
def execCtrrd (s : State) : Out :=
  match s.ev with
  | .ctrrd unit ctr =>
    .next (s.mail (if 40 ≤ unit ∨ 16 ≤ ctr then s.refuseMail
      else
        let v := tget 0 s.mgmt.counters (unit * 16 + Config.counterSel unit ctr % 16)
        { s with mgmt := { s.mgmt with report := leBytes 6 v.toNat } }.answerWith 0))
  | _ => .next s

/-! ### Soft errors, power (R459, R460, R462, R466) -/

/-- CONTROL_STATE_ERROR: an uncorrectable error in fibre state, a semaphore file, a port entry or a cistern table (1 to 4)
fences the bay (R459 item 4, R462). -/
def execControlStateError (s : State) : Out :=
  match s.ev with
  | .controlStateError b what => .next (s.fenceBay b 2 what)
  | _ => .next s
/-- The bytes that one code word covers (R458): a line of 64 in HBM, 8 elsewhere. -/
def codeWord (key : Nat) : Nat × Nat := if key < 2 ^ 50 then (key / 64 * 64, 64) else (key / 8 * 8, 8)
/-- An error that a scrub or an access cannot correct, found by a scrub at a key: a record with ASID 0 (R432 type 7, R459 item 3). -/
def State.scrubbedBad (s : State) (key : Nat) : State := s.memError key 0
/-- The scrub of one code word of a data memory (R458 to R460): what it finds there, or what has been there already, a poisoned tile
among it (R326). -/
def State.scrubMem (s : State) (key : Nat) (found : ErrFind) : State :=
  let (a, n) := codeWord key
  let (asid, bay, off) := unitKey key
  let tileBad := decide (key / 2 ^ 50 = 4) && (match (s.keyOf bay asid).bind fun i => s.bctx bay i with
    | some c => c.badTiles.contains (off / 1024) | none => false)
  if isCompKey key then s
  else match found with
    | .arises => s.mark a n
    | .corrected => if key < 2 ^ 50 then s.tallyKey key .corrected else s.bump bay asid 15 1
    | .uncorrectable => (s.mark a n).scrubbedBad a
    | .nothing => match s.bad a n with
      | some o => s.scrubbedBad (a + o)
      | none => if tileBad then s.scrubbedBad a else s
/-- The scrub of a vector register, 0 to 31, or a mask, 32 to 39, of a vector context (R458 to R460, R265). -/
def State.scrubVec (s : State) (b i v r : Nat) (found : ErrFind) : State :=
  let spoil := fun (t : State) => t.modC b i fun c => c.modV v fun z => { z with bad := r :: z.bad.filter (· != r) }
  match s.bctx b i with
  | none => s
  | some c =>
    match found with
    | .arises => spoil s
    | .corrected => s.bump b c.asid 15 1
    | .uncorrectable => (spoil s).vecError b 0 v r
    | .nothing => if (c.vctx v).bad.contains r then s.vecError b 0 v r else s
/-- The scrub of a line of a bay's instruction cache: a parity error, which drops the line, so that it is fetched again and never
seen (R458, R459 item 2). -/
def State.scrubLine (s : State) (b key : Nat) (found : ErrFind) : State :=
  if found = .nothing then s else s.modBay b fun x => { x with icache := tdel x.icache key }
/-- The scrub of a bay's fibre state, semaphore file, port entries or cistern tables (1 to 4): a corrected error is counted, one that
cannot be corrected fences the bay (R458, R459 items 1 and 4, R462). -/
def State.scrubControl (s : State) (b what : Nat) (found : ErrFind) : State :=
  match found with
  | .nothing => s
  | .corrected => match (s.bay b).active.bind fun i => s.bctx b i with
    | some c => s.bump b c.asid 15 1
    | none => s
  | .arises => s.fenceBay b 2 what
  | .uncorrectable => s.fenceBay b 2 what
/-- PATROL_SCRUB: the scrub reads one code word of a memory and corrects it, or reports what cannot be corrected with ASID 0; it
changes no value that software can see (R458 to R460).  That an error arises, before any access or scrub finds it, is a finding of
its own (log entry 9). -/
def execPatrolScrub (s : State) : Out :=
  match s.ev with
  | .patrolScrub (.mem key) found => .next (s.scrubMem key found)
  | .patrolScrub (.vec b i v r) found => .next (s.scrubVec b i v r found)
  | .patrolScrub (.icache b key) found => .next (s.scrubLine b key found)
  | .patrolScrub (.control b what) found => .next (s.scrubControl b what found)
  | _ => .next s
/-- POWER_THROTTLE: the power stage holds matrix passes and vector issue, or lets them go (R466). -/
def execPowerThrottle (s : State) : Out :=
  match s.ev with
  | .powerThrottle hold => .next { s with mgmt := { s.mgmt with throttle := hold } }
  | _ => .next s
/-- JUNCTION_SHUTDOWN: the device resets and wipes, contexts are lost without a record, and the event is logged (R455,
R466). -/
def execJunctionShutdown (s : State) : Out :=
  match s.ev with
  | .junctionShutdown => .next (s.logEvent 6 0).resetAll
  | _ => .next s

end Sys2Proof.Machine
end

