-- ==== Sys2Proof/Machine/Dispatch.lean ====
section
/-!
DEFINITION. The dispatch of every step of spec/opcode_table.json to its meaning, one arm per constructor.
-/
namespace Sys2Proof.Machine

/-- One step of the device's table, run on a state (spec/95_what_each_step_holds.md). -/
def exec (i : Instr) (s : State) : Host.Outcome State Fault Refusal :=
  match i with
  | .add d a b => Sys2Proof.Machine.execAdd d a b s
  | .sub d a b => Sys2Proof.Machine.execSub d a b s
  | .and d a b => Sys2Proof.Machine.execAnd d a b s
  | .or d a b => Sys2Proof.Machine.execOr d a b s
  | .xor d a b => Sys2Proof.Machine.execXor d a b s
  | .andn d a b => Sys2Proof.Machine.execAndn d a b s
  | .sll d a b => Sys2Proof.Machine.execSll d a b s
  | .srl d a b => Sys2Proof.Machine.execSrl d a b s
  | .sra d a b => Sys2Proof.Machine.execSra d a b s
  | .rol d a b => Sys2Proof.Machine.execRol d a b s
  | .slt d a b => Sys2Proof.Machine.execSlt d a b s
  | .sltu d a b => Sys2Proof.Machine.execSltu d a b s
  | .seq d a b => Sys2Proof.Machine.execSeq d a b s
  | .min d a b => Sys2Proof.Machine.execMin d a b s
  | .max d a b => Sys2Proof.Machine.execMax d a b s
  | .minu d a b => Sys2Proof.Machine.execMinu d a b s
  | .maxu d a b => Sys2Proof.Machine.execMaxu d a b s
  | .slli d a h => Sys2Proof.Machine.execSlli d a h s
  | .srli d a h => Sys2Proof.Machine.execSrli d a h s
  | .srai d a h => Sys2Proof.Machine.execSrai d a h s
  | .sel d a b => Sys2Proof.Machine.execSel d a b s
  | .addw d a b => Sys2Proof.Machine.execAddw d a b s
  | .subw d a b => Sys2Proof.Machine.execSubw d a b s
  | .addi d a imm => Sys2Proof.Machine.execAddi d a imm s
  | .andi d a imm => Sys2Proof.Machine.execAndi d a imm s
  | .ori d a imm => Sys2Proof.Machine.execOri d a imm s
  | .xori d a imm => Sys2Proof.Machine.execXori d a imm s
  | .slti d a imm => Sys2Proof.Machine.execSlti d a imm s
  | .sltiu d a imm => Sys2Proof.Machine.execSltiu d a imm s
  | .limm d imm => Sys2Proof.Machine.execLimm d imm s
  | .lshi d imm => Sys2Proof.Machine.execLshi d imm s
  | .mul d a b => Sys2Proof.Machine.execMul d a b s
  | .mulh d a b => Sys2Proof.Machine.execMulh d a b s
  | .mulhu d a b => Sys2Proof.Machine.execMulhu d a b s
  | .mulw d a b => Sys2Proof.Machine.execMulw d a b s
  | .div d a b => Sys2Proof.Machine.execDiv d a b s
  | .divu d a b => Sys2Proof.Machine.execDivu d a b s
  | .rem d a b => Sys2Proof.Machine.execRem d a b s
  | .remu d a b => Sys2Proof.Machine.execRemu d a b s
  | .popc d a => Sys2Proof.Machine.execPopc d a s
  | .clz d a => Sys2Proof.Machine.execClz d a s
  | .ctz d a => Sys2Proof.Machine.execCtz d a s
  | .bswap d a => Sys2Proof.Machine.execBswap d a s
  | .bext d a b => Sys2Proof.Machine.execBext d a b s
  | .bins d a b => Sys2Proof.Machine.execBins d a b s
  | .sext d a n => Sys2Proof.Machine.execSext d a n s
  | .zext d a n => Sys2Proof.Machine.execZext d a n s
  | .addpc d imm => Sys2Proof.Machine.execAddpc d imm s
  | .lea d a b h => Sys2Proof.Machine.execLea d a b h s
  | .bayn d a b => Sys2Proof.Machine.execBayn d a b s
  | .baya d a b => Sys2Proof.Machine.execBaya d a b s
  | .beq a b o => Sys2Proof.Machine.execBeq a b o s
  | .bne a b o => Sys2Proof.Machine.execBne a b o s
  | .blt a b o => Sys2Proof.Machine.execBlt a b o s
  | .bge a b o => Sys2Proof.Machine.execBge a b o s
  | .bltu a b o => Sys2Proof.Machine.execBltu a b o s
  | .bgeu a b o => Sys2Proof.Machine.execBgeu a b o s
  | .bbc a b o => Sys2Proof.Machine.execBbc a b o s
  | .bbs a b o => Sys2Proof.Machine.execBbs a b o s
  | .jmp o => Sys2Proof.Machine.execJmp o s
  | .call o => Sys2Proof.Machine.execCall o s
  | .jr a => Sys2Proof.Machine.execJr a s
  | .callr a => Sys2Proof.Machine.execCallr a s
  | .loop l n e => Sys2Proof.Machine.execLoop l n e s
  | .loopReg l a e => Sys2Proof.Machine.execLoopReg l a e s
  | .lbrk l => Sys2Proof.Machine.execLbrk l s
  | .lcnt d l => Sys2Proof.Machine.execLcnt d l s
  | .vrep n c y t u => Sys2Proof.Machine.execVrep n c y t u s
  | .vrepReg n a y t u => Sys2Proof.Machine.execVrepReg n a y t u s
  | .nop => Sys2Proof.Machine.execNop s
  | .trap imm => Sys2Proof.Machine.execTrap imm s
  | .hret => Sys2Proof.Machine.execHret s
  | .sysrd d n => Sys2Proof.Machine.execSysrd d n s
  | .syswr a n => Sys2Proof.Machine.execSyswr a n s
  | .evsel a c => Sys2Proof.Machine.execEvsel a c s
  | .evrd d c => Sys2Proof.Machine.execEvrd d c s
  | .time d => Sys2Proof.Machine.execTime d s
  | .icinv a l => Sys2Proof.Machine.execIcinv a l s
  | .fspawn d a b => Sys2Proof.Machine.execFspawn d a b s
  | .fspawnb d a b => Sys2Proof.Machine.execFspawnb d a b s
  | .fexit => Sys2Proof.Machine.execFexit s
  | .fid d => Sys2Proof.Machine.execFid d s
  | .fpri a => Sys2Proof.Machine.execFpri a s
  | .fyield => Sys2Proof.Machine.execFyield s
  | .fgo a => Sys2Proof.Machine.execFgo a s
  | .fpark => Sys2Proof.Machine.execFpark s
  | .fctx d => Sys2Proof.Machine.execFctx d s
  | .cbudget d => Sys2Proof.Machine.execCbudget d s
  | .spost a x r p => Sys2Proof.Machine.execSpost a x r p s
  | .swait a x r p => Sys2Proof.Machine.execSwait a x r p s
  | .stry a b x r p => Sys2Proof.Machine.execStry a b x r p s
  | .sread b x => Sys2Proof.Machine.execSread b x s
  | .sinit a x => Sys2Proof.Machine.execSinit a x s
  | .barr x r p => Sys2Proof.Machine.execBarr x r p s
  | .bwait x r p => Sys2Proof.Machine.execBwait x r p s
  | .bsync x r p => Sys2Proof.Machine.execBsync x r p s
  | .bmask a x => Sys2Proof.Machine.execBmask a x s
  | .bstat b x => Sys2Proof.Machine.execBstat b x s
  | .qpush a r => Sys2Proof.Machine.execQpush a r s
  | .qpop d r => Sys2Proof.Machine.execQpop d r s
  | .qpusht d a r => Sys2Proof.Machine.execQpusht d a r s
  | .qpopt d b r => Sys2Proof.Machine.execQpopt d b r s
  | .qfwd d r => Sys2Proof.Machine.execQfwd d r s
  | .qstat d r => Sys2Proof.Machine.execQstat d r s
  | .ldl d a y z o => Sys2Proof.Machine.execLdl d a y z o s
  | .stl d a y o => Sys2Proof.Machine.execStl d a y o s
  | .ldg d a y z o => Sys2Proof.Machine.execLdg d a y z o s
  | .stg d a y o => Sys2Proof.Machine.execStg d a y o s
  | .aadd d a b g r p y => Sys2Proof.Machine.execAadd d a b g r p y s
  | .aand d a b g r p y => Sys2Proof.Machine.execAand d a b g r p y s
  | .aor d a b g r p y => Sys2Proof.Machine.execAor d a b g r p y s
  | .axor d a b g r p y => Sys2Proof.Machine.execAxor d a b g r p y s
  | .amin d a b g r p y => Sys2Proof.Machine.execAmin d a b g r p y s
  | .amax d a b g r p y => Sys2Proof.Machine.execAmax d a b g r p y s
  | .aminu d a b g r p y => Sys2Proof.Machine.execAminu d a b g r p y s
  | .amaxu d a b g r p y => Sys2Proof.Machine.execAmaxu d a b g r p y s
  | .aswap d a b g r p y => Sys2Proof.Machine.execAswap d a b g r p y s
  | .acas d a b g r p y => Sys2Proof.Machine.execAcas d a b g r p y s
  | .stadd a b g r p y => Sys2Proof.Machine.execStadd a b g r p y s
  | .stand a b g r p y => Sys2Proof.Machine.execStand a b g r p y s
  | .stor a b g r p y => Sys2Proof.Machine.execStor a b g r p y s
  | .stxor a b g r p y => Sys2Proof.Machine.execStxor a b g r p y s
  | .stmin a b g r p y => Sys2Proof.Machine.execStmin a b g r p y s
  | .stmax a b g r p y => Sys2Proof.Machine.execStmax a b g r p y s
  | .stminu a b g r p y => Sys2Proof.Machine.execStminu a b g r p y s
  | .stmaxu a b g r p y => Sys2Proof.Machine.execStmaxu a b g r p y s
  | .fence k p => Sys2Proof.Machine.execFence k p s
  | .fencea k p => Sys2Proof.Machine.execFencea k p s
  | .vbind => Sys2Proof.Machine.execVbind s
  | .vfree => Sys2Proof.Machine.execVfree s
  | .vdrain => Sys2Proof.Machine.execVdrain s
  | .vsplat d b t k => Sys2Proof.Machine.execVsplat d b t k s
  | .vins d imm b t => Sys2Proof.Machine.execVins d imm b t s
  | .vget imm a b t => Sys2Proof.Machine.execVget imm a b t s
  | .vld d a k o => Sys2Proof.Machine.execVld d a k o s
  | .vlds d a b k o => Sys2Proof.Machine.execVlds d a b k o s
  | .vldb d a k o => Sys2Proof.Machine.execVldb d a k o s
  | .vst d a k o => Sys2Proof.Machine.execVst d a k o s
  | .vsts d a b k o => Sys2Proof.Machine.execVsts d a b k o s
  | .vadd d a b t k => Sys2Proof.Machine.execVadd d a b t k s
  | .vsub d a b t k => Sys2Proof.Machine.execVsub d a b t k s
  | .vmul d a b t k => Sys2Proof.Machine.execVmul d a b t k s
  | .vfma d a b t k => Sys2Proof.Machine.execVfma d a b t k s
  | .vfms d a b t k => Sys2Proof.Machine.execVfms d a b t k s
  | .vmin d a b t k => Sys2Proof.Machine.execVmin d a b t k s
  | .vmax d a b t k => Sys2Proof.Machine.execVmax d a b t k s
  | .vabs d a t k => Sys2Proof.Machine.execVabs d a t k s
  | .vneg d a t k => Sys2Proof.Machine.execVneg d a t k s
  | .vrsq d a k => Sys2Proof.Machine.execVrsq d a k s
  | .vrcp d a k => Sys2Proof.Machine.execVrcp d a k s
  | .vexp2 d a k => Sys2Proof.Machine.execVexp2 d a k s
  | .vlog2 d a k => Sys2Proof.Machine.execVlog2 d a k s
  | .vsqrt d a k => Sys2Proof.Machine.execVsqrt d a k s
  | .vdiv d a b k => Sys2Proof.Machine.execVdiv d a b k s
  | .vadds d a b t k => Sys2Proof.Machine.execVadds d a b t k s
  | .vmuls d a b t k => Sys2Proof.Machine.execVmuls d a b t k s
  | .vfmas d a b t k => Sys2Proof.Machine.execVfmas d a b t k s
  | .viadd d a b t k => Sys2Proof.Machine.execViadd d a b t k s
  | .visub d a b t k => Sys2Proof.Machine.execVisub d a b t k s
  | .vimul d a b t k => Sys2Proof.Machine.execVimul d a b t k s
  | .vimin d a b t k => Sys2Proof.Machine.execVimin d a b t k s
  | .vimax d a b t k => Sys2Proof.Machine.execVimax d a b t k s
  | .viminu d a b t k => Sys2Proof.Machine.execViminu d a b t k s
  | .vimaxu d a b t k => Sys2Proof.Machine.execVimaxu d a b t k s
  | .vand d a b t k => Sys2Proof.Machine.execVand d a b t k s
  | .vor d a b t k => Sys2Proof.Machine.execVor d a b t k s
  | .vxor d a b t k => Sys2Proof.Machine.execVxor d a b t k s
  | .vshl d a b t k => Sys2Proof.Machine.execVshl d a b t k s
  | .vshr d a b t k => Sys2Proof.Machine.execVshr d a b t k s
  | .vsar d a b t k => Sys2Proof.Machine.execVsar d a b t k s
  | .viadds d a b t k => Sys2Proof.Machine.execViadds d a b t k s
  | .vidx d t k => Sys2Proof.Machine.execVidx d t k s
  | .vcmpeq d a b t k => Sys2Proof.Machine.execVcmpeq d a b t k s
  | .vcmplt d a b t k => Sys2Proof.Machine.execVcmplt d a b t k s
  | .vcmple d a b t k => Sys2Proof.Machine.execVcmple d a b t k s
  | .vsel d a b t k => Sys2Proof.Machine.execVsel d a b t k s
  | .vrsum d a t k => Sys2Proof.Machine.execVrsum d a t k s
  | .vrmax d a t k => Sys2Proof.Machine.execVrmax d a t k s
  | .vrmin d a t k => Sys2Proof.Machine.execVrmin d a t k s
  | .vshuf d a b t k => Sys2Proof.Machine.execVshuf d a b t k s
  | .vbcast d a b t k => Sys2Proof.Machine.execVbcast d a b t k s
  | .vrot d a b t k => Sys2Proof.Machine.execVrot d a b t k s
  | .kand d a b => Sys2Proof.Machine.execKand d a b s
  | .kor d a b => Sys2Proof.Machine.execKor d a b s
  | .knot d a => Sys2Proof.Machine.execKnot d a s
  | .vcvt d a m y t k => Sys2Proof.Machine.execVcvt d a m y t k s
  | .vcvtsr d a b k => Sys2Proof.Machine.execVcvtsr d a b k s
  | .vrng d b k => Sys2Proof.Machine.execVrng d b k s
  | .vpack d a b t => Sys2Proof.Machine.execVpack d a b t s
  | .vunpk d a q t => Sys2Proof.Machine.execVunpk d a q t s
  | .vcvtn4 d a m t k => Sys2Proof.Machine.execVcvtn4 d a m t k s
  | .vcvtw4 d a t k => Sys2Proof.Machine.execVcvtw4 d a t k s
  | .cpy a x r p => Sys2Proof.Machine.execCpy a x r p s
  | .cpym a x r p => Sys2Proof.Machine.execCpym a x r p s
  | .cpyt a b x r p => Sys2Proof.Machine.execCpyt a b x r p s
  | .cpyq a b => Sys2Proof.Machine.execCpyq a b s
  | .mpass c a b f y => Sys2Proof.Machine.execMpass c a b f y s
  | .mzero c y => Sys2Proof.Machine.execMzero c y s
  | .mldw m a b y => Sys2Proof.Machine.execMldw m a b y s
  | .mrd c a y => Sys2Proof.Machine.execMrd c a y s
  | .mwr c a y => Sys2Proof.Machine.execMwr c a y s
  | .mrcmd a b y => Sys2Proof.Machine.execMrcmd a b y s
  | .mgrant a b => Sys2Proof.Machine.execMgrant a b s
  | .vtld c v q => Sys2Proof.Machine.execVtld c v q s
  | .vtst c v q => Sys2Proof.Machine.execVtst c v q s
  | .rput a x r p => Sys2Proof.Machine.execRput a x r p s
  | .rputi a b x r p => Sys2Proof.Machine.execRputi a b x r p s
  | .rget a x r p => Sys2Proof.Machine.execRget a x r p s
  | .rsig a b x r p => Sys2Proof.Machine.execRsig a b x r p s
  | .ramo a x r p => Sys2Proof.Machine.execRamo a x r p s
  | .rspawn a x r p => Sys2Proof.Machine.execRspawn a x r p s
  | .crd a x r p => Sys2Proof.Machine.execCrd a x r p s
  | .crdg a x r p => Sys2Proof.Machine.execCrdg a x r p s
  | .crdq a b => Sys2Proof.Machine.execCrdq a b s
  | .flush p => Sys2Proof.Machine.execFlush p s
  | .flushc a p => Sys2Proof.Machine.execFlushc a p s
  | .strmq d a => Sys2Proof.Machine.execStrmq d a s
  | .carm a b x => Sys2Proof.Machine.execCarm a b x s
  | .cadd a b r p => Sys2Proof.Machine.execCadd a b r p s
  | .cread a b => Sys2Proof.Machine.execCread a b s
  | .cdisarm a b => Sys2Proof.Machine.execCdisarm a b s
  | .icinvDone => Sys2Proof.Machine.execIcinvDone s
  | .loadDataReturn => Sys2Proof.Machine.execLoadDataReturn s
  | .divideComplete => Sys2Proof.Machine.execDivideComplete s
  | .accessAccepted => Sys2Proof.Machine.execAccessAccepted s
  | .accessFaultRecorded => Sys2Proof.Machine.execAccessFaultRecorded s
  | .globalAccessAtStation => Sys2Proof.Machine.execGlobalAccessAtStation s
  | .pageWalkComplete => Sys2Proof.Machine.execPageWalkComplete s
  | .atomicAtUnit => Sys2Proof.Machine.execAtomicAtUnit s
  | .apertureAccess => Sys2Proof.Machine.execApertureAccess s
  | .instructionLineFill => Sys2Proof.Machine.execInstructionLineFill s
  | .pendingFaultTaken => Sys2Proof.Machine.execPendingFaultTaken s
  | .faultFibreStart => Sys2Proof.Machine.execFaultFibreStart s
  | .spawnMessageArrival => Sys2Proof.Machine.execSpawnMessageArrival s
  | .spawnAckArrival => Sys2Proof.Machine.execSpawnAckArrival s
  | .migrationArrival => Sys2Proof.Machine.execMigrationArrival s
  | .fibreEviction => Sys2Proof.Machine.execFibreEviction s
  | .cellarRestore => Sys2Proof.Machine.execCellarRestore s
  | .fyieldDelayExpiry => Sys2Proof.Machine.execFyieldDelayExpiry s
  | .waitingCountThreshold => Sys2Proof.Machine.execWaitingCountThreshold s
  | .planEntryActivate => Sys2Proof.Machine.execPlanEntryActivate s
  | .planEntryRestore => Sys2Proof.Machine.execPlanEntryRestore s
  | .planEntrySave => Sys2Proof.Machine.execPlanEntrySave s
  | .stateCapture => Sys2Proof.Machine.execStateCapture s
  | .residentSwitchComplete => Sys2Proof.Machine.execResidentSwitchComplete s
  | .saveComplete => Sys2Proof.Machine.execSaveComplete s
  | .restoreComplete => Sys2Proof.Machine.execRestoreComplete s
  | .contractPeriodStart => Sys2Proof.Machine.execContractPeriodStart s
  | .bestEffortQuantumExpiry => Sys2Proof.Machine.execBestEffortQuantumExpiry s
  | .barrierPhaseComplete => Sys2Proof.Machine.execBarrierPhaseComplete s
  | .gutterWordArrival => Sys2Proof.Machine.execGutterWordArrival s
  | .gutterCreditReturn => Sys2Proof.Machine.execGutterCreditReturn s
  | .vectorEntryExecute => Sys2Proof.Machine.execVectorEntryExecute s
  | .copyCommandBegin => Sys2Proof.Machine.execCopyCommandBegin s
  | .copySegmentWritten => Sys2Proof.Machine.execCopySegmentWritten s
  | .copyAccessFault => Sys2Proof.Machine.execCopyAccessFault s
  | .copyCommandComplete => Sys2Proof.Machine.execCopyCommandComplete s
  | .cpymTileAck => Sys2Proof.Machine.execCpymTileAck s
  | .matrixCommandBegin => Sys2Proof.Machine.execMatrixCommandBegin s
  | .matrixCommandComplete => Sys2Proof.Machine.execMatrixCommandComplete s
  | .rendezvousTransfer => Sys2Proof.Machine.execRendezvousTransfer s
  | .mrcmdArrival => Sys2Proof.Machine.execMrcmdArrival s
  | .mrcmdAckArrival => Sys2Proof.Machine.execMrcmdAckArrival s
  | .meshPostArrival => Sys2Proof.Machine.execMeshPostArrival s
  | .fabricCommandBegin => Sys2Proof.Machine.execFabricCommandBegin s
  | .put => Sys2Proof.Machine.execPut s
  | .puti => Sys2Proof.Machine.execPuti s
  | .getq => Sys2Proof.Machine.execGetq s
  | .getr => Sys2Proof.Machine.execGetr s
  | .sig => Sys2Proof.Machine.execSig s
  | .amo => Sys2Proof.Machine.execAmo s
  | .amor => Sys2Proof.Machine.execAmor s
  | .spawn => Sys2Proof.Machine.execSpawn s
  | .pld => Sys2Proof.Machine.execPld s
  | .pst => Sys2Proof.Machine.execPst s
  | .pamo => Sys2Proof.Machine.execPamo s
  | .crq => Sys2Proof.Machine.execCrq s
  | .cdata => Sys2Proof.Machine.execCdata s
  | .cdone => Sys2Proof.Machine.execCdone s
  | .cstop => Sys2Proof.Machine.execCstop s
  | .ackAnswer => Sys2Proof.Machine.execAckAnswer s
  | .ackResynchronise => Sys2Proof.Machine.execAckResynchronise s
  | .ackResynchronised => Sys2Proof.Machine.execAckResynchronised s
  | .refuse => Sys2Proof.Machine.execRefuse s
  | .bup => Sys2Proof.Machine.execBup s
  | .bdown => Sys2Proof.Machine.execBdown s
  | .gack => Sys2Proof.Machine.execGack s
  | .tsync => Sys2Proof.Machine.execTsync s
  | .tsyncInterval => Sys2Proof.Machine.execTsyncInterval s
  | .timeLock => Sys2Proof.Machine.execTimeLock s
  | .timeUnlock => Sys2Proof.Machine.execTimeUnlock s
  | .heldPacketPerform => Sys2Proof.Machine.execHeldPacketPerform s
  | .retransmissionTimeout => Sys2Proof.Machine.execRetransmissionTimeout s
  | .streamTimeout => Sys2Proof.Machine.execStreamTimeout s
  | .streamStateFetchComplete => Sys2Proof.Machine.execStreamStateFetchComplete s
  | .packetForward => Sys2Proof.Machine.execPacketForward s
  | .flitReplay => Sys2Proof.Machine.execFlitReplay s
  | .portRetrain => Sys2Proof.Machine.execPortRetrain s
  | .portTrained => Sys2Proof.Machine.execPortTrained s
  | .portDown => Sys2Proof.Machine.execPortDown s
  | .carmAtUnit => Sys2Proof.Machine.execCarmAtUnit s
  | .caddAtUnit => Sys2Proof.Machine.execCaddAtUnit s
  | .creadAtUnit => Sys2Proof.Machine.execCreadAtUnit s
  | .cdisarmAtUnit => Sys2Proof.Machine.execCdisarmAtUnit s
  | .cisternAnswer => Sys2Proof.Machine.execCisternAnswer s
  | .cisternSpawnRetry => Sys2Proof.Machine.execCisternSpawnRetry s
  | .watchdogFire => Sys2Proof.Machine.execWatchdogFire s
  | .contextEnd => Sys2Proof.Machine.execContextEnd s
  | .launchEnd => Sys2Proof.Machine.execLaunchEnd s
  | .dbell => Sys2Proof.Machine.execDbell s
  | .contextCreate => Sys2Proof.Machine.execContextCreate s
  | .contextDestroy => Sys2Proof.Machine.execContextDestroy s
  | .launch => Sys2Proof.Machine.execLaunch s
  | .windowOpen => Sys2Proof.Machine.execWindowOpen s
  | .cisternArm => Sys2Proof.Machine.execCisternArm s
  | .signal => Sys2Proof.Machine.execSignal s
  | .copy => Sys2Proof.Machine.execCopy s
  | .switchPlan => Sys2Proof.Machine.execSwitchPlan s
  | .invalidate => Sys2Proof.Machine.execInvalidate s
  | .errheadWrite => Sys2Proof.Machine.execErrheadWrite s
  | .registerWrite => Sys2Proof.Machine.execRegisterWrite s
  | .hostAccess => Sys2Proof.Machine.execHostAccess s
  | .attest => Sys2Proof.Machine.execAttest s
  | .lcset => Sys2Proof.Machine.execLcset s
  | .update => Sys2Proof.Machine.execUpdate s
  | .updateStartTimeout => Sys2Proof.Machine.execUpdateStartTimeout s
  | .mailboxFence => Sys2Proof.Machine.execMailboxFence s
  | .readmit => Sys2Proof.Machine.execReadmit s
  | .portset => Sys2Proof.Machine.execPortset s
  | .ctrrd => Sys2Proof.Machine.execCtrrd s
  | .reset => Sys2Proof.Machine.execReset s
  | .wipeComplete => Sys2Proof.Machine.execWipeComplete s
  | .controlStateError => Sys2Proof.Machine.execControlStateError s
  | .patrolScrub => Sys2Proof.Machine.execPatrolScrub s
  | .powerThrottle => Sys2Proof.Machine.execPowerThrottle s
  | .junctionShutdown => Sys2Proof.Machine.execJunctionShutdown s
  | .illegalWord => Sys2Proof.Machine.execIllegalWord s
  | .groupTreeRebuild => Sys2Proof.Machine.execGroupTreeRebuild s
  | .updateRestartComplete => Sys2Proof.Machine.execUpdateRestartComplete s
  | .linkPartnerArrival => Sys2Proof.Machine.execLinkPartnerArrival s

end Sys2Proof.Machine
end

