-- ==== Sys2Proof/Machine/Cycle.lean ====
section
/-!
DEFINITION. What comes about next: the bay cycle with its choice of a fibre (spec/04_sequencer.md R92, R93;
spec/06_scheduler.md R189 to R191), the passing of time, and the choice among what is in flight.
-/
namespace Sys2Proof.Machine

/-- What a fibre would do at its issue. -/
inductive Act where
  | fault
  | illegal (w : BitVec 32)
  | run (i : Instr)
  deriving DecidableEq, Repr
/-- The word at the fibre's PC, decoded (R50), where the instruction cache holds it. -/
def State.nextAct (s : State) (b asid : Nat) (f : Fibre) : Option Act :=
  (s.fetch b asid f.pc).map fun w =>
    match decode w with
    | .ok i => .run i
    | .error _ => .illegal w
/-- The instruction, evaluated now, would not leave its fibre blocked on a condition again. -/
def State.unblocked (s : State) (p : Cur) (u : Nat) (i : Instr) : Bool :=
  match exec i { s with cur := p } with
  | .next t =>
    match t.fib p.bay p.idx p.slot with
    | some f =>
      if f.uid = u then (match f.wait with | .retry _ => false | _ => true) else true
    | none => true
  | _ => true
/-- What a fibre issues in this bay cycle, where it is ready (R93): not blocked, its spacing past, every register that
its next instruction names full or due with a fault (R90, R147), its word in the cache, the divider free for a
division; a pending fault goes before the instruction (R412). -/
def State.ready (s : State) (p : Cur) (asid : Nat) (f : Fibre) : Option Act :=
  if (s.bay p.bay).cycle < f.nextIssue then none
  else
    match f.wait with
    | .queued _ => none
    | .entry _ _ _ _ => none
    | .retry _ =>
      match s.nextAct p.bay asid f with
      | some (.run i) => if s.unblocked p f.uid i then some (.run i) else none
      | a => a
    | .ready =>
      if !f.pend.isEmpty && !f.hm && f.frame.isNone then (if f.takesPending then some .fault else none)
      else
        match s.nextAct p.bay asid f with
        | some (.run i) =>
          if isDivision i && (s.bay p.bay).divBusy then none
          else if (namedRegs i).any f.isEmpty then
            if (namedRegs i).any f.isFaulted && f.reportable then some (.run i) else none
          else some (.run i)
        | a => a
/-- The effective priority of a ready fibre (R190). -/
def effPri (cong : Bool) (f : Fibre) : Nat :=
  if f.hm then 7
  else if 4096 ≤ f.w then 7
  else min 7 (f.pri.toNat + min 3 (f.w / 256) + (if cong then 2 else 0))
/-- How many slots after the one that issued last a slot comes, wrapping (R191). -/
def slotDist (q last k : Nat) : Nat := (k + q - 1 - last % q) % q
/-- The better of two ready fibres (R191): higher effective priority, then the nearer slot. -/
def better (q last : Nat) (cong : Bool) (x y : Nat × Fibre × Act) : Nat × Fibre × Act :=
  let a := effPri cong x.2.1
  let b := effPri cong y.2.1
  if a < b then y
  else if b < a then x
  else if slotDist q last y.1 < slotDist q last x.1 then y else x
/-- The fibre that issues, among the ready ones (R191). -/
def choose (q last : Nat) (cong : Bool) : List (Nat × Fibre × Act) → Option (Nat × Fibre × Act)
  | [] => none
  | x :: r =>
    match choose q last cong r with
    | some y => some (better q last cong x y)
    | none => some x
/-- The ready fibres of a context on its bay, with what each would do. -/
def State.readyList (s : State) (b i : Nat) (c : BayCtx) : Tab Slot → List (Nat × Fibre × Act)
  | [] => []
  | (k, x) :: r =>
    match x.fib with
    | some f =>
      match s.ready { bay := b, idx := i, slot := k } c.asid f with
      | some a => (k, f, a) :: State.readyList s b i c r
      | none => State.readyList s b i c r
    | none => State.readyList s b i c r
/-- The lines that fibres of the context miss and that no fill is under way for (R121). -/
def State.missing (s : State) (b asid : Nat) : Tab Slot → List Word
  | [] => []
  | (_, x) :: r =>
    let l := State.missing s b asid r
    match x.fib with
    | some f =>
      let line : Word := toW (f.pc.toNat / 64 * 64)
      if f.fetches && (s.fetch b asid f.pc).isNone && !l.contains line
          && !s.agenda.any fun t => t.ev == .instructionLineFill b asid line then line :: l
      else l
    | none => l
/-- Waiting counts after a cycle (R189): ready and not issued, one more; otherwise 0. -/
def ageW (ready : List (Nat × Fibre × Act)) (k0 : Option Nat) : Tab Slot → Tab Slot
  | [] => []
  | (k, x) :: r =>
    let waits := k0 != some k && ready.any (fun p => p.1 == k)
    (k, { x with fib := x.fib.map fun f => { f with w := if waits then f.w + 1 else 0 } }) :: ageW ready k0 r
/-- A fibre is not ready because a register that its next instruction names is empty (R90, R93 item 3): it is not blocked, its
spacing is past, and the instruction does not issue. -/
def State.lacksReg (s : State) (p : Cur) (asid : Nat) (f : Fibre) : Bool :=
  f.wait == .ready && decide (f.nextIssue ≤ (s.bay p.bay).cycle) && (s.ready p asid f).isNone
    && (match s.nextAct p.bay asid f with | some (.run i) => (namedRegs i).any f.isEmpty | _ => false)
/-- A fibre that waits on a full port: a vector queue, which plays the part of one, or a port of R13 (R247, R432). -/
def Fibre.fullPort (f : Fibre) : Bool := [0x11, 0x12, 0x13, 0x14].any fun k => f.wait == .queued k
/-- How many fibres of a context have a property, by slot and fibre (R456). -/
def countFibres (p : Nat → Fibre → Bool) (l : Tab Slot) : Nat :=
  (l.filter fun x => match x.2.fib with | some f => p x.1 f | none => false).length
/-- The cycle's own bookkeeping: counters, line fills, waiting counts, the last-issued slot, the issuer's spacing, the
launch's first issue and a fibre that is due for eviction (R93, R119, R121, R189, R191, R206, R446, R456). -/
def State.cycleBook (s : State) (b i : Nat) (c : BayCtx) (l : List (Nat × Fibre × Act)) (k : Option Nat) : State :=
  let fills := s.missing b c.asid c.slots
  let s1 := fills.foldl (fun t x => t.postFree (.instructionLineFill b c.asid x)) s
  let s2 := ((((s1.bump b c.asid 1 1).bump b c.asid 3 (if l.isEmpty then 1 else 0)).bump b c.asid 5 fills.length).bump
    b c.asid 4 (countFibres (fun k f => s.lacksReg { bay := b, idx := i, slot := k } c.asid f) c.slots)).bump b c.asid 7
    (countFibres (fun _ f => f.fullPort) c.slots)
  let s2 := (s2.bump b c.asid 11 (Config.conflicts s.tick b)).bump b c.asid 15 (Config.corrected s.tick b)
  let s3 := s2.modC b i fun y => { y with slots := ageW l k y.slots, lastSlot := k.getD y.lastSlot }
  let s4 : State := match k with
    | some x => (s3.modF b i x fun f => { f with nextIssue := (s.bay b).cycle + 4 }).modCtx c.asid fun (y : Ctx) =>
        { y with launch := y.launch.map fun (u : Launch) => { u with tfirst := some (u.tfirst.getD s.time.count) } }
    | none => s3
  let s5 := if (s4.evictee b i).isSome && !s4.agenda.any (fun t => t.ev == .fibreEviction b i) then
      s4.postFree (.fibreEviction b i) else s4
  s5.modBay b fun y => { y with cycle := y.cycle + 1 }
/-- One bay cycle of the active context (R92): at most one ready fibre issues. -/
def bayCycle (s : State) (b i : Nat) : Out :=
  match s.bctx b i with
  | none => .next s
  | some c =>
    let l := s.readyList b i c c.slots
    match choose c.quota.slots c.lastSlot c.cellar.cong l with
    | none => .next (s.cycleBook b i c l none)
    | some (k, _, a) =>
      let t := { s.cycleBook b i c l (some k) with cur := { bay := b, idx := i, slot := k } }
      match a with
      | .run x => exec x t
      | .illegal w => exec .illegalWord { t with ev := .illegalWord w }
      | .fault => exec .pendingFaultTaken { t with ev := .pendingFaultTaken b i k }

/-! ### Time and choice -/

/-- The context is active on a bay of this package (R429). -/
def State.activeSomewhere (s : State) (asid : Nat) : Bool :=
  s.bays.any fun p => match p.2.active with
    | some i => match tfind p.2.ctxs i with | some c => c.asid == asid | none => false
    | none => false
/-- The context is active on its whole launch rectangle (R213); fenced bays run nothing (R462). -/
def State.activeOn (s : State) (asid : Nat) (r : BitVec 26) : Bool :=
  (rectBays r).all fun b => (s.bay b).fenced || (s.bay b).runs asid
/-- The context is busy as R217 says: a fibre of it is ready, where the context is active (R93 item 1), or blocked on a port,
or an engine command of it is outstanding, on its way in the mesh too (R323). -/
def State.busy (s : State) (asid : Nat) : Bool :=
  s.sending asid || s.bays.any fun p => p.2.ctxs.any fun q => q.2.asid == asid && (q.2.engaged || q.2.slots.any fun x =>
    match x.2.fib with
    | some f => (s.activeAt p.1 q.1 && (s.ready { bay := p.1, idx := q.1, slot := x.1 } asid f).isSome)
        || f.fullPort
    | none => false)
/-- One nanosecond of a contract, in which its context was active on the whole launch rectangle (R213, R217, R218): where
that ends its budget while the context is busy, the period is overrun. -/
def Contract.tick (k : Contract) (busy : Bool) : Contract :=
  { k with spent := k.spent + 1, overrun := if k.spent + 1 = k.c * 1000 ∧ busy = true then k.overrun + 1 else k.overrun }
/-- One nanosecond of a context (R213, R218, R429): its silence, while it is active on a bay, and the time of its contract
once the first period has begun. -/
def State.tickCtx (s : State) (a : Nat) (c : Ctx) : Ctx :=
  match c.launch with
  | none => c
  | some l =>
    let k := match l.contract with
      | some x => if x.begun != 0 && s.activeOn a l.rect then some (x.tick (s.busy a)) else some x
      | none => none
    { c with silence := if s.activeSomewhere a then c.silence + 1 else c.silence, launch := some { l with contract := k } }
/-- One nanosecond of a bay whose turns the front end gives (R214): the best-effort context that is active there uses its
turn. -/
def State.tickTurn (s : State) (b : Nat) (x : Bay) : Bay :=
  if x.active == some x.turn.1 && s.contractBay b then { x with turn := (x.turn.1, x.turn.2 + 1) } else x
/-- The contexts whose silence has reached their window (R430). -/
def firing : Tab Ctx → List Nat
  | [] => []
  | (a, c) :: r =>
    if c.ended.isNone && c.launch.isSome && c.wdw != 0 && c.silence == c.wdw * 1000 then a :: firing r else firing r
/-- One nanosecond of the package's own clock as its corrected rate counts it (R346): a rate in ppm adds or drops a count once
it comes to one, so the count never steps and never decreases. -/
def TimeSt.advance (t : TimeSt) : TimeSt :=
  let f := t.frac + t.rate
  if 1000000 ≤ f then { t with count := t.count + 2, frac := f - 1000000 }
  else if f ≤ -1000000 then { t with frac := f + 1000000 }
  else { t with count := t.count + 1, frac := f }
/-- Time passes (R346, R429): the time base never decreases. -/
def State.tickTime (s : State) : State :=
  let cs := s.ctxs.map fun p => (p.1, s.tickCtx p.1 p.2)
  let bs := if s.ctxs.any fun p => p.2.contract.isSome then s.bays.map fun p => (p.1, s.tickTurn p.1 p.2) else s.bays
  (firing cs).foldl (fun t a => t.postFree (.watchdogFire a))
    { s with ctxs := cs, bays := bs, time := s.time.advance, tick := s.tick + 1 }
/-- What may come about next: the first event of each lane that is in flight, and a cycle of each bay with an active
context. -/
inductive Choice where
  | event (k : Nat)
  | bay (b i : Nat)
  deriving DecidableEq, Repr
/-- The places in the agenda of the first event of each lane. -/
def heads (seen : List Nat) (k : Nat) : List Item → List Choice
  | [] => []
  | t :: r => if seen.contains t.lane then heads seen (k + 1) r else .event k :: heads (t.lane :: seen) (k + 1) r
/-- What comes about on a bay before its next cycle: the responses released at an activation (R421), and a division whose
20 cycles are over (R100). -/
def State.before (s : State) (b : Nat) (x : Bay) : Bool :=
  s.agenda.any fun t => t.lane == laneRelease b || (match t.ev with
    | .divideComplete y _ _ _ => y == b && decide (x.divEnd ≤ x.cycle)
    | _ => false)
/-- The bays whose active context issues: not fenced (R462), and not of a context that ends (R427). -/
def issuing (s : State) : Tab Bay → List Choice
  | [] => []
  | (b, x) :: r =>
    match x.active with
    | some i =>
      match tfind x.ctxs i with
      | some c =>
        let ended := match s.ctx c.asid with | some y => y.ended.isSome | none => true
        if x.fenced || ended || s.before b x then issuing s r else .bay b i :: issuing s r
      | none => issuing s r
    | none => issuing s r
/-- All choices. -/
def State.choices (s : State) : List Choice := heads [] 0 s.agenda ++ issuing s s.bays
/-- The choice made: the only one, or a free one (R2, R10, R22, R129, R340; log entry 1). -/
def pickOne (l : List Choice) (t : Nat) : Option Choice :=
  match l with
  | [] => none
  | [c] => some c
  | c :: r => some ((c :: r).getD (Config.pick t % (r.length + 1)) c)
/-- What is chosen comes about, unless the mesh parks it for a context that is stopped (R421). -/
def perform (s : State) : Option Choice → Out
  | none => .next s
  | some (.bay b i) => bayCycle s b i
  | some (.event k) =>
    match s.agenda[k]? with
    | some t =>
      let s1 := { s with agenda := s.agenda.eraseIdx k }
      (match s.parksAt t with
        | some (b, i) => .next (s1.parkItem b i t)
        | none => exec t.ev.instr { s1 with ev := t.ev, lane := t.lane })
    | none => .next s

/-- The line of the instruction cache that holds a word at its start (R38). -/
def wordLine (w : Nat) : BitVec 512 := BitVec.ofNat 512 (w % 2 ^ 32)
/-- The quotas of the context that holds a fetched word: every resource of the bay (R30). -/
def wholeBay : Quota :=
  { slots := 256, scratch := 2 ^ 21, sems := 1024, chans := 48, cists := 64, vctxs := 8, tiles := 64, wbuf := 2 ^ 18 }
/-- A context of ASID 1 on the whole package, with nothing else. -/
def bareCtx : Ctx :=
  let all : Box := { a := (0, 1), b := (0, 1), c := (0, 1), d := (0, 1) }
  { ctxid := 1, asid := 1, job := 0, root := 0, domain := all, pkgs := all, rect := 0x2000000#26, hentry := 0x1000,
    fentry := 0x2000, wdw := 0, dcq := 0, cellarVa := 0, capK := 6, high := 1, low := 0, evict := 0, beq := 100,
    targets := [], groups := [], live := 1, launch := none, lseq := 0, ended := none, endTime := 0, closed := false, silence := 0,
    backlog := [], slice := [],
    gen := 0 }
/-- The state in which the next step fetches and runs the instruction whose bits are w: bay 0 holds an active context
with one fibre whose PC names the word, in the instruction cache, and nothing else is in flight (log entry 2). -/
def State.placeWord (s : State) (w : Nat) : State :=
  let f := Fibre.start 1 0 0 0
  let c := { BayCtx.init 1 wholeBay 0 with slots := [(0, { Slot.init with fib := some f })] }
  let bay := { Bay.init with ctxs := [(0, c)], active := some 0, icache := [(icKey 1 0, wordLine w)] }
  { s with bays := [(0, bay)], ctxs := tset s.ctxs 1 bareCtx, agenda := [], nextId := s.nextId + 2 }

end Sys2Proof.Machine
end

