-- ==== Sys2Proof/Machine/Step.lean ====
section
/-!
DEFINITION. One step of the package: time passes, and one of the things that may come about next comes about.
-/
namespace Sys2Proof.Machine

/-- One step (R2, R92, R419): a cycle of a bay's core, or the arrival of something in flight. -/
def step (s : State) : Host.Outcome State Fault Refusal :=
  let t := s.tickTime
  perform t (pickOne t.choices t.tick)

/-- The state with the instruction of these bits placed where the step fetches its next instruction. -/
def State.withFetchWord (s : State) (nbits w : Nat) : State := s.placeWord (w % 2 ^ nbits)

end Sys2Proof.Machine
end

