-- ==== Sys2Proof/Safety.lean ====
section
/-!
DEFINITION. What counts as a safe run, and the terms in which the statements speak: the invariant that memory keeps its
canonical form, when an instruction issues, and the states after an instruction that retired or that took an exception.
-/
namespace Sys2Proof.Machine

/-- The machine's invariant: memory is in its canonical form. -/
abbrev State.Inv (s : State) : Prop := Memory.wf s.mem = true

/-- A step answers a next state. -/
def goesOn : Out → Bool
  | .next _ => true
  | .fault _ => false
  | .refused _ => false

/-- An instruction that names the registers of `l` issues (R51, R90, R92): the fibre that `cur` names and its context are
there, each of the registers is full, and no frame is open (R112). -/
structure State.Issues (s : State) (l : List GReg) (c : BayCtx) (f : Fibre) : Prop where
  ctx : s.curC = some c
  fibre : s.curF = some f
  full : ∀ r ∈ l, f.isEmpty r = false
  frame : f.frame = none

/-- The fibre has nothing outstanding (R409, R147): its access ring is empty and no deferred fault is recorded. -/
abbrev Fibre.quiet (f : Fibre) : Prop := f.ring = [] ∧ f.dfaults = []

/-- The issuing fibre has become g. -/
def State.asFibre (s : State) (g : Fibre) : State := s.modCur fun _ => g

/-- The issuing fibre has become g by an instruction that retired (R95): the watchdog's pulse (R428) and the counters of
retired instructions (R456) go with it. -/
def State.retired (s : State) (g : Fibre) : State := (s.asFibre g).countRetired s.cur.bay s.cur.idx

/-- The issuing fibre's instruction wrote v to register d, full, and retired: PC follows R108. -/
def State.result (s : State) (f : Fibre) (d : GReg) (v : Word) : State := s.retired (f.setReg d v).retire

/-- The issuing fibre's instruction retired and set PC itself. -/
def State.jumpedTo (s : State) (f : Fibre) (a : Word) : State := s.retired { f with pc := a, wait := .ready }

/-- The issuing fibre f entered handler mode (R409). -/
def State.entered (s : State) (f : Fibre) (cause val seq resume : Word) : State :=
  (s.asFibre (f.enter (s.hentryOf s.cur) cause val seq resume)).countEntry s.cur

/-- The issuing fibre waits in a queue, with the wait reason of R239 and R432. -/
def State.waits (s : State) (f : Fibre) (code : Nat) : State :=
  s.asFibre (f.block (.queued code) (s.bay s.cur.bay).cycle)

/-- The issuing fibre's division with result v issued (R99, R100): the divider is busy until 20 cycles after the cycle of
issue, gd is empty, and v is on its way. -/
def State.divides (s : State) (f : Fibre) (d : GReg) (v : Word) : State :=
  ((((s.modBay s.cur.bay fun x => { x with divBusy := true, divEnd := x.cycle + 19 }).asFibre
    { f.setEmpty d with locals := f.locals + 1 }).postFree
    (.divideComplete s.cur.bay f.uid d v))).retireCur

/-- An event in flight in a lane of its own, the next that the model names. -/
def State.newItem (s : State) (e : Ev) : Item := { lane := 64 * s.nextId, ev := e }

/-- A semaphore of a context on a bay. -/
def State.semAt (s : State) (b i n : Nat) : Option Sem := (s.bctx b i).map fun c => c.sem n

/-- A barrier channel of a context on a bay. -/
def State.chanAt (s : State) (b i n : Nat) : Option Chan := (s.bctx b i).map fun c => c.chan n

/-- A gutter direction of a context on a bay. -/
def State.gutAt (s : State) (b i : Nat) (d : Dir) : Option Gutter := (s.bctx b i).map fun c => c.gut d

/-- A release component of ordering r at scope p has nothing to wait for (R162, R165). -/
abbrev State.mayRelease (s : State) (r : MemOrd) (p : Scope) (f : Fibre) : Prop :=
  relWaits r p f = false ∧ (hasRel r = true → s.unsent f.uid (s.tick + 1) = false)

/-- The issuing fibre after the release component of its ordering, if it has one (R372). -/
def Fibre.marked (f : Fibre) (s : State) (r : MemOrd) : Fibre := if hasRel r then { f with relMark := relMarks s } else f

/-- The value of n bytes from key a on, little-endian (R4). -/
def State.valueAt (s : State) (a n : Nat) : Word := BitVec.ofNat 64 (leNat (memBytes s.mem a n))

/-- The number that a finite value stands for (R63). -/
def FV.rat : FV → ℚ
  | .num neg m e => (if neg then -1 else 1) * m * 2 ^ e
  | .nan => 0
  | .inf _ => 0

/-- The magnitude that a code without its sign stands for, where the code of infinity stands for the next power of two
above the largest value (R63, R71). -/
def Fmt.mag (F : Fmt) (c : Nat) : ℚ :=
  if c / 2 ^ F.f = 0 then c * 2 ^ (1 - (F.bias : Int) - F.f)
  else (c % 2 ^ F.f + 2 ^ F.f : Nat) * 2 ^ ((c / 2 ^ F.f : Nat) - (F.bias : Int) - F.f)

/-- The last code that rounding can give (R72). -/
def Fmt.top (F : Fmt) : Nat := if F.ieee then F.inf else F.maxFin

/-- Code c is the one nearest to the magnitude q, a tie going to the even one (RNE of R71 and R72). -/
def Fmt.Nearest (F : Fmt) (q : ℚ) (c : Nat) : Prop :=
  c ≤ F.top ∧ ∀ y ≤ F.top, |q - F.mag c| ≤ |q - F.mag y| ∧ (|q - F.mag c| = |q - F.mag y| → y ≠ c → c % 2 = 0)

/-- r is rne32(q), an exact zero giving the code `nil` (R69, R71). -/
def Rne32 (q : ℚ) (nil r : Nat) : Prop :=
  if q = 0 then r = nil else ∃ c, fp32.Nearest |q| c ∧ r = fp32.signed (decide (q < 0)) c

/-- The sign of a value. -/
def FV.sign : FV → Bool
  | .nan => false
  | .inf n => n
  | .num n _ _ => n

/-- The value is an infinity. -/
abbrev FV.IsInf (v : FV) : Prop := v = .inf v.sign

/-- The value is a zero. -/
abbrev FV.IsZero (v : FV) : Prop := ∃ e, v = .num v.sign 0 e

/-- t is the value of a group whose elements are a 0 × b 0 to a 31 × b 31 and whose scales are the codes of `codes` (R79,
R80). -/
def GroupValue (a b : Nat → FV) (codes : List Nat) (t : Nat) : Prop :=
  let isInf := fun (n : Bool) => ∃ k < 32, ((a k).IsInf ∨ (b k).IsInf) ∧ ((a k).sign != (b k).sign) = n
  let isNan := 255 ∈ codes ∨ (∃ k < 32, a k = .nan ∨ b k = .nan ∨ ((a k).IsInf ∧ (b k).IsZero) ∨ ((a k).IsZero ∧ (b k).IsInf)) ∨
    (isInf false ∧ isInf true)
  let sum := ∑ k ∈ Finset.range 32, (a k).rat * (b k).rat
  let scale := (codes.map fun x => (2 : ℚ) ^ ((x : Int) - 127)).prod
  (isNan → t = 0x7FC00000) ∧ (¬isNan → ∀ n, isInf n → t = fp32.signed n 0x7F800000) ∧
  (¬isNan → (∀ n, ¬isInf n) → Rne32 (sum * scale) 0 t)

/-- r is the FP32 sum x + y, rounded with RNE (R68, R69). -/
def Sum32 (x y r : Nat) : Prop :=
  let u := fp32.value x
  let v := fp32.value y
  (u = .nan ∨ v = .nan ∨ (u.IsInf ∧ v.IsInf ∧ u.sign ≠ v.sign) → r = 0x7FC00000) ∧
  (u.IsInf → v ≠ .nan → (v.IsInf → u.sign = v.sign) → r = x) ∧ (v.IsInf → u ≠ .nan → (u.IsInf → u.sign = v.sign) → r = y) ∧
  (u ≠ .nan → v ≠ .nan → ¬u.IsInf → ¬v.IsInf → Rne32 (u.rat + v.rat) (if u.sign && v.sign then 0x80000000 else 0) r)

/-- The instructions of majors 0x34 to 0x39, which a frame may hold (R111, R255 to R264). -/
def vecFramed : Instr → Bool
  | .vld .. | .vlds .. | .vldb .. | .vst .. | .vsts .. | .vadd .. | .vsub .. | .vmul .. | .vfma .. | .vfms .. | .vmin ..
  | .vmax .. | .vabs .. | .vneg .. | .vrsq .. | .vrcp .. | .vexp2 .. | .vlog2 .. | .vsqrt .. | .vdiv .. | .vadds ..
  | .vmuls .. | .vfmas .. | .viadd .. | .visub .. | .vimul .. | .vimin .. | .vimax .. | .viminu .. | .vimaxu .. | .vand ..
  | .vor .. | .vxor .. | .vshl .. | .vshr .. | .vsar .. | .viadds .. | .vidx .. | .vcmpeq .. | .vcmplt .. | .vcmple ..
  | .vsel .. | .vrsum .. | .vrmax .. | .vrmin .. | .vshuf .. | .vbcast .. | .vrot .. | .kand .. | .kor .. | .knot ..
  | .vcvt .. | .vcvtsr .. | .vrng .. | .vpack .. | .vunpk .. | .vcvtn4 .. | .vcvtw4 .. => true
  | _ => false

/-- The sequencer's instructions that work on the registers, the loop stack and PC of their fibre alone (R96 to R110,
R117), but for the divisions, which hold the bay's divider. -/
def registerOnly : Instr → Bool
  | .add .. | .sub .. | .and .. | .or .. | .xor .. | .andn .. | .sll .. | .srl .. | .sra .. | .rol .. | .slt .. | .sltu ..
  | .seq .. | .min .. | .max .. | .minu .. | .maxu .. | .slli .. | .srli .. | .srai .. | .sel .. | .addw .. | .subw ..
  | .addi .. | .andi .. | .ori .. | .xori .. | .slti .. | .sltiu .. | .limm .. | .lshi .. | .mul .. | .mulh .. | .mulhu ..
  | .mulw .. | .popc .. | .clz .. | .ctz .. | .bswap .. | .bext .. | .bins .. | .sext .. | .zext .. | .addpc .. | .lea ..
  | .bayn .. | .baya .. | .beq .. | .bne .. | .blt .. | .bge .. | .bltu .. | .bgeu .. | .bbc .. | .bbs .. | .jmp ..
  | .call .. | .jr .. | .callr .. | .loop .. | .loopReg .. | .lbrk .. | .lcnt .. | .nop .. | .trap .. | .hret .. | .time ..
  | .evrd .. => true
  | _ => false

/-- The vector loads and stores (R255). -/
def vecMem : Instr → Bool
  | .vld .. | .vlds .. | .vldb .. | .vst .. | .vsts .. => true
  | _ => false

/-- The first scalar operand that a vector instruction reads at issue (R248): the effective address of a load or store
(R255), the lane index of VINS (R254), else the one general register that it names. -/
def vecX (i : Instr) (f : Fibre) : Word :=
  match i with
  | .vld _ a _ o | .vlds _ a _ _ o | .vldb _ a _ o | .vst _ a _ o | .vsts _ a _ _ o => f.reg a + 32 * o.signExtend 64
  | _ => match namedRegs i with
    | r :: _ => f.reg r
    | [] => 0

/-- The second: the stride of a strided load or store, and the value of VINS. -/
def vecY (i : Instr) (f : Fibre) : Word :=
  match i with
  | .vlds _ _ b _ _ | .vsts _ _ b _ _ | .vins _ _ b _ => f.reg b
  | _ => 0

/-- The fault that a vector instruction takes at issue, or at capture in a frame of n iterations with the step d
(R254, R255, R259): every chunk of every iteration lies within the quota. -/
def vecFault (i : Instr) (f : Fibre) (quota n d : Nat) : Option (Cause × Word) :=
  let x := vecX i f
  let y := vecY i f
  let chunks := fun (l : Nat → List Word) =>
    if x.toNat % 32 ≠ 0 then some (Cause.align, x)
    else if y.toNat % 32 ≠ 0 then some (Cause.align, y)
    else (((List.range n).flatMap l).find? fun a => decide (quota < a.toNat + 32)).map fun a => (Cause.quota, a)
  match i with
  | .vins _ _ _ t | .vbcast _ _ _ t _ => if tyN t ≤ x.toNat then some (.range, x) else none
  | .vld .. | .vst .. => chunks fun j => (List.range 8).map fun q => x + BitVec.ofNat 64 (j * 256 * d + 32 * q)
  | .vlds .. | .vsts .. => chunks fun j => (List.range 8).map fun q => x + BitVec.ofNat 64 (j * 32 * d) + BitVec.ofNat 64 q * y
  | .vldb .. => chunks fun j => [x + BitVec.ofNat 64 (j * 32 * d)]
  | _ => none

/-- An entry as it stands in the queue of vector context v: with the next sequence number and its tag (R247). -/
def State.vecEntry (s : State) (c : BayCtx) (e : VEnt) : VEnt :=
  { e with
    seq := nextSeq c.vring.seq
    tag := mkTag 0 s.cur.idx s.cur.bay s.cur.slot (nextSeq c.vring.seq)
    gen := (c.slot s.cur.slot).gen }

/-- The queue of a vector context of the issuing context. -/
def State.vecQueue (s : State) (v : Nat) : Option (List VEnt) := s.curC.map fun c => (c.vctx v).queue

/-- Every byte of memory reads as before. -/
def SameMemory (s t : State) : Prop := ∀ a, memGet t.mem a = memGet s.mem a

/-- Every byte of memory but n from a on reads as before. -/
def SameMemoryBut (a n : Nat) (s t : State) : Prop := ∀ b, b < a ∨ a + n ≤ b → memGet t.mem b = memGet s.mem b

/-- A command as the port of engine e takes it (R14, R19, R20, R270): with the next sequence number, its tag, and the
64-byte descriptor as it stands. -/
def State.accepted (s : State) (c : BayCtx) (e : Nat) (m : Cmd) : Cmd :=
  { m with
    seq := nextSeq (c.ringOf e).seq
    tag := mkTag e s.cur.idx m.oBay m.oSlot (nextSeq (c.ringOf e).seq)
    desc := if m.reads then s.readDs (spadKey c.asid s.cur.bay m.x.toNat) 8 else m.desc }

/-- From s to t the port of engine e took the command m, at the end of its entries, the engine begins it in its turn, and
the issuing fibre is g (R14, R19). -/
structure State.Accepts (s : State) (c : BayCtx) (e : Nat) (m : Cmd) (g : Fibre) (t : State) : Prop where
  fibre : t.curF = some g
  entry : t.curC.map (fun y => (y.portOf e).ents) = some ((c.portOf e).ents ++ [s.accepted c e m])
  seq : t.curC.map (fun y => (y.ringOf e).seq) = some (nextSeq (c.ringOf e).seq)
  begins : t.agenda = s.agenda ++ [⟨laneEng s.cur.bay s.cur.idx e, beginEv e s.cur.bay s.cur.idx⟩]
  memory : SameMemory s t

/-- From s to t the fibre f took its place behind the port of engine e with the command m (R15, R239). -/
structure State.Queues (s : State) (c : BayCtx) (f : Fibre) (e : Nat) (m : Cmd) (t : State) : Prop where
  fibre : t.curF = some (f.block (.queued (0x11 + e)) (s.bay s.cur.bay).cycle)
  entries : t.curC.map (fun y => (y.portOf e).ents) = some (c.portOf e).ents
  place : t.curC.map (fun y => (y.portOf e).wq) = some ((c.portOf e).wq ++ [m])
  agenda : t.agenda = s.agenda
  memory : SameMemory s t

/-- The port of engine e takes a command at once: it has a free entry and nobody waits (R14, R16). -/
abbrev BayCtx.portFree (c : BayCtx) (e : Nat) : Prop := (c.portOf e).ents.length < 16 ∧ (c.portOf e).wq = []

/-- The instruction i brings its command m to the port of engine e: it is accepted, or the fibre waits (R14, R15). -/
def State.Submits (s : State) (c : BayCtx) (f : Fibre) (e : Nat) (i : Instr) (m : Cmd) : Prop :=
  (c.portFree e → ∃ t, exec i s = .next t ∧ s.Accepts c e m f.retire t) ∧
  (¬c.portFree e → ∃ t, exec i s = .next t ∧ s.Queues c f e m t)

/-- A descriptor form i with its descriptor at x and semaphore n (R31, R270, R364): the faults at issue, and `ok` where
none applies. -/
def State.DescForm (s : State) (c : BayCtx) (f : Fibre) (i : Instr) (x : Word) (n : BitVec 10) (ok : Prop) : Prop :=
  (c.quota.sems ≤ n.toNat → exec i s = .next (s.raise f .quota (n.setWidth 64))) ∧
  (n.toNat < c.quota.sems →
    (x.toNat % 64 ≠ 0 → exec i s = .next (s.raise f .align x)) ∧
    (x.toNat % 64 = 0 → c.quota.scratch < x.toNat + 64 → exec i s = .next (s.raise f .quota x)) ∧
    (x.toNat % 64 = 0 → x.toNat + 64 ≤ c.quota.scratch → ok))

/-- The ring entry of a command of engine e, on a bay (R20). -/
def State.ringAt (s : State) (b i e : Nat) (q : BitVec 32) : Option FEnt := (s.bctx b i).bind fun c => (c.ringOf e).entry q

/-- A semaphore that no fibre waits for has been posted k from s to t, or none was named (R195, R196, R194); in a save image
where its pages verify (R201, R425). -/
def State.Posted (s t : State) (b asid n k : Nat) : Prop :=
  n ≠ 0 → ∀ j x, s.keyOf b asid = some j → (j < 4 ∨ ∀ c, s.bctx b j = some c → s.imageBad b c = none) →
    s.semAt b j n = some x → x.queue = [] →
    t.semAt b j n = some { x with value := x.value + BitVec.ofNat 24 k, ovf := x.ovf || decide (2 ^ 24 ≤ x.value.toNat + k) }

/-- The packet arrived whole, at its target and in form (R336, R382). -/
structure State.Arrived (s : State) (p : Packet) : Prop where
  intact : p.intact = true
  here : p.dst = s.chip.toNat
  form : p.wellFormed = true

/-- A sequenced packet arrived for the first time, at a stream whose target end is active, and may be performed at once
(R353, R354, R355, R357); no response to an earlier packet of its number waits (R356). -/
structure State.Fresh (s : State) (p : Packet) : Prop extends s.Arrived p where
  active : (s.receiver p.src).resident = true
  first : (s.receiver p.src).fate p.seq = .fresh
  now : (s.receiver p.src).allows p = true
  clear : s.unanswered p = false

/-- The packet has its place in the window of its stream (R351). -/
def State.holding (s : State) (p : Packet) : State :=
  s.modReceiver p.src fun r => { r with win := tset r.win p.seq.toNat (.held p) }

/-- The sender's end toward a chip sends at once: active, whole, nothing waits and its list has room (R352, R357, R383). -/
structure Sender.Open (e : Sender) : Prop where
  active : e.resident = true
  whole : e.torn = false
  idle : e.waiting = []
  room : e.unack.length < 1024

/-- From s to t the stream toward a chip sent one more packet, stamped with the next sequence number and sealed (R351,
R352, R355). -/
def State.Sends (s t : State) (chip : Nat) (p : Packet) : Prop :=
  ∃ y d, (t.sender chip).unack = (s.sender chip).unack ++ [((s.sender chip).nseq, y)] ∧
    y.pkt = (stampSeq p (s.sender chip).nseq d).seal ∧ (t.sender chip).nseq = (s.sender chip).nseq + 1

end Sys2Proof.Machine
end

