-- ==== Sys2Proof/Certificates/Slice0/Obligations.lean ====
section
/-!
DEFINITION. The statements for the provers, from the numbered rules of spec/.
-/
open Sys2Proof Sys2Proof.Machine

/-- Decoding the encoded word of a well-formed instruction gives that instruction, with every operand at every value
that the encoding admits; and a word that decodes to an instruction is that instruction’s own encoded word, and the
instruction is well formed. (R41, R44, R45, R46, R47, R48, R49, R50.) -/
def Obligations.RoundTrip : Prop :=
  (∀ (i : Instr) (w : BitVec 32), i.wf = true → encode i = some w → decode w = .ok i) ∧
    (∀ (w : BitVec 32) (i : Instr), decode w = .ok i → i.wf = true ∧ encode i = some w)

/-- From every state whose memory is in canonical form (addresses strictly rising, no listed byte that reads as an
unlisted one does), a step that answers a next state leaves the memory in canonical form; the canonical form is the
model’s way to list memory. (R4, R128, R455.) -/
def Obligations.StepKeepsInvariant : Prop :=
  ∀ s t : State, s.Inv → step s = .next t → t.Inv

/-- In every step the life-cycle state stays or moves along the table of R454, with no context on the package, and
then the front end is not ready and the wipe runs; the fused minimum version changes only with it. (R454, R455.) -/
def Obligations.LifeCycle : Prop :=
  ∀ s t : State, step s = .next t →
    (t.mgmt.lc = s.mgmt.lc ∧ t.mgmt.minVer = s.mgmt.minVer) ∨
    ((s.mgmt.lc, t.mgmt.lc) ∈ [(1, 2), (2, 3), (2, 4), (3, 4)] ∧ s.ctxs = [] ∧ t.mgmt.ready = false ∧
      t.mgmt.wiping = true ∧ (t.mgmt.lc ≠ 3 → t.mgmt.minVer = s.mgmt.minVer))

/-- After reset every byte of the device’s memory reads zero and the memory is in canonical form; no context exists
and no window is open; no bay is active or fenced (the model’s choice, log entry 4); FESTAT reads not ready while the
wipe runs; the error queue registers and the dropped count are zero; nothing is in flight but the end of the wipe.
(R435, R452, R455.) -/
def Obligations.ResetState : Prop :=
  State.reset.Inv ∧ (∀ a, a < 2 ^ 50 ∨ 2 ^ 51 ≤ a → memGet State.reset.mem a = 0) ∧ State.reset.ctxs = [] ∧
    (∀ b, (State.reset.bay b).active = none ∧ (State.reset.bay b).fenced = false) ∧
    State.reset.mgmt.ready = false ∧ State.reset.mgmt.wiping = true ∧
    State.reset.front.errBase = 0 ∧ State.reset.front.errCfg = 0 ∧ State.reset.front.errHead = 0 ∧
    State.reset.front.errTail = 0 ∧ State.reset.front.errOvf = 0 ∧
    State.reset.agenda.map Item.ev = [.wipeComplete] ∧ (∀ n, (State.reset.window n).kind = 0)

/-- Where the cycle of a bay comes next, the fibre chosen among the ready ones runs the instruction that its word at
PC decodes to: the step is that instruction’s exec, after time has passed and the cycle’s bookkeeping is done, with
this fibre as the issuing one. A word that no encoding allows traps as ILLEGAL_WORD; a fibre that takes a pending
fault takes it instead; an event that comes next is run with its particulars, unless it comes for a context that is
stopped at its bay, for which the mesh parks it. (R38, R50, R92, R93, R191, R412, R421.) -/
def Obligations.StepRunsDecoded : Prop :=
  ∀ (s : State) (b i : Nat) (c : BayCtx) (k : Nat) (f : Fibre) (a : Act) (w : BitVec 32),
    let u := s.tickTime
    let l := u.readyList b i c c.slots
    let t := { u.cycleBook b i c l (some k) with cur := { bay := b, idx := i, slot := k } }
    (pickOne u.choices u.tick = some (.bay b i) → u.bctx b i = some c →
      choose c.quota.slots c.lastSlot c.cellar.cong l = some (k, f, a) →
      (a = .fault → step s = exec .pendingFaultTaken { t with ev := .pendingFaultTaken b i k }) ∧
      (a ≠ .fault → u.fetch b c.asid f.pc = some w →
        (∀ x, decode w = .ok x → step s = exec x t) ∧
        (∀ e, decode w = .error e → step s = exec .illegalWord { t with ev := .illegalWord w }))) ∧
    (∀ n x, pickOne u.choices u.tick = some (.event n) → u.agenda[n]? = some x →
      (u.parksAt x = none → step s = exec x.ev.instr { u with agenda := u.agenda.eraseIdx n, ev := x.ev, lane := x.lane }) ∧
      (∀ p j, u.parksAt x = some (p, j) → ∃ v, step s = .next v ∧ v.mem = u.mem ∧
        ∀ y, j < 4 → u.bctx p j = some y → u.keyOf p y.asid = some j →
          v = ({ u with agenda := u.agenda.eraseIdx n }).modC p j fun z => { z with park := z.park ++ [x] }))

/-- The words of the worked example of the encoding chapter, and some written out from its tables, decode to the
instructions that they stand for; the all-zero word, the all-one word, a store with Z set and a fence of kind 0 decode
to none. (R46, R47, R48, R49, R50, R56.) -/
def Obligations.DecodeWords : Prop :=
  decode 0x21000000 = .ok (.limm 2 0) ∧ decode 0x50002003 = .ok (.loop 0 8 3) ∧
    decode 0x819C0000 = .ok (.ldl 3 1 .d false 0) ∧ decode 0x08900008 = .ok (.addi 1 1 8) ∧
    decode 0x05260000 = .ok (.add 2 2 3) ∧ decode 0x22A468AC = .ok (.limm 5 0x2468AC) ∧
    decode 0x26F89ABC = .ok (.lshi 5 0x789ABC) ∧ decode 0x65003220 = .ok (.spost 2 12 .rel .bay) ∧
    decode 0x4C700000 = .ok (.jr 7) ∧ decode 0x65803220 = .ok (.spost 3 12 .rel .bay) ∧ decode 0xF8000000 = .ok .nop ∧
    decode (0x25#6 ++ 0#6 ++ 0#6 ++ 0#9 ++ 3#2 ++ 3#3) = .ok (.fence .full .pkg) ∧
    decode (0x38#6 ++ 9#5 ++ 2#3 ++ 0#3 ++ 0#2 ++ 3#3 ++ 5#10) = .ok (.vld 9 2 3 5) ∧
    decode (0x3B#6 ++ 6#6 ++ 1#3 ++ 2#3 ++ 8#4 ++ 7#10) = .ok (.mpass 6 1 2 8 7) ∧
    decode (0x28#6 ++ 4#3 ++ 0#3 ++ 17#10 ++ 0#2 ++ 1#3 ++ 0#5) = .ok (.cpy 4 17 .rlx .bay) ∧
    decode (0x30#6 ++ 1#3 ++ 2#3 ++ 5#10 ++ 0#5 ++ 0#5) = .ok (.carm 1 2 5) ∧
    decode 0 = .error .unassignedMajor ∧ decode 0xFFFFFFFF = .error .unassignedMajor ∧
    decode (0x21#6 ++ 3#3 ++ 1#3 ++ 3#2 ++ 1#1 ++ 0#17) = .error .reservedField ∧
    decode (0x25#6 ++ 0#6 ++ 0#6 ++ 0#9 ++ 0#2 ++ 3#3) = .error .badKind

/-- A register instruction of the sequencer core, in any state in which it answers a next state (a result, a wait, a
fault or a double fault), leaves every byte of memory, every other fibre of the package, every semaphore, barrier
channel, gutter, vector context, engine and cistern of every context, and every unit of the package as they were; of
the issuing fibre’s context it changes at most its silence, the launch’s fault count and its end with the time of it.
Where it retires, nothing else of its bay changes but the event counters. (R95, R96, R97, R98, R101, R103, R104, R105,
R107, R109, R117.) -/
def Obligations.RegisterFrame : Prop :=
  ∀ (i : Instr) (s t : State), registerOnly i = true → exec i s = .next t →
    t = { s with bays := t.bays, ctxs := t.ctxs, agenda := t.agenda } ∧ SameMemory s t ∧
    (∀ b j k, (b, j, k) ≠ (s.cur.bay, s.cur.idx, s.cur.slot) → t.fib b j k = s.fib b j k) ∧
    (∀ b j, (t.bctx b j).map (fun c => { c with slots := [] }) = (s.bctx b j).map fun c => { c with slots := [] }) ∧
    (∀ b, t.bay b = { s.bay b with ctxs := (t.bay b).ctxs, evc := (t.bay b).evc }) ∧
    (∀ a, (∀ c, s.curC = some c → c.asid ≠ a) → t.ctx a = s.ctx a) ∧
    (∀ a c x, s.curC = some c → s.ctx a = some x → ∃ y, t.ctx a = some y ∧
      y = { x with silence := y.silence, launch := y.launch, ended := y.ended, endTime := y.endTime } ∧
      ∃ n, y.launch = x.launch.map fun l => { l with faults := n }) ∧
    (t.agenda = s.agenda ∨ ∃ x, t.agenda = s.agenda ++ [x])

/-- For every fibre in ordinary issue conditions and every value of its registers, each instruction of R96 answers a
next state in which gd holds, full, the value of its row of the table, and the instruction has retired; nothing else
of the fibre but PC changes. (R96, R95.) -/
def Obligations.IntegerResults : Prop :=
  ∀ (s : State) (c : BayCtx) (f : Fibre) (d a b : GReg) (h : BitVec 6),
    (s.Issues [d, a, b] c f →
      let x := f.reg a
      let y := f.reg b
      let n := y.toNat % 64
      exec (.add d a b) s = .next (s.result f d (x + y)) ∧
      exec (.sub d a b) s = .next (s.result f d (x - y)) ∧
      exec (.and d a b) s = .next (s.result f d (x &&& y)) ∧
      exec (.or d a b) s = .next (s.result f d (x ||| y)) ∧
      exec (.xor d a b) s = .next (s.result f d (x ^^^ y)) ∧
      exec (.andn d a b) s = .next (s.result f d (x &&& ~~~y)) ∧
      exec (.sll d a b) s = .next (s.result f d (x <<< n)) ∧
      exec (.srl d a b) s = .next (s.result f d (x >>> n)) ∧
      exec (.sra d a b) s = .next (s.result f d (x.sshiftRight n)) ∧
      exec (.rol d a b) s = .next (s.result f d (x.rotateLeft n)) ∧
      exec (.slt d a b) s = .next (s.result f d (if x.slt y then 1 else 0)) ∧
      exec (.sltu d a b) s = .next (s.result f d (if x < y then 1 else 0)) ∧
      exec (.seq d a b) s = .next (s.result f d (if x = y then 1 else 0)) ∧
      exec (.min d a b) s = .next (s.result f d (if x.slt y then x else y)) ∧
      exec (.max d a b) s = .next (s.result f d (if y.slt x then x else y)) ∧
      exec (.minu d a b) s = .next (s.result f d (if x < y then x else y)) ∧
      exec (.maxu d a b) s = .next (s.result f d (if y < x then x else y)) ∧
      exec (.sel d a b) s = .next (s.result f d (if f.reg d ≠ 0 then x else y)) ∧
      exec (.addw d a b) s = .next (s.result f d (((x + y).setWidth 32).signExtend 64)) ∧
      exec (.subw d a b) s = .next (s.result f d (((x - y).setWidth 32).signExtend 64))) ∧
    (s.Issues [d, a] c f →
      exec (.slli d a h) s = .next (s.result f d (f.reg a <<< h.toNat)) ∧
      exec (.srli d a h) s = .next (s.result f d (f.reg a >>> h.toNat)) ∧
      exec (.srai d a h) s = .next (s.result f d ((f.reg a).sshiftRight h.toNat)))

/-- Each instruction of R97 has the major and the I format of the table, and for every fibre in ordinary issue
conditions it answers a next state in which gd holds, full, the value of its row, with IMM20 sign-extended. (R97.) -/
def Obligations.ImmediateResults : Prop :=
  ∀ (s : State) (c : BayCtx) (f : Fibre) (d a : GReg) (m : BitVec 20),
    (encode (.addi d a m) = some (0x02#6 ++ d ++ a ++ m) ∧ encode (.andi d a m) = some (0x03#6 ++ d ++ a ++ m) ∧
      encode (.ori d a m) = some (0x04#6 ++ d ++ a ++ m) ∧ encode (.xori d a m) = some (0x05#6 ++ d ++ a ++ m) ∧
      encode (.slti d a m) = some (0x06#6 ++ d ++ a ++ m) ∧ encode (.sltiu d a m) = some (0x07#6 ++ d ++ a ++ m)) ∧
    (s.Issues [d, a] c f →
      let x := f.reg a
      let i : Word := m.signExtend 64
      exec (.addi d a m) s = .next (s.result f d (x + i)) ∧
      exec (.andi d a m) s = .next (s.result f d (x &&& i)) ∧
      exec (.ori d a m) s = .next (s.result f d (x ||| i)) ∧
      exec (.xori d a m) s = .next (s.result f d (x ^^^ i)) ∧
      exec (.slti d a m) s = .next (s.result f d (if x.slt i then 1 else 0)) ∧
      exec (.sltiu d a m) s = .next (s.result f d (if x < i then 1 else 0)))

/-- LIMM writes IMM23 sign-extended; LSHI writes the old gd shifted left by 23 with IMM23 in the low bits, and does
not issue while gd is empty; ADDPC writes its own address plus four times IMM20 sign-extended. Each has its major and
format. LEA adds gb shifted left by sh; BAYN gives the bay number of coordinates, and BAYA the aperture address of a
byte of a bay; an operand out of range is the precise fault RANGE with that operand, the first operand before the
second. (R9, R90, R98, R102, R103.) -/
def Obligations.ConstantAndAddressResults : Prop :=
  (∀ (s : State) (c : BayCtx) (f : Fibre) (d : GReg) (m : BitVec 23) (n : BitVec 20),
    (encode (.limm d m) = some (0x08#6 ++ d ++ m) ∧ encode (.lshi d m) = some (0x09#6 ++ d ++ m) ∧
      encode (.addpc d n) = some (0x0C#6 ++ d ++ 0#3 ++ n)) ∧
    (s.Issues [d] c f →
      exec (.limm d m) s = .next (s.result f d (m.signExtend 64)) ∧
      exec (.lshi d m) s = .next (s.result f d ((f.reg d <<< 23) ||| m.setWidth 64)) ∧
      exec (.addpc d n) s = .next (s.result f d (f.pc + 4 * n.signExtend 64))) ∧
    (s.curC = some c → s.curF = some f → f.isEmpty d = true → f.isFaulted d = false → exec (.lshi d m) s = .next s)) ∧
  (∀ (s : State) (c : BayCtx) (f : Fibre) (d a b : GReg) (h : BitVec 2), s.Issues [d, a, b] c f →
    let x := f.reg a
    let y := f.reg b
    exec (.lea d a b h) s = .next (s.result f d (x + y <<< h.toNat)) ∧
    (x ≤ 63 → y ≤ 23 → exec (.bayn d a b) s = .next (s.result f d ((y / 12 * 4 + x / 16) * 192 + y % 12 * 16 + x % 16))) ∧
    (63 < x → exec (.bayn d a b) s = .next (s.raise f .range x)) ∧
    (x ≤ 63 → 23 < y → exec (.bayn d a b) s = .next (s.raise f .range y)) ∧
    (x < 0x200000 → y < 1536 → exec (.baya d a b) s = .next (s.result f d (0x00FE000000000000 + y * 0x200000 + x))) ∧
    (0x200000 ≤ x → exec (.baya d a b) s = .next (s.raise f .range x)) ∧
    (x < 0x200000 → 1536 ≤ y → exec (.baya d a b) s = .next (s.raise f .range y)))

/-- MUL, MULH, MULHU and MULW write the products of R99. DIV, DIVU, REM and REMU, where the divider of the bay is
free, take the divider, mark gd empty and send the quotient or remainder of R99 on its way, to come no sooner than 20
bay cycles after the cycle of issue, with the corners of division by 0 and of the most negative number by -1; no case
faults. While the divider is busy a division does not issue. (R99, R100, R89, R93.) -/
def Obligations.MultiplyDivideResults : Prop :=
  ∀ (s : State) (c : BayCtx) (f : Fibre) (d a b : GReg), s.Issues [d, a, b] c f →
    let x := f.reg a
    let y := f.reg b
    exec (.mul d a b) s = .next (s.result f d (x * y)) ∧
    exec (.mulh d a b) s = .next (s.result f d (((x.signExtend 128) * (y.signExtend 128)).extractLsb' 64 64)) ∧
    exec (.mulhu d a b) s = .next (s.result f d (((x.setWidth 128) * (y.setWidth 128)).extractLsb' 64 64)) ∧
    exec (.mulw d a b) s = .next (s.result f d ((x.setWidth 32 * y.setWidth 32).signExtend 64)) ∧
    ((s.bay s.cur.bay).divBusy = false →
      exec (.div d a b) s = .next (s.divides f d (if y = 0 then 0xFFFFFFFFFFFFFFFF
        else if x = 0x8000000000000000 ∧ y = 0xFFFFFFFFFFFFFFFF then x else x.sdiv y)) ∧
      exec (.divu d a b) s = .next (s.divides f d (if y = 0 then 0xFFFFFFFFFFFFFFFF else x / y)) ∧
      exec (.rem d a b) s = .next (s.divides f d (if y = 0 then x
        else if x = 0x8000000000000000 ∧ y = 0xFFFFFFFFFFFFFFFF then 0 else x.srem y)) ∧
      exec (.remu d a b) s = .next (s.divides f d (if y = 0 then x else x % y))) ∧
    ((s.bay s.cur.bay).divBusy = true →
      exec (.div d a b) s = .next s ∧ exec (.divu d a b) s = .next s ∧ exec (.rem d a b) s = .next s ∧
      exec (.remu d a b) s = .next s)

/-- POPC counts the 1 bits, CLZ and CTZ the leading and trailing 0 bits (64 for 0), BSWAP reverses the bytes, BEXT and
BINS move the field of position gb[5:0] and width min(gb[12:6], 64), SEXT and ZEXT extend the low n bits, bit by bit
as R101 says. (R101.) -/
def Obligations.BitResults : Prop :=
  ∀ (s : State) (c : BayCtx) (f : Fibre) (d a b : GReg) (m : BitVec 6),
    (s.Issues [d, a] c f →
      let x := f.reg a
      exec (.popc d a) s = .next (s.result f d (BitVec.ofNat 64 ((List.range 64).countP fun k => x.getLsbD k))) ∧
      (∃ v : Word, exec (.clz d a) s = .next (s.result f d v) ∧ v.toNat ≤ 64 ∧
        (∀ k, k < v.toNat → x.getLsbD (63 - k) = false) ∧ (v.toNat < 64 → x.getLsbD (63 - v.toNat) = true)) ∧
      (∃ v : Word, exec (.ctz d a) s = .next (s.result f d v) ∧ v.toNat ≤ 64 ∧
        (∀ k, k < v.toNat → x.getLsbD k = false) ∧ (v.toNat < 64 → x.getLsbD v.toNat = true)) ∧
      (∃ v : Word, exec (.bswap d a) s = .next (s.result f d v) ∧
        ∀ k, k < 8 → v.extractLsb' (8 * k) 8 = x.extractLsb' (56 - 8 * k) 8) ∧
      exec (.sext d a m) s = .next (s.result f d ((x.setWidth (m.toNat + 1)).signExtend 64)) ∧
      exec (.zext d a m) s = .next (s.result f d ((x.setWidth (m.toNat + 1)).setWidth 64))) ∧
    (s.Issues [d, a, b] c f →
      let x := f.reg a
      let y := f.reg b
      let pos := (y.extractLsb' 0 6).toNat
      let w := min (y.extractLsb' 6 7).toNat 64
      (∃ v : Word, exec (.bext d a b) s = .next (s.result f d v) ∧
        ∀ j, j < 64 → v.getLsbD j = (decide (j < w) && x.getLsbD (pos + j))) ∧
      (∃ v : Word, exec (.bins d a b) s = .next (s.result f d v) ∧
        ∀ j, j < 64 → v.getLsbD j =
          if pos ≤ j ∧ j < pos + w then x.getLsbD (j - pos) else (f.reg d).getLsbD j))

/-- A branch of R104 whose condition holds sets PC to its address plus four times its offset and makes no loop-end
test; one whose condition does not hold retires with PC as R108 says. JMP and CALL jump by their offset, JR and CALLR
to ga, CALL and CALLR with g7 set to the address of the next instruction; a misaligned target raises ALIGN and leaves
g7 unchanged. LOOP in ordinary mode at a level not above the depth sets the entry of its level with START, END and
REM, discards the deeper entries and goes on at the body; a count of 0 skips the body; a level above the depth raises
LSTACK. LBRK leaves its loop and every loop inside it. In handler mode both raise ILLEGAL. LCNT reads REM and never
faults. (R104, R105, R106, R107, R109, R110.) -/
def Obligations.BranchAndLoopResults : Prop :=
  (∀ (s : State) (c : BayCtx) (f : Fibre) (a b : GReg) (q : BitVec 17) (r : BitVec 26),
    (s.Issues [a, b] c f →
      let x := f.reg a
      let y := f.reg b
      let to_ := s.jumpedTo f (f.pc + 4 * q.signExtend 64)
      let on := s.retired f.retire
      exec (.beq a b q) s = .next (if x = y then to_ else on) ∧
      exec (.bne a b q) s = .next (if x = y then on else to_) ∧
      exec (.blt a b q) s = .next (if x.slt y then to_ else on) ∧
      exec (.bge a b q) s = .next (if x.slt y then on else to_) ∧
      exec (.bltu a b q) s = .next (if x < y then to_ else on) ∧
      exec (.bgeu a b q) s = .next (if x < y then on else to_) ∧
      exec (.bbc a b q) s = .next (if x.getLsbD (y.toNat % 64) = true then on else to_) ∧
      exec (.bbs a b q) s = .next (if x.getLsbD (y.toNat % 64) = true then to_ else on)) ∧
    (s.Issues [] c f → exec (.jmp r) s = .next (s.jumpedTo f (f.pc + 4 * r.signExtend 64))) ∧
    (s.Issues [7] c f →
      exec (.call r) s = .next (s.jumpedTo (f.setReg 7 (f.pc + 4)) (f.pc + 4 * r.signExtend 64))) ∧
    (s.Issues [a] c f →
      exec (.jr a) s = .next (if (f.reg a).toNat % 4 = 0 then s.jumpedTo f (f.reg a) else s.raise f .align (f.reg a))) ∧
    (s.Issues [a, 7] c f →
      exec (.callr a) s = .next (if (f.reg a).toNat % 4 = 0 then s.jumpedTo (f.setReg 7 (f.pc + 4)) (f.reg a)
        else s.raise f .align (f.reg a)))) ∧
  (∀ (s : State) (c : BayCtx) (f : Fibre) (d a : GReg) (l : BitVec 2) (k e : BitVec 10),
    let n : BitVec 10 → Word := fun x => x.setWidth 64
    let stop := f.pc + 4 * n e
    let loop : Word → State := fun w => s.retired (if w = 0 then { f with pc := stop + 4, wait := .ready } else
      { f with
        loops := { start := f.pc + 4, stop := stop, rem := w } :: f.loops.drop (f.loops.length - l.toNat)
        pc := f.pc + 4
        wait := .ready })
    (s.Issues [] c f → f.hm = false → l.toNat ≤ f.loops.length → exec (.loop l k e) s = .next (loop (n k))) ∧
    (s.Issues [a] c f → f.hm = false → l.toNat ≤ f.loops.length → exec (.loopReg l a e) s = .next (loop (f.reg a))) ∧
    (s.Issues [] c f → f.hm = false → f.loops.length < l.toNat →
      exec (.loop l k e) s = .next (s.raise f .lstack (l.setWidth 64))) ∧
    (s.Issues [a] c f → f.hm = false → f.loops.length < l.toNat →
      exec (.loopReg l a e) s = .next (s.raise f .lstack (l.setWidth 64))) ∧
    (s.Issues [] c f → f.hm = true → exec (.loop l k e) s = .next (s.raise f .illegal (wordOf (.loop l k e))) ∧
      exec (.lbrk l) s = .next (s.raise f .illegal (wordOf (.lbrk l)))) ∧
    (s.Issues [a] c f → f.hm = true → exec (.loopReg l a e) s = .next (s.raise f .illegal (wordOf (.loopReg l a e)))) ∧
    (s.Issues [] c f → f.hm = false → f.loops.length ≤ l.toNat →
      exec (.lbrk l) s = .next (s.raise f .lstack (l.setWidth 64))) ∧
    (∀ outer inner x, f.loops = inner ++ x :: outer → outer.length = l.toNat →
      (s.Issues [] c f → f.hm = false →
        exec (.lbrk l) s = .next (s.retired { f with pc := x.stop + 4, loops := outer, wait := .ready })) ∧
      (s.Issues [d] c f → exec (.lcnt d l) s = .next (s.result f d x.rem))) ∧
    (s.Issues [d] c f → f.loops.length ≤ l.toNat → exec (.lcnt d l) s = .next (s.result f d 0)))

/-- After an instruction at address a that did not set PC retires, PC is a + 4; in ordinary mode the innermost loop
that ends at a loops back to its START with one pass less while more than one pass is left, and is popped on its last
pass, after which the next loop out is tested. In handler mode the loop stack is frozen. (R108, R110.) -/
def Obligations.NextPcRule : Prop :=
  ∀ (f : Fibre) (x : LoopEnt) (r : List LoopEnt),
    (f.hm = true → f.nextPc = { f with pc := f.pc + 4 }) ∧
    (f.hm = false → f.loops = [] → f.nextPc = { f with pc := f.pc + 4 }) ∧
    (f.hm = false → f.loops = x :: r → x.stop ≠ f.pc → f.nextPc = { f with pc := f.pc + 4 }) ∧
    (f.hm = false → f.loops = x :: r → x.stop = f.pc → 1 < x.rem →
      f.nextPc = { f with pc := x.start, loops := { x with rem := x.rem - 1 } :: r }) ∧
    (f.hm = false → f.loops = x :: r → x.stop = f.pc → x.rem ≤ 1 → f.nextPc = ({ f with loops := r } : Fibre).nextPc)

/-- A fibre starts with PC its entry, g1 its argument and the other registers zero, every register full, an empty loop
stack, zero handler registers and scratch, no frame, and a status word that holds the base priority alone. (R87.) -/
def Obligations.FibreStart : Prop :=
  ∀ (u : Nat) (entry arg : Word) (p : BitVec 3),
    let f := Fibre.start u entry arg p
    f.pc = entry ∧ f.reg 1 = arg ∧ (∀ r : GReg, r ≠ 1 → f.reg r = 0) ∧ (∀ r : GReg, f.isEmpty r = false) ∧
    f.loops = [] ∧ f.hpc = 0 ∧ f.hcause = 0 ∧ f.hval = 0 ∧ f.hseq = 0 ∧ f.hscr = 0 ∧ f.frame = none ∧
    f.fstat = p.setWidth 64

/-- FSTAT reads the base priority in bits 2 to 0, handler mode in bit 3, the loop depth in bits 6 to 4, the bound
vector context in bits 10 to 8 with VB in bit 11, and the instructions still to be captured in bits 20 to 16; every
other bit is 0. (R88, R115.) -/
def Obligations.StatusWord : Prop :=
  ∀ f : Fibre, f.loops.length ≤ 4 → (∀ v, f.vctx = some v → v < 8) → (∀ x, f.frame = some x → x.left ≤ 16) →
    f.fstat.extractLsb' 0 3 = f.pri ∧
    f.fstat.getLsbD 3 = f.hm ∧
    (f.fstat.extractLsb' 4 3).toNat = f.loops.length ∧
    f.fstat.getLsbD 7 = false ∧
    (f.fstat.extractLsb' 8 3).toNat = f.vctx.getD 0 ∧
    f.fstat.getLsbD 11 = f.vctx.isSome ∧
    f.fstat.extractLsb' 12 4 = 0 ∧
    (f.fstat.extractLsb' 16 5).toNat = (match f.frame with | some x => x.left | none => 0) ∧
    f.fstat.extractLsb' 21 43 = 0 ∧
    (∀ (s : State) (c : BayCtx) (d a : GReg),
      (s.Issues [d] c f → exec (.sysrd d 0) s = .next (s.result f d f.fstat)) ∧
      (s.Issues [a] c f → exec (.syswr a 0) s = .next (s.retired f.retire)))

/-- NOP only advances PC. TRAP in ordinary mode with nothing outstanding retires and enters handler mode with cause 8,
its code in HVAL and the PC of R108 in HPC. HRET outside handler mode raises ILLEGAL; in handler mode with nothing
outstanding it sets PC to HPC and leaves handler mode; a misaligned HPC then raises ALIGN with the old HPC in HPC and
HVAL; while the access ring is not empty it waits, and a recorded fault of the handler is a double fault. (R117, R409,
R411.) -/
def Obligations.NopTrapHret : Prop :=
  ∀ (s : State) (c : BayCtx) (f : Fibre) (k : BitVec 14), s.Issues [] c f →
    exec .nop s = .next (s.retired f.retire) ∧
    (f.hm = false → f.quiet →
      exec (.trap k) s = .next ((s.retired f.retire).entered f.retire 8 (k.setWidth 64) 0 f.nextPc.pc)) ∧
    (f.hm = false → exec .hret s = .next (s.raise f .illegal 0xF8200000)) ∧
    (f.hm = true → f.quiet → f.hpc.toNat % 4 = 0 →
      exec .hret s = .next (s.retired { f with pc := f.hpc, hm := false, wait := .ready })) ∧
    (f.hm = true → f.quiet → f.hpc.toNat % 4 ≠ 0 →
      let g := { f with pc := f.hpc, hm := false, wait := .ready }
      exec .hret s = .next ((s.retired g).entered g 3 f.hpc 0 f.hpc)) ∧
    (f.hm = true → f.ring ≠ [] → f.wait = .ready →
      exec .hret s = .next (s.asFibre (f.block (.retry 9) (s.bay s.cur.bay).cycle))) ∧
    (f.hm = true → f.ring = [] → ∀ x, oldest f.dfaults = some x →
      exec .hret s = .next (s.doubleFault s.cur f (causeDeferred x.cause) x.ea 0 x.pc))

/-- SYSRD copies each register of R114 into gd, of the fault-ring window of each engine RSEL, the tag, the status with
its fields, the value, the segment of a copy fault and RLAST, and 0 for its other numbers. SYSWR writes HSCR in either
mode, the Handler registers in handler mode only (outside it ILLEGAL with the word; the reserved bits of HCAUSE stay
0), ignores the RO registers, and of each fault-ring window writes RSEL and ignores the rest. (R88, R114, R115, R116,
R407, R417, R418.) -/
def Obligations.SystemRegisters : Prop :=
  ∀ (s : State) (c : BayCtx) (f : Fibre) (d a : GReg),
    let rings := fun (k : Nat) (r : FRing) => (k = 0 ∧ r = c.vring) ∨ (k = 1 ∧ r = c.mring) ∨ (k = 2 ∧ r = c.cring) ∨
      (k = 3 ∧ r = c.fring)
    (s.Issues [d] c f →
      exec (.sysrd d 0) s = .next (s.result f d f.fstat) ∧
      exec (.sysrd d 1) s = .next (s.result f d f.hpc) ∧
      exec (.sysrd d 2) s = .next (s.result f d f.hcause) ∧
      exec (.sysrd d 3) s = .next (s.result f d f.hval) ∧
      exec (.sysrd d 4) s = .next (s.result f d f.hseq) ∧
      exec (.sysrd d 5) s = .next (s.result f d f.hscr) ∧
      exec (.sysrd d 0x10) s = .next (s.result f d (BitVec.ofNat 64 s.cur.bay)) ∧
      (s.cur.idx < 4 → 1 ≤ c.quota.slots → c.quota.slots ≤ 256 → c.asid < 65536 →
        ∃ v : Word, exec (.sysrd d 0x11) s = .next (s.result f d v) ∧ v.extractLsb' 42 22 = s.chip ∧
          v.extractLsb' 26 16 = 0 ∧ (v.extractLsb' 24 2).toNat = s.cur.idx ∧
          (v.extractLsb' 16 8).toNat = c.quota.slots - 1 ∧ (v.extractLsb' 0 16).toNat = c.asid) ∧
      exec (.sysrd d 0x12) s = .next (s.result f d c.launchArg) ∧
      (∀ k r, rings k r → let y := tget .init r.ents r.rsel.toNat
        let win := fun (j : Nat) (v : Word) => exec (.sysrd d (BitVec.ofNat 14 (0x40 + 16 * k + j))) s = .next (s.result f d v)
        win 0 (r.rsel.setWidth 64) ∧ win 1 y.tag ∧ win 3 y.val ∧ win 5 (r.rlast.setWidth 64) ∧
        win 4 (if k = 2 then (y.aux.setWidth 28).setWidth 64 else 0) ∧ (∀ j, 6 ≤ j → j < 16 → win j 0) ∧
        ∃ v : Word, win 2 v ∧ v.getLsbD 63 = y.valid ∧ v.getLsbD 62 = y.done ∧ v.getLsbD 61 = y.flt ∧ v.getLsbD 60 = y.pend ∧
          v.getLsbD 59 = y.orph ∧ v.extractLsb' 16 43 = 0 ∧ v.extractLsb' 8 8 = y.sub ∧ v.extractLsb' 0 8 = 0)) ∧
    (s.Issues [a] c f →
      let v := f.reg a
      exec (.syswr a 5) s = .next (s.retired { f with hscr := v }.retire) ∧
      (f.hm = true →
        exec (.syswr a 1) s = .next (s.retired { f with hpc := v }.retire) ∧
        exec (.syswr a 2) s = .next (s.retired { f with hcause := v &&& 0xC00000000000FFFF }.retire) ∧
        exec (.syswr a 3) s = .next (s.retired { f with hval := v }.retire) ∧
        exec (.syswr a 4) s = .next (s.retired { f with hseq := v }.retire)) ∧
      (f.hm = false → ∀ n : BitVec 14, n = 1 ∨ n = 2 ∨ n = 3 ∨ n = 4 →
        exec (.syswr a n) s = .next (s.raise f .illegal (wordOf (.syswr a n)))) ∧
      (∀ n : BitVec 14, n = 0 ∨ n = 0x10 ∨ n = 0x11 ∨ n = 0x12 → exec (.syswr a n) s = .next (s.retired f.retire)) ∧
      (∀ k j, k < 4 → 1 ≤ j → j < 16 →
        exec (.syswr a (BitVec.ofNat 14 (0x40 + 16 * k + j))) s = .next (s.retired f.retire)) ∧
      let selects := fun (n : BitVec 14) (g : BayCtx → BayCtx) => exec (.syswr a n) s = .next ((s.modCurC g).retireCur)
      selects 0x40 (fun x => { x with vring := { x.vring with rsel := v.setWidth 6 } }) ∧
      selects 0x50 (fun x => { x with mring := { x.mring with rsel := v.setWidth 6 } }) ∧
      selects 0x60 (fun x => { x with cring := { x.cring with rsel := v.setWidth 6 } }) ∧
      selects 0x70 (fun x => { x with fring := { x.fring with rsel := v.setWidth 6 } }))

/-- EVSEL sets the source of a counter, clears it and makes the issuing context its owner, and its own retirement
comes after that (the model’s choice, log entry 79); EVRD reads the counter for its owner and 0 for any other context;
TIME reads the time base; ICINV removes the named lines of its own context from the cache of its bay, keeps every
other line, and makes its fibre wait until ICINV_DONE, which removes those of them that came in meanwhile, retires it.
(R118, R119, R120.) -/
def Obligations.CountersAndCache : Prop :=
  ∀ (s : State) (c : BayCtx) (f : Fibre) (d a : GReg) (k : BitVec 3) (n : BitVec 14),
    (s.Issues [a] c f →
      exec (.evsel a k) s = .next ((s.modBay s.cur.bay fun x => { x with
        evc := tset x.evc k.toNat { src := (f.reg a).setWidth 16, count := 0, owner := c.asid } }).retireCur) ∧
      ∃ t, exec (.icinv a n) s = .next t ∧ t.curF = some (f.block (.queued 0x0C) (s.bay s.cur.bay).cycle) ∧
        t.agenda = s.agenda ++ [s.newItem (.icinvDone f.uid (f.reg a) n.toNat)] ∧ SameMemory s t ∧
        (∀ asid, asid < 65536 → ∀ line : Word, line.toNat % 64 = 0 →
          tfind (t.bay s.cur.bay).icache (asid * 2 ^ 64 + line.toNat) =
            if asid = c.asid ∧ (line - f.reg a / 64 * 64) / 64 < n.setWidth 64 then none
            else tfind (s.bay s.cur.bay).icache (asid * 2 ^ 64 + line.toNat))) ∧
    (s.Issues [d] c f →
      exec (.time d) s = .next (s.result f d s.time.count) ∧
      (let e := tget .init (s.bay s.cur.bay).evc k.toNat
       exec (.evrd d k) s = .next (s.result f d (if e.owner = c.asid then e.count.setWidth 64 else 0)))) ∧
    (∀ u p (x : Word) (q : BitVec 14) y, s.ev = .icinvDone u x q.toNat → s.findU u = some (p, f) →
      s.fib p.bay p.idx p.slot = some f → f.uid = u → f.wait = .queued 0x0C → s.bctx p.bay p.idx = some y →
      ∃ t, exec .icinvDone s = .next t ∧ t.fib p.bay p.idx p.slot = some f.retire ∧ SameMemory s t ∧
        (∀ asid, asid < 65536 → ∀ line : Word, line.toNat % 64 = 0 →
          tfind (t.bay p.bay).icache (asid * 2 ^ 64 + line.toNat) =
            if asid = y.asid ∧ (line - x / 64 * 64) / 64 < q.setWidth 64 then none
            else tfind (s.bay p.bay).icache (asid * 2 ^ 64 + line.toNat)))

/-- For every instruction word, where a register that it names is empty and no such register is marked faulted, the
instruction does not issue: nothing changes. (R90.) -/
def Obligations.EmptyRegisterWaits : Prop :=
  ∀ (i : Instr) (w : BitVec 32) (s : State) (c : BayCtx) (f : Fibre), encode i = some w →
    s.curC = some c → s.curF = some f → (∃ r ∈ namedRegs i, f.isEmpty r = true) →
    (∀ r ∈ namedRegs i, f.isFaulted r = false) → exec i s = .next s

/-- An aligned LDL whose bytes lie within the scratchpad quota and have no uncorrectable error retires with gd empty
and its value on the way: the little-endian bytes of the scratchpad, zero-extended for Z = 1 or eight bytes and sign-
extended otherwise; LOAD_DATA_RETURN then fills gd with it. An address beyond the quota raises QUOTA, before a
misaligned one raises ALIGN. Memory does not change. An aligned STL within the scratchpad quota retires with the low
bytes of gd stored at its effective address, little-endian; every other byte of memory, the registers of the fibre and
the events in flight are unchanged. An address beyond the quota raises QUOTA, before a misaligned one raises ALIGN,
and nothing is stored. (R4, R89, R127, R140.) -/
def Obligations.LocalLoadsAndStores : Prop :=
  (∀ (s : State) (c : BayCtx) (f : Fibre) (d a : GReg) (z : Sz) (zx : Bool) (q : BitVec 17),
    (s.Issues [d, a] c f →
      let ea := f.reg a + q.signExtend 64
      let n := 2 ^ z.code.toNat
      let key := spadKey c.asid s.cur.bay ea.toNat
      (ea.toNat + n ≤ c.quota.scratch → ea.toNat % n = 0 → s.bad key n = none →
        ∃ t, exec (.ldl d a z zx q) s = .next t ∧
          t.curF = some ({ f.setEmpty d with locals := f.locals + 1 } : Fibre).retire ∧
          t.agenda = s.agenda ++ [s.newItem (.loadDataReturn f.uid d
            (if zx = true ∨ n = 8 then s.valueAt key n else ((s.valueAt key n).setWidth (8 * n)).signExtend 64) 0)] ∧
          SameMemory s t) ∧
      (c.quota.scratch < ea.toNat + n → exec (.ldl d a z zx q) s = .next (s.raise f .quota ea)) ∧
      (ea.toNat + n ≤ c.quota.scratch → ea.toNat % n ≠ 0 → exec (.ldl d a z zx q) s = .next (s.raise f .align ea))) ∧
    (∀ (b i k u : Nat) (g : Fibre) (v : Word), s.ev = .loadDataReturn u d v 0 → s.fib b i k = some g → g.uid = u →
      ∃ t, exec .loadDataReturn s = .next t ∧ t.fib b i k = some { g.setReg d v with locals := g.locals - 1 } ∧
        SameMemory s t)) ∧
  (∀ (s : State) (c : BayCtx) (f : Fibre) (d a : GReg) (z : Sz) (q : BitVec 17), s.Issues [d, a] c f →
    let ea := f.reg a + q.signExtend 64
    let n := 2 ^ z.code.toNat
    let key := spadKey c.asid s.cur.bay ea.toNat
    (ea.toNat + n ≤ c.quota.scratch → ea.toNat % n = 0 →
      ∃ t, exec (.stl d a z q) s = .next t ∧ t.curF = some f.retire ∧ t.agenda = s.agenda ∧
        (∀ k, k < n → memGet t.mem (key + k) = (f.reg d).extractLsb' (8 * k) 8) ∧ SameMemoryBut key n s t) ∧
    (c.quota.scratch < ea.toNat + n → exec (.stl d a z q) s = .next (s.raise f .quota ea)) ∧
    (ea.toNat + n ≤ c.quota.scratch → ea.toNat % n ≠ 0 → exec (.stl d a z q) s = .next (s.raise f .align ea)))

/-- An aligned LDG or STG at a valid global address that is not an aperture address of its own bay takes an entry of
the access ring, goes on its way and retires, LDG with gd empty; memory does not change at issue. At an aperture
address of its own bay, where the fibre has no other aperture access under way, it takes an entry as well and is
performed at once at the scratchpad of the bay, and its value or its acceptance is on the way. A misaligned address
raises ALIGN, before an invalid one raises GADDR; with all 16 entries in use the fibre blocks. (R140, R144, R126,
R139, R161.) -/
def Obligations.GlobalAccesses : Prop :=
  ∀ (s : State) (c : BayCtx) (f : Fibre) (d a : GReg) (z : Sz) (zx : Bool) (q : BitVec 17), s.Issues [d, a] c f →
    let ea := f.reg a + q.signExtend 64
    let n := 2 ^ z.code.toNat
    let acc : AKind → Option GReg → Word → Access := fun k x w =>
      { rid := s.nextId, asid := c.asid, bay := s.cur.bay, pc := f.pc, ea := ea, size := n, kind := k, dest := x,
        data := w, exp := 0 }
    let sent : List Item := if isAperture ea then
        [{ lane := laneBank (apBay ea) (apOff ea), ev := .apertureAccess f.uid s.nextId }]
      else [{ lane := laneLine ea, ev := .globalAccessAtStation f.uid s.nextId }]
    (ea.toNat % n = 0 → globalForm ea = true → ownAperture s ea = false → f.ring.length < 16 →
      (∃ t, exec (.ldg d a z zx q) s = .next t ∧
        t.curF = some ({ f.setEmpty d with ring := f.ring ++ [acc (.load (!zx)) (some d) 0] } : Fibre).retire ∧
        t.agenda = s.agenda ++ sent ∧ SameMemory s t) ∧
      (∃ t, exec (.stg d a z q) s = .next t ∧
        t.curF = some ({ f with ring := f.ring ++ [acc .store none (f.reg d)] } : Fibre).retire ∧
        t.agenda = s.agenda ++ sent ∧ SameMemory s t)) ∧
    (∀ key, ea.toNat % n = 0 → globalForm ea = true → ownAperture s ea = true → f.ring.length < 16 →
      (∀ x ∈ s.agenda, ∀ rid, x.ev ≠ .apertureAccess f.uid rid) → s.aperture c.asid ea n = .ok key → s.bad key n = none →
      s.keyOf s.cur.bay c.asid = some s.cur.idx → s.cur.idx < 4 →
      ((s.takeEntry (acc (.load (!zx)) (some d) 0)).access f.uid s.nextId = some (acc (.load (!zx)) (some d) 0) →
        ∃ t, exec (.ldg d a z zx q) s = .next t ∧
          t.curF = some ({ f.setEmpty d with ring := f.ring ++ [acc (.load (!zx)) (some d) 0] } : Fibre).retire ∧
          t.agenda = s.agenda ++ [⟨laneBack s.cur.bay s.cur.bay 0, .loadDataReturn f.uid d
            (if zx = true ∨ n = 8 then s.valueAt key n else ((s.valueAt key n).setWidth (8 * n)).signExtend 64) s.nextId⟩] ∧
          SameMemory s t) ∧
      ((s.takeEntry (acc .store none (f.reg d))).access f.uid s.nextId = some (acc .store none (f.reg d)) →
        ∃ t, exec (.stg d a z q) s = .next t ∧
          t.curF = some ({ f with ring := f.ring ++ [acc .store none (f.reg d)] } : Fibre).retire ∧
          t.agenda = s.agenda ++ [⟨laneBack s.cur.bay s.cur.bay 1, .accessAccepted f.uid s.nextId⟩] ∧
          (∀ k, k < n → memGet t.mem (key + k) = (f.reg d).extractLsb' (8 * k) 8) ∧ SameMemoryBut key n s t)) ∧
    (ea.toNat % n ≠ 0 → exec (.ldg d a z zx q) s = .next (s.raise f .align ea) ∧
      exec (.stg d a z q) s = .next (s.raise f .align ea)) ∧
    (ea.toNat % n = 0 → globalForm ea = false → exec (.ldg d a z zx q) s = .next (s.raise f .gaddr ea) ∧
      exec (.stg d a z q) s = .next (s.raise f .gaddr ea)) ∧
    (ea.toNat % n = 0 → globalForm ea = true → 16 ≤ f.ring.length → f.wait = .ready →
      let blocked := s.asFibre (f.block (.retry 8) (s.bay s.cur.bay).cycle)
      exec (.ldg d a z zx q) s = .next blocked ∧ exec (.stg d a z q) s = .next blocked)

/-- A local atomic, aligned and within the quota, whose release component has nothing to wait for and whose bytes have
no uncorrectable error, writes the new value of its row of R141 at ga (ACAS only where the old value is the expected
one), and retires; a returning form leaves gd empty with the old value, sign-extended from its size, on its way. Every
other byte of memory is unchanged. An address beyond the quota raises QUOTA, before a misaligned one raises ALIGN. A
global atomic, aligned at a valid address that is not an aperture address of its own bay, with a free ring entry and a
release component that has nothing to wait for, takes a ring entry with its operand and, for a returning form, the old
gd as expected value, leaves gd of a returning form empty and goes on its way; one with an acquire component and a
value to wait for keeps its fibre waiting until it is accepted. Memory does not change at issue; a misaligned address
raises ALIGN, before an invalid one raises GADDR. (R89, R141, R142, R144, R162.) -/
def Obligations.Atomics : Prop :=
  (∀ (s : State) (c : BayCtx) (f : Fibre) (d a b : GReg) (r : MemOrd) (p : Scope) (z : AtSz),
    let ea := f.reg a
    let y := f.reg b
    let n := if z = .d then 8 else 4
    let w := 8 * n
    let key := spadKey c.asid s.cur.bay ea.toNat
    let old := s.valueAt key n
    let lt := fun (x y : Word) => (x.setWidth w).slt (y.setWidth w)
    let ltu := fun (x y : Word) => (x.setWidth w).ult (y.setWidth w)
    let ok := s.mayRelease r p f ∧ ea.toNat + n ≤ c.quota.scratch ∧ ea.toNat % n = 0 ∧ s.bad key n = none
    let stores := fun (t : State) (new : Option Word) =>
      SameMemoryBut key n s t ∧
        ∀ k, k < n → memGet t.mem (key + k) = (new.getD old).extractLsb' (8 * k) 8
    let returning := fun (i : Instr) (new : Option Word) =>
      (ok → ∃ t, exec i s = .next t ∧ stores t new ∧
        t.curF = some ({ (f.marked s r).setEmpty d with locals := f.locals + 1 } : Fibre).retire ∧
        t.agenda = s.agenda ++ [s.newItem (.loadDataReturn f.uid d ((old.setWidth w).signExtend 64) 0)]) ∧
      (c.quota.scratch < ea.toNat + n → exec i s = .next (s.raise f .quota ea)) ∧
      (ea.toNat + n ≤ c.quota.scratch → ea.toNat % n ≠ 0 → exec i s = .next (s.raise f .align ea))
    let plain := fun (i : Instr) (new : Option Word) =>
      (ok → (∀ j y, s.bctx s.cur.bay j = some y → ∀ x ∈ y.cists, x.2.st = .idle) → ∃ t, exec i s = .next t ∧ stores t new ∧
        t.curF = some (f.marked s r).retire) ∧
      (c.quota.scratch < ea.toNat + n → exec i s = .next (s.raise f .quota ea)) ∧
      (ea.toNat + n ≤ c.quota.scratch → ea.toNat % n ≠ 0 → exec i s = .next (s.raise f .align ea))
    (s.Issues [d, a, b] c f →
      returning (.aadd d a b false r p z) (some (old + y)) ∧ returning (.aand d a b false r p z) (some (old &&& y)) ∧
      returning (.aor d a b false r p z) (some (old ||| y)) ∧ returning (.axor d a b false r p z) (some (old ^^^ y)) ∧
      returning (.amin d a b false r p z) (some (if lt old y then old else y)) ∧
      returning (.amax d a b false r p z) (some (if lt y old then old else y)) ∧
      returning (.aminu d a b false r p z) (some (if ltu old y then old else y)) ∧
      returning (.amaxu d a b false r p z) (some (if ltu y old then old else y)) ∧
      returning (.aswap d a b false r p z) (some y) ∧
      returning (.acas d a b false r p z) (if old.setWidth w = (f.reg d).setWidth w then some y else none)) ∧
    (s.Issues [a, b] c f →
      plain (.stadd a b false r p z) (some (old + y)) ∧ plain (.stand a b false r p z) (some (old &&& y)) ∧
      plain (.stor a b false r p z) (some (old ||| y)) ∧ plain (.stxor a b false r p z) (some (old ^^^ y)) ∧
      plain (.stmin a b false r p z) (some (if lt old y then old else y)) ∧
      plain (.stmax a b false r p z) (some (if lt y old then old else y)) ∧
      plain (.stminu a b false r p z) (some (if ltu old y then old else y)) ∧
      plain (.stmaxu a b false r p z) (some (if ltu y old then old else y)))) ∧
  (∀ (s : State) (c : BayCtx) (f : Fibre) (d a b : GReg) (r : MemOrd) (p : Scope) (z : AtSz),
    let ea := f.reg a
    let n := if z = .d then 8 else 4
    let m := f.marked s r
    let acc : AtFn → Option GReg → Access := fun fn x =>
      { rid := s.nextId, asid := c.asid, bay := s.cur.bay, pc := f.pc, ea := ea, size := n, kind := .atomic fn x.isSome,
        dest := x, data := f.reg b, exp := (match x with | some y => f.reg y | none => 0) }
    let sent : List Item := if isAperture ea then
        [{ lane := laneBank (apBay ea) (apOff ea), ev := .apertureAccess f.uid s.nextId }]
      else [{ lane := laneLine ea, ev := .globalAccessAtStation f.uid s.nextId }]
    let goes := fun (i : Instr) (fn : AtFn) (x : Option GReg) =>
      (ea.toNat % n = 0 → globalForm ea = true → ownAperture s ea = false → f.ring.length < 16 → s.mayRelease r p f →
        let g := ({ (match x with | some y => m.setEmpty y | none => m) with ring := f.ring ++ [acc fn x] } : Fibre).retire
        ∃ t, exec i s = .next t ∧ t.agenda = s.agenda ++ sent ∧ SameMemory s t ∧
          t.curF = some (if hasAcq r = true ∧ x.isSome = true then g.block (.queued 0x0D) (s.bay s.cur.bay).cycle
            else g)) ∧
      (ea.toNat % n ≠ 0 → exec i s = .next (s.raise f .align ea)) ∧
      (ea.toNat % n = 0 → globalForm ea = false → exec i s = .next (s.raise f .gaddr ea))
    (s.Issues [d, a, b] c f →
      goes (.aadd d a b true r p z) .add (some d) ∧ goes (.aand d a b true r p z) .and (some d) ∧
      goes (.aor d a b true r p z) .or (some d) ∧ goes (.axor d a b true r p z) .xor (some d) ∧
      goes (.amin d a b true r p z) .min (some d) ∧ goes (.amax d a b true r p z) .max (some d) ∧
      goes (.aminu d a b true r p z) .minu (some d) ∧ goes (.amaxu d a b true r p z) .maxu (some d) ∧
      goes (.aswap d a b true r p z) .swap (some d) ∧ goes (.acas d a b true r p z) .cas (some d)) ∧
    (s.Issues [a, b] c f →
      goes (.stadd a b true r p z) .add none ∧ goes (.stand a b true r p z) .and none ∧
      goes (.stor a b true r p z) .or none ∧ goes (.stxor a b true r p z) .xor none ∧
      goes (.stmin a b true r p z) .min none ∧ goes (.stmax a b true r p z) .max none ∧
      goes (.stminu a b true r p z) .minu none ∧ goes (.stmaxu a b true r p z) .maxu none))

/-- A fence with an access in the ring blocks; with the ring empty and a fault recorded it reports the oldest fault
instead of issuing; with nothing outstanding and nothing left to send it retires, with the order toward the streams
that every kind has (R165). (R152, R153, R147, R165.) -/
def Obligations.Fences : Prop :=
  ∀ (s : State) (c : BayCtx) (f : Fibre) (k : FenceKind) (p : Scope), s.Issues [] c f →
    let on := s.retired (f.marked s .ar).retire
    (f.quiet → s.unsent f.uid (s.tick + 1) = false → exec (.fence k p) s = .next on ∧
      (s.remoteStores f.uid = false → exec (.fencea k p) s = .next on)) ∧
    (f.ring ≠ [] → f.wait = .ready →
      let blocked := s.asFibre (f.block (.retry 9) (s.bay s.cur.bay).cycle)
      exec (.fence k p) s = .next blocked ∧ exec (.fencea k p) s = .next blocked) ∧
    (f.ring = [] → f.dfaults ≠ [] → exec (.fence k p) s = .next (s.reportDeferred s.cur f) ∧
      exec (.fencea k p) s = .next (s.reportDeferred s.cur f))

/-- The report of the oldest recorded fault of a fibre in ordinary mode enters handler mode with HPC the address of
the access, HVAL its address, HCAUSE the cause with the deferred flag, and HSEQ 0; the registers of all recorded
accesses are full and 0, the others are as they were, no fault is left recorded, and memory does not change. In
handler mode it is a double fault, which ends the context. (R148, R150, R411, R407.) -/
def Obligations.DeferredReport : Prop :=
  ∀ (s : State) (c : BayCtx) (f : Fibre) (x : DFault), s.curC = some c → s.curF = some f → oldest f.dfaults = some x →
    (f.hm = false → ∃ t g, s.reportDeferred s.cur f = t ∧ t.curF = some g ∧ SameMemory s t ∧
      g.hpc = x.pc ∧ g.hval = x.ea ∧ g.hcause = 0x8000000000000000 + causeWord x.cause ∧ g.hseq = 0 ∧ g.hm = true ∧
      g.pc = s.hentryOf s.cur ∧ g.dfaults = [] ∧ g.frame = none ∧ g.hscr = f.hscr ∧ g.loops = f.loops ∧
      (∀ r : GReg, (∃ y ∈ f.dfaults, y.dest = some r) → g.reg r = 0 ∧ g.isEmpty r = false ∧ g.isFaulted r = false) ∧
      (∀ r : GReg, (∀ y ∈ f.dfaults, y.dest ≠ some r) →
        g.reg r = f.reg r ∧ g.isEmpty r = f.isEmpty r ∧ g.isFaulted r = f.isFaulted r)) ∧
    (f.hm = true → ∃ t, s.reportDeferred s.cur f = t ∧ SameMemory s t ∧
      (∀ y, s.ctx c.asid = some y → ∃ z, t.ctx c.asid = some z ∧ z.ended = some (y.ended.getD .double)))

/-- Each event that completes a global access answers a next state and leaves memory as it was. A store or a no-return
atomic that is accepted frees its ring entry; a value that arrives fills its register and frees the entry; a fault
that is known frees the entry, is recorded with the address of the access, and leaves its register empty and marked
faulted. A fibre that waited for its newest access to be accepted goes on; a fibre that waited for its ring on its way
to handler mode enters it once the ring is empty, with its own cause, or with the oldest deferred fault where one is
recorded. (R145, R146, R148, R89, R409.) -/
def Obligations.AccessCompletion : Prop :=
  ∀ (s : State) (u rid : Nat),
    (s.ev = .accessAccepted u rid → ∃ t, exec .accessAccepted s = .next t ∧ SameMemory s t) ∧
    (∀ d v, s.ev = .loadDataReturn u d v rid → ∃ t, exec .loadDataReturn s = .next t ∧ SameMemory s t) ∧
    (∀ k, s.ev = .accessFaultRecorded u rid k → ∃ t, exec .accessFaultRecorded s = .next t ∧ SameMemory s t) ∧
    (∀ (p : Cur) (f : Fibre), s.findU u = some (p, f) → s.fib p.bay p.idx p.slot = some f → f.uid = u → rid ≠ 0 →
      let freed := fun (g : Fibre) => ({ g with
        ring := f.ring.filter fun a => a.rid != rid
        wait := if f.wait = .queued 0x0D ∧ ∀ a ∈ f.ring, a.rid ≤ rid then Wait.ready else f.wait } : Fibre)
      let becomes := fun (t : State) (g : Fibre) =>
        ((g.ring ≠ [] ∨ ∀ x y z w, g.wait ≠ .entry x y z w) → t.fib p.bay p.idx p.slot = some g) ∧
        (∀ x y z w, g.ring = [] → g.wait = .entry x y z w →
          (g.dfaults = [] → t.fib p.bay p.idx p.slot = some (g.enter (s.hentryOf p) x y z w)) ∧
          (∀ e, g.hm = false → oldest g.dfaults = some e → ∃ h, t.fib p.bay p.idx p.slot = some h ∧ h.hm = true ∧
            h.pc = s.hentryOf p ∧ h.hpc = e.pc ∧ h.hcause = 0x8000000000000000 + causeWord e.cause ∧ h.hval = e.ea ∧
            h.dfaults = []))
      (s.ev = .accessAccepted u rid → ∃ t, exec .accessAccepted s = .next t ∧ becomes t (freed f)) ∧
      (∀ d v, s.ev = .loadDataReturn u d v rid → ∃ t, exec .loadDataReturn s = .next t ∧ becomes t (freed (f.setReg d v))) ∧
      (∀ k a, s.ev = .accessFaultRecorded u rid k → s.access u rid = some a →
        ∃ t, exec .accessFaultRecorded s = .next t ∧
          becomes t { (freed (match a.dest with | some d => f.setFaulted d | none => f)) with
            dfaults := f.dfaults ++ [{ rid := rid, pc := a.pc, ea := a.ea, cause := k, dest := a.dest }] }))

/-- An access whose translation is cached, or whose walk ends, with the permission that it needs and a page of this
package goes to its physical bytes: a store writes its bytes there and is accepted, a load sends its value back, an
atomic goes to the unit of its bytes, which writes the new value and returns the old one or accepts; without the
permission, or with a walk that fails, it is recorded as faulted and memory is unchanged. A page of another package is
reached over its stream with a PST, PLD or PAMO packet, or recorded as faulted with DOMAIN outside the communication
domain of its context. Each answer comes after the earlier ones of its kind from the same place to the same bay. An
aperture access does the same at the scratchpad of its bay, or faults with APERTURE; where the context is saved off
that bay, a load or an atomic whose page does not verify faults with MEMERR and the context ends with RESTORE. (R10,
R136, R137, R138, R139, R142, R145, R362, R425.) -/
def Obligations.AccessAtMemory : Prop :=
  ∀ (s : State) (u rid : Nat) (a : Access), s.access u rid = some a →
    let tr := s.translateAt (homeStation a.bay) a.asid a.ea a.need
    let fails := fun (t0 : State) (k : Cause) (t : State) =>
      t.agenda = t0.agenda ++ [⟨laneBack (stationEnd (homeStation a.bay)) a.bay 2, .accessFaultRecorded u rid k⟩] ∧
      SameMemory t0 t
    let data : Nat → Word → Item := fun x v => ⟨laneBack x a.bay 0, .loadDataReturn u (a.dest.getD 0) v rid⟩
    let accepted : Nat → Item := fun x => ⟨laneBack x a.bay 1, .accessAccepted u rid⟩
    let cached := tlbFind (tget [] s.tlb (homeStation a.bay)) a.asid a.ea.toNat
    (a.rid = rid → cached = none → s.ev = .globalAccessAtStation u rid →
      exec .globalAccessAtStation s = .next (s.postFront s.lane (.pageWalkComplete u rid))) ∧
    (a.rid = rid → (s.ev = .globalAccessAtStation u rid ∧ cached ≠ none) ∨ s.ev = .pageWalkComplete u rid →
      ∃ t, exec s.ev.instr s = .next t ∧
        (∀ k, tr.1 = .error k → fails tr.2 k t) ∧
        (∀ pa key, tr.1 = .ok (.phys pa) → physKey pa = some key → tr.2.bad key a.size = none →
          (a.kind = .store → SameMemoryBut key a.size tr.2 t ∧
            (∀ k, k < a.size → memGet t.mem (key + k) = a.data.extractLsb' (8 * k) 8) ∧
            t.agenda = tr.2.agenda ++ [accepted (keyEnd key)]) ∧
          (∀ sg, a.kind = .load sg → SameMemory tr.2 t ∧
            t.agenda = tr.2.agenda ++ [data (keyEnd key) (extend sg a.size (leNat (tr.2.read key a.size)))]) ∧
          (∀ fn b, a.kind = .atomic fn b → SameMemory tr.2 t ∧
            t.agenda = { lane := tr.2.lane, ev := .atomicAtUnit u rid pa } :: tr.2.agenda)) ∧
        (∀ chip w x f, tr.1 = .ok (.remote chip w) → s.ctx a.asid = some x → s.fibres.find? (fun g => g.uid == u) = some f →
          let ptr : Word := BitVec.ofNat 64 (chip * 2 ^ 42 + w)
          let tok := s.nextId % 2 ^ 24
          let asked := fun (opc : Nat) => tfind t.toks tok = some ⟨.load u rid chip, opc, (s.sender chip).nseq, ptr⟩
          let sends := fun (opc : Nat) (o0 : Nat) (o1 o2 : Word) => SameMemory tr.2 t ∧
            tr.2.Sends t chip (s.packet chip opc (s.whoOf a.asid) (f.rcnt chip) ptr (BitVec.ofNat 64 o0) o1 o2 [])
          (s.inBox x.domain chip = false → fails tr.2 .domain t) ∧
          (s.inBox x.domain chip = true → (s.sender chip).Open →
            (a.kind = .store → sends 10 (logSize a.size * 2 ^ 32) (BitVec.ofNat 64 (a.data.toNat % 2 ^ (8 * a.size))) 0) ∧
            (∀ sg, a.kind = .load sg → sends 9 ((a.size - 1) * 2 ^ 32) (BitVec.ofNat 64 tok) 0 ∧ asked 9) ∧
            (∀ fn b, a.kind = .atomic fn b →
              sends 11 ((atCode fn + (if b then 0 else 16)) * 2 ^ 32 + (if a.size = 8 then 2 ^ 37 else 0) +
                (if b then tok * 2 ^ 40 else 0)) a.data a.exp ∧ (b = true → asked 11))))) ∧
    (∀ fn b pa key, a.kind = .atomic fn b → s.ev = .atomicAtUnit u rid pa → physKey pa = some key →
      s.bad key a.size = none → (b = false → ∀ x ∈ s.dcists, x.2.st = .idle) →
      ∃ t, exec .atomicAtUnit s = .next t ∧ SameMemoryBut key a.size s t ∧
        (∀ k, k < a.size → memGet t.mem (key + k) = ((atNew fn (8 * a.size) (s.valueAt key a.size) a.data a.exp).getD
          (s.valueAt key a.size)).extractLsb' (8 * k) 8) ∧
        t.agenda = s.agenda ++ [if b = true then data (keyEnd key) (extend true a.size (s.valueAt key a.size).toNat)
          else accepted (keyEnd key)]) ∧
    (s.ev = .apertureAccess u rid →
      (∀ k, s.aperture a.asid a.ea a.size = .error k →
        ∃ t, exec .apertureAccess s = .next t ∧ k = .aperture ∧ SameMemory s t ∧
          t.agenda = s.agenda ++ [⟨laneBack (apBay a.ea) a.bay 2, .accessFaultRecorded u rid .aperture⟩]) ∧
      (∀ key j y sg m, s.aperture a.asid a.ea a.size = .ok key → s.keyOf (apBay a.ea) a.asid = some j → 4 ≤ j →
        s.bctx (apBay a.ea) j = some y → 0 < a.size → (a.kind = .load sg ∨ ∃ fn b, a.kind = .atomic fn b) →
        s.pageBad (apBay a.ea) y (apOff a.ea / 4096) = some m →
        ∃ t, exec .apertureAccess s = .next t ∧ SameMemory s t ∧ (∃ x ∈ t.agenda, x.ev = .accessFaultRecorded u rid .memerr) ∧
          ∀ x, s.ctx a.asid = some x → ∃ z, t.ctx a.asid = some z ∧ z.ended = some (x.ended.getD .restore)) ∧
      (∀ key j, s.aperture a.asid a.ea a.size = .ok key → s.keyOf (apBay a.ea) a.asid = some j → j < 4 →
        s.bad key a.size = none →
        ∃ t, exec .apertureAccess s = .next t ∧
          (∀ fn b, a.kind = .atomic fn b → (b = false → ∀ y, s.bctx (apBay a.ea) j = some y → ∀ x ∈ y.cists, x.2.st = .idle) →
            SameMemoryBut key a.size s t ∧
            (∀ k, k < a.size → memGet t.mem (key + k) = ((atNew fn (8 * a.size) (s.valueAt key a.size) a.data a.exp).getD
              (s.valueAt key a.size)).extractLsb' (8 * k) 8) ∧
            t.agenda = s.agenda ++ [if b = true then data (apBay a.ea) (extend true a.size (s.valueAt key a.size).toNat)
              else accepted (apBay a.ea)]) ∧
          (a.kind = .store → SameMemoryBut key a.size s t ∧ (∀ k, k < a.size → memGet t.mem (key + k) = a.data.extractLsb' (8 * k) 8) ∧
            t.agenda = s.agenda ++ [accepted (apBay a.ea)]) ∧
          (∀ sg, a.kind = .load sg → SameMemory s t ∧
            t.agenda = s.agenda ++ [data (apBay a.ea) (extend sg a.size (leNat (s.read key a.size)))])))

/-- A post of n to a semaphore other than s0 adds n modulo 2^24, sets OVF on a wrap, and then serves waiters from the
head of the queue while the value suffices: the waiters served are a prefix of the queue, each takes its count, and no
waiter overtakes the head. A waiter in a slot that is served completes its SWAIT. A post to s0 is discarded. A post
that arrives over the mesh does the same. (R195, R196, R194, R201.) -/
def Obligations.SemaphoreServe : Prop :=
  (∀ (v : Nat) (q : List (Nat × Nat)), ∃ served,
      q = served ++ (serveQ v q).2.1 ∧ (serveQ v q).2.2 = served.map Prod.fst ∧
      (serveQ v q).1 + (served.map Prod.snd).sum = v ∧
      (∀ u n r, (serveQ v q).2.1 = (u, n) :: r → (serveQ v q).1 < n)) ∧
    (∀ (s : State) (b i n k : Nat) (c : BayCtx), s.bctx b i = some c → i < 4 →
      s.postSem b i 0 k = s ∧
      (n ≠ 0 →
        let x := c.sem n
        let q := serveQ ((x.value.toNat + k) % 2 ^ 24) x.queue
        s.semAt b i 0 = (s.postSem b i n k).semAt b i 0 ∧
        (s.postSem b i n k).semAt b i n =
          some { value := BitVec.ofNat 24 q.1, ovf := x.ovf || decide (2 ^ 24 ≤ x.value.toNat + k), queue := q.2.1 } ∧
        (∀ j g, s.fib b i j = some g → q.2.2 = [g.uid] → (∀ y ∈ c.cellar.blocked, y.2.uid ≠ g.uid) →
          (s.postSem b i n k).fib b i j = some g.retire) ∧
        SameMemory s (s.postSem b i n k)) ∧
      (∀ asid, s.keyOf b asid = some i → s.ev = .meshPostArrival b asid n k none →
        exec .meshPostArrival s = .next (s.postSem b i n k)))

/-- A post to s0 is discarded; a wait on s0 for a count below 2^24 completes at once and takes nothing; STRY on s0
gives 1; SREAD of s0 gives 0; SINIT of s0 has no effect. (R194.) -/
def Obligations.NullSemaphore : Prop :=
  ∀ (s : State) (c : BayCtx) (f : Fibre) (a b : GReg) (r : MemOrd) (p : Scope), 0 < c.quota.sems →
    (s.Issues [a] c f → s.mayRelease r p f → exec (.spost a 0 r p) s = .next (s.retired (f.marked s r).retire)) ∧
    (s.Issues [a] c f → f.reg a < 0x1000000 → s.mayRelease r p f →
      exec (.swait a 0 r p) s = .next (s.retired (f.marked s r).retire)) ∧
    (s.Issues [a, b] c f → f.reg a < 0x1000000 → s.mayRelease r p f →
      exec (.stry a b 0 r p) s = .next (s.retired ((f.marked s r).setReg b 1).retire)) ∧
    (s.Issues [b] c f → exec (.sread b 0) s = .next (s.result f b 0)) ∧
    (s.Issues [a] c f → f.reg a < 0x1000000 → exec (.sinit a 0) s = .next (s.retired f.retire))

/-- On a semaphore other than s0 within the quota: SPOST posts ga[23:0] and retires; SWAIT takes its count at once
where nobody waits and the value suffices, and otherwise joins the queue and blocks; STRY takes it or gives 0, and
never waits; SREAD gives the value, OVF and whether someone waits; SINIT sets the value, clears OVF and serves the
queue from its head while the value suffices. A count of 2^24 or more raises RANGE, an index beyond the quota QUOTA.
Memory and the other semaphores are unchanged. (R199, R198, R31.) -/
def Obligations.SemaphoreResults : Prop :=
  ∀ (s : State) (c : BayCtx) (f : Fibre) (a b : GReg) (x : BitVec 10) (r : MemOrd) (p : Scope), x ≠ 0 → s.cur.idx < 4 →
    let y := c.sem x.toNat
    let n := f.reg a
    let sem := fun (t : State) (z : Sem) => t.semAt s.cur.bay s.cur.idx x.toNat = some z ∧ SameMemory s t ∧
      ∀ m, m ≠ x.toNat → t.semAt s.cur.bay s.cur.idx m = some (c.sem m)
    let m := f.marked s r
    (x.toNat < c.quota.sems → s.mayRelease r p f →
      (s.Issues [a] c f →
        exec (.spost a x r p) s =
          .next (((s.releaseMark r).postSem s.cur.bay s.cur.idx x.toNat (n.setWidth 24).toNat).retireCur) ∧
        (n < 0x1000000 → (n = 0 ∨ (y.queue = [] ∧ n ≤ y.value.setWidth 64)) →
          ∃ t, exec (.swait a x r p) s = .next t ∧ t.curF = some m.retire ∧
            sem t { y with value := y.value - n.setWidth 24 }) ∧
        (n < 0x1000000 → n ≠ 0 → (y.queue ≠ [] ∨ y.value.setWidth 64 < n) →
          ∃ t, exec (.swait a x r p) s = .next t ∧ t.curF = some (m.block (.queued 0x10) (s.bay s.cur.bay).cycle) ∧
            sem t { y with queue := y.queue ++ [(f.uid, n.toNat)] }) ∧
        (n < 0x1000000 → (∀ w ∈ y.queue, w.1 ≠ f.uid) → let q := serveQ n.toNat y.queue
          ∃ t, exec (.sinit a x) s = .next t ∧ t.curF = some f.retire ∧
            sem t { value := BitVec.ofNat 24 q.1, ovf := false, queue := q.2.1 } ∧
            (∀ j g, s.fib s.cur.bay s.cur.idx j = some g → q.2.2 = [g.uid] → (∀ w ∈ c.cellar.blocked, w.2.uid ≠ g.uid) →
              t.fib s.cur.bay s.cur.idx j = some g.retire)) ∧
        (0x1000000 ≤ n → exec (.swait a x r p) s = .next (s.raise f .range n) ∧
          exec (.sinit a x) s = .next (s.raise f .range n))) ∧
      (s.Issues [a, b] c f →
        (n < 0x1000000 → (n = 0 ∨ (y.queue = [] ∧ n ≤ y.value.setWidth 64)) →
          ∃ t, exec (.stry a b x r p) s = .next t ∧ t.curF = some (m.setReg b 1).retire ∧
            sem t { y with value := y.value - n.setWidth 24 }) ∧
        (n < 0x1000000 → n ≠ 0 → (y.queue ≠ [] ∨ y.value.setWidth 64 < n) →
          ∃ t, exec (.stry a b x r p) s = .next t ∧ t.curF = some (m.setReg b 0).retire ∧ sem t y) ∧
        (0x1000000 ≤ n → exec (.stry a b x r p) s = .next (s.raise f .range n))) ∧
      (s.Issues [b] c f → ∃ v : Word, exec (.sread b x) s = .next (s.result f b v) ∧
        v.extractLsb' 0 24 = y.value ∧ v.getLsbD 24 = y.ovf ∧ v.getLsbD 25 = !y.queue.isEmpty ∧ v.extractLsb' 26 38 = 0)) ∧
    (c.quota.sems ≤ x.toNat →
      let q := s.raise f .quota (x.setWidth 64)
      (s.Issues [a] c f → exec (.spost a x r p) s = .next q ∧ exec (.swait a x r p) s = .next q ∧
        exec (.sinit a x) s = .next q) ∧
      (s.Issues [a, b] c f → exec (.stry a b x r p) s = .next q) ∧
      (s.Issues [b] c f → exec (.sread b x) s = .next q))

/-- FID gives the handle of its fibre; FPRI sets the base priority to 0 to 6, and raises RANGE above; FCTX reads the
slots in use, the depth of the cellar ring and congestion; CBUDGET reads the budget left, or all ones without a
contract; FYIELD retires and keeps its fibre from issuing for 64 bay cycles, after which FYIELD_DELAY_EXPIRY makes it
ready; before the first period CBUDGET gives the whole budget (the model’s choice, log entry 73);
WAITING_COUNT_THRESHOLD leaves the waiting count at 4,096. (R179, R34, R181, R180, R218, R182, R189.) -/
def Obligations.FibreResults : Prop :=
  ∀ (s : State) (c : BayCtx) (f : Fibre) (d a : GReg),
    (s.Issues [d] c f → s.cur.bay < 2048 → s.cur.slot < 256 →
      (∃ v : Word, exec (.fid d) s = .next (s.result f d v) ∧ v.extractLsb' 42 22 = s.chip ∧
        (v.extractLsb' 31 11).toNat = s.cur.bay ∧ (v.extractLsb' 23 8).toNat = s.cur.slot ∧
        v.extractLsb' 0 23 = (c.slot s.cur.slot).gen) ∧
      (c.occupied < 65536 → ∃ v : Word, exec (.fctx d) s = .next (s.result f d v) ∧
        (v.extractLsb' 0 16).toNat = c.occupied ∧ (v.extractLsb' 16 16).toNat = min 65535 c.cellar.ring.length ∧
        v.getLsbD 32 = c.cellar.cong ∧ v.extractLsb' 33 31 = 0) ∧
      (∀ y, s.ctx c.asid = some y →
        (y.launch.bind Launch.contract = none → exec (.cbudget d) s = .next (s.result f d 0xFFFFFFFFFFFFFFFF)) ∧
        (∀ k, y.launch.bind Launch.contract = some k →
          exec (.cbudget d) s = .next (s.result f d (BitVec.ofNat 64 (k.c * 1000 - k.spent)))))) ∧
    (s.Issues [a] c f →
      (f.reg a ≤ 6 → exec (.fpri a) s = .next (s.retired { f with pri := (f.reg a).setWidth 3 }.retire)) ∧
      (6 < f.reg a → exec (.fpri a) s = .next (s.raise f .range (f.reg a)))) ∧
    (s.Issues [] c f → ∃ t, exec .fyield s = .next t ∧
      t.curF = some { f.retire with w := 0, wait := .queued 5, since := (s.bay s.cur.bay).cycle } ∧
      t.agenda = s.agenda ++ [s.newItem (.fyieldDelayExpiry f.uid)] ∧ SameMemory s t) ∧
    (∀ u p, s.ev = .fyieldDelayExpiry u → s.findU u = some (p, f) → s.fib p.bay p.idx p.slot = some f →
      f.wait = .queued 5 →
      (p.idx < 4 → f.since + 63 ≤ (s.bay p.bay).cycle → ∃ t, exec .fyieldDelayExpiry s = .next t ∧
        t.fib p.bay p.idx p.slot = some { f with wait := .ready } ∧ SameMemory s t) ∧
      (4 ≤ p.idx ∨ (s.bay p.bay).cycle < f.since + 63 → exec .fyieldDelayExpiry s = .next (s.postFront s.lane s.ev))) ∧
    (∀ b i k, s.ev = .waitingCountThreshold b i k → s.fib b i k = some f → 4095 ≤ f.w → i < 4 →
      ∃ t, exec .waitingCountThreshold s = .next t ∧ t.fib b i k = some { f with w := 4096 } ∧ SameMemory s t)

/-- FSPAWN with a running launch, an empty ring and a free slot starts a fibre in the lowest free slot with the given
entry and argument and the priority of its spawner, counts it live and gives its handle; a misaligned entry raises
ALIGN; a congested ring blocks. FSPAWNB to another usable bay sends a message, counts it live and gives 0; a bay that
may not be named raises RANGE. At the other bay the message starts the fibre the same way and is acknowledged, which
takes the message's share of the live count back. (R174, R176, R177, R184, R87, R173.) -/
def Obligations.SpawnResults : Prop :=
  ∀ (s : State) (c : BayCtx) (f : Fibre) (d a b : GReg),
    let entry := f.reg a
    let arg := f.reg b
    let started := fun (t0 t : State) (bay i k : Nat) (e x : Word) (pri : BitVec 3) =>
      (∃ g, t.fib bay i k = some g ∧ g = Fibre.start t0.nextId e x pri) ∧ SameMemory t0 t
    (s.Issues [d, a, b] c f →
      (entry.toNat % 4 ≠ 0 → exec (.fspawn d a b) s = .next (s.raise f .align entry)) ∧
      (entry.toNat % 4 = 0 → c.cellar.cong = true → f.wait = .ready →
        exec (.fspawn d a b) s = .next (s.asFibre (f.block (.retry 0x18) (s.bay s.cur.bay).cycle))) ∧
      (∀ k, entry.toNat % 4 = 0 → c.cellar.cong = false → s.launched c.asid = true → s.cur.idx < 4 → c.cellar.ring = [] →
        s.freeSlot s.cur.bay s.cur.idx = some k → f.pri ≠ 7 → s.mayRelease .rel .pkg f →
        ∃ t, exec (.fspawn d a b) s = .next t ∧ started s t s.cur.bay s.cur.idx k entry arg f.pri ∧
          t.curF = some ((f.marked s .rel).setReg d (s.handle s.cur.bay k (c.slot k).gen)).retire ∧
          (∀ y, s.ctx c.asid = some y → ∃ z, t.ctx c.asid = some z ∧ z.live = y.live + 1)) ∧
      ((1536 ≤ (f.reg d).toNat ∨ s.usable c.asid (f.reg d).toNat = false) →
        exec (.fspawnb d a b) s = .next (s.raise f .range (f.reg d))) ∧
      ((f.reg d).toNat < 1536 → s.usable c.asid (f.reg d).toNat = true → (f.reg d).toNat = s.cur.bay →
        exec (.fspawnb d a b) s = exec (.fspawn d a b) s) ∧
      ((f.reg d).toNat < 1536 → s.usable c.asid (f.reg d).toNat = true → (f.reg d).toNat ≠ s.cur.bay →
        (entry.toNat % 4 ≠ 0 → exec (.fspawnb d a b) s = .next (s.raise f .align entry)) ∧
        (entry.toNat % 4 = 0 → f.spawnUnack < 4 → s.mayRelease .rel .pkg f →
          ∃ t, exec (.fspawnb d a b) s = .next t ∧
            t.curF = some ({ (f.marked s .rel).setReg d 0 with spawnUnack := f.spawnUnack + 1 } : Fibre).retire ∧
            t.agenda = s.agenda ++ [(⟨laneMesh s.cur.bay (f.reg d).toNat, .spawnMessageArrival (f.reg d).toNat c.asid { entry := entry, arg := arg, pri := f.pri } f.uid⟩ : Item)] ∧
            (∀ y, s.ctx c.asid = some y → ∃ z, t.ctx c.asid = some z ∧ z.live = y.live + 1) ∧ SameMemory s t))) ∧
    (∀ (bay i k u : Nat) (q : SpawnReq), s.ev = .spawnMessageArrival bay c.asid q u → s.keyOf bay c.asid = some i → i < 4 →
      s.bctx bay i = some c → c.cellar.held = [] → c.cellar.ring = [] → c.cellar.cong = false →
      s.launched c.asid = true → s.freeSlot bay i = some k → q.pri ≠ 7 →
      ∃ t, exec .spawnMessageArrival s = .next t ∧ started s t bay i k q.entry q.arg q.pri ∧
        (∃ l n, t.agenda = l ++ [(⟨n, .spawnAckArrival c.asid u⟩ : Item)])) ∧
    (∀ bay i k u, s.ev = .spawnAckArrival c.asid u → s.fib bay i k = some f → f.uid = u →
      ∃ t, exec .spawnAckArrival s = .next t ∧ t.fib bay i k = some { f with spawnUnack := f.spawnUnack - 1 } ∧
        (∀ y, s.ctx c.asid = some y → ∃ z, t.ctx c.asid = some z ∧ z.live = y.live - 1) ∧ SameMemory s t)

/-- FEXIT with nothing outstanding frees its slot, whose generation advances, and lowers the live count. FGO in
handler mode or with a vector context raises FSTATE; to a bay that may not be named RANGE; to its own bay it only
retires, its barrier ticket cleared; to another bay it takes its fibre out of its slot with its registers, its PC
after the instruction, its ring, its recorded faults and its scratch register, and MIGRATION_ARRIVAL places it in the
lowest free slot there. FPARK with an empty ring only yields; otherwise its fibre joins the tail of the cellar ring
and its slot is free. That its record takes the lowest free place, and stands in the state beside memory, is the
model’s choice (assumption log entry 13). (R183, R187, R188, R36, R86, R174, R224.) -/
def Obligations.FibreMoves : Prop :=
  ∀ (s : State) (c : BayCtx) (f : Fibre) (a : GReg),
    let gone := fun (t : State) => t.curF = none ∧ SameMemory s t ∧
      (∃ y, t.curC = some y ∧ (y.slot s.cur.slot).gen = (c.slot s.cur.slot).gen + 1)
    (s.Issues [] c f → f.quiet → f.locals = 0 → f.spawnUnack = 0 → s.remoteWrites f.uid none = false →
      vecIdle c f = true → f.pend = [] →
      ∃ t, exec .fexit s = .next t ∧ gone t ∧
        (∀ y, s.ctx c.asid = some y → ∃ z, t.ctx c.asid = some z ∧ z.live = y.live - 1)) ∧
    (s.Issues [] c f → f.ring ≠ [] → f.wait = .ready →
      exec .fexit s = .next (s.asFibre (f.block (.retry 9) (s.bay s.cur.bay).cycle))) ∧
    (s.Issues [a] c f →
      (f.hm = true ∨ f.vctx.isSome = true → exec (.fgo a) s = .next (s.raise f .fstate (wordOf (.fgo a)))) ∧
      (f.hm = false → f.vctx = none →
        (1536 ≤ (f.reg a).toNat ∨ s.usable c.asid (f.reg a).toNat = false →
          exec (.fgo a) s = .next (s.raise f .range (f.reg a))) ∧
        ((f.reg a).toNat < 1536 → s.usable c.asid (f.reg a).toNat = true → f.locals = 0 → (∀ x ∈ f.ring, x.writes = false) →
          ((f.reg a).toNat = s.cur.bay → exec (.fgo a) s = .next (s.retired ({ f with ticket := none } : Fibre).retire)) ∧
          ((f.reg a).toNat ≠ s.cur.bay → ∃ t l g, exec (.fgo a) s = .next t ∧ gone t ∧
            t.agenda = l ++ [(⟨laneMesh s.cur.bay (f.reg a).toNat, .migrationArrival (f.reg a).toNat c.asid f.uid⟩ : Item)] ∧
            tfind t.mig f.uid = some g ∧ g.g = f.g ∧ g.empty = f.empty ∧ g.pc = f.nextPc.pc ∧ g.loops = f.nextPc.loops ∧
            g.pri = f.pri ∧ g.ring = f.ring ∧ g.dfaults = f.dfaults ∧ g.hscr = f.hscr ∧ g.hm = false ∧ g.ticket = none)))) ∧
    (∀ (bay i k : Nat) (x : BayCtx), s.ev = .migrationArrival bay x.asid f.uid → tfind s.mig f.uid = some f →
      s.keyOf bay x.asid = some i → i < 4 → s.bctx bay i = some x → x.cellar.held = [] → x.cellar.ring = [] →
      s.launched x.asid = true → s.freeSlot bay i = some k →
      ∃ t, exec .migrationArrival s = .next t ∧ SameMemory s t ∧
        t.fib bay i k = some { f with w := 0, wait := .ready } ∧ tfind t.mig f.uid = none) ∧
    (s.Issues [] c f → f.hm = false → f.vctx = none → f.quiet → f.locals = 0 → f.empty = 0 →
      (c.cellar.ring = [] → ∃ t, exec .fpark s = .next t ∧
        t.curF = some { f.retire with w := 0, wait := .queued 5, since := (s.bay s.cur.bay).cycle }) ∧
      (∀ s', c.cellar.ring ≠ [] → s.cellarRoom c = true → s.cellarAccess s.cur.bay c.asid c.cellar.room .write = (s', true) →
        ∃ t y, exec .fpark s = .next t ∧ t.curF = none ∧ t.curC = some y ∧
          y.cellar.ring = c.cellar.ring ++ [(c.cellar.room, .fib f.retire)])) ∧
    (s.Issues [] c f → f.hm = true → exec .fpark s = .next (s.raise f .fstate (wordOf .fpark)))

/-- FIBRE_EVICTION moves the longest blocked evictable fibre of a bay to its cellar as a blocked record, in a free
record of the area, and frees its slot; the model keeps the record as data beside memory and takes the lowest free
place (its choice, log entry 13). CELLAR_RESTORE puts the head record of the ring into the slot reserved for it. An
eviction or a restore whose record cannot be accessed ends the context with CELLAR. CISTERN_SPAWN_RETRY places a spawn
that waited at its unit. FAULT_FIBRE_START, where the fault slot is free on an active context, starts the fault fibre
there in handler mode at FENTRY with the oldest fault of the backlog, or, where the backlog is empty, with the oldest
that waited while the context was not active there. (R203, R206, R208, R403, R415, R416.) -/
def Obligations.CellarEvents : Prop :=
  ∀ (s s' : State) (b i k : Nat) (c : BayCtx) (f : Fibre), s.bctx b i = some c →
    let ended := fun (t : State) => ∀ y, s.ctx c.asid = some y → ∃ z, t.ctx c.asid = some z ∧ z.ended = some (y.ended.getD .cellar)
    (s.ev = .fibreEviction b i → s.evictee b i = some (k, f) → s.cellarRoom c = true →
      (s.cellarAccess b c.asid c.cellar.room .write = (s', true) →
        ∃ t y, exec .fibreEviction s = .next t ∧ t.bctx b i = some y ∧
          y.cellar.blocked = c.cellar.blocked ++ [(c.cellar.room, f)] ∧ (y.slot k).fib = none ∧ SameMemory s t) ∧
      (s.cellarAccess b c.asid c.cellar.room .write = (s', false) → ∃ t, exec .fibreEviction s = .next t ∧ ended t)) ∧
    (∀ n r rest slots, s.ev = .cellarRestore b i → i < 4 → c.cellar.order = k :: slots → c.cellar.ring = (n, r) :: rest →
      s.isFaultSlot b i k = false →
      (c.cellar.held = [] → s.cellarAccess b c.asid n .read = (s', true) →
        ∃ t, exec .cellarRestore s = .next t ∧ SameMemory s t ∧
          t.fib b i k = some { s.fibreOf c.asid r with w := 0, wait := .ready } ∧
          (∀ y, t.bctx b i = some y → y.cellar.ring = rest)) ∧
      (s.cellarAccess b c.asid n .read = (s', false) → ∃ t, exec .cellarRestore s = .next t ∧ ended t)) ∧
    (∀ q u n, s.ev = .cisternSpawnRetry b c.asid q u n → (s.bay b).fenced = false → s.keyOf b c.asid = some i → i < 4 →
      s.launched c.asid = true → c.cellar.ring = [] → s.freeSlot b i = some k → q.pri ≠ 7 →
      (s.cist c.asid u n).queued.length ≤ 1 →
      ∃ t, exec .cisternSpawnRetry s = .next t ∧ t.fib b i k = some (Fibre.start s.nextId q.entry q.arg q.pri) ∧
        SameMemory s t) ∧
    (∀ x q rest, s.ev = .faultFibreStart c.asid → s.ctx c.asid = some x → s.faultActive c.asid = true →
      s.faultFibre c.asid = none → s.faultPlace c.asid = some (b, i, k) →
      (x.backlog = q :: rest ∧ x.slice = [] ∨ x.backlog = [] ∧ x.slice = q :: rest) → rest.length ≤ 4112 →
      ∃ t g, exec .faultFibreStart s = .next t ∧ t.fib b i k = some g ∧ g.isFault = true ∧ g.hm = true ∧ g.pc = x.hentry ∧
        g.hpc = x.fentry ∧ g.hcause = q.hcause ∧ g.hval = q.hval ∧ g.hseq = q.hseq ∧ g.pri = 6 ∧
        g.pend = rest.take 16 ∧
        (∃ z, t.ctx c.asid = some z ∧ z.slice = [] ∧ z.backlog = rest.drop 16 ∧ z.live = x.live + 1) ∧
        SameMemory s t)

/-- Of the ready fibres the scheduler chooses one that is ready and whose effective priority no other exceeds; among
those of the highest it is the first in slot order after the slot that issued last. The effective priority is 7 in
handler mode or from a waiting count of 4,096 on, and otherwise the base priority raised by one for each 256 cycles
waited, at most 3, and by 2 under congestion, at most 7. (R190, R191.) -/
def Obligations.PriorityRule : Prop :=
  ∀ (q last : Nat) (cong : Bool) (l : List (Nat × Fibre × Act)) (x : Nat × Fibre × Act),
    (choose q last cong l = none ↔ l = []) ∧
    (choose q last cong l = some x → x ∈ l ∧
      (∀ y ∈ l, effPri cong y.2.1 ≤ effPri cong x.2.1) ∧
      (∀ y ∈ l, effPri cong y.2.1 = effPri cong x.2.1 → slotDist q last x.1 ≤ slotDist q last y.1)) ∧
    (∀ f : Fibre, (f.hm = true ∨ 4096 ≤ f.w → effPri cong f = 7) ∧
      (f.hm = false → f.w < 4096 →
        effPri cong f = min 7 (f.pri.toNat + min 3 (f.w / 256) + (if cong then 2 else 0))))

/-- A plan entry whose time has not come, or before which an earlier one on a bay of it is to be applied, waits. At
its time it stops the bays of its rectangle: no context of theirs is active; one whose partition holds a contract
since is dropped (the model’s reading, log entry 54). After the capture it acts on each bay whose state meets its
check: mode 0 switches to the resident context, mode 1 saves the context at the index and restores the named one, mode
2 saves the active one, and a save advances the generation of its context; an entry that found at its timestamp that
its context ends or is being saved elsewhere leaves the bay with no context to run (that this is settled at the
timestamp, for all bays of the entry, is the model’s reading too, log entry 54). The capture waits until everything
begun on the bay is complete. A save moves the context off the bay with a tag for every page, or ends it with RESTORE
where it fails; a restore brings it back and makes it active with the last of its bays, or ends it with RESTORE; a
resident switch makes a resident context active, its parked items on their way again, unless it ends, the bay is
fenced, or a later entry has stopped the bay. The start of a period that has come gives the contract its whole budget
and counts the period; one that has not come waits. At the expiry of a budget or a quantum a bay of a contract
partition whose turn has come to another context stops and, unless that context is being saved elsewhere, begins the
switch; one whose active context keeps its turn goes on; one that has no context to run stops (the model’s reading,
log entry 54); a bay that is switching or fenced waits. (R210, R211, R213, R214, R217, R419, R421, R422, R423, R424,
R426.) -/
def Obligations.SwitchAndContractEvents : Prop :=
  (∀ (s : State) (b i : Nat) (e : PlanEntry) (c : BayCtx) (x : Ctx),
    let ends := fun (t : State) => ∀ y, s.ctx c.asid = some y → ∃ z, t.ctx c.asid = some z ∧ z.ended = some (y.ended.getD .restore)
    ((s.ev = .planEntryActivate e ∨ s.ev = .planEntryRestore e ∨ s.ev = .planEntrySave e) →
      (s.now < e.time.toNat ∨ s.planBefore e = true → exec s.ev.instr s = .next (s.postFront s.lane s.ev)) ∧
      (e.time.toNat ≤ s.now → s.planBefore e = false → ∃ t, exec s.ev.instr s = .next t ∧ SameMemory s t ∧
        (s.contractPart s.chip.toNat e = false → ∀ k, k ∈ rectBays e.rect → (s.bay k).fenced = false → (t.bay k).active = none) ∧
        (s.contractPart s.chip.toNat e = true → t.bays = s.bays ∧ t.agenda = s.agenda) ∧
        (∀ k, k ∉ rectBays e.rect → t.bay k = s.bay k))) ∧
    (∀ go, s.ev = .planStep e b go → s.ctxOf e.ctxid = some x → (s.bay b).fenced = false →
      ∃ t, exec s.ev.instr s = .next t ∧ SameMemory s t ∧ (go = false → (t.bay b).due = none) ∧
        (e.mode = 0 → go = true → s.bctx b e.index.toNat = some c → c.asid = x.asid →
          (⟨lanePlan b, .residentSwitchComplete b e.index.toNat⟩ : Item) ∈ t.agenda) ∧
        (e.mode = 1 → s.bctx b e.index.toNat = some c → (s.bctx b (4 + x.asid)).isSome = true →
          (⟨lanePlan b, .saveComplete b c.asid⟩ : Item) ∈ t.agenda ∧
          (⟨lanePlan b, .restoreComplete b x.asid e.index.toNat⟩ : Item) ∈ t.agenda) ∧
        (e.mode = 2 → (s.bay b).due = some x.asid → s.keyOf b x.asid = some i → i < 4 →
          (⟨lanePlan b, .saveComplete b x.asid⟩ : Item) ∈ t.agenda ∧
          (s.front.saving.contains (e, x.asid) = false →
            ∀ y, s.ctx x.asid = some y → ∃ z, t.ctx x.asid = some z ∧ z.gen = y.gen + 1))) ∧
    (s.ev = .stateCapture b → exec .stateCapture s = .next (if s.captured b then s else s.postFront s.lane s.ev)) ∧
    (s.ev = .residentSwitchComplete b i → s.bctx b i = some c → s.ctx c.asid = some x → x.ended = none →
      (s.bay b).fenced = false → i < 4 → (s.bay b).halts = 0 →
      ∃ t, exec .residentSwitchComplete s = .next t ∧ t.activeAt b i = true ∧ t.bctx b i = some { c with park := [] } ∧
        SameMemory s t ∧ t.agenda.length = c.park.length + s.agenda.length) ∧
    (s.ev = .saveComplete b c.asid → s.keyOf b c.asid = some i → s.bctx b i = some c → i < 4 →
      ∃ t, exec .saveComplete s = .next t ∧ SameMemory s t ∧
        ((t.bctx b (4 + c.asid) = some c ∧ t.bctx b i = none ∧
          ∀ k, k < c.quota.pages → (t.image b c.asid).tags[k]? = some (s.imageTag b c (s.image b c.asid).gen k)) ∨
        (Config.saveError s.free ≠ none ∧ ends t))) ∧
    (s.ev = .restoreComplete b x.asid i → s.ctx x.asid = some x → x.ended = none → s.bctx b i = none →
      s.bctx b (4 + x.asid) = some c → (s.bay b).fenced = false → i < 4 → c.asid = x.asid → c.cellar.held = [] →
      (s.bay b).halts = 0 → (s.bay b).due = some x.asid → s.restoring x.asid = false →
      ∃ t, exec .restoreComplete s = .next t ∧
        ((∃ y, t.bctx b i = some y ∧ y.asid = x.asid ∧ t.bctx b (4 + x.asid) = none ∧
          ∃ j z, (t.bay b).active = some j ∧ t.bctx b j = some z ∧ z.asid = x.asid) ∨ ends t))) ∧
  (∀ (s : State) (a b i : Nat) (x : Ctx) (l : Launch) (k : Contract),
    (s.ev = .contractPeriodStart a → s.ctx a = some x → x.ended = none → x.launch = some l → l.contract = some k →
      (s.now < k.t0 + k.begun * k.p * 1000 → exec .contractPeriodStart s = .next (s.postFront s.lane s.ev)) ∧
      (k.t0 + k.begun * k.p * 1000 ≤ s.now → ∃ t y m, exec .contractPeriodStart s = .next t ∧
        t.ctx a = some y ∧ y.launch = some m ∧ m.contract = some { k with begun := k.begun + 1, spent := 0 } ∧
        SameMemory s t)) ∧
    (s.ev = .bestEffortQuantumExpiry b → s.contractBay b = true →
      (s.switching b = true ∨ (s.bay b).fenced = true → exec .bestEffortQuantumExpiry s = .next (s.postFront s.lane s.ev)) ∧
      (s.switching b = false → (s.bay b).fenced = false →
        (s.turn b = some i → s.activeAt b i = true → ∃ t, exec .bestEffortQuantumExpiry s = .next t ∧
          t.bay b = { s.bay b with turn := (t.bay b).turn } ∧ t.agenda = ⟨s.lane, s.ev⟩ :: s.agenda ∧ SameMemory s t) ∧
        (s.turn b = some i → s.activeAt b i = false →
          ∃ t, exec .bestEffortQuantumExpiry s = .next t ∧ (t.bay b).active = none ∧ SameMemory s t ∧
            (∀ y, s.bctx b i = some y → s.savingCtx y.asid = false → i < 4 →
              (⟨lanePlan b, .residentSwitchComplete b i⟩ : Item) ∈ t.agenda)) ∧
        (s.turn b = none →
          ∃ t, exec .bestEffortQuantumExpiry s = .next t ∧ (t.bay b).active = none ∧ SameMemory s t))))

/-- BMASK on an idle channel joins with an operand that R226 allows (no reserved field, an aligned rectangle of R225
and R28 that holds the bay and lies in the partition, and a group of the context that lists this package where it
extends to one), or leaves with 0, with phase and counts cleared; any other operand raises RANGE and a channel in use
BSTATE. BARR counts one arrival and writes the ticket, or waits while the bay has arrived; BWAIT ends at once where
the phase of its ticket is over and otherwise waits; BSYNC does both, and waits with 0x20 before its arrival is
counted (the model’s reading, log entry 63). A channel that the bay has not joined raises BSTATE, an index beyond the
quota QUOTA. The completion of a phase, of a channel that extends to a group with the group’s own completion of that
phase, advances it at every bay of the rectangle and lets every waiter go on; a fibre whose arrival was not counted
yet issues its instruction again. (R225, R226, R227, R229, R228, R233.) -/
def Obligations.BarrierResults : Prop :=
  ∀ (s : State) (c : BayCtx) (f : Fibre) (a : GReg) (x : BitVec 10) (r : MemOrd) (p : Scope),
    let n := x.toNat
    let y := c.chan n
    let v := f.reg a
    let m := f.marked s r
    let to_ := fun (t : State) (z : Chan) => t.chanAt s.cur.bay s.cur.idx n = some z ∧ SameMemory s t
    let x0 := fun (q : BitVec 26) => (q.extractLsb' 0 6).toNat
    let y0 := fun (q : BitVec 26) => (q.extractLsb' 8 5).toNat
    let wide := fun (q : BitVec 26) => if q.extractLsb' 24 2 = 0 then 2 ^ (q.extractLsb' 16 3).toNat else if q.extractLsb' 24 2 = 1 then 16 else 64
    let high := fun (q : BitVec 26) => if q.extractLsb' 24 2 = 0 then 2 ^ (q.extractLsb' 20 3).toNat else if q.extractLsb' 24 2 = 1 then 12 else 24
    let w : BitVec 26 := v.setWidth 26
    let group := (v.extractLsb' 48 12).toNat
    let allowed := v &&& 0x700000FF7C88E0C0 = 0 ∧ w.extractLsb' 24 2 ≠ 3 ∧ w.extractLsb' 20 3 ≤ 4 ∧ w.extractLsb' 16 3 ≤ 6 ∧
      (w.extractLsb' 24 2 ≠ 0 → w.extractLsb' 20 3 = 0 ∧ w.extractLsb' 16 3 = 0) ∧ x0 w % wide w = 0 ∧ y0 w % high w = 0 ∧
      y0 w + high w ≤ 24 ∧ x0 w ≤ (bayXY s.cur.bay).1 ∧ (bayXY s.cur.bay).1 < x0 w + wide w ∧ y0 w ≤ (bayXY s.cur.bay).2 ∧
      (bayXY s.cur.bay).2 < y0 w + high w ∧ ∃ z, s.ctx c.asid = some z ∧
        x0 z.rect ≤ x0 w ∧ x0 w + wide w ≤ x0 z.rect + wide z.rect ∧ y0 z.rect ≤ y0 w ∧ y0 w + high w ≤ y0 z.rect + high z.rect ∧
        (v.getLsbD 63 = false → group = 0) ∧
        (v.getLsbD 63 = true → ∃ e, z.groups[group]? = some e ∧ s.inBox e s.chip.toNat = true)
    (n < c.quota.chans →
      (s.Issues [a] c f →
        (y.arr = false → y.larr = 0 → y.phWait = [] → y.arrWait = [] →
          (v = 0 ∨ (v.getLsbD 31 = true ∧ allowed) →
            ∃ t, exec (.bmask a x) s = .next t ∧ t.curF = some f.retire ∧
              to_ t { en := v.getLsbD 31, mask := v, phase := 0, larr := 0, arr := false, arrWait := [], phWait := [] }) ∧
          ((v ≠ 0 ∧ v.getLsbD 31 = false) ∨ (v.getLsbD 31 = true ∧ ¬allowed) →
            exec (.bmask a x) s = .next (s.raise f .range v))) ∧
        (y.arr = true ∨ y.larr ≠ 0 ∨ y.phWait ≠ [] ∨ y.arrWait ≠ [] →
          exec (.bmask a x) s = .next (s.raise f .bstate (x.setWidth 64)))) ∧
      (s.Issues [] c f → y.en = false → let q := s.raise f .bstate (x.setWidth 64)
        exec (.barr x r p) s = .next q ∧ exec (.bwait x r p) s = .next q ∧ exec (.bsync x r p) s = .next q) ∧
      (s.Issues [] c f → y.en = true → s.mayRelease r p f →
        let arrived : Chan := if y.larr = y.arrn then { y with larr := 0, arr := true } else { y with larr := y.larr + 1 }
        let waits := fun (g : Fibre) (k : Nat) => some (g.block (.queued k) (s.bay s.cur.bay).cycle)
        (y.arr = false →
          (∃ t, exec (.barr x r p) s = .next t ∧ t.curF = some ({ m with ticket := some (n, y.phase) } : Fibre).retire ∧
            to_ t arrived) ∧
          (∃ t, exec (.bsync x r p) s = .next t ∧ t.curF = waits { m with ticket := some (n, y.phase) } 0x22 ∧
            to_ t { arrived with phWait := y.phWait ++ [f.uid] })) ∧
        (y.arr = true →
          (∃ t, exec (.barr x r p) s = .next t ∧ t.curF = waits m 0x20 ∧
            to_ t { y with arrWait := y.arrWait ++ [.barr f.uid] }) ∧
          (∃ t, exec (.bsync x r p) s = .next t ∧ t.curF = waits m 0x20 ∧
            to_ t { y with arrWait := y.arrWait ++ [.bsync f.uid] })) ∧
        (∀ q, f.ticket = some (n, q) → q ≠ y.phase → exec (.bwait x r p) s = .next (s.retired m.retire)) ∧
        (f.ticket = none ∨ (∃ k q, f.ticket = some (k, q) ∧ (k ≠ n ∨ q = y.phase)) →
          ∃ t, exec (.bwait x r p) s = .next t ∧ t.curF = waits m 0x21 ∧
            to_ t { y with phWait := y.phWait ++ [f.uid] }))) ∧
    (c.quota.chans ≤ n → let q := s.raise f .quota (x.setWidth 64)
      (s.Issues [a] c f → exec (.bmask a x) s = .next q ∧ exec (.bstat a x) s = .next q) ∧
      (s.Issues [] c f → exec (.barr x r p) s = .next q ∧ exec (.bwait x r p) s = .next q ∧
        exec (.bsync x r p) s = .next q)) ∧
    (∀ b i : Nat, s.ev = .barrierPhaseComplete c.asid n b → s.keyOf b c.asid = some i → s.bctx b i = some c →
      s.phaseReady c.asid n y = true → (rectBays y.rect).Nodup →
      (y.ext = true → ⟨n, y.rect, y.phase, true⟩ ∈ (tget .init s.groups (State.groupKey c.asid y.grp)).up) →
      (∀ k ∈ rectBays y.rect, ∀ j z, s.keyOf k c.asid = some j → s.bctx k j = some z → ∀ q ∈ (z.chan n).arrWait,
        ∀ u m, q ≠ .cistern u m) →
      ∃ t, exec .barrierPhaseComplete s = .next t ∧ SameMemory s t ∧
        (∀ k ∈ rectBays y.rect, ∀ j z, s.keyOf k c.asid = some j → s.bctx k j = some z →
          t.chanAt k j n = some { z.chan n with arr := false, larr := 0, phase := (z.chan n).phase + 1, phWait := [], arrWait := [] }) ∧
        (∀ k g, rectBays y.rect = [b] → y.phWait = [g.uid] → s.fib b i k = some g → t.fib b i k = some g.retire) ∧
        (∀ k g, rectBays y.rect = [b] → y.phWait = [] → (y.arrWait = [.barr g.uid] ∨ y.arrWait = [.bsync g.uid]) →
          s.fib b i k = some g → t.fib b i k = some { g with wait := .ready }))

/-- BSTAT on a channel within the quota writes the phase in bits 15 to 0, the blocked fibres in 24 to 16, ARR, EXT and
EN in 29 to 31, ARRN in 39 to 32 and LARR in 47 to 40, with every other bit 0; it does not fault on a channel that the
bay has not joined. QSTAT writes the words in the queue in bits 5 to 0, the credits held in 13 to 8 (as the model
counts them, log entry 41), the blocked pushers in 30 to 22 and the blocked poppers in 39 to 31, with every other bit
0. (R232, R238.) -/
def Obligations.StatusWords : Prop :=
  (∀ (s : State) (c : BayCtx) (f : Fibre) (b : GReg) (x : BitVec 10), s.Issues [b] c f →
    let y := c.chan x.toNat
    (x.toNat < c.quota.chans → y.larr < 256 → y.waitn < 512 →
      ∃ v : Word, exec (.bstat b x) s = .next (s.result f b v) ∧ v.extractLsb' 48 16 = 0 ∧
        (v.extractLsb' 40 8).toNat = y.larr ∧ (v.extractLsb' 32 8).toNat = y.arrn ∧ v.getLsbD 31 = y.en ∧
        v.getLsbD 30 = y.ext ∧ v.getLsbD 29 = y.arr ∧ v.extractLsb' 25 4 = 0 ∧ (v.extractLsb' 16 9).toNat = y.waitn ∧
        v.extractLsb' 0 16 = y.phase) ∧
    (c.quota.chans ≤ x.toNat → exec (.bstat b x) s = .next (s.raise f .quota (x.setWidth 64)))) ∧
  (∀ (s : State) (c : BayCtx) (f : Fibre) (d : GReg) (r : Dir), s.Issues [d] c f →
    let y := c.gut r
    y.q.length ≤ 32 → y.cred ≤ 32 → y.pops.length ≤ 256 → y.pushes.length ≤ 256 →
    ∃ v : Word, exec (.qstat d r) s = .next (s.result f d v) ∧ v.extractLsb' 40 24 = 0 ∧
      (v.extractLsb' 31 9).toNat = y.pops.length ∧ (v.extractLsb' 22 9).toNat = y.pushes.length ∧
      v.extractLsb' 14 8 = 0 ∧ (v.extractLsb' 8 6).toNat = s.credits s.cur.bay c.asid r y ∧ v.extractLsb' 6 2 = 0 ∧
      (v.extractLsb' 0 6).toNat = y.q.length)

/-- With the neighbour usable, QPUSH with a credit and no earlier pusher sends its word and spends the credit, and
otherwise takes its place and blocks; QPOP with a word and no earlier popper takes the head into gd and gives its
credit back, and otherwise blocks; the T forms give 1 or 0 and never block; QFWD with a word, a credit and no earlier
waiter forwards the head and keeps it in gd, and otherwise takes its place in both queues. A neighbour that may not be
used raises RANGE with its number. A word that arrives joins the queue or completes a waiting QPOP; a credit that
returns is held or completes a waiting QPUSH. That a waiting QPOP or QPUSH of a resident context that is not active is
completed too is the model’s choice (assumption log entry 76). Memory does not change. (R237, R235, R234.) -/
def Obligations.GutterResults : Prop :=
  ∀ (s : State) (c : BayCtx) (f : Fibre) (d a e : GReg) (r : Dir),
    let out := neighbour s.cur.bay r
    let src := neighbour s.cur.bay (if r = .east then .west else .east)
    let y := c.gut r
    let cr := s.credits s.cur.bay c.asid r y
    let to_ := fun (t : State) (z : Gutter) => t.gutAt s.cur.bay s.cur.idx r = some z ∧ SameMemory s t
    let word : Nat → Word → Item := fun b w => ⟨laneGutter b r, .gutterWordArrival (neighbour b r) c.asid r w⟩
    let waits := fun (k : Nat) => some (f.block (.queued (k + dirCode r)) (s.bay s.cur.bay).cycle)
    (s.usable c.asid out = false →
      (s.Issues [a] c f → exec (.qpush a r) s = .next (s.raise f .range (BitVec.ofNat 64 out))) ∧
      (s.Issues [d, a] c f → exec (.qpusht d a r) s = .next (s.raise f .range (BitVec.ofNat 64 out)))) ∧
    (s.usable c.asid src = false → let q := s.raise f .range (BitVec.ofNat 64 src)
      (s.Issues [d] c f → exec (.qpop d r) s = .next q ∧ exec (.qfwd d r) s = .next q) ∧
      (s.Issues [d, e] c f → exec (.qpopt d e r) s = .next q)) ∧
    (s.usable c.asid out = true →
      (s.Issues [a] c f →
        (0 < cr → y.pushes = [] → ∃ t, exec (.qpush a r) s = .next t ∧ t.curF = some f.retire ∧
          t.agenda = s.agenda ++ [word s.cur.bay (f.reg a)] ∧ to_ t { y with cred := y.cred - 1 }) ∧
        (cr = 0 ∨ y.pushes ≠ [] → ∃ t, exec (.qpush a r) s = .next t ∧ t.curF = waits 0x30 ∧
          to_ t { y with pushes := y.pushes ++ [{ uid := f.uid, d := 0, word := f.reg a, fwd := false }] })) ∧
      (s.Issues [d, a] c f →
        (0 < cr → y.pushes = [] → ∃ t, exec (.qpusht d a r) s = .next t ∧ t.curF = some (f.setReg d 1).retire ∧
          t.agenda = s.agenda ++ [word s.cur.bay (f.reg a)] ∧ to_ t { y with cred := y.cred - 1 }) ∧
        (cr = 0 ∨ y.pushes ≠ [] → exec (.qpusht d a r) s = .next (s.result f d 0)))) ∧
    (s.usable c.asid src = true →
      (s.Issues [d] c f →
        (∀ w q, y.q = w :: q → y.pops = [] → ∃ t, exec (.qpop d r) s = .next t ∧ t.curF = some (f.setReg d w).retire ∧
          t.agenda = s.agenda ++ [s.newItem (.gutterCreditReturn src c.asid r)] ∧ to_ t { y with q := q }) ∧
        (y.q = [] ∨ y.pops ≠ [] → ∃ t, exec (.qpop d r) s = .next t ∧ t.curF = waits 0x32 ∧
          to_ t { y with pops := y.pops ++ [{ uid := f.uid, d := d, word := 0, fwd := false }] }) ∧
        (s.usable c.asid out = true →
          (∀ w q, y.q = w :: q → 0 < cr → y.pops = [] → y.pushes = [] →
            ∃ t, exec (.qfwd d r) s = .next t ∧ t.curF = some (f.setReg d w).retire ∧
              t.agenda = s.agenda ++ [s.newItem (.gutterCreditReturn src c.asid r), word s.cur.bay w] ∧
              to_ t { y with q := q, cred := y.cred - 1 }) ∧
          (y.q = [] ∨ cr = 0 ∨ y.pops ≠ [] ∨ y.pushes ≠ [] → ∃ t, exec (.qfwd d r) s = .next t ∧ t.curF = waits 0x34 ∧
            to_ t { y with
              pops := y.pops ++ [{ uid := f.uid, d := d, word := 0, fwd := true }]
              pushes := y.pushes ++ [{ uid := f.uid, d := d, word := 0, fwd := true }] })) ∧
        (s.usable c.asid out = false → exec (.qfwd d r) s = .next (s.raise f .range (BitVec.ofNat 64 out)))) ∧
      (s.Issues [d, e] c f →
        (∀ w q, y.q = w :: q → y.pops = [] → ∃ t, exec (.qpopt d e r) s = .next t ∧
          t.curF = some ((f.setReg d w).setReg e 1).retire ∧ to_ t { y with q := q }) ∧
        (y.q = [] ∨ y.pops ≠ [] → exec (.qpopt d e r) s = .next (s.result f e 0)))) ∧
    (∀ (b i k : Nat) (w : Word) (x : GutWait) (z : BayCtx), s.keyOf b c.asid = some i → i < 4 → s.bctx b i = some z →
      z.asid = c.asid → s.credits b c.asid r (z.gut r) = (z.gut r).cred →
      (s.ev = .gutterWordArrival b c.asid r w →
        ((z.gut r).pops = [] → (z.gut r).pushes = [] → ∃ t, exec .gutterWordArrival s = .next t ∧
          t.gutAt b i r = some { z.gut r with q := (z.gut r).q ++ [w] } ∧ SameMemory s t) ∧
        ((z.gut r).q = [] → (z.gut r).pops = [x] → (z.gut r).pushes = [] → x.fwd = false → s.fib b i k = some f →
          f.uid = x.uid → ∃ t, exec .gutterWordArrival s = .next t ∧ t.fib b i k = some (f.setReg x.d w).retire ∧
            t.gutAt b i r = some { z.gut r with pops := [] } ∧ SameMemory s t)) ∧
      (s.ev = .gutterCreditReturn b c.asid r →
        ((z.gut r).pops = [] → (z.gut r).pushes = [] → ∃ t, exec .gutterCreditReturn s = .next t ∧
          t.gutAt b i r = some { z.gut r with cred := (z.gut r).cred + 1 } ∧ SameMemory s t) ∧
        ((z.gut r).cred = 0 → (z.gut r).pops = [] → (z.gut r).pushes = [x] → x.fwd = false → s.fib b i k = some f →
          f.uid = x.uid → s.credits b c.asid r { z.gut r with cred := 1 } = 1 →
          ∃ t, exec .gutterCreditReturn s = .next t ∧ t.fib b i k = some f.retire ∧ SameMemory s t ∧
            t.gutAt b i r = some { z.gut r with pushes := [] } ∧ word b x.word ∈ t.agenda)))

/-- Every instruction of majors 0x34 to 0x39 (VLD, VLDS, VLDB, VST, VSTS, VADD, VSUB, VMUL, VFMA, VFMS, VMIN, VMAX,
VABS, VNEG, VRSQ, VRCP, VEXP2, VLOG2, VSQRT, VDIV, VADDS, VMULS, VFMAS, VIADD, VISUB, VIMUL, VIMIN, VIMAX, VIMINU,
VIMAXU, VAND, VOR, VXOR, VSHL, VSHR, VSAR, VIADDS, VIDX, VCMPEQ, VCMPLT, VCMPLE, VSEL, VRSUM, VRMAX, VRMIN, VSHUF,
VBCAST, VROT, KAND, KOR, KNOT, VCVT, VCVTSR, VRNG, VPACK, VUNPK, VCVTN4, VCVTW4), VSPLAT and VINS, issued outside a
frame by a fibre that holds a vector context, goes to the tail of the queue of that context with its scalar operands
and the next vector sequence number, and the fibre continues; a full queue blocks the fibre with its entry waiting;
without a vector context VNOBIND is raised, before any other check (the model’s choice, assumption log entry 16); a
lane index beyond the lanes raises RANGE, a misaligned address or stride ALIGN, a chunk beyond the quota QUOTA. Memory
does not change. (R247, R248, R254, R255, R265.) -/
def Obligations.VectorIssue : Prop :=
  ∀ (s : State) (c : BayCtx) (f : Fibre) (i : Instr) (d : VReg) (b e : GReg) (z : Ty) (k : KReg),
    vecFramed i = true ∨ i = .vsplat d b z k ∨ i = .vins d b e z → s.Issues (namedRegs i) c f →
    (f.vctx = none → exec i s = .next (s.raise f .vnobind (wordOf i))) ∧
    (∀ v, f.vctx = some v →
      (∀ x w, vecFault i f c.quota.scratch 1 0 = some (x, w) → exec i s = .next (s.raise f x w)) ∧
      (vecFault i f c.quota.scratch 1 0 = none →
        let n := VEnt.one .ins { op := i, x := vecX i f, y := vecY i f }
        ((c.vctx v).queue.length < 16 → ∃ t, exec i s = .next t ∧ SameMemory s t ∧ t.curF = some f.retire ∧
          t.vecQueue v = some ((c.vctx v).queue ++ [s.vecEntry c n]) ∧
          t.agenda = s.agenda ++ (if (c.vctx v).queue = [] then
            [⟨laneVec s.cur.bay s.cur.idx v, .vectorEntryExecute s.cur.bay s.cur.idx v⟩] else [])) ∧
        (16 ≤ (c.vctx v).queue.length → ∃ t, exec i s = .next t ∧ SameMemory s t ∧ t.agenda = s.agenda ∧
          t.curF = some (f.block (.queued 0x11) (s.bay s.cur.bay).cycle) ∧ t.vecQueue v = s.vecQueue v ∧
          t.curC.map BayCtx.vwaits = some (c.vwaits ++ [{ uid := f.uid, vc := v, ent := n }]))))

/-- VREP with count 0 skips its n instructions; with a count up to 65,535 it opens a frame of n positions with the
steps 0, 1, 2 or 4; a larger count raises VFRAME, and without a vector context VNOBIND, also where both apply (the
model’s choice, assumption log entry 16). In a frame an instruction of majors 0x34 to 0x37 without a check of its own
is captured and, at the last position, the frame enters the queue as one entry and closes; an instruction outside
majors 0x34 to 0x39 raises VFRAME, and so does a position but the last at which the innermost loop ends. VBIND takes
the lowest free vector context, cleared, or waits (0x1A), with FSTATE where the fibre holds one and QUOTA where the
context has none. VDRAIN, VFREE (0x41) and VGET (0x40) place an entry and wait; VGET raises RANGE for an index beyond
the lanes. Where VNOBIND, VFRAME and a check of the instruction’s own apply together, that order is the model’s choice
too (assumption log entry 16). (R111, R112, R253, R254, R248.) -/
def Obligations.VectorFrames : Prop :=
  ∀ (s : State) (c : BayCtx) (f : Fibre) (n : BitVec 4) (m : BitVec 10) (y u w : BitVec 2) (a b : GReg)
      (x : VReg) (z : Ty),
    let step := fun (q : BitVec 2) => if q = 3 then 4 else q.toNat
    let opens := fun (i : Instr) (q : Word) =>
      (f.vctx = none → exec i s = .next (s.raise f .vnobind (wordOf i))) ∧
      (f.vctx ≠ none →
        (65535 < q.toNat → exec i s = .next (s.raise f .vframe q)) ∧
        (q = 0 → exec i s = .next (s.jumpedTo f (f.pc + 4 + 4 * BitVec.ofNat 64 (n.toNat + 1)))) ∧
        (q ≠ 0 → q.toNat ≤ 65535 → let o : Frame := { n := n.toNat + 1, left := n.toNat + 1, count := q.toNat,
                                                        sd := step y, sa := step u, sb := step w, ins := [] }
          exec i s = .next (s.retired ({ f with frame := some o } : Fibre).retire)))
    (s.Issues [] c f → opens (.vrep n m y u w) (m.setWidth 64)) ∧
    (s.Issues [a] c f → opens (.vrepReg n a y u w) (f.reg a)) ∧
    (∀ fr i v, s.curC = some c → s.curF = some f → f.frame = some fr → (∀ r ∈ namedRegs i, f.isEmpty r = false) →
      f.vctx = some v →
      (i = .nop ∨ i = .vrep n m y u w ∨ i = .vsplat x b z 0 → exec i s = .next (s.raise f .vframe (wordOf i))) ∧
      (vecFramed i = true → (encode i).isSome = true →
        let cap : Frame := { fr with left := fr.left - 1, ins := fr.ins ++ [{ op := i, x := vecX i f, y := vecY i f }] }
        (fr.left ≠ 1 → f.loopMoves = true → exec i s = .next (s.raise f .vframe (wordOf i))) ∧
        (fr.left = 1 ∨ f.loopMoves = false →
          (∀ k q, vecFault i f c.quota.scratch fr.count fr.sd = some (k, q) → exec i s = .next (s.raise f k q)) ∧
          (vecFault i f c.quota.scratch fr.count fr.sd = none →
            (fr.left ≠ 1 → exec i s = .next (s.retired ({ f with frame := some cap } : Fibre).retire)) ∧
            (fr.left = 1 → (c.vctx v).queue.length < 16 → ∃ t, exec i s = .next t ∧ SameMemory s t ∧
              t.curF = some ({ f with frame := none } : Fibre).retire ∧
              t.vecQueue v = some ((c.vctx v).queue ++ [s.vecEntry c ⟨.ins, cap.ins, fr.count, fr.sd, fr.sa, fr.sb, 0, 0, 0⟩])))))) ∧
    (s.Issues [] c f →
      (f.vctx ≠ none → exec .vbind s = .next (s.raise f .fstate (wordOf .vbind))) ∧
      (f.vctx = none → c.quota.vctxs = 0 → exec .vbind s = .next (s.raise f .quota 0)) ∧
      (∀ v, f.vctx = none → c.quota.vctxs ≠ 0 → v < c.quota.vctxs → (c.vctx v).owner = none →
        (∀ k < v, (c.vctx k).owner ≠ none) → c.vbindq = [] →
        ∃ t, exec .vbind s = .next t ∧ SameMemory s t ∧ t.curF = some ({ f with vctx := some v } : Fibre).retire ∧
          t.curC.map (fun q => q.vctx v) = some { VCtx.init with owner := some f.uid }) ∧
      (f.vctx = none → c.quota.vctxs ≠ 0 → c.vbindq ≠ [] ∨ (∀ k < c.quota.vctxs, (c.vctx k).owner ≠ none) →
        ∃ t, exec .vbind s = .next t ∧ SameMemory s t ∧
          t.curF = some (f.block (.queued 0x1A) (s.bay s.cur.bay).cycle) ∧
          t.curC.map BayCtx.vbindq = some (c.vbindq ++ [f.uid]))) ∧
    (let asks := fun (i : Instr) (q : Word) (k : VKind) (code : Nat) =>
      (f.vctx = none → exec i s = .next (s.raise f .vnobind (wordOf i))) ∧
      (∀ v, f.vctx = some v → (c.vctx v).queue.length < 16 → ∃ t, exec i s = .next t ∧ SameMemory s t ∧
        t.curF = some (f.block (.queued code) (s.bay s.cur.bay).cycle) ∧
        t.vecQueue v = some ((c.vctx v).queue ++ [s.vecEntry c (VEnt.one k { op := i, x := q, y := 0 })]))
     (s.Issues [] c f → asks .vdrain 0 (.drain f.uid) 0x41 ∧ asks .vfree 0 (.free f.uid) 0x41) ∧
     (s.Issues [a, b] c f → let q := f.reg a
      let ok := (q.getLsbD 63 = true → q.extractLsb' 0 62 = 0) ∧ (q.getLsbD 63 = false → q.toNat < tyN z)
      (ok → asks (.vget a x b z) q (.get f.uid b) 0x40) ∧
      (¬ok → f.vctx ≠ none → exec (.vget a x b z) s = .next (s.raise f .range q))))

/-- While vector issue is not held and the context is active, a single instruction at the head of a queue executes: it
changes the registers, masks and NSTAT of its context as its own rule says, VLD, VLDS and VLDB load the selected
words, VST and VSTS store the selected words and nothing else, and the entry leaves the queue. VGET at the head writes
its general register and lets its fibre go on, VDRAIN lets its fibre go on, and VFREE frees the context as well. A
frame executes its next position with the v register fields of iteration j moved on by j·SD, j·SA and j·SB modulo 32,
the address of VLD and VST by j·256·SD and that of VLDS, VSTS and VLDB by j·32·SD, and the counter of VRNG by 64·j; it
then goes on with the next position, after the last one with the first position of the next iteration, and after the
last iteration it is complete: it leaves the queue, and its ring entry is done. While vector issue is held, the entry
stays. (R249, R251, R254, R255, R262, R266, R466.) -/
def Obligations.VectorExecute : Prop :=
  ∀ (s : State) (c : BayCtx) (b i v u k : Nat) (e : VEnt) (n : VIns) (f : Fibre)
      (d p r : VReg) (m h l : KReg) (a g : GReg) (o : BitVec 10) (y w : Ty) (rm : Rm) (part : BitVec 2) (op : Instr)
      (rest : List VEnt),
    let z := c.vctx v
    let key := fun (q : Nat) => spadKey c.asid b (vecWord n.op n.x n.y q).toNat
    let after := fun (t : State) (w : VCtx) => (t.bctx b i).map (fun q => q.vctx v) = some w
    s.ev = .vectorEntryExecute b i v → s.bctx b i = some c →
    (s.mgmt.throttle = true ∨ s.activeAt b i = false → exec .vectorEntryExecute s = .next s.wait) ∧
    (s.mgmt.throttle = false → s.activeAt b i = true → z.queue = [e] → z.iter = 0 → z.pos = 0 → z.bad = [] →
      c.vwaits = [] → c.mport.wq = [] → e.ins = [n] →
      (e.kind = .ins → e.count = 1 →
        (vecFramed n.op = true → vecMem n.op = false → ∃ t, exec .vectorEntryExecute s = .next t ∧ SameMemory s t ∧
          after t { z.run n.op n.x n.y with queue := [], iter := 0, pos := 0 }) ∧
        (n.op = .vld d a m o ∨ n.op = .vlds d a g m o ∨ n.op = .vldb d a m o → s.poison = [] →
          ∃ t, exec .vectorEntryExecute s = .next t ∧ SameMemory s t ∧
            let w := z.write d 4 64 m (fun q => (leNat (memBytes s.mem (key q) 4), 0)) (fun _ => 0)
            after t { w with queue := [], iter := 0, pos := 0 }) ∧
        (n.op = .vst d a m o ∨ n.op = .vsts d a g m o → n.x.toNat % 32 = 0 → n.y.toNat % 32 = 0 →
          ∃ t, exec .vectorEntryExecute s = .next t ∧ after t { z with queue := [], iter := 0, pos := 0 } ∧
            (∀ x, (∀ q < 64, z.sel m q = true → x < key q ∨ key q + 4 ≤ x) → memGet t.mem x = memGet s.mem x) ∧
            (∀ q < 64, z.sel m q = true →
              (∀ r < 64, r ≠ q → z.sel m r = true → key r + 4 ≤ key q ∨ key q + 4 ≤ key r) →
              memBytes t.mem (key q) 4 = leBytes 4 (vlane (z.vr d) 4 q)))) ∧
      (s.fib b i k = some f → f.uid = u →
        (e.kind = .get u g → n.op = .vget a d g y → n.x.getLsbD 63 = false → n.x.toNat < tyN y →
          ∃ t, exec .vectorEntryExecute s = .next t ∧ SameMemory s t ∧ after t { z with queue := [], iter := 0, pos := 0 } ∧
            t.fib b i k = some (f.setReg g (let w := BitVec.ofNat 64 (vlane (z.vr d) (tyW y) n.x.toNat)
              if y.isInt then sextW w (8 * tyW y) else w)).retire) ∧
        (e.kind = .get u g → n.op = .vget a d g y → n.x.getLsbD 63 = true →
          ∃ t, exec .vectorEntryExecute s = .next t ∧ SameMemory s t ∧
            t.fib b i k = some (f.setReg g (z.nstat.setWidth 64)).retire ∧
            after t { z with nstat := if n.x.getLsbD 62 then 0 else z.nstat, queue := [], iter := 0, pos := 0 }) ∧
        (e.kind = .drain u → ∃ t, exec .vectorEntryExecute s = .next t ∧ SameMemory s t ∧ t.fib b i k = some f.retire ∧
          after t { z with queue := [], iter := 0, pos := 0 }) ∧
        (e.kind = .free u → c.vbindq = [] → ∃ t, exec .vectorEntryExecute s = .next t ∧ SameMemory s t ∧
          t.fib b i k = some ({ f.retire with vctx := none }) ∧ after t VCtx.init))) ∧
    (let j := z.iter
     let d' : VReg := BitVec.ofNat 5 (d.toNat + j * e.sd)
     let p' : VReg := BitVec.ofNat 5 (p.toNat + j * e.sa)
     let r' : VReg := BitVec.ofNat 5 (r.toNat + j * e.sb)
     let more := z.pos + 1 < e.ins.length ∨ j + 1 < e.count
     let goesOn := fun (t : State) (x : VCtx) =>
      after t (if z.pos + 1 < e.ins.length then { x with pos := z.pos + 1 }
        else if j + 1 < e.count then { x with pos := 0, iter := j + 1 } else { x with queue := rest, iter := 0, pos := 0 }) ∧
      (more → ∃ q ∈ t.agenda, q.ev = s.ev) ∧
      (¬more → ∀ q, s.ringAt b i 0 e.seq = some q → t.ringAt b i 0 e.seq = some { q with done := true })
     s.mgmt.throttle = false → s.activeAt b i = true → z.queue = e :: rest → e.kind = .ins → e.ins[z.pos]? = some n →
      z.bad = [] → (¬more → c.vwaits = [] ∧ c.mport.wq = []) →
      (((∃ I ∈ [Instr.vadd, .vsub, .vmul, .vfma, .vfms, .vmin, .vmax, .viadd, .visub, .vimul, .vimin, .vimax, .viminu,
            .vimaxu, .vand, .vor, .vxor, .vshl, .vshr, .vsar, .vsel, .vshuf], n.op = I d p r y m ∧ op = I d' p' r' y m) ∨
        (∃ I ∈ [Instr.vabs, .vneg, .vrsum, .vrmax, .vrmin, .vcvtw4], n.op = I d p y m ∧ op = I d' p' y m) ∨
        (∃ I ∈ [Instr.vrsq, .vrcp, .vexp2, .vlog2, .vsqrt], n.op = I d p m ∧ op = I d' p' m) ∨
        (∃ I ∈ [Instr.vdiv, .vcvtsr], n.op = I d p r m ∧ op = I d' p' r' m) ∨
        (∃ I ∈ [Instr.vadds, .vmuls, .vfmas, .viadds, .vbcast, .vrot], n.op = I d p g y m ∧ op = I d' p' g y m) ∨
        (∃ I ∈ [Instr.vcmpeq, .vcmplt, .vcmple], n.op = I h p r y m ∧ op = I h p' r' y m) ∨
        (n.op = .vidx d y m ∧ op = .vidx d' y m) ∨ (n.op = .vcvt d p rm w y m ∧ op = .vcvt d' p' rm w y m) ∨
        (n.op = .vcvtn4 d p rm y m ∧ op = .vcvtn4 d' p' rm y m) ∨ (n.op = .vpack d p r y ∧ op = .vpack d' p' r' y) ∨
        (n.op = .vunpk d p part y ∧ op = .vunpk d' p' part y) ∨
        (n.op = op ∧ (op = .kand h l m ∨ op = .kor h l m ∨ op = .knot h m)) →
          ∃ t, exec .vectorEntryExecute s = .next t ∧ SameMemory s t ∧ goesOn t (z.run op n.x n.y)) ∧
       (n.op = .vrng d g m → ∃ t, exec .vectorEntryExecute s = .next t ∧ SameMemory s t ∧
          goesOn t (z.run (.vrng d' g m) (n.x.extractLsb' 32 32 ++ (n.x.setWidth 32 + BitVec.ofNat 32 (64 * j))) n.y)) ∧
       (let big := n.x + BitVec.ofNat 64 (j * 256 * e.sd)
        let small := n.x + BitVec.ofNat 64 (j * 32 * e.sd)
        let at_ := fun (q : Nat) => spadKey c.asid b (match n.op with
          | .vld .. | .vst .. => big + BitVec.ofNat 64 (4 * q)
          | .vldb .. => small + BitVec.ofNat 64 (4 * (q % 8))
          | _ => small + BitVec.ofNat 64 (q / 8) * n.y + BitVec.ofNat 64 (4 * (q % 8))).toNat
        (n.op = .vld d a m o ∨ n.op = .vlds d a g m o ∨ n.op = .vldb d a m o → s.poison = [] →
          ∃ t x, exec .vectorEntryExecute s = .next t ∧ SameMemory s t ∧ goesOn t x ∧ x.queue = z.queue ∧ x.iter = j ∧
            x.nstat = z.nstat ∧ (∀ q, x.kr q = z.kr q) ∧ (∀ q, q ≠ d' → x.vr q = z.vr q) ∧
            ∀ q < 64, vlane (x.vr d') 4 q =
              if z.sel m q then leNat (memBytes s.mem (at_ q) 4) else vlane (z.vr d') 4 q) ∧
        (n.op = .vst d a m o ∨ n.op = .vsts d a g m o → n.x.toNat % 32 = 0 → n.y.toNat % 32 = 0 →
          ∃ t, exec .vectorEntryExecute s = .next t ∧ goesOn t z ∧
            (∀ q, (∀ l < 64, z.sel m l = true → q < at_ l ∨ at_ l + 4 ≤ q) → memGet t.mem q = memGet s.mem q) ∧
            (∀ q < 64, z.sel m q = true →
              (∀ l < 64, l ≠ q → z.sel m l = true → at_ l + 4 ≤ at_ q ∨ at_ q + 4 ≤ at_ l) →
              memBytes t.mem (at_ q) 4 = leBytes 4 (vlane (z.vr d') 4 q))))))

/-- In a selected lane of an integer type, VIADD, VISUB, VIMUL, VIMIN, VIMAX, VIMINU, VIMAXU, VAND, VOR, VXOR, VSHL,
VSHR and VSAR write the operation of the two lanes modulo the lane width, VIADDS adds the low bits of the scalar and
VIDX writes the lane index; a lane that is not selected keeps its value, NSTAT, the other registers and the masks do
not change. For lanes of every type, floating-point ones too, VSPLAT writes the low bits of the scalar, VINS writes
the low bits of its value to the lane of its index and no other, and VSEL, VSHUF, VROT and VBCAST move lanes as R259
says. The compares write the bits of selected lanes and clear those above the lanes; KAND, KOR and KNOT act on all 256
bits. In a selected lane of FP32, BF16 or FP16, VABS and VNEG change the sign bit alone, VMIN and VMAX take −0 below
+0, a NaN operand gives the canonical NaN of the format, and so it does for VADD, VSUB, VMUL, VFMA, VFMS, VDIV, VADDS,
VMULS and VFMAS; VSQRT of a value below −0 gives it too and clears no flag; the compares take −0 and +0 as equal and
are false with a NaN. (R65, R68, R69, R77, R245, R246, R254, R256, R257, R258, R259.) -/
def Obligations.LaneResults : Prop :=
  ∀ (z : VCtx) (d a b : VReg) (g h : GReg) (p q k : KReg) (t : Ty) (x y : Word) (j : Nat),
    let w := tyW t
    let n := 8 * w
    let at_ := fun (r : VReg) (m : Nat) => BitVec.ofNat n (vlane (z.vr r) w m)
    let A := at_ a j
    let B := at_ b j
    let kept := fun (u : VCtx) => u.nstat = z.nstat ∧ (∀ r, r ≠ d → u.vr r = z.vr r) ∧ ∀ m, u.kr m = z.kr m
    let puts := fun (i : Instr) (m : Bool) (v : BitVec n) =>
      vlane ((z.run i x y).vr d) w j = (if m then v else at_ d j).toNat ∧ kept (z.run i x y)
    let on := z.sel k j
    let bit := fun (i : Instr) (v : Bool) => let u := z.run i x y
      (u.kr p).getLsbD j = (if on then v else (z.kr p).getLsbD j) ∧ (∀ m, tyN t ≤ m → (u.kr p).getLsbD m = false) ∧
      (∀ m, m ≠ p → u.kr m = z.kr m) ∧ ∀ r, u.vr r = z.vr r
    (j < tyN t → puts (.vsplat d g t k) on (x.setWidth n) ∧ puts (.vsel d a b t k) true (if (z.kr k).getLsbD j then A else B) ∧
      puts (.vshuf d a b t k) on (at_ a (B.toNat % tyN t)) ∧ puts (.vrot d a g t k) on (at_ a ((j + x.toNat) % tyN t)) ∧
      (x.toNat < tyN t → puts (.vbcast d a g t k) on (at_ a x.toNat) ∧
        puts (.vins d g h t) (decide (j = x.toNat)) (y.setWidth n))) ∧
    (t.isInt = true → j < tyN t →
    puts (.viadd d a b t k) on (A + B) ∧ puts (.visub d a b t k) on (A - B) ∧ puts (.vimul d a b t k) on (A * B) ∧
    puts (.vimin d a b t k) on (if A.sle B then A else B) ∧ puts (.vimax d a b t k) on (if A.sle B then B else A) ∧
    puts (.viminu d a b t k) on (if A.ule B then A else B) ∧ puts (.vimaxu d a b t k) on (if A.ule B then B else A) ∧
    puts (.vand d a b t k) on (A &&& B) ∧ puts (.vor d a b t k) on (A ||| B) ∧ puts (.vxor d a b t k) on (A ^^^ B) ∧
    puts (.vshl d a b t k) on (A <<< (B.toNat % n)) ∧ puts (.vshr d a b t k) on (A >>> (B.toNat % n)) ∧
    puts (.vsar d a b t k) on (A.sshiftRight (B.toNat % n)) ∧ puts (.viadds d a g t k) on (A + x.setWidth n) ∧
    puts (.vidx d t k) on (BitVec.ofNat n j) ∧
    bit (.vcmpeq p a b t k) (A == B) ∧ bit (.vcmplt p a b t k) (A.slt B) ∧ bit (.vcmple p a b t k) (A.sle B) ∧
    (let m := fun (i : Instr) (v : BitVec 256) => let u := z.run i x y
      u.kr p = v ∧ (∀ r, r ≠ p → u.kr r = z.kr r) ∧ ∀ r, u.vr r = z.vr r
     m (.kand p q k) (z.kr q &&& z.kr k) ∧ m (.kor p q k) (z.kr q ||| z.kr k) ∧ m (.knot p q) (~~~z.kr q))) ∧
    (t = .f32 ∨ t = .bf16 ∨ t = .f16 → j < tyN t →
      let inf := BitVec.ofNat n (if t = .f32 then 0x7F800000 else if t = .bf16 then 0x7F80 else 0x7C00)
      let nan := BitVec.ofNat n (if t = .f32 then 0x7FC00000 else if t = .bf16 then 0x7FC0 else 0x7E00)
      let top := BitVec.ofNat n (2 ^ (n - 1))
      let X := x.setWidth n
      let isNan := fun (v : BitVec n) => inf.ult (v &&& ~~~top)
      let zero := fun (v : BitVec n) => v &&& ~~~top == 0
      let less := fun (u v : BitVec n) => if u.msb != v.msb then u.msb else if u.msb then v.ult u else u.ult v
      let none := isNan A || isNan B
      let gives := fun (i : Instr) (v : BitVec n) => vlane ((z.run i x y).vr d) w j = v.toNat
      puts (.vabs d a t k) on (if isNan A then nan else A &&& ~~~top) ∧
      puts (.vneg d a t k) on (if isNan A then nan else A ^^^ top) ∧
      puts (.vmin d a b t k) on (if none then nan else if less A B then A else B) ∧
      puts (.vmax d a b t k) on (if none then nan else if less A B then B else A) ∧
      bit (.vcmpeq p a b t k) (!none && (A == B || zero A && zero B)) ∧
      bit (.vcmplt p a b t k) (!none && less A B && !(zero A && zero B)) ∧
      bit (.vcmple p a b t k) (!none && (less A B || A == B || zero A && zero B)) ∧
      (on = true → (none = true → gives (.vadd d a b t k) nan ∧ gives (.vsub d a b t k) nan ∧ gives (.vmul d a b t k) nan ∧
          gives (.vfma d a b t k) nan ∧ gives (.vfms d a b t k) nan ∧ (t = .f32 → gives (.vdiv d a b k) nan)) ∧
        ((isNan A || isNan X) = true → gives (.vadds d a g t k) nan ∧ gives (.vmuls d a g t k) nan ∧
          gives (.vfmas d a g t k) nan) ∧
        (t = .f32 → (isNan A || A.msb && A != top) = true → gives (.vsqrt d a k) nan ∧
          z.nstat &&& (z.run (.vsqrt d a k) x y).nstat = z.nstat)))

/-- In a selected lane of FP32, BF16 or FP16, VADD, VSUB, VMUL, VFMA, VFMS, VADDS, VMULS and VFMAS write the exact
result of their operands rounded once with RNE (RoundingRule says what that is), VSQRT and VDIV their correctly
rounded result and VRSQ, VRCP, VEXP2 and VLOG2 the estimate of R84. VCVT writes the converted elements (RoundingRule)
and clears the lanes above them; VCVTSR adds the 16-bit lane of vb to the magnitude of an FP32 lane and keeps its
upper half; VCVTN4 and VCVTW4 convert to and from the 4-bit elements; VRNG writes the mixing function of its key and
counter; VPACK and VUNPK move bytes. VRSUM, VRMAX and VRMIN write to every lane the root of the tree of R83, whose
leaves are the selected lanes and the identity of the others. A lane that is not selected keeps its value; the other
registers and the masks do not change; NSTAT gains exactly the flags of the operations done. (R73, R74, R77, R83, R84,
R85, R256, R260, R261, R262, R263, R264.) -/
def Obligations.FloatLaneResults : Prop :=
  ∀ (z : VCtx) (d a b : VReg) (g : GReg) (k : KReg) (t u : Ty) (rm : Rm) (x y : Word),
    let kept := fun (o : VCtx) => (∀ r, r ≠ d → o.vr r = z.vr r) ∧ ∀ m, o.kr m = z.kr m
    let gains := fun (o : VCtx) (has : Nat → Prop) => ∀ m, o.nstat.getLsbD m = true ↔ z.nstat.getLsbD m = true ∨ has m
    let does := fun (i : Instr) (w n : Nat) (r : Nat → Nat × BitVec 32) =>
      let o := z.run i x y
      kept o ∧ gains o (fun m => ∃ j < n, z.sel k j = true ∧ (r j).2.getLsbD m = true) ∧
      ∀ j < 256 / w, vlane (o.vr d) w j =
        if j < n then (if z.sel k j then (r j).1 % 2 ^ (8 * w) else vlane (z.vr d) w j) else 0
    let at_ := fun (q : VReg) (v : Ty) (j : Nat) => vlane (z.vr q) (tyW v) j
    (∀ F, tyFmt t = some F → tyW t ≠ 1 →
      let A := fun j => F.value (at_ a t j)
      let B := fun j => F.value (at_ b t j)
      let D := fun j => F.value (at_ d t j)
      let X := F.value (x.toNat % 2 ^ (8 * tyW t))
      let lanes := fun (i : Instr) (ops : Nat → List FV) (v : Nat → FV) => does i (tyW t) (tyN t) fun j =>
        ((F.result .rne (v j)).1, (F.result .rne (v j)).2 ||| (if v j = .nan ∧ FV.nan ∉ ops j then fIV else 0))
      lanes (.vadd d a b t k) (fun j => [A j, B j]) (fun j => (A j).add (B j)) ∧
      lanes (.vsub d a b t k) (fun j => [A j, B j]) (fun j => (A j).add (B j).neg) ∧
      lanes (.vmul d a b t k) (fun j => [A j, B j]) (fun j => (A j).mul (B j)) ∧
      lanes (.vfma d a b t k) (fun j => [A j, B j, D j]) (fun j => ((A j).mul (B j)).add (D j)) ∧
      lanes (.vfms d a b t k) (fun j => [A j, B j, D j]) (fun j => (D j).add ((A j).mul (B j)).neg) ∧
      lanes (.vadds d a g t k) (fun j => [A j, X]) (fun j => (A j).add X) ∧
      lanes (.vmuls d a g t k) (fun j => [A j, X]) (fun j => (A j).mul X) ∧
      lanes (.vfmas d a g t k) (fun j => [A j, X, D j]) (fun j => ((A j).mul X).add (D j))) ∧
    (let at32 := fun (q : VReg) (j : Nat) => vlane (z.vr q) 4 j
     does (.vsqrt d a k) 4 64 (fun j => fp32.sqrt (at32 a j)) ∧ does (.vdiv d a b k) 4 64 (fun j => fp32.div (at32 a j) (at32 b j)) ∧
     does (.vrsq d a k) 4 64 (fun j => estimate .rsq (at32 a j)) ∧ does (.vrcp d a k) 4 64 (fun j => estimate .rcp (at32 a j)) ∧
     does (.vexp2 d a k) 4 64 (fun j => estimate .exp2 (at32 a j)) ∧ does (.vlog2 d a k) 4 64 (fun j => estimate .log2 (at32 a j)) ∧
     does (.vcvt d a rm u t k) (tyW t) (256 / Nat.max (tyW u) (tyW t)) (fun j => convert rm u t (at_ a u j)) ∧
     does (.vcvtsr d a b k) 2 64 (fun j =>
      let v := BitVec.ofNat 32 (at32 a j)
      let m := v.extractLsb' 0 31
      (if (0x7F800000#31).ult m then 0x7FC0
        else (v.extractLsb' 31 1 ++ (m + (BitVec.ofNat 31 (vlane (z.vr b) 2 j))).extractLsb' 16 15).toNat,
       (stochastic (at32 a j) (vlane (z.vr b) 2 j)).2)) ∧
     does (.vrng d g k) 4 64 (fun j =>
      let h0 := ((x.setWidth 32 + BitVec.ofNat 32 j) * 0x9E3779B1#32) ^^^ x.extractLsb' 32 32
      let h1 := (h0 ^^^ h0 >>> 15) * 0x2C1B3C6D#32
      let h2 := (h1 ^^^ h1 >>> 12) * 0x297A2D39#32
      ((h2 ^^^ h2 >>> 15).toNat, 0)) ∧
     (∀ F, tyFmt t = some F →
      does (.vcvtw4 d a t k) (tyW t) (tyN t) (fun e => ((F.result .rne (e2m1.value (nib (z.vr a) e))).1, 0)) ∧
      let o := z.run (.vcvtn4 d a rm t k) x y
      let r := fun e => e2m1.result rm (F.value (at_ a t e))
      kept o ∧ gains o (fun m => ∃ e < tyN t, z.sel k e = true ∧ (r e).2.getLsbD m = true) ∧
      ∀ e < 512, nib (o.vr d) e = if e < tyN t then (if z.sel k e then (r e).1 % 16 else nib (z.vr d) e) else 0)) ∧
    (let byte := fun (q : VReg) (j : Nat) => vlane (z.vr q) 1 j
     let moves := fun (i : Instr) (f : Nat → Nat) => let o := z.run i x y
      kept o ∧ o.nstat = z.nstat ∧ ∀ j < 256, vlane (o.vr d) 1 j = f j
     (tyW t = 2 → moves (.vpack d a b t) (fun j => if j < 128 then byte a j else byte b (j - 128)) ∧
      ∀ q : BitVec 2, q.toNat < 2 → moves (.vunpk d a q t) fun j => if j < 128 then byte a (128 * q.toNat + j) else 0) ∧
     (tyW t = 1 → moves (.vpack d a b t) (fun j => if j < 128 then byte d (j + 128)
        else if j < 192 then byte a (j - 128) else byte b (j - 192)) ∧
      ∀ q : BitVec 2, moves (.vunpk d a q t) fun j => if j < 64 then byte a (64 * q.toNat + j) else 0)) ∧
    (∀ (op : Nat → Nat → Nat × BitVec 32) (id : Nat) (i : Instr) (T : Nat → Nat → Nat),
      let sum := fun (F : Fmt) (p q : Nat) => let v := (F.value p).add (F.value q)
        ((F.result .rne v).1, (F.result .rne v).2 ||| (if v = .nan ∧ F.value p ≠ .nan ∧ F.value q ≠ .nan then fIV else 0))
      let n := 8 * tyW t
      (∃ F, tyFmt t = some F ∧ tyW t ≠ 1 ∧ (i = .vrsum d a t k ∧ op = sum F ∧ id = 2 ^ (n - 1) ∨
          i = .vrmax d a t k ∧ op = (fun p q => (F.minmax true p q, 0)) ∧ id = F.inf + 2 ^ (n - 1) ∨
          i = .vrmin d a t k ∧ op = (fun p q => (F.minmax false p q, 0)) ∧ id = F.inf)) ∨
        (tyFmt t = none ∧ (i = .vrsum d a t k ∧ op = (fun p q => ((BitVec.ofNat n p + BitVec.ofNat n q).toNat, 0)) ∧ id = 0 ∨
          i = .vrmax d a t k ∧ op = (fun p q => (if (BitVec.ofNat n p).sle (BitVec.ofNat n q) then q else p, 0)) ∧ id = 2 ^ (n - 1) ∨
          i = .vrmin d a t k ∧ op = (fun p q => (if (BitVec.ofNat n p).sle (BitVec.ofNat n q) then p else q, 0)) ∧
            id = 2 ^ (n - 1) - 1)) →
      (∀ j < tyN t, T 0 j = if z.sel k j then at_ a t j else id) →
      (∀ l j, T (l + 1) j = (op (T l (2 * j)) (T l (2 * j + 1))).1) →
      let o := z.run i x y
      kept o ∧ gains o (fun m => ∃ l j, (j + 1) * 2 ^ (l + 1) ≤ tyN t ∧
        (op (T l (2 * j)) (T l (2 * j + 1))).2.getLsbD m = true) ∧
      ∀ j < tyN t, vlane (o.vr d) (tyW t) j = T (Nat.log2 (tyN t)) 0 % 2 ^ n)

/-- Rounding a magnitude q to a format gives under RNE the nearest code, a tie going to the even one, where the code
of infinity stands for the next power of two above the largest value, and E4M3 and E2M1 stop at their largest; toward
zero it gives the largest value not above q, away from zero the least not below it; RD and RU are the one or the other
by the sign. NX is set where the code is not q. Sums, products and negations of finite values are exact; VDIV’s
quotient is so rounded; VSQRT’s code is nearest to the root. A conversion of a float to an integer rounds under its
mode and takes the nearer limit with IV where that is outside the range; between integers the nearer limit comes with
SAT; an integer becomes a float by rounding it. (R63, R65, R70, R71, R72, R74, R75, R76, R77, R256.) -/
def Obligations.RoundingRule : Prop :=
  let down := fun (F : Fmt) (q : ℚ) (c : Nat) => c ≤ F.maxFin ∧ F.mag c ≤ q ∧ (c = F.maxFin ∨ q < F.mag (c + 1))
    let up := fun (F : Fmt) (q : ℚ) (c : Nat) => c ≤ F.top ∧ (c = F.top ∨ q ≤ F.mag c) ∧ (c = 0 ∨ F.mag (c - 1) < q)
    let rounded := fun (F : Fmt) (rm : Rm) (neg : Bool) (q : ℚ) (r : Nat) => ∃ c, r = F.signed neg c ∧
      match rm with
      | .rne => F.Nearest q c
      | .rz => down F q c
      | .rd => if neg then up F q c else down F q c
      | .ru => if neg then down F q c else up F q c
    (∀ F ∈ [fp32, bf16, fp16, e5m2, e4m3, e2m1], ∀ (rm : Rm) (neg : Bool) (m : Nat) (e : Int) (rest : Bool) (q : ℚ),
      (m : ℚ) * 2 ^ e ≤ q → q < (m + 1 : ℚ) * 2 ^ e → (rest = false ↔ q = (m : ℚ) * 2 ^ e) → (rest = true → 2 ^ (F.f + 1) ≤ m) →
      let r := F.round rm neg m e rest
      rounded F rm neg q r.1 ∧ (r.2 &&& fNX = 0 ↔ ∃ c ≤ F.maxFin, r.1 = F.signed neg c ∧ F.mag c = q)) ∧
    (∀ F ∈ [fp32, bf16, fp16, e5m2, e4m3, e2m1], ∀ (rm : Rm) (x : Nat),
      (∀ neg m e, F.value x = .num neg m e → F.result rm (.num neg m e) = F.round rm neg m e false) ∧
      (∀ neg, ∀ c ≤ F.maxFin, ∃ m e, F.value (F.signed neg c) = .num neg m e ∧ (m : ℚ) * 2 ^ e = F.mag c)) ∧
    (∀ (a b : Bool) (m n : Nat) (e d : Int),
      let x := FV.num a m e
      let y := FV.num b n d
      x.neg.rat = -x.rat ∧ (x.add y).rat = x.rat + y.rat ∧ (x.mul y).rat = x.rat * y.rat ∧
      x.add y ≠ .nan ∧ x.mul y ≠ .nan) ∧
    (∀ (x y : Nat) (a b : Bool) (m n : Nat) (e d : Int), fp32.value x = .num a m e → m ≠ 0 →
      (fp32.value y = .num b n d → n ≠ 0 →
        rounded fp32 .rne (a != b) ((m : ℚ) * 2 ^ e / ((n : ℚ) * 2 ^ d)) (fp32.div x y).1) ∧
      (a = false → ∃ c < fp32.inf, (fp32.sqrt x).1 = c ∧ ∀ y ≤ fp32.inf,
        (y < c → ((fp32.mag y + fp32.mag c) / 2) ^ 2 ≤ (m : ℚ) * 2 ^ e) ∧
        (c < y → (m : ℚ) * 2 ^ e ≤ ((fp32.mag y + fp32.mag c) / 2) ^ 2))) ∧
    (∀ (rm : Rm) (t u : Ty) (F G : Fmt) (x : Nat), let w := 8 * tyW t
      let limit := fun (v : Int) => max (-(2 ^ (w - 1) : Int)) (min (2 ^ (w - 1) - 1) v)
      let code := fun (v : Int) => (BitVec.ofInt w v).toNat
      (tyFmt u = some F → tyFmt t = some G → convert rm u t x = G.result rm (F.value x)) ∧
      (tyFmt u = none → tyFmt t = some G → let v := (BitVec.ofNat (8 * tyW u) x).toInt
        convert rm u t x = G.round rm (decide (v < 0)) v.natAbs 0 false) ∧
      (tyFmt u = none → tyFmt t = none → let v := (BitVec.ofNat (8 * tyW u) x).toInt
        convert rm u t x = (code (limit v), if limit v = v then 0 else fSAT)) ∧
      (tyFmt u = some F → tyFmt t = none →
        (F.value x = .nan → convert rm u t x = (0, fIV)) ∧
        (∀ neg, F.value x = .inf neg → convert rm u t x = (code (if neg then -(2 ^ (w - 1)) else 2 ^ (w - 1) - 1), fIV)) ∧
        (∀ neg m e, F.value x = .num neg m e → let q := (FV.num neg m e).rat
          ∃ v : Int, (match rm with
            | .rne => |q - v| ≤ 1 / 2 ∧ (|q - v| = 1 / 2 → v % 2 = 0)
            | .rz => v = if q < 0 then ⌈q⌉ else ⌊q⌋
            | .rd => v = ⌊q⌋
            | .ru => v = ⌈q⌉) ∧
          convert rm u t x = (code (limit v), if limit v ≠ v then fIV else if q = v then 0 else fNX))))

/-- CPY, CPYM and CPYT raise QUOTA for a semaphore index beyond the quota, ALIGN for a descriptor that is not 64-byte
aligned and QUOTA for one beyond the scratchpad quota; otherwise the command enters the copy port with its descriptor,
the next sequence number and its tag, and where the port is full or others wait, CPY and CPYM wait in its queue (0x13)
while CPYT writes 0 and never waits; CPYT writes the sequence number of an accepted command. CPYQ writes the state,
the fault flag and the segments of the command it names, or 0, and raises RANGE for a number of more than 32 bits.
(R14, R15, R18, R31, R270, R291.) -/
def Obligations.CopyInstructions : Prop :=
  ∀ (s : State) (c : BayCtx) (f : Fibre) (a b : GReg) (x : BitVec 10) (r : MemOrd) (p : Scope),
    let v := f.reg a
    let m := fun (i : Instr) => s.mkCmd c f i v 0 x.toNat r p
    (s.Issues [a] c f → s.poison = [] →
      s.DescForm c f (.cpy a x r p) v x (s.Submits c f 2 (.cpy a x r p) (m (.cpy a x r p))) ∧
      s.DescForm c f (.cpym a x r p) v x (s.Submits c f 2 (.cpym a x r p) (m (.cpym a x r p)))) ∧
    (s.Issues [a, b] c f → s.poison = [] → let i := Instr.cpyt a b x r p
      s.DescForm c f i v x
        ((c.portFree 2 → ∃ t, exec i s = .next t ∧
          s.Accepts c 2 (m i) (f.setReg b ((nextSeq c.cring.seq).setWidth 64)).retire t) ∧
        (¬c.portFree 2 → exec i s = .next (s.result f b 0)))) ∧
    (s.Issues [a, b] c f →
      (2 ^ 32 ≤ v.toNat → exec (.cpyq a b) s = .next (s.raise f .range v)) ∧
      (v.toNat < 2 ^ 32 → v = 0 ∨ c.cring.entry (v.setWidth 32) = none → exec (.cpyq a b) s = .next (s.result f b 0)) ∧
      (∀ e, v.toNat < 2 ^ 32 → v ≠ 0 → c.cring.entry (v.setWidth 32) = some e → e.st < 4 →
        ∃ w : Word, exec (.cpyq a b) s = .next (s.result f b w) ∧ (w.extractLsb' 62 2).toNat = e.st ∧
          w.getLsbD 61 = e.flt ∧ w.extractLsb' 28 33 = 0 ∧ w.extractLsb' 0 28 = BitVec.ofNat 28 e.segs))

/-- The engine takes the next command of its port while fewer than four are active; one with a good descriptor becomes
active, and one with a bad doubleword ends in the engine fault DESC with its offset. An active command goes on by
beats of up to 128 bytes, but begins no segment while four of it are in flight: of reads, which for a scratchpad
source take the bytes at the source addresses in stream order, and of writes, which for one row write the bytes that
were read at the destination and nothing else and end at an aligned 8-byte unit or the end of the segment; after the
last beat of a segment its ring entry counts it, and the next segment or the completion follows; a source address
without a valid form is an access fault GADDR. A beat of CPYM goes to every member of its rectangle, and each member
writes it. An access fault ends the command with its cause, address and segment in the ring, once its remote writes
are placed. That a segment is read whole before it is written is the model’s choice (assumption log entry 80).
Completion marks the ring entry and posts the semaphore by 1. Each tile of CPYM posts by 1, and the last one completes
the command. (R275, R277, R279, R280, R282, R286, R287, R289.) -/
def Obligations.CopyEngine : Prop :=
  ∀ (s : State) (c : BayCtx) (b i q : Nat) (m : Cmd) (r : List Cmd) (a : CopyAct)
      (e : FEnt),
    s.bctx b i = some c → s.keyOf b c.asid = some i → i < 4 →
    (s.ev = .copyCommandBegin b i → s.activeAt b i = true → c.cacts.length < 4 → c.cport = { ents := m :: r, wq := [] } →
      (hasAcq m.ord = false ∨ s.settled m = true) →
      (m.badWord = none → m.badBay s c.asid = none → m.extent s b c.asid = none →
        ∃ t, exec .copyCommandBegin s = .next t ∧ SameMemory s t ∧
          (t.bctx b i).map BayCtx.cacts = some (c.cacts ++ [CopyAct.start m]) ∧
          (t.bctx b i).map (fun y => y.cport.ents) = some r ∧
          t.agenda = s.agenda ++ [⟨laneEng b i 2, .copySegmentWritten b i m.seq.toNat⟩]) ∧
      (∀ w, m.badWord = some w → c.cring.entry m.seq = some e →
        ∃ t x, exec .copyCommandBegin s = .next t ∧ SameMemory s t ∧ t.ringAt b i 2 m.seq = some x ∧ x.flt = true ∧
          x.done = true ∧ x.sub = BitVec.ofNat 8 (causeCode .desc) ∧ x.val = BitVec.ofNat 64 w ∧
          (t.bctx b i).map BayCtx.cacts = some c.cacts)) ∧
    (s.copyAct b i q = some a →
      (s.ev = .copySegmentWritten b i q → 4 ≤ a.sout.length → a.rpos = a.first →
        exec .copySegmentWritten s = .next (s.post s.lane s.ev)) ∧
      (s.ev = .copySegmentWritten b i q → s.activeAt b i = true → a.wrote = false → s.poison = [] →
        a.sout.length < 4 ∨ a.rpos ≠ a.first →
        (a.rpos < a.stop →
          (a.cmd.sk = 0 → ∃ t buf, exec .copySegmentWritten s = .next t ∧ SameMemory s t ∧
            (a.rout = 0 ∨ a.rpos + 128 < a.stop → t.agenda = s.agenda ++ [⟨s.lane, s.ev⟩]) ∧
            t.copyAct b i q = some { a with rbuf := buf, rpos := min a.stop (a.rpos + 128) } ∧
            ∀ k, a.rpos ≤ k → k < min a.stop (a.rpos + 128) →
              tget 0 buf k = memGet s.mem (spadKey c.asid b (a.cmd.srcAt k).2.toNat)) ∧
          (a.cmd.sk = 1 → globalForm (a.cmd.srcAt a.rpos).2 = false →
            ∃ t, exec .copySegmentWritten s = .next t ∧ SameMemory s t ∧
              t.agenda = ⟨laneEng b i 2, .copyAccessFault b i q .gaddr (a.cmd.srcAt a.rpos).2⟩ :: s.agenda)) ∧
        (a.rpos = a.stop → a.rout = 0 → a.wpos < a.stop →
          let last := a.wpos + 128
          let n := (if a.stop ≤ last then a.stop else last - ((a.cmd.d 1).toNat + last) % 8) - a.wpos
          (a.cmd.multi = false → a.wout = 0 → a.cmd.n1 = 1 → a.cmd.n2 = 1 → a.cmd.n3 = 1 → a.cmd.dk = 0 → c.cists = [] →
            (a.cmd.d 1).toNat + a.cmd.n0 ≤ 2 ^ 21 →
            let dst := spadKey c.asid b ((a.cmd.d 1).toNat + a.wpos)
            ∃ t, exec .copySegmentWritten s = .next t ∧ SameMemoryBut dst n s t ∧
              (∀ k < n, memGet t.mem (dst + k) = tget 0 a.rbuf (a.wpos + k)) ∧
              (a.wpos + n < a.stop → t.agenda = s.agenda ++ [⟨s.lane, s.ev⟩] ∧
                t.copyAct b i q = some { a with wpos := a.wpos + n }) ∧
              (a.wpos + n = a.stop →
                t.copyAct b i q = some { a with wpos := a.stop, next := a.next + 1, rbuf := [], wrote := false } ∧
                (c.cring.entry a.cmd.seq = some e → t.ringAt b i 2 a.cmd.seq = some { e with segs := a.next + 1 }) ∧
                t.agenda = s.agenda ++ [if a.stop < a.cmd.total then ⟨laneEng b i 2, .copySegmentWritten b i q⟩
                  else s.newItem (.copyCommandComplete b i q)])) ∧
          (a.cmd.multi = true → ∃ t, exec .copySegmentWritten s = .next t ∧ SameMemory s t ∧
            ∀ y ∈ rectBays a.cmd.rect, ∃ n ps, (⟨laneCast b y, .cpymWritten b i q y n a.cmd.dk ps⟩ : Item) ∈ t.agenda))) ∧
      (∀ k v, s.ev = .copyAccessFault b i q k v → a.wout ≠ 0 → exec .copyAccessFault s = .next (s.post s.lane s.ev)) ∧
      (∀ k v, s.ev = .copyAccessFault b i q k v → a.wout = 0 → c.cring.entry a.cmd.seq = some e →
        ∃ t x, exec .copyAccessFault s = .next t ∧ SameMemory s t ∧ t.copyAct b i q = none ∧
          t.ringAt b i 2 a.cmd.seq = some x ∧ x.flt = true ∧ x.done = true ∧ x.sub = BitVec.ofNat 8 (causeCode k) ∧
          x.val = v ∧ x.aux = BitVec.ofNat 64 a.next) ∧
      (s.ev = .copyCommandComplete b i q → hasRel a.cmd.ord = false ∨ s.settled a.cmd = true →
        c.cring.entry a.cmd.seq = some e →
        ∃ t, exec .copyCommandComplete s = .next t ∧ SameMemory s t ∧ t.copyAct b i q = none ∧
          t.ringAt b i 2 a.cmd.seq = some { e with done := true, st := 3 } ∧
          s.Posted t a.cmd.oBay c.asid a.cmd.sem 1) ∧
      (s.ev = .cpymTileAck b i q → hasRel a.cmd.ord = false ∨ s.settled a.cmd = true →
        c.cring.entry a.cmd.seq = some e →
        (a.tiles + 1 < a.cmd.n3 → ∃ t, exec .cpymTileAck s = .next t ∧ SameMemory s t ∧
          t.copyAct b i q = some { a with tiles := a.tiles + 1 } ∧
          t.ringAt b i 2 a.cmd.seq = some { e with segs := a.tiles + 1 } ∧ s.Posted t a.cmd.oBay c.asid a.cmd.sem 1) ∧
        (a.tiles + 1 = a.cmd.n3 → ∃ t, exec .cpymTileAck s = .next t ∧ SameMemory s t ∧ t.copyAct b i q = none ∧
          t.ringAt b i 2 a.cmd.seq = some { e with segs := a.tiles + 1, done := true, st := 3 } ∧
          s.Posted t a.cmd.oBay c.asid a.cmd.sem 1))) ∧
    (∀ (y n k j : Nat) (z : BayCtx) (w : Word) (l : List Byte), s.ev = .cpymWritten b i q y n k [(w, l)] →
      s.keyOf y c.asid = some j → j < 4 → s.bctx y j = some z → z.cists = [] →
      let key := if k = 3 then wbufKey c.asid y w.toNat else spadKey c.asid y w.toNat
      ∃ t, exec .cpymTileAck s = .next t ∧ SameMemoryBut key l.length s t ∧ memBytes t.mem key l.length = l)

/-- MPASS, MLDW, MZERO, MRD and MWR raise QUOTA for a tile or a semaphore beyond the quota, then the fault of their
operand words (R303, R305; MRD and MWR: ALIGN for a block that is not 64-byte aligned, QUOTA for one beyond the
scratchpad quota), and otherwise enter the matrix port with the ordering AR and the scope BAY, or wait for it (0x12).
VTLD and VTST raise QUOTA for the tile and VNOBIND without a vector context, and otherwise enter the matrix port and
the vector queue together, or wait. MGRANT sets the enable and the key, or raises RANGE. MRCMD checks target,
alignment, quota and block once; with four unacknowledged messages it then waits (0x19) with its message as read, and
otherwise it sends the message and counts it. (R298, R299, R309, R311, R318, R320.) -/
def Obligations.MatrixIssue : Prop :=
  ∀ (s : State) (c : BayCtx) (f : Fibre) (t : BitVec 6) (a b : GReg) (n : BitVec 4)
      (q : BitVec 2) (w : VReg) (x : BitVec 10),
    let early := fun (i : Instr) (ok : Prop) =>
      (c.quota.tiles ≤ t.toNat → exec i s = .next (s.raise f .quota (t.setWidth 64))) ∧ (t.toNat < c.quota.tiles → ok)
    let sem := fun (i : Instr) (ok : Prop) =>
      (c.quota.sems ≤ x.toNat → exec i s = .next (s.raise f .quota (x.setWidth 64))) ∧ (x.toNat < c.quota.sems → ok)
    let body := fun (i : Instr) (u v : Word) =>
      (∀ k y, matCheck c.quota i u v = some (k, y) → exec i s = .next (s.raise f k y)) ∧
      (matCheck c.quota i u v = none → s.Submits c f 1 i (s.mkCmd c f i u v x.toNat .ar .bay))
    let block := fun (i : Instr) (u : Word) =>
      (u.toNat % 64 ≠ 0 → exec i s = .next (s.raise f .align u)) ∧
      (u.toNat % 64 = 0 → c.quota.scratch < u.toNat + 1088 → exec i s = .next (s.raise f .quota u)) ∧
      (u.toNat % 64 = 0 → u.toNat + 1088 ≤ c.quota.scratch →
        s.Submits c f 1 i (s.mkCmd c f i u 0 x.toNat .ar .bay))
    let both := fun (i : Instr) => early i
      ((f.vctx = none → exec i s = .next (s.raise f .vnobind (wordOf i))) ∧
       (∀ v, f.vctx = some v → let m := s.mkCmd c f i (BitVec.ofNat 64 v) 0 0 .ar .bay
        (c.portFree 1 → (c.vctx v).queue.length < 16 → v < 8 → c.mact = none →
          ∃ z, exec i s = .next z ∧ s.Accepts c 1 m f.retire z ∧ z.vecQueue v = some ((c.vctx v).queue ++
            [s.vecEntry c (VEnt.one (.rdv (nextSeq c.mring.seq)) { op := i, x := 0, y := 0 })])) ∧
        (v < 8 → ¬c.portFree 1 ∨ 16 ≤ (c.vctx v).queue.length →
          ∃ z, exec i s = .next z ∧ s.Queues c f 1 m z)))
    let sends := fun (m : MrMsg) => ∃ z, exec (.mrcmd a b x) s = .next z ∧ SameMemory s z ∧
      z.curF = some ({ f.marked s .rel with mrUnack := f.mrUnack + 1, mrHeld := none } : Fibre).retire ∧
      z.agenda = s.agenda ++ [⟨laneMesh s.cur.bay m.target, .mrcmdArrival m⟩]
    (s.Issues [a, b] c f →
      early (.mpass t a b n x) (sem (.mpass t a b n x) (body (.mpass t a b n x) (f.reg a) (f.reg b))) ∧
      sem (.mldw q a b x) (body (.mldw q a b x) (f.reg a) (f.reg b))) ∧
    (s.Issues [] c f → early (.mzero t x) (sem (.mzero t x)
      (s.Submits c f 1 (.mzero t x) (s.mkCmd c f (.mzero t x) 0 0 x.toNat .ar .bay)))) ∧
    (s.Issues [a] c f → early (.mrd t a x) (sem (.mrd t a x) (block (.mrd t a x) (f.reg a))) ∧
      early (.mwr t a x) (sem (.mwr t a x) (block (.mwr t a x) (f.reg a)))) ∧
    (s.Issues [] c f → both (.vtld t w q) ∧ both (.vtst t w q)) ∧
    (s.Issues [a, b] c f → let u := f.reg a
      (2 ^ 32 ≤ u.toNat → exec (.mgrant a b) s = .next (s.raise f .range u)) ∧
      (u.toNat < 2 ^ 32 → 1 < (f.reg b).toNat → exec (.mgrant a b) s = .next (s.raise f .range (f.reg b))) ∧
      (u.toNat < 2 ^ 32 → (f.reg b).toNat ≤ 1 → ∃ z, exec (.mgrant a b) s = .next z ∧ z.curF = some f.retire ∧
        SameMemory s z ∧ z.curC.map BayCtx.grantEn = some (f.reg b == 1) ∧
        z.curC.map BayCtx.grantKey = some (u.setWidth 32))) ∧
    (∀ m, s.Issues [a, b] c f → f.mrHeld = some m → f.mrUnack < 4 → s.mayRelease .rel .pkg f → x.toNat < c.quota.sems →
      sends m) ∧
    (s.Issues [a, b] c f → s.poison = [] → f.mrHeld = none → sem (.mrcmd a b x)
      (let u := f.reg a
       let v := f.reg b
       let blk := s.readDs (spadKey c.asid s.cur.bay v.toNat) 4
       let ok := u.toNat < 1536 ∧ s.inPart c.asid u.toNat = true ∧ (s.bay u.toNat).fenced = false
       let fits := ok ∧ v.toNat % 32 = 0 ∧ v.toNat + 32 ≤ c.quota.scratch
       let op := remoteOp ((blk.getD 0 0).setWidth 32)
       (¬ok → exec (.mrcmd a b x) s = .next (s.raise f .range u)) ∧
       (ok → v.toNat % 32 ≠ 0 → exec (.mrcmd a b x) s = .next (s.raise f .align v)) ∧
       (ok → v.toNat % 32 = 0 → c.quota.scratch < v.toNat + 32 → exec (.mrcmd a b x) s = .next (s.raise f .quota v)) ∧
       (fits → op = none ∨ blk.getD 3 0 ≠ 0 →
         exec (.mrcmd a b x) s = .next (s.raise f .range (((blk.getD 0 0).setWidth 32).setWidth 64))) ∧
       let msg := s.mrMsg c f u.toNat x.toNat blk
       (fits → op ≠ none → blk.getD 3 0 = 0 → f.mrUnack < 4 → s.mayRelease .rel .pkg f → sends msg) ∧
       (fits → op ≠ none → blk.getD 3 0 = 0 → 4 ≤ f.mrUnack → f.wait ≠ .retry 0x19 →
         ∃ z, exec (.mrcmd a b x) s = .next z ∧ SameMemory s z ∧ z.agenda = s.agenda ∧
           z.curF = some { f.block (.retry 0x19) (s.bay s.cur.bay).cycle with mrHeld := some msg })))

/-- With no command under way the engine takes the next one of its port, once the accesses of its fibre before it are
performed. A pass fetches one operand after the other. At completion MZERO clears its tile and SAT, MRD stores the
1,024 bytes of its tile and SAT, MWR loads them, MLDW writes the header and the body of a panel in each of its forms
(a 2:4 panel with metadata in order), and MPASS adds one chunk into each of the 256 elements of its tile: per group of
32 products of the elements of a row of A and of an expanded column of B, in increasing k, their exact sum, times the
two scales, rounded once to FP32 and added to the element with RNE, with the special operands of R80; for FMT 8 the
exact integer sum, the element clamped to 32 bits. SAT is set where FMT 8 clamps and otherwise stays; each command
changes no other byte, marks its ring entry and posts its semaphore by 1. VTLD and VTST move a quarter of a tile to or
from a vector register when both queues have reached them. (R79, R80, R81, R302, R303, R306, R308, R309, R310, R312,
R314, R315.) -/
def Obligations.MatrixEngine : Prop :=
  ∀ (s : State) (c : BayCtx) (b i : Nat) (m : Cmd) (r : List Cmd) (e : FEnt)
      (t : BitVec 6) (x y : GReg) (g : BitVec 4) (q : BitVec 2) (z : VReg) (k : BitVec 10) (h : VEnt),
    let tile := tileKey c.asid b (1024 * t.toNat)
    let spad := spadKey c.asid b m.x.toNat
    let sat := fun (u : State) => (u.bctx b i).map fun a => a.sat.contains t.toNat
    s.bctx b i = some c → s.keyOf b c.asid = some i → s.poison = [] →
    (s.ev = .matrixCommandBegin b i → c.mact = none → (s.mgmt.throttle = false ∨ m.isPass = false) → s.activeAt b i = true →
      c.mport = { ents := m :: r, wq := [] } → m.isRdv = false → m.remote = false → s.settled m = true →
      ∃ u, exec .matrixCommandBegin s = .next u ∧ SameMemory s u ∧ (u.bctx b i).bind BayCtx.mact = some m ∧
        (u.bctx b i).map BayCtx.fetched = some [] ∧ (u.bctx b i).map (fun a => a.mport.ents) = some r ∧
        u.agenda = ⟨s.lane, .matrixCommandComplete b i⟩ :: s.agenda) ∧
    (s.ev = .matrixCommandComplete b i → c.mact = some m → c.mring.entry m.seq = some e → m.oBay = b →
      c.badTiles = [] →
      let ends := fun (u : State) => exec .matrixCommandComplete s = .next u ∧ (u.bctx b i).bind BayCtx.mact = none ∧
        u.ringAt b i 1 m.seq = some { e with done := true, st := 3 } ∧ s.Posted u b c.asid m.sem 1
      (m.op = .mzero t k → ∃ u, ends u ∧ SameMemoryBut tile 1024 s u ∧ memBytes u.mem tile 1024 = List.replicate 1024 0 ∧
        sat u = some false) ∧
      (m.op = .mrd t x k → m.x.toNat + 1088 ≤ 2 ^ 21 → ∃ u, ends u ∧ SameMemoryBut spad 1088 s u ∧
        memBytes u.mem spad 1024 = memBytes s.mem tile 1024 ∧
        memGet u.mem (spad + 1024) = (if c.sat.contains t.toNat then 1 else 0) ∧
        memBytes u.mem (spad + 1025) 63 = List.replicate 63 0) ∧
      (m.op = .mwr t x k → m.x.toNat + 1088 ≤ 2 ^ 21 → ∃ u, ends u ∧ SameMemoryBut tile 1024 s u ∧
        memBytes u.mem tile 1024 = memBytes s.mem spad 1024 ∧
        sat u = some ((memGet s.mem (spad + 1024)).getLsbD 0)) ∧
      (m.op = .mldw q x y k → let w := wbufKey c.asid b (64 * (m.y.extractLsb' 0 12).toNat)
        let cls := m.y.extractLsb' 12 2
        let wide := if cls = 0 then 16 else if cls = 1 then 8 else 4
        let col := if cls = 0 then 128 else if cls = 2 then 512 else 256
        let scales := if m.y.getLsbD 14 then 16 * (col / 32) else 0
        let kept := if q = 1 then col / 2 * wide / 8 else 16 * wide / 8
        let record := if q = 0 then col * wide / 8 else if q = 1 then kept + col / 8 else kept + col / 2
        let n := scales + 16 * record
        let low := fun (j v : Nat) => leNat (memBytes s.mem (spad + scales + j * record + kept) (col / 8)) / 16 ^ v % 4
        let high := fun (j v : Nat) => leNat (memBytes s.mem (spad + scales + j * record + kept) (col / 8)) / 16 ^ v / 4 % 4
        m.x.toNat + n ≤ 2 ^ 21 → (q = 1 → ∀ j < 16, ∀ v < col / 4, low j v < high j v) →
        ∃ u, ends u ∧ SameMemoryBut w (64 + n) s u ∧ u.valueAt w 8 =
            BitVec.ofNat 64 (0x4D0000 + (if m.y.getLsbD 14 then 16 else 0) + 4 * cls.toNat + q.toNat) ∧
          memBytes u.mem (w + 8) 56 = List.replicate 56 0 ∧ memBytes u.mem (w + 64) n = memBytes s.mem spad n) ∧
      (∀ w, m.op = .mpass t x y g k → s.fetchNext c b (passFmt g.toNat) m.x m.y = .ok (some w) →
        ∃ u, exec .matrixCommandComplete s = .next u ∧ SameMemory s u ∧
          (u.bctx b i).map BayCtx.fetched = some (c.fetched ++ [w]) ∧ u.agenda = ⟨s.lane, s.ev⟩ :: s.agenda) ∧
      (m.op = .mpass t x y g k → s.fetchNext c b (passFmt g.toNat) m.x m.y = .ok none →
        let got := fun (n : Nat) => c.fetched.getD n 0
        let element := fun (v width n : Nat) => v / 2 ^ (width * n) % 2 ^ width
        let forms : Option (Fmt × Fmt) := [some (bf16, bf16), some (fp16, fp16), some (e4m3, e4m3), some (e4m3, e5m2),
          some (e5m2, e4m3), some (e5m2, e5m2), some (e2m1, e2m1), some (e4m3, e2m1), none, some (e4m3, e4m3),
          some (e2m1, e2m1), some (e4m3, e2m1)].getD g.toNat none
        let width := fun (F : Fmt) => 1 + F.w + F.f
        let wa := (forms.map fun F => width F.1).getD 8
        let wb := (forms.map fun F => width F.2).getD 8
        let K := 2048 / wa
        let A := fun (i n : Nat) => element (got i) wa n
        let B := fun (n j : Nat) =>
          let record := got (17 + j)
          let nibble := element (record / 2 ^ (K / 2 * wb)) 4 (n / 4)
          if got 16 % 4 = 0 then element record wb n
          else if got 16 % 4 = 1 then
            if n % 4 = nibble % 4 then element record wb (2 * (n / 4))
            else if n % 4 = nibble / 4 then element record wb (2 * (n / 4) + 1) else 0
          else element record wb (element (record / 2 ^ (16 * wb)) 4 n)
        let codes := fun (i j n : Nat) =>
          if 9 ≤ g.toNat then [element (got 33) 8 (i * (K / 32) + n), element (got 34) 8 (j * (K / 32) + n)] else []
        let old := fun (i j : Nat) => s.tileElem c.asid b t.toNat (16 * i + j)
        g.toNat < 12 → ∃ u, ends u ∧ SameMemoryBut tile 1024 s u ∧
          (∀ F G, forms = some (F, G) → sat u = some (c.sat.contains t.toNat) ∧ ∀ i < 16, ∀ j < 16, ∃ acc T : Nat → Nat,
            acc 0 = old i j ∧ u.tileElem c.asid b t.toNat (16 * i + j) = acc (K / 32) ∧
            ∀ n < K / 32, GroupValue (fun l => F.value (A i (32 * n + l))) (fun l => G.value (B (32 * n + l) j)) (codes i j n) (T n) ∧
              Sum32 (acc n) (T n) (acc (n + 1))) ∧
          (forms = none → ∃ acc : Nat → Nat → Nat → Int,
            let sum := fun (i j n : Nat) => acc i j n + ∑ l ∈ Finset.range 32,
              (BitVec.ofNat 8 (A i (32 * n + l))).toInt * (BitVec.ofNat 8 (B (32 * n + l) j)).toInt
            (∀ i < 16, ∀ j < 16, acc i j 0 = (BitVec.ofNat 32 (old i j)).toInt ∧
              u.tileElem c.asid b t.toNat (16 * i + j) = (BitVec.ofInt 32 (acc i j 8)).toNat ∧
              ∀ n < 8, acc i j (n + 1) = max (-(2 ^ 31)) (min (2 ^ 31 - 1) (sum i j n))) ∧
            (sat u = some true ↔ t.toNat ∈ c.sat ∨ ∃ i < 16, ∃ j < 16, ∃ n < 8, acc i j (n + 1) ≠ sum i j n)))) ∧
    (s.ev = .rendezvousTransfer b i → c.mact = some m → c.mring.entry m.seq = some e → s.activeAt b i = true →
      c.vwaits = [] → c.mport.wq = [] → c.badTiles = [] →
      let v := m.x.toNat
      let quarter := tile + 256 * q.toNat
      (c.vctx v).queue = [h] → h.kind = .rdv m.seq → (c.vctx v).bad = [] →
      let ends := fun (u : State) => exec .rendezvousTransfer s = .next u ∧ (u.bctx b i).bind BayCtx.mact = none ∧
        u.ringAt b i 1 m.seq = some { e with done := true, st := 3 } ∧
        (u.bctx b i).map (fun a => (a.vctx v).queue) = some []
      (m.op = .vtld t z q → ∃ u, ends u ∧ SameMemory s u ∧
        (u.bctx b i).map (fun a => (a.vctx v).vr z) = some (BitVec.ofNat 2048 (leNat (memBytes s.mem quarter 256)))) ∧
      (m.op = .vtst t z q → ∃ u, ends u ∧ SameMemoryBut quarter 256 s u ∧
        memBytes u.mem quarter 256 = leBytes 256 ((c.vctx v).vr z).toNat))

/-- MRCMD at a fenced target is turned away with reason 4, where the context is not active with 1, without a grant
with 2 and with another key with 3; otherwise the command of its block enters the target bay’s matrix port and the
acknowledgement with reason 0 follows, or it waits for the port; while a remote command waits there, the next ones are
held back in the mesh. An acknowledgement lowers the count of its fibre; a reason marks the engine fault MREJECT
pending on the fibre. When the remote command begins, its tile and its operands are checked against the quotas of the
context on its target: one that passes is under way; one that fails leaves the port with the fault recorded in the
ring of that bay, and its post with the fault goes to the issuing bay. (R299, R320, R321, R319, R16.) -/
def Obligations.RemoteMatrix : Prop :=
  ∀ (s : State) (c : BayCtx) (m : MrMsg) (i k : Nat) (op : Instr) (f : Fibre),
    let t := m.target
    let answers := fun (r : Nat) (u : State) => exec .mrcmdArrival s = .next u ∧ SameMemory s u ∧
      u.agenda = s.agenda ++ [⟨laneMesh t m.oBay, .mrcmdAckArrival m r⟩]
    (s.ev = .mrcmdArrival m →
      ((s.bay t).fenced = true → ∃ u, answers 4 u) ∧
      ((s.bay t).fenced = false → (s.bay t).active = none → ∃ u, answers 1 u) ∧
      ((s.bay t).fenced = false → (s.bay t).active = some i → s.bctx t i = some c →
        (c.asid ≠ m.asid → ∃ u, answers 1 u) ∧
        (c.asid = m.asid → c.mport.wq.any Cmd.remote = true → exec .mrcmdArrival s = .next (s.postFront s.lane s.ev)) ∧
        (c.mport.wq.any Cmd.remote = false →
        (c.asid = m.asid → c.grantEn = false → ∃ u, answers 2 u) ∧
        (c.asid = m.asid → c.grantEn = true → c.grantKey ≠ m.key → ∃ u, answers 3 u) ∧
        (c.asid = m.asid → c.grantEn = true → c.grantKey = m.key → remoteOp m.word = some op →
          (c.portFree 1 → let n := nextSeq c.mring.seq
            ∃ u, exec .mrcmdArrival s = .next u ∧ SameMemory s u ∧
              (u.bctx t i).map (fun y => y.mport.ents) = some (c.mport.ents ++
                [{ mrCmd m op with seq := n, tag := mkTag 1 i m.oBay m.oSlot n }]) ∧
              u.agenda = s.agenda ++ [⟨laneEng t i 1, .matrixCommandBegin t i⟩,
                ⟨laneMesh t m.oBay, .mrcmdAckArrival m 0⟩]) ∧
          (¬c.portFree 1 → ∃ u, exec .mrcmdArrival s = .next u ∧ SameMemory s u ∧ u.agenda = s.agenda ∧
            (u.bctx t i).map (fun y => y.mport.wq) = some (c.mport.wq ++ [mrCmd m op])))))) ∧
    (∀ r, s.ev = .mrcmdAckArrival m r → s.fib m.oBay i k = some f → f.uid = m.uid →
      (r = 0 → s.homeU m.uid = some (m.oBay, m.asid) → s.keyOf m.oBay m.asid = some i → i < 4 →
        ∃ u, exec .mrcmdAckArrival s = .next u ∧ SameMemory s u ∧
        u.fib m.oBay i k = some { f with mrUnack := f.mrUnack - 1 }) ∧
      (r ≠ 0 → s.homeU m.uid = some (m.oBay, m.asid) → s.keyOf m.oBay m.asid = some i → i < 4 → s.bctx m.oBay i = some c → (c.slot k).gen = m.oGen → m.oSlot = k →
        f.pend.length < 16 → f.wait = .ready → m.sem = 0 →
        ∃ u, exec .mrcmdAckArrival s = .next u ∧ SameMemory s u ∧
          u.fib m.oBay i k = some { f with
                                    mrUnack := f.mrUnack - 1
                                    pend := f.pend ++ [⟨0x2218, BitVec.ofNat 64 (m.target * 2 ^ 32 + r),
                                      mkTag 1 i m.oBay k 0, m.oGen, none⟩] })) ∧
    (∀ (b : Nat) (q : Cmd) (rest : List Cmd) (e : FEnt), s.ev = .matrixCommandBegin b i → s.bctx b i = some c →
      s.keyOf b c.asid = some i → c.mact = none → (s.mgmt.throttle = false ∨ q.isPass = false) → s.activeAt b i = true →
      c.mport = { ents := q :: rest, wq := [] } → q.isRdv = false → q.remote = true → s.settled q = true →
      c.mring.entry q.seq = some e →
      let tile := match q.op with
        | .mpass n .. | .mzero n .. | .mrd n .. | .mwr n .. => some n.toNat
        | _ => none
      let bad : Option (Cause × Word) := match tile with
        | some n => if c.quota.tiles ≤ n then some (.quota, BitVec.ofNat 64 n) else matCheck c.quota q.op q.x q.y
        | none => matCheck c.quota q.op q.x q.y
      (bad = none → ∃ u, exec .matrixCommandBegin s = .next u ∧ SameMemory s u ∧
        (u.bctx b i).bind BayCtx.mact = some q ∧ (u.bctx b i).map (fun y => y.mport.ents) = some rest ∧
        u.agenda = ⟨s.lane, .matrixCommandComplete b i⟩ :: s.agenda) ∧
      (∀ x w, bad = some (x, w) →
        let fails := fun (u : State) => exec .matrixCommandBegin s = .next u ∧ SameMemory s u ∧
          (u.bctx b i).bind BayCtx.mact = none ∧ (u.bctx b i).map (fun y => y.mport.ents) = some rest
        let ended : FEnt :=
          { e with done := true, flt := true, sub := BitVec.ofNat 8 (causeCode x), val := w, aux := 0, st := 3 }
        let fault : PFault := ⟨engineCause x, w, q.tag, q.gen, some (b, c.asid, 64 + q.seq.toNat % 64)⟩
        (q.oBay ≠ b → ∃ u, fails u ∧ u.ringAt b i 1 q.seq = some ended ∧
          u.agenda = s.agenda ++ [⟨laneMesh b q.oBay, .meshPostArrival q.oBay c.asid q.sem 1 (some (q.oSlot, fault))⟩]) ∧
        (q.oBay = b → (c.slot q.oSlot).gen = q.gen → (c.slot q.oSlot).fib = some f → f.pend.length < 16 →
          ∃ u, fails u ∧ ∃ y, u.ringAt b i 1 q.seq = some y ∧ y.done = true ∧ y.flt = true ∧ y.sub = ended.sub ∧ y.val = w)))

/-- RPUT, RGET, RAMO, RSPAWN, CRD and CRDG raise QUOTA for their semaphore or ALIGN or QUOTA for their descriptor, and
otherwise enter the fabric port or wait for it (0x14). RPUTI raises ALIGN for a pointer that is not 8-byte aligned and
RANGE for a chip outside the system, RSIG RANGE for a bad handle or count; otherwise they enter the port. CRDQ writes
the state, FLT, GRP, RSN, FAILN and OKN of the command it names, or 0. STRMQ writes whether the stream is active and
torn, its unacknowledged packets and the free entries of the port. FLUSH and FLUSHC wait for the ring, report a
recorded fault, wait for remote writes (0x0A), and then perform a full fence. (R364, R368, R373, R374, R379.) -/
def Obligations.FabricInstructions : Prop :=
  ∀ (s : State) (c : BayCtx) (f : Fibre) (a b d : GReg) (x : BitVec 10) (r : MemOrd) (p : Scope),
    let v := f.reg a
    let w := f.reg b
    let chip := (v.extractLsb' 42 22).toNat
    let goes := fun (i : Instr) (u : Word) => s.Submits c f 3 i (s.mkCmd c f i v u x.toNat r p)
    let form := fun (i : Instr) => s.DescForm c f i v x (goes i 0)
    (s.Issues [a] c f → s.poison = [] →
      form (.rput a x r p) ∧ form (.rget a x r p) ∧ form (.ramo a x r p) ∧ form (.rspawn a x r p) ∧ form (.crd a x r p) ∧
      form (.crdg a x r p)) ∧
    (s.Issues [a, b] c f → c.quota.sems ≤ x.toNat → let q := s.raise f .quota (x.setWidth 64)
      exec (.rputi a b x r p) s = .next q ∧ exec (.rsig a b x r p) s = .next q) ∧
    (s.Issues [a, b] c f → x.toNat < c.quota.sems →
      (v.toNat % 8 ≠ 0 → exec (.rputi a b x r p) s = .next (s.raise f .align v)) ∧
      (v.toNat % 8 = 0 → s.chipOk chip = false → exec (.rputi a b x r p) s = .next (s.raise f .range v)) ∧
      (v.toNat % 8 = 0 → s.chipOk chip = true → goes (.rputi a b x r p) w) ∧
      (let ok := s.chipOk chip = true ∧ v.extractLsb' 0 21 = 0 ∧ (v.extractLsb' 31 11).toNat < 1536
       (¬ok → exec (.rsig a b x r p) s = .next (s.raise f .range v)) ∧
       (ok → 2 ^ 24 ≤ w.toNat → exec (.rsig a b x r p) s = .next (s.raise f .range w)) ∧
       (ok → w.toNat < 2 ^ 24 → goes (.rsig a b x r p) w))) ∧
    (s.Issues [a, b] c f →
      (2 ^ 32 ≤ v.toNat → exec (.crdq a b) s = .next (s.raise f .range v)) ∧
      (v.toNat < 2 ^ 32 → v = 0 ∨ c.fring.entry (v.setWidth 32) = none → exec (.crdq a b) s = .next (s.result f b 0)) ∧
      (∀ e, v.toNat < 2 ^ 32 → v ≠ 0 → c.fring.entry (v.setWidth 32) = some e → e.st < 4 →
        ∃ y : Word, exec (.crdq a b) s = .next (s.result f b y) ∧ (y.extractLsb' 62 2).toNat = e.st ∧
          y.getLsbD 61 = e.flt ∧ y.getLsbD 60 = e.grp ∧ (y.extractLsb' 48 12).toNat = e.rsn % 4096 ∧
          y.extractLsb' 44 4 = 0 ∧ (y.extractLsb' 22 22).toNat = min (2 ^ 22 - 1) e.failn ∧
          (y.extractLsb' 0 22).toNat = min (2 ^ 22 - 1) e.okn)) ∧
    (s.Issues [d, a] c f → let z := s.sender v.toNat
      (2 ^ 22 ≤ v.toNat ∨ s.chipOk v.toNat = false → exec (.strmq d a) s = .next (s.raise f .range v)) ∧
      (v.toNat < 2 ^ 22 → s.chipOk v.toNat = true → c.fport.ents.length ≤ 16 → z.unack.length ≤ 1024 →
        ∃ y : Word, exec (.strmq d a) s = .next (s.result f d y) ∧ y.getLsbD 63 = z.resident ∧ y.getLsbD 62 = z.torn ∧
          (y.extractLsb' 32 11).toNat = (if z.resident then z.unack.length else 0) ∧
          (y.extractLsb' 0 32).toNat = 16 - c.fport.ents.length)) ∧
    (let flushes := fun (i : Instr) (t : Option Nat) =>
      (f.ring ≠ [] → f.wait = .ready → exec i s = .next (s.asFibre (f.block (.retry 9) (s.bay s.cur.bay).cycle))) ∧
      (f.ring = [] → f.dfaults ≠ [] → exec i s = .next (s.reportDeferred s.cur f)) ∧
      (f.quiet → s.remoteWrites f.uid t = true ∨ s.unsent f.uid (s.tick + 1) = true → f.wait = .ready →
        exec i s = .next (s.asFibre (f.block (.retry 0x0A) (s.bay s.cur.bay).cycle))) ∧
      (f.quiet → s.remoteWrites f.uid t = false → s.unsent f.uid (s.tick + 1) = false →
        exec i s = .next (s.retired (f.marked s .ar).retire))
     (s.Issues [] c f → flushes (.flush p) none) ∧
     (s.Issues [a] c f →
      (2 ^ 22 ≤ v.toNat ∨ s.chipOk v.toNat = false → exec (.flushc a p) s = .next (s.raise f .range v)) ∧
      (v.toNat < 2 ^ 22 → s.chipOk v.toNat = true → flushes (.flushc a p) (some v.toNat))))

/-- A packet that arrives for the first time, may be performed and passes the checks of R359 or R360 is performed and
answered: PUT, PUTI and PST place their bytes and nothing else, GETQ and PLD are answered with the bytes read, AMO and
PAMO write the new value of their operation and a returning one is answered with the old value, SIG posts its
semaphore, SPAWN starts a fibre in the lowest free slot, CRQ sends the data read to the consignee, and CDATA places
its bytes and counts them. A duplicate is answered again and changes nothing; one whose first copy is held is dropped;
one far outside the window is counted as stale; a damaged one is dropped. A request through a closed window is refused
with reason 1 and places nothing; the code of that refusal in the event log is the model’s choice (assumption log
entry 22). (R353, R354, R356, R359, R360, R368, R369, R370, R375.) -/
def Obligations.RequestsArrive : Prop :=
  ∀ (s : State) (p : Packet) (x : Chunk),
    let h := s.holding p
    let w := requester p
    let done := fun (i : Instr) (t : State) => exec i s = .next t ∧ (t.receiver p.src).answered p.seq = true
    let passes := fun (r : Right) (n : Nat) => h.winAdmission w r p.addr n = (.ok [x], h) ∧ x.n = n
    let placed := fun (i : Instr) (l : List Byte) =>
      ∃ t, done i t ∧ SameMemoryBut x.key l.length s t ∧ memBytes t.mem x.key l.length = l
    let bay := bits p.addr 41 31
    (s.Fresh p → s.dcists = [] → s.poison = [] → x.bay = none →
      (s.ev = .put p → p.opc = 1 → passes .write p.count → placed .put (p.payload.take p.count)) ∧
      (s.ev = .puti p → p.opc = 2 → passes .write 8 → placed .puti (leBytes 8 p.o1.toNat)) ∧
      (s.ev = .pst p → p.opc = 10 → passes .write (2 ^ bits p.o0 33 32) →
        placed .pst (leBytes (2 ^ bits p.o0 33 32) p.o1.toNat)) ∧
      (∀ i, (s.ev = .getq p ∧ p.opc = 3 ∧ i = .getq) ∨ (s.ev = .pld p ∧ p.opc = 9 ∧ i = .pld) → passes .read p.count →
        (s.sender p.src).Open → ∃ t, done i t ∧ SameMemory s t ∧ s.Sends t p.src
          (s.packet p.src 4 w 0 p.o1 (BitVec.ofNat 64 ((p.count - 1) * 2 ^ 32)) p.o1 0 (memBytes s.mem x.key p.count))) ∧
      (∀ i, (s.ev = .amo p ∧ p.opc = 6 ∧ i = .amo) ∨ (s.ev = .pamo p ∧ p.opc = 11 ∧ i = .pamo) →
        let n := if p.o0.getLsbD 37 then 8 else 4
        let fn := bits p.o0 36 32
        let old := s.valueAt x.key n
        passes .atomic n → (fn < 16 → (s.sender p.src).Open) →
        ∃ t, done i t ∧ SameMemoryBut x.key n s t ∧
          memBytes t.mem x.key n = leBytes n ((atNew (atOfCode (fn % 16)) (8 * n) old p.o1 p.o2).getD old).toNat ∧
          (fn < 16 → s.Sends t p.src (s.packet p.src 7 w 0 0 0 (BitVec.ofNat 64 (bits p.o0 63 40)) old []))) ∧
      (s.ev = .sig p → p.opc = 5 → h.admitBay w bay (some (bits p.addr 30 21)) = none →
        ∃ t, done .sig t ∧ SameMemory s t ∧ s.Posted t bay p.asid (bits p.addr 30 21) (bits p.o0 23 0)) ∧
      (∀ i c k, s.ev = .spawn p → p.opc = 8 → h.admitBay w bay none = none → s.keyOf bay p.asid = some i → i < 4 →
        s.bctx bay i = some c → c.asid = p.asid → c.cellar.ring = [] → s.launched p.asid = true →
        s.freeSlot bay i = some k → bits p.o2 2 0 ≠ 7 →
        ∃ t, done .spawn t ∧ SameMemory s t ∧
          t.fib bay i k = some (Fibre.start s.nextId p.o0 p.o1 (BitVec.ofNat 3 (bits p.o2 2 0)))) ∧
      (s.ev = .crq p → p.opc = 16 → p.o1.getLsbD 24 = false → let n := bits p.o1 23 0 + 1
        passes .read n → n ≤ 512 - p.o0.toNat % 512 → (s.sender (chipOfPtr p.o0)).Open →
        ∃ t y, done .crq t ∧ SameMemory s t ∧ y.pkt.payload = padFlits (memBytes s.mem x.key n) ∧
          (t.sender (chipOfPtr p.o0)).unack = (s.sender (chipOfPtr p.o0)).unack ++
            [((s.sender (chipOfPtr p.o0)).nseq, y)]) ∧
      (s.ev = .cdata p → p.opc = 17 → let q := s.consOf p
        passes .consign p.count → q.failed = 0 → q.placed + p.count < bits p.o2 47 24 + 1 →
        q.seen + p.count < bits p.o2 47 24 + 1 →
        ∃ t, done .cdata t ∧ SameMemoryBut x.key p.count s t ∧
          memBytes t.mem x.key p.count = p.payload.take p.count ∧
          t.consOf p = { q with placed := q.placed + p.count, seen := q.seen + p.count }) ∧
      (s.ev = .put p → p.opc = 1 → (s.window (p.addr.toNat % 2 ^ 42 / 2 ^ 30)).kind = 0 →
        ∃ t, done .put t ∧ SameMemory s t ∧ t.mgmt.log = s.mgmt.log ++ [1 + 256 * (1 + 16 * p.seq.toNat)])) ∧
    (s.Arrived p → (s.receiver p.src).resident = true → s.ev = .put p →
      (∀ a, (s.receiver p.src).fate p.seq = .again a → ∃ t, exec .put s = .next t ∧ SameMemory s t ∧
        t.receivers = s.receivers) ∧
      ((s.receiver p.src).fate p.seq = .drop → exec .put s = .next (s.tally endpointUnit .duplicates 1)) ∧
      ((s.receiver p.src).fate p.seq = .stale → exec .put s = .next { s.tally endpointUnit .stale 1 with stale := s.stale + 1 })) ∧
    (s.ev = .put p → p.intact = false → exec .put s = .next s) ∧
    (s.ev = .heldPacketPerform p.src p.seq.toNat → tfind (s.receiver p.src).win p.seq.toNat = some (.held p) →
      ((s.receiver p.src).allows p = false → exec .heldPacketPerform s = .next s) ∧
      ((s.receiver p.src).allows p = true → (p.seq - (s.receiver p.src).low).toNat < 1024 → s.unanswered p = false → p.opc = 5 →
        s.admitBay w bay (some (bits p.addr 30 21)) = none →
        ∃ t, done .heldPacketPerform t ∧ SameMemory s t ∧
          s.Posted t bay p.asid (bits p.addr 30 21) (bits p.o0 23 0)))

/-- GETR writes the bytes of its piece on the local side and the last one completes its RGET; AMOR writes the old
value, sign-extended, and completes its RAMO; CDONE without a failure completes its consignment and one with a reason
ends the context; ACK takes what it answers out of the list and completes a command that waited for it; REFUSE takes
its packet out of the list and ends the context of the request; CSTOP drops the waiting data of the consignment; BUP
and GACK combine in the group’s entry, a full count goes to the parent, and BDOWN goes to the children and completes
the entry’s count, or waits for a bay off which the context is saved; an arrival of another phase than the open
count’s, or for a group with a lost member, ends the context, and a BUP or BDOWN that comes twice changes nothing
(what those packets carry beside the phase, and how a second delivery is known, is the model’s choice: assumption log
entries 12 and 69). A resynchronisation sets LOW, WPLACED and an empty window, and its echo makes the sender whole
again; a stream state that was fetched becomes active; a packet that was not answered in its interval goes out again;
a stream timeout tears the stream. (R344, R345, R353, R357, R367, R369, R371, R375, R376, R381, R383.) -/
def Obligations.AnswersArrive : Prop :=
  ∀ (s : State) (p : Packet) (a : FabAct) (b i : Nat) (asid : Nat)
      (q : BitVec 32) (e : FEnt),
    let done := fun (j : Instr) (t : State) => exec j s = .next t ∧ (t.receiver p.src).answered p.seq = true
    let over_ := fun (t : State) => t.fabAct b asid q = none
    let tok := p.o1.toNat
    (s.Fresh p → s.fabAct b asid q = some a → a.unacked = 0 → (∀ i, s.keyOf b asid = some i → i < 4) → (∀ y j, s.bctx b j = some y → (y.facts.filter fun z => z.cmd.seq == q).length ≤ 1) →
      (∀ off n, s.ev = .getr p → p.opc = 4 → (tfind s.toks tok).map Asked.tok = some (.piece b asid q off n) → n = p.count →
        a.past = false → a.cmd.lk = false → (a.cmd.d 1).toNat + off + n ≤ 2 ^ 21 →
        let key := spadKey asid b ((a.cmd.d 1).toNat + off)
        ∃ t, done .getr t ∧ SameMemoryBut key n s t ∧ memBytes t.mem key n = p.payload.take n ∧ (a.left ≤ n → over_ t) ∧
          (n < a.left → t.fabAct b asid q = some { a with left := a.left - n })) ∧
      (s.ev = .amor p → p.opc = 7 → (tfind s.toks tok).map Asked.tok = some (.ramo b asid q) →
        let key := spadKey asid b (a.cmd.d 1).toNat
        ∃ t, done .amor t ∧ SameMemoryBut key 8 s t ∧ over_ t ∧
          t.valueAt key 8 = (if a.cmd.asz = 8 then p.o2 else (p.o2.setWidth 32).signExtend 64)) ∧
      (s.ev = .cdone p → p.opc = 18 → s.consCmd p.asid p.o1 = some a → asid = p.asid → a.cmd.seq = q →
        b = bits p.o1 41 31 → s.keyOf b asid = some i → s.ringAt b i 3 q = some e →
        (bits p.o0 50 47 = 0 → bits p.o0 46 25 = 0 → ∃ t, done .cdone t ∧ SameMemory s t ∧ over_ t ∧
          s.Posted t a.cmd.oBay asid a.cmd.sem 1 ∧ t.ringAt b i 3 q =
            some { e with okn := bits p.o0 24 0, failn := 0, rsn := 0, done := true, st := 3 }) ∧
        (∀ z, bits p.o0 50 47 ≠ 0 → s.ctx asid = some z → ∃ t, done .cdone t ∧ SameMemory s t ∧ over_ t ∧
          (t.ctx asid).bind Ctx.ended = some (z.ended.getD .remote)))) ∧
    (s.Arrived p →
      let z := s.sender p.src
      (s.ev = .ackAnswer p → z.waiting = [] → (∀ y ∈ z.unack, y.2.own = .none) →
        ∃ t, exec .ackAnswer s = .next t ∧ SameMemory s t ∧ (t.sender p.src).unack = z.unack.filter fun y =>
          !(y.1 == p.o0.setWidth 32 || decide (2 ^ 31 ≤ (y.1 - p.o1.setWidth 32).toNat))) ∧
      (∀ n y, s.ev = .ackAnswer p → z.waiting = [] → z.unack = [(n, y)] → p.o0.setWidth 32 = n →
        y.own = .cmd b asid q → s.fabAct b asid q = some a → a.unacked = 1 → a.unsent = 0 → a.more = false → a.past = false →
        a.cmd.onAck = true → (∀ c j, s.bctx b j = some c → (c.facts.filter fun x => x.cmd.seq == q).length ≤ 1) →
        ∃ t, exec .ackAnswer s = .next t ∧ SameMemory s t ∧ over_ t ∧ (t.sender p.src).unack = [] ∧
          s.Posted t a.cmd.oBay asid a.cmd.sem 1) ∧
      (∀ n y g, s.ev = .refuse p → z.waiting = [] → z.unack = [(n, y)] → p.o1.setWidth 32 = n → s.ctx p.asid = some g →
        (bits p.o0 3 0 = 9 ∨ ∃ u r k v, y.own = .acc u r k v) →
        ∃ t, exec .refuse s = .next t ∧ SameMemory s t ∧ (t.sender p.src).unack = [] ∧
          (t.ctx p.asid).bind Ctx.ended = some (g.ended.getD .remote)) ∧
      (s.ev = .cstop p → ∃ t, exec .cstop s = .next t ∧ SameMemory s t ∧ (t.sender p.src).waiting =
        z.waiting.filter fun y => !(y.own == .cons p.o1 && y.pkt.asid == p.asid)) ∧
      (s.ev = .ackResynchronise p → (s.receiver p.src).resident = true →
        ∃ t, exec .ackResynchronise s = .next t ∧ SameMemory s t ∧ (t.receiver p.src).win = [] ∧
          (t.receiver p.src).low = BitVec.ofNat 32 (bits p.o2 63 32) ∧
          (t.receiver p.src).wplaced = BitVec.ofNat 31 (bits p.o1 62 32)) ∧
      (s.ev = .ackResynchronised p → z.torn = true → z.resident = true → z.waiting = [] →
        z.nseq.toNat = bits p.o2 63 32 → ∃ t, exec .ackResynchronised s = .next t ∧ SameMemory s t ∧
          t.sender p.src = { z with torn := false }) ∧
      (∀ g, let k := State.groupKey p.asid p.addr.toNat
        let phase : BitVec 16 := p.o0.setWidth 16
        tfind s.groups k = some g →
        let num : BitVec 16 := p.o1.setWidth 16
        let serial := if p.src = s.chip.toNat then g.sent.getD 0 + 1 + BitVec.ofNat 16 (g.came.filter fun y => y.src == p.src).length
          else num
        let n := (g.came.filter fun y => y.serial == serial).length
        (s.ev = .bup p → g.again p.src serial = false →
          (∀ z, (∃ y ∈ g.came, y.phase ≠ phase) ∨ s.lostMember g ≠ none → s.ctx p.asid = some z → ∃ t, exec .bup s = .next t ∧
            SameMemory s t ∧ (t.ctx p.asid).bind Ctx.ended = some (z.ended.getD .group)) ∧
          ((∀ y ∈ g.came, y.phase = phase) → s.lostMember g = none → g.sent = some (serial - 1) →
            (n + 1 < g.expect → ∃ t, exec .bup s = .next t ∧ SameMemory s t ∧
              tfind t.groups k = some { g with came := g.came ++ [⟨p.src, serial, phase⟩] }) ∧
            (∀ up, g.expect = n + 1 → (∀ y ∈ g.came, y.serial = serial) → g.parent = some up →
              ∃ t, exec .bup s = .next t ∧ SameMemory s t ∧
              tfind t.groups k = some { g with came := [], sent := some serial, gone := g.gone ++ [(serial, phase)] } ∧
              ∃ x ∈ t.agenda, x.ev = .packetForward (s.groupPacket up 0x30 p.asid p.addr.toNat phase serial) ⟨0, none, 0⟩))) ∧
        (s.ev = .bup p → g.again p.src serial = true → ∃ t, exec .bup s = .next t ∧ SameMemory s t ∧ tfind t.groups k = some g) ∧
        (s.ev = .bdown p → (∃ y ∈ g.gone, y.1 = num) → (∀ u ∈ g.up, u.phase = phase → u.done = true) → ∃ t, exec .bdown s = .next t ∧
          SameMemory s t ∧ tfind t.groups k = some { g with gone := g.gone.filter fun y => y.1 != num } ∧
          ∀ down ∈ g.children, ∃ x ∈ t.agenda,
            x.ev = .packetForward (s.groupPacket down 0x31 p.asid p.addr.toNat phase num) ⟨0, none, 0⟩) ∧
        (∀ u, s.ev = .bdown p → (∃ y ∈ g.gone, y.1 = num) → g.up = [u] → u.phase = phase → u.done = false →
          s.rectReady p.asid p.addr.toNat u = none → ∃ t, exec .bdown s = .next t ∧ SameMemory s t ∧
          tfind t.groups k = some { g with gone := g.gone.filter fun y => y.1 != num, up := [{ u with done := true }] }) ∧
        (s.ev = .bdown p → (∀ y ∈ g.gone, y.1 ≠ num) → ∃ t, exec .bdown s = .next t ∧ SameMemory s t ∧
          tfind t.groups k = some g) ∧
        (s.ev = .gack p → g.acks = [] → (∃ y ∈ g.children, y ≠ p.src) → ∃ t, exec .gack s = .next t ∧ SameMemory s t ∧
          tfind t.groups k = some { g with acked := g.acked + 1, acks := [⟨p.o1, p.job, [(p.src,
            ⟨BitVec.ofNat 16 (bits p.o2 37 22), bits p.o0 21 0, bits p.o0 43 22, bits p.o2 21 0, bits p.o0 47 44⟩)],
            g.acked + 1, false, false⟩] }))) ∧
    (∀ n : Nat, let z := s.sender n
      (s.ev = .streamStateFetchComplete n true → s.activeEnds < 4096 → z.torn = false → z.waiting = [] →
        ∃ t, exec .streamStateFetchComplete s = .next t ∧ SameMemory s t ∧ t.sender n = { z with resident := true }) ∧
      (s.ev = .streamStateFetchComplete n false → s.activeEnds < 4096 → ∃ t, exec .streamStateFetchComplete s = .next t ∧ SameMemory s t ∧
        t.receiver n = { s.receiver n with resident := true }) ∧
      (∀ y : Sent, s.ev = .retransmissionTimeout n q.toNat → z.unack = [(q, y)] →
        (s.now < y.last + s.mgmt.retxAfter → exec .retransmissionTimeout s = .next s.wait) ∧
        (y.last + s.mgmt.retxAfter ≤ s.now → ∃ t, exec .retransmissionTimeout s = .next t ∧ SameMemory s t ∧
          (t.sender n).unack = [(q, { y with last := s.now })] ∧ s.newItem (.packetForward y.pkt ⟨switchOf (s.bayOfOwn y.own), none, 0⟩) ∈ t.agenda)) ∧
      (∀ y : Sent, s.ev = .streamTimeout n → z.unack = [(q, y)] →
        (s.now < y.first + s.mgmt.streamAfter → exec .streamTimeout s = .next s.wait) ∧
        (y.first + s.mgmt.streamAfter ≤ s.now → ∃ t, exec .streamTimeout s = .next t ∧ (t.sender n).unack = [] ∧
          (y.own = .none → (t.sender n).torn = true) ∧ SameMemory s t)))

/-- The endpoint begins the next command of its port: one with a bad doubleword ends in the engine fault DESC with its
offset; another joins the active commands, and its packets are built in the staging buffer of the bay, only while its
context is active. RPUTI stages one PUTI with its pointer and its data, RSIG one SIG; a staged packet gains a flit at
a time, and goes out on its stream once it is whole. A packet for this package is delivered as the event of its
opcode; one for another goes out on a usable minimal port with room, on the adaptive channel, or, once it is on an
escape channel, on the one of its next hop in dimension order, or to the switch of that port over the internal
channel; one with no usable port is led round by one hop with DET set, and one that has been led round already is
held; one for a chip outside the system is refused; a group packet of this package goes on the port of its tree edge,
and is held while that link is lost. What a lost link had not acknowledged is routed again, on an escape channel where
it was on one. More than 64 replays in a millisecond retrain a port; a port that retrains or goes down gives up its
packets and joins the failed links; a retraining port goes down only after 10 ms; a port without a partner is down; a
port trained within 10 ms is active again, and one trained later is down. A rebuilt tree edge leads along a detour
where its own port is not usable, and routes its held packets again; a lost member ends the context whose group waits.
A TSYNC request is answered, an answer of the parent gives link delay and offset, the exchange repeats every 10 us,
the time base locks after 1 s of valid packets and unlocks after 1 ms without. These are the model’s choices: one
command at a time in the staging buffer (log entry 68), the codes of the event log (22), the fields of TSYNC (12), the
channel taken and the port of a detour where R338 and R339 leave it open (24), the rate correction (25), and the
rebuilding of a tree (77). (R331, R338, R339, R342, R346, R347, R348, R349, R364, R366, R368, R384.) -/
def Obligations.FabricLinks : Prop :=
  ∀ (s : State) (p : Packet) (k : Nat),
    (∀ (c : BayCtx) (b i : Nat) (m : Cmd) (r : List Cmd), s.ev = .fabricCommandBegin b i → s.bctx b i = some c →
      s.keyOf b c.asid = some i → s.activeAt b i = true → c.fport = { ents := m :: r, wq := [] } → s.fabMay b m = true →
      (∀ g, s.ctx c.asid = some g → lowest (m.fabBad s g.groups.length) = none → m.localOver c.quota.scratch = none →
        ∃ t, exec .fabricCommandBegin s = .next t ∧ SameMemory s t ∧ (t.bctx b i).map (fun y => y.fport.ents) = some r ∧
          (t.bctx b i).map (fun y => y.facts) = some (c.facts ++ [FabAct.start m (s.beginCnts m)]) ∧
          s.newItem (.fabricPiece b i m.seq.toNat) ∈ t.agenda) ∧
      (∀ g o e, s.ctx c.asid = some g → lowest (m.fabBad s g.groups.length) = some o → c.fring.entry m.seq = some e →
        ∃ t x, exec .fabricCommandBegin s = .next t ∧ SameMemory s t ∧ t.ringAt b i 3 m.seq = some x ∧ x.flt = true ∧
          x.done = true ∧ x.sub = BitVec.ofNat 8 (causeCode .desc) ∧ x.val = BitVec.ofNat 64 o)) ∧
    (∀ (c : BayCtx) (b i q : Nat) (a : FabAct), s.ev = .fabricPiece b i q → s.bctx b i = some c →
      s.keyOf b c.asid = some i → c.facts.find? (fun x => x.cmd.seq.toNat == q) = some a →
      (s.activeAt b i = false → exec .fabricCommandBegin s = .next (s.post s.lane s.ev)) ∧
      (s.activeAt b i = true →
        (let stages := fun (l : List Nat) (y : Packet) => c.stage = none → a.past = false → a.next = 0 →
            ∃ t, exec .fabricCommandBegin s = .next t ∧ SameMemory s t ∧ t.senders = s.senders ∧
              (t.bctx b i).map BayCtx.stage = some (some ⟨a.cmd.seq, a.cmd.chip, l, y, 0⟩)
         (∀ g d x o z, a.cmd.op = .rputi g d x o z → stages (linesOf a.cmd.x 8)
            (s.packet a.cmd.chip 2 (s.whoOf c.asid) (a.rcnt a.cmd.chip) a.cmd.x 0 a.cmd.y 0 [])) ∧
         (∀ g d x o z, a.cmd.op = .rsig g d x o z → stages []
            (s.packet a.cmd.chip 5 (s.whoOf c.asid) (a.rcnt a.cmd.chip) a.cmd.x a.cmd.y 0 0 []))) ∧
        (∀ g, c.stage = some g → g.seq = a.cmd.seq →
          (g.flits < g.pkt.len + 1 → ∃ t, exec .fabricCommandBegin s = .next t ∧ SameMemory s t ∧ t.senders = s.senders ∧
            (t.bctx b i).map BayCtx.stage = some (some { g with flits := g.flits + 1 })) ∧
          (g.pkt.len + 1 ≤ g.flits → (s.sender g.chip).Open → ∃ t, exec .fabricCommandBegin s = .next t ∧
            SameMemory s t ∧ (t.bctx b i).map BayCtx.stage = some none ∧ s.Sends t g.chip g.pkt)))) ∧
    (∀ h : Hop, s.ev = .packetForward p h → p.src ≠ s.chip.toNat →
      let l := (s.allowedPorts p h).filter s.usablePort
      let goes := fun (j n : Nat) (y : Packet) => (switchOfPort j = h.sw → ∃ t o, exec .packetForward s = .next t ∧
          SameMemory s t ∧ t.agenda = s.agenda ∧ (t.port j).sent = (s.port j).sent.drop o ++ [(3 * p.cls + n, y)]) ∧
        (switchOfPort j ≠ h.sw →
          exec .packetForward s = .next (s.postFree (.packetForward p { h with sw := switchOfPort j })))
      (∀ e, p.dst = s.chip.toNat → arrivalEv p = some e → ∃ t, exec .packetForward s = .next t ∧ SameMemory s t ∧
        t.agenda = s.agenda ++ [s.newItem e]) ∧
      (p.dst ≠ s.chip.toNat → s.chipOk p.dst = false → ∃ t, exec .packetForward s = .next t ∧ SameMemory s t ∧
        t.mgmt.log = s.mgmt.log ++ [3 + 256 * p.hdr.toNat] ∧ t.agenda = s.agenda ++ [s.newItem (.packetForward
          (s.packet p.src 0x21 (requester p) 0 0 9 (p.seq.setWidth 64) p.addr []).seal ⟨0, none, 0⟩)]) ∧
      (p.dst ≠ s.chip.toNat → s.chipOk p.dst = true → l = [] → p.det = true →
        ∃ t, exec .packetForward s = .next t ∧ SameMemory s t ∧ t.held = s.held ++ [(p, h)] ∧ t.agenda = s.agenda) ∧
      (p.dst ≠ s.chip.toNat → s.chipOk p.dst = true → (∀ x, chanOf h = some x → x = 0) →
        (l = [k] → p.len + 1 ≤ (s.port k).credit (3 * p.cls) → goes k 0 p) ∧
        (l = [] → p.det = false → s.detourPort = some k → p.len + 1 ≤ (s.port k).credit (3 * p.cls) → goes k 0 (detoured p))) ∧
      (∀ x wrap, p.dst ≠ s.chip.toNat → s.chipOk p.dst = true → chanOf h = some x → x ≠ 0 →
        s.escapePort p.dst = some (k, wrap) → s.usablePort k = true → let n := if wrap = true ∨ x = 2 then 2 else 1
        p.len + 1 ≤ (s.port k).credit (3 * p.cls + n) → goes k n p)) ∧
    (∀ (h : Hop) (g : Group), s.ev = .packetForward p h → p.opc = 0x30 ∨ p.opc = 0x31 ∨ p.opc = 0x32 → p.src = s.chip.toNat →
      p.dst ≠ s.chip.toNat → s.chipOk p.dst = true → h.inp = none → h.esc = 0 →
      tfind s.groups (State.groupKey p.asid p.addr.toNat) = some g → tfind g.edges p.dst = some k →
      (s.usablePort k = false → ∃ t, exec .packetForward s = .next t ∧ SameMemory s t ∧ t.held = s.held ++ [(p, h)] ∧
        t.agenda = s.agenda) ∧
      (s.usablePort k = true → p.len + 1 ≤ (s.port k).credit (3 * p.cls) → switchOfPort k = h.sw → ∃ t o,
        exec .packetForward s = .next t ∧ SameMemory s t ∧ t.agenda = s.agenda ∧ (t.port k).sent = (s.port k).sent.drop o ++
          [(3 * p.cls, if s.neighbour k = some p.dst then p else detoured p)])) ∧
    (s.ev = .flitReplay k → (s.port k).st = .active →
      let l := ((s.port k).replays.filter fun z => decide (s.now < z + 1000000)) ++ [s.now]
      ∃ t, exec .flitReplay s = .next t ∧ SameMemory s t ∧ (t.port k).replays = l ∧
        t.agenda = s.agenda ++ (if 64 < l.length then [s.newItem (.portRetrain k)] else [])) ∧
    (let lost := fun (t : State) (z : PortSt) => SameMemory s t ∧ (t.port k).st = z ∧ (t.port k).sent = [] ∧
        (s.chip.toNat, k) ∈ t.failed ∧ t.held = [] ∧
        (∀ x ∈ (s.port k).sent, ∃ n, (⟨n, .packetForward x.2 ⟨switchOfPort k, none, x.1 % 3⟩⟩ : Item) ∈ t.agenda) ∧
        ∀ x ∈ s.held, ∃ n, (⟨n, .packetForward x.1 x.2⟩ : Item) ∈ t.agenda
     (s.ev = .portRetrain k → (s.port k).st = .active → ∃ t, exec .portRetrain s = .next t ∧
       lost t (if s.neighbour k = none then .down else .retrain)) ∧
     (s.ev = .portDown k → (s.port k).st = .active → ∃ t, exec .portDown s = .next t ∧ lost t .down) ∧
     (s.ev = .portDown k → (s.port k).st = .retrain →
       (s.now < (s.port k).since + 10000000 → exec .portDown s = .next s.wait) ∧
       ((s.port k).since + 10000000 ≤ s.now → ∃ t, exec .portDown s = .next t ∧ SameMemory s t ∧ (t.port k).st = .down))) ∧
    (∀ n full, s.ev = .portTrained k n full → (s.port k).st = .retrain →
      ((s.port k).since + 10000000 ≤ s.now → exec .portTrained s = .next (s.modPort k fun x => { x with st := .down })) ∧
      (s.now < (s.port k).since + 10000000 → ∃ t, exec .portTrained s = .next t ∧
        SameMemory s t ∧ t.port k = { s.port k with st := .active, lanes := n, fullRate := full } ∧ t.held = [] ∧
        (s.chip.toNat, k) ∉ t.failed ∧ ∀ y, s.neighbour k = some y → (y, otherEnd k) ∉ t.failed ∧ (y, 8) ∉ t.failed)) ∧
    (s.ev = .linkPartnerArrival k → (s.port k).st = .down → s.neighbour k = none →
      exec .linkPartnerArrival s = .next (s.modPort k fun x => { x with st := .down })) ∧
    (s.ev = .linkPartnerArrival k → (s.port k).st = .down → s.neighbour k ≠ none → ∃ t x, exec .linkPartnerArrival s = .next t ∧ SameMemory s t ∧
      (t.port k).st = .retrain ∧ (t.port k).since = s.now ∧ t.agenda = s.agenda ++ [s.newItem x] ∧
      (x = .portDown k ∨ ∃ n full, (n = 32 ∨ n = 16 ∨ n = 8) ∧ x = .portTrained k n full)) ∧
    (∀ asid g e, s.ev = .groupTreeRebuild asid g none → tfind s.groups (State.groupKey asid g) = some e →
      let mine := fun (x : Packet) => (x.opc == 0x30 || x.opc == 0x31 || x.opc == 0x32) && x.asid == asid && x.addr.toNat == g
      ∃ t e', exec .groupTreeRebuild s = .next t ∧ SameMemory s t ∧ (t.held = s.held.filter fun x => !mine x.1) ∧
        (∀ x ∈ s.held, mine x.1 = true → ∃ n, (⟨n, .packetForward x.1 x.2⟩ : Item) ∈ t.agenda) ∧
        tfind t.groups (State.groupKey asid g) = some e' ∧ e' = { e with edges := e'.edges } ∧
        ∀ j n, tfind (s.edgePorts e.parent e.children) n = some j →
          tfind e'.edges n = some (if s.usablePort j = true then j else s.detourPort.getD j)) ∧
    (∀ asid g e m z, s.ev = .groupTreeRebuild asid g (some m) → s.entryOf asid g = some e → s.inBox e.box m = true →
      s.ctx asid = some z → e.came ≠ [] ∨ e.gone ≠ [] ∨ (∃ u ∈ e.up, u.done = false) → ∃ t, exec .groupTreeRebuild s = .next t ∧ SameMemory s t ∧ (m, 8) ∈ t.failed ∧
        (t.ctx asid).bind Ctx.ended = some (z.ended.getD .group)) ∧
    (s.ev = .tsync p → s.Arrived p →
      (p.o0.getLsbD 0 = false → ∃ t, exec .tsync s = .next t ∧ SameMemory s t ∧
        t.agenda = s.agenda ++ [s.newItem (.packetForward (s.packet p.src 0x38 (requester p) 0 0 1 p.o1 s.time.count []).seal
          ⟨0, none, 0⟩)]) ∧
      (p.o0.getLsbD 0 = true → s.time.isRoot = false → p.src = s.time.parent →
        ∃ t, exec .tsync s = .next t ∧ SameMemory s t ∧ t.time.lastValid = s.now ∧ t.time.heard = true ∧
          t.time.validSince = (if s.time.heard = false ∨ s.time.lastValid + 1000000 ≤ s.now then s.now else s.time.validSince) ∧
          t.time.delay = ((s.now : Int) - p.o1.toNat) / 2 ∧ t.time.offset = p.o2.toNat + t.time.delay - s.now ∧
          t.time.count = s.time.count ∧
          -100 ≤ t.time.rate ∧ t.time.rate ≤ 100 ∧
          t.time.locked = (s.time.locked && decide (s.now < s.time.lastValid + 1000000)))) ∧
    (s.ev = .tsyncInterval →
      (s.now < s.time.nextSync → exec .tsyncInterval s = .next s.wait) ∧
      (s.time.nextSync ≤ s.now → ∃ t, exec .tsyncInterval s = .next t ∧ SameMemory s t ∧
        t.time.nextSync = s.now + 10000 ∧ s.newItem .tsyncInterval ∈ t.agenda ∧
        (s.time.isRoot = true → t.agenda = s.agenda ++ [s.newItem .tsyncInterval]) ∧
        (s.time.isRoot = false → ∃ n, (⟨n, .packetForward (s.packet s.time.parent 0x38 ⟨s.chip.toNat, 0, 0⟩ 0 0 0
          s.time.count 0 []).seal ⟨0, none, 0⟩⟩ : Item) ∈ t.agenda))) ∧
    (s.ev = .timeLock → s.time.heard = true → s.now < s.time.lastValid + 1000000 →
      (s.now < s.time.validSince + 1000000000 → exec .timeLock s = .next s.wait) ∧
      (s.time.validSince + 1000000000 ≤ s.now → ∃ t, exec .timeLock s = .next t ∧ SameMemory s t ∧
        t.time = { s.time with locked := true } ∧ t.mgmt.joining = false)) ∧
    (s.ev = .timeUnlock →
      (s.now < s.time.lastValid + 1000000 → exec .timeUnlock s = .next s.wait) ∧
      (s.time.lastValid + 1000000 ≤ s.now → s.time.locked = true → ∃ t, exec .timeUnlock s = .next t ∧ SameMemory s t ∧
        t.time = { s.time with locked := false }))

/-- CARM, CADD, CREAD and CDISARM with a bad handle raise RANGE; CARM checks its descriptor address (ALIGN, QUOTA) and
its fields (CISTERN with reason 1) and sends it to the unit, CADD with a count of 48 bits at most sends the count once
its release component has nothing to wait for, CREAD and CDISARM send a request and wait (0x50). At the unit a request
waits for the earlier ones of its fibre to that unit; a good CARM arms the entry with count and firings 0 and posts
its semaphore, and one with a reason of R404 changes no entry; an arrival of 0 changes nothing, one below the mark
adds to the count, and one that reaches the mark of an entry that does not rearm fires its action once; CREAD answers
with the state word, CDISARM too and leaves the entry idle. The answer fills gb and the instruction retires, or raises
CISTERN with reason 3. (R387, R389, R392, R394, R399, R400, R401.) -/
def Obligations.CisternResults : Prop :=
  ∀ (s : State) (c : BayCtx) (f : Fibre) (a b : GReg) (x : BitVec 10) (r : MemOrd)
      (p : Scope) (m : CistMsg),
    let h := f.reg a
    let v := f.reg b
    let u := handleUnit m.handle
    let k := handleIndex m.handle
    let e := s.cist m.asid u k
    let sends := fun (i : Instr) (g : Fibre) (ev : Ev) => ∃ t, exec i s = .next t ∧ SameMemory s t ∧ t.curF = some g ∧
      t.agenda = s.agenda ++ [⟨laneCist s.cur.bay (handleUnit h), ev⟩]
    (s.Issues [a, b] c f → s.poison = [] → let i := Instr.carm a b x
      (c.quota.sems ≤ x.toNat → exec i s = .next (s.raise f .quota (x.setWidth 64))) ∧
      (x.toNat < c.quota.sems →
        (handleOk s c h = false → exec i s = .next (s.raise f .range h)) ∧
        (handleOk s c h = true → v.toNat % 32 ≠ 0 → exec i s = .next (s.raise f .align v)) ∧
        (handleOk s c h = true → v.toNat % 32 = 0 → c.quota.scratch < v.toNat + 32 → exec i s = .next (s.raise f .quota v)) ∧
        (handleOk s c h = true → v.toNat % 32 = 0 → v.toNat + 32 ≤ c.quota.scratch →
          let d := s.readDs (spadKey c.asid s.cur.bay v.toNat) 4
          let ok := descOk (handleUnit h) { Cist.init with desc := d }
          (ok = false → exec i s = .next (s.raise f .cistern (h ||| 1))) ∧
          (ok = true → sends i f.retire (.carmAtUnit (s.cistMsg c f h 0 d x.toNat)))))) ∧
    (s.Issues [a, b] c f →
      (handleOk s c h = false → exec (.cadd a b r p) s = .next (s.raise f .range h)) ∧
      (handleOk s c h = true → 2 ^ 48 ≤ v.toNat → exec (.cadd a b r p) s = .next (s.raise f .range v)) ∧
      (handleOk s c h = true → v.toNat < 2 ^ 48 → s.mayRelease r p f →
        sends (.cadd a b r p) (f.marked s r).retire (.caddAtUnit (s.cistMsg c f h v.toNat [] 0)))) ∧
    (s.Issues [a, b] c f → let g := f.block (.queued 0x50) (s.bay s.cur.bay).cycle
      (handleOk s c h = false → exec (.cread a b) s = .next (s.raise f .range h) ∧
        exec (.cdisarm a b) s = .next (s.raise f .range h)) ∧
      (handleOk s c h = true → sends (.cread a b) g (.creadAtUnit (s.cistMsg c f h b.toNat [] 0)) ∧
        sends (.cdisarm a b) g (.cdisarmAtUnit (s.cistMsg c f h b.toNat [] 0)))) ∧
    let clean := 2048 ≤ u ∨ ∀ j y, s.keyOf u m.asid = some j → s.bctx u j = some y → j < 4 ∨ s.imageBad u y = none
    ((s.ev = .carmAtUnit m ∨ s.ev = .caddAtUnit m ∨ s.ev = .creadAtUnit m ∨ s.ev = .cdisarmAtUnit m) →
      s.cistEarlier m = true → exec s.ev.instr s = .next s.wait) ∧
    (s.ev = .carmAtUnit m → s.cistEarlier m = false → let n := s.armReason m.asid u k { Cist.init with desc := m.desc }
      (n = 0 → clean → ∃ t, exec .carmAtUnit s = .next t ∧ SameMemory s t ∧ s.Posted t m.oBay m.asid m.sem 1 ∧
        t.cist m.asid u k = { e with st := .armed, desc := m.desc, count := 0, fires := 0, ovf := false }) ∧
      (n ≠ 0 → ∃ t, exec .carmAtUnit s = .next t ∧ SameMemory s t ∧ t.cist m.asid u k = e)) ∧
    (k < s.cistShare m.asid u → s.cistEarlier m = false → clean →
      (s.ev = .caddAtUnit m → e.st ≠ .idle → e.sig = true → m.count = 0 → exec .caddAtUnit s = .next s) ∧
      (s.ev = .caddAtUnit m → e.st = .armed → e.sig = true → e.count + m.count < 2 ^ 49 →
        (e.count + m.count < e.markM → ∃ t, exec .caddAtUnit s = .next t ∧ SameMemory s t ∧
          t.cist m.asid u k = { e with count := e.count + m.count }) ∧
        (e.count + m.count = e.markM → e.rearm = false → e.act = 0 → e.queued = [] → e.markM ≠ 0 → m.count ≠ 0 →
          (s.bay e.tbay).fenced = false → (s.keyOf e.tbay m.asid).isSome = true →
          ∃ t, exec .caddAtUnit s = .next t ∧ SameMemory s t ∧ s.Posted t e.tbay m.asid e.actx 1 ∧
            t.cist m.asid u k = { e with count := e.markM, fires := e.fires + 1, st := .fired })) ∧
      (let word := fun (w : Word) => (e.st = .idle → w = 0) ∧ (e.st ≠ .idle → e.count < 2 ^ 49 →
          (w.extractLsb' 62 2).toNat = (if e.st = .armed then 1 else 2) ∧ w.getLsbD 61 = e.sig ∧ w.getLsbD 60 = e.rearm ∧
          w.getLsbD 59 = e.ovf ∧ (w.extractLsb' 49 10).toNat = e.fires % 1024 ∧ (w.extractLsb' 0 49).toNat = e.count)
       let answers := fun (t : State) => SameMemory s t ∧ ∃ w, word w ∧
         ∃ y, t.agenda = s.agenda ++ [⟨y, .cisternAnswer m.uid (BitVec.ofNat 3 m.count) (some w) m.handle⟩]
       (s.ev = .creadAtUnit m → ∃ t, exec .creadAtUnit s = .next t ∧ answers t ∧ t.cist m.asid u k = e) ∧
       (s.ev = .cdisarmAtUnit m → ∃ t, exec .cdisarmAtUnit s = .next t ∧ answers t ∧
         t.cist m.asid u k = { e with st := .idle }))) ∧
    (∀ (n : Nat) (q : Cur) (w g : Word), s.findU n = some (q, f) → s.fib q.bay q.idx q.slot = some f → f.uid = n →
      (s.ev = .cisternAnswer n b (some w) g → ∃ t, exec .cisternAnswer s = .next t ∧ SameMemory s t ∧
        t.fib q.bay q.idx q.slot = some (f.setReg b w).retire) ∧
      (s.ev = .cisternAnswer n b none g →
        exec .cisternAnswer s = .next (s.enterHandler q f (causeWord .cistern) (g ||| 3) 0 f.pc)))

/-- A fault of a fibre in ordinary mode with nothing outstanding saves the resume address, the cause, the value and
the sequence tag in HPC, HCAUSE, HVAL and HSEQ, sets handler mode, discards an open frame and continues at the handler
entry of its context; nothing else of the fibre, no other fibre and no byte of memory changes. While its access ring
is not empty the fibre waits for it. In handler mode the context ends with a record of both faults. A pending fault is
taken between two instructions and leaves the list; an illegal word raises ILLEGAL with the word. (R409, R411, R412,
R50, R407.) -/
def Obligations.HandlerEntry : Prop :=
  ∀ (s : State) (c : BayCtx) (f : Fibre) (x : Ctx) (cause val seq resume : Word),
    (s.curC = some c → s.curF = some f → s.ctx c.asid = some x →
      let t := s.enterHandler s.cur f cause val seq resume
      let others := SameMemory s t ∧ ∀ b i k, b ≠ s.cur.bay ∨ i ≠ s.cur.idx ∨ k ≠ s.cur.slot → t.fib b i k = s.fib b i k
      let entered := { f with
        hpc := resume, hcause := cause, hval := val, hseq := seq, hm := true, pc := x.hentry, frame := none, wait := .ready }
      (f.hm = false → f.quiet → t.curF = some entered ∧ others ∧ t.agenda = s.agenda) ∧
      (f.hm = false → f.ring ≠ [] →
        t.curF = some { f with wait := .entry cause val seq resume, frame := none } ∧ others ∧ t.agenda = s.agenda) ∧
      (f.hm = true → others ∧ (t.ctx c.asid).bind Ctx.ended = some (x.ended.getD .double) ∧
        t.agenda = s.agenda ++ [⟨laneEnd c.asid, .contextEnd c.asid .double s.cur.bay (section_ 2 2
          [s.handle s.cur.bay s.cur.slot (c.slot s.cur.slot).gen, f.hpc, f.hcause, f.hval, f.hseq, cause, val, seq,
            resume])⟩])) ∧
    (∀ (b i k : Nat) (q : PFault) (r : List PFault), s.ev = .pendingFaultTaken b i k → s.bctx b i = some c →
      s.ctx c.asid = some x → s.fib b i k = some f → f.pend = q :: r → f.hm = false → f.frame = none → f.wait = .ready →
      f.quiet → f.isFault = false →
      let entered := { f with
        pend := r, hpc := f.pc, hcause := q.hcause, hval := q.hval, hseq := q.hseq, hm := true, pc := x.hentry }
      ∃ t, exec .pendingFaultTaken s = .next t ∧ SameMemory s t ∧ t.fib b i k = some entered) ∧
    (∀ w, s.ev = .illegalWord w → s.curF = some f → exec .illegalWord s = .next (s.raise f .illegal (w.setWidth 64)))

/-- The completion of a division fills its register and frees the divider, no sooner than 20 bay cycles after its
issue. A line fill puts the 64 bytes of its line into the bay’s cache under the ASID. A watchdog that fires ends its
context, which is recorded. At the end of a context it holds nothing: no bay holds its state, it has no launch and no
live fibre, its scratchpads, weight buffers and tiles are zero, and no event in flight names it or a slot of its own
any more. A launch ends when nothing of it is left, no fibre, no command accepted and none on its way, and waits until
then. (R99, R121, R185, R427, R430.) -/
def Obligations.OtherEvents : Prop :=
  ∀ (s : State) (c : BayCtx) (f : Fibre) (x : Ctx) (asid b i k u : Nat),
    (∀ d v, s.ev = .divideComplete b u d v → s.fib b i k = some f → f.uid = u → (∀ q w e r, f.wait ≠ .entry q w e r) →
      (∀ q g, s.findU u = some (q, g) → q = ⟨b, i, k⟩) → s.findU u = some (⟨b, i, k⟩, f) →
      ((s.bay b).active.isSome = true → (s.bay b).cycle < (s.bay b).divEnd → exec .divideComplete s = .next s.wait) ∧
      ((s.bay b).divEnd ≤ (s.bay b).cycle → ∃ t, exec .divideComplete s = .next t ∧ SameMemory s t ∧ (t.bay b).divBusy = false ∧
        t.fib b i k = some { f.setReg d v with locals := f.locals - 1 })) ∧
    (∀ line pa key z, s.ev = .instructionLineFill b asid line → s.keyOf b asid = some i → s.activeAt b i = true →
      s.bctx b i = some c → s.translateAt (homeStation b) asid line .fetch = (.ok (.phys pa), z) →
      physKey pa = some key → z.bad key 64 = none →
      ∃ t, exec .instructionLineFill s = .next t ∧ SameMemory z t ∧
        tfind (t.bay b).icache (icKey asid line) = some (BitVec.ofNat 512 (leNat (memBytes z.mem key 64)))) ∧
    (s.ctx asid = some x →
      (s.ev = .watchdogFire asid → x.ended = none → x.launch ≠ none → ∃ t secs, exec .watchdogFire s = .next t ∧
        SameMemory s t ∧ (t.ctx asid).bind Ctx.ended = some .watchdog ∧ (t.ctx asid).map Ctx.endTime = some s.time.count ∧
        t.agenda = s.agenda ++ [⟨laneEnd asid, .contextEnd asid .watchdog 0x7FF secs⟩]) ∧
      (∀ r secs, s.ev = .contextEnd asid r b secs → x.closed = false → s.front.copies = [] →
        ∃ t y, exec .contextEnd s = .next t ∧ t.ctx asid = some y ∧ y.closed = true ∧ y.launch = none ∧ y.live = 0 ∧
          (∀ z ∈ t.agenda, evAsid z.ev ≠ some asid ∧
            ∀ q j o, evPlace z.ev = some (q, j) → s.bctx q j = some o → o.asid ≠ asid) ∧
          (∀ j, t.keyOf j asid = none) ∧ (∀ z ∈ t.windows, z.2.owner ≠ asid) ∧ (asid < 65536 → ∀ z ∈ t.images, z.1 % 65536 ≠ asid) ∧
          (asid < 65536 → ∀ j < 2048, ∀ n < 2 ^ 21, memGet t.mem (spadKey asid j n) = 0 ∧
            memGet t.mem (wbufKey asid j n) = 0 ∧ memGet t.mem (tileKey asid j n) = 0)) ∧
      (s.ev = .launchEnd asid → x.launch ≠ none → x.ended = none →
        let busy := x.live ≠ 0 ∨ (s.bayCtxs asid).any BayCtx.engaged = true ∨ s.sending asid = true
        (busy → exec .launchEnd s = .next s.wait) ∧
        (¬busy → ∃ t, exec .launchEnd s = .next t ∧ (t.ctx asid).bind Ctx.launch = none)))

/-- DBELL takes the packet at HEAD, moves HEAD on and hands a good packet to its type; with HEAD at TAIL nothing
happens, a front end that is not ready waits, and a queue waits for those whose turn comes before. A completed packet
has its status, tag and result in its header. CONTEXT-CREATE whose checks pass makes the context of its block with the
next CTXID (the model’s choice: R441 says only that one is assigned; the numbers follow one another and skip 0,
assumption log entry 89); CONTEXT-DESTROY ends a context and, once it is closed, frees its names; WINDOW-OPEN writes
its entry and answers the window number; CISTERN-ARM arms its entry; SIGNAL posts its semaphore; a handle of another
package of the partition meets the checks of CISTERN-ARM and SIGNAL that its form and the partition decide, before
that package is asked; INVALIDATE drops the translations of its range; LAUNCH whose checks pass, of a context that no
bay holds yet, places its image at the start of every scratchpad of its rectangle and starts its fibres in slots 0 to
F − 1 there; COPY starts its transfer and completes after its last segment; SWITCH-PLAN adds its entries to the plan.
INVALIDATE, CONTEXT-DESTROY and LAUNCH, which R442 and R444 ask of every package of the partition, are said here of
this package alone (the model’s choice, assumption log entry 8). (R436, R438, R440, R441, R442, R444, R445, R448.) -/
def Obligations.PacketResults : Prop :=
  ∀ (s : State) (h : HostPkt) (c : Ctx),
    let id : BitVec 32 := (s.blkD h 0x18).setWidth 32
    let ends := fun (i : Instr) (st r : Nat) (p : State → Prop) =>
      ∃ u, exec i s = .next (u.complete h st r) ∧ SameMemory s u ∧ p u
    (∀ st r, st < 65536 → r < 2 ^ 32 → s.blkD h 8 = 0 →
      (s.complete h st r).valueAt (compKey h.blk) 8 = BitVec.ofNat 64 (st + h.tag.toNat * 2 ^ 16 + r * 2 ^ 32) ∧
      SameMemoryBut (compKey h.blk) 8 s (s.complete h st r)) ∧
    (∀ q u, s.ev = .dbell q → tfind s.front.queues q = some u →
      (s.mgmt.ready = false → exec .dbell s = .next s.wait) ∧
      (s.mgmt.ready = true → s.mgmt.updating = none →
        ((s.readD (compKey u.base)).setWidth 32 = u.head → exec .dbell s = .next s) ∧
        (let at_ := u.base + 64 + u.head.toNat % 2 ^ u.logSlots * 16
         let p0 := s.readD (compKey at_)
         let ty := bits p0 7 0
         let g : HostPkt := { queue := q, tag := BitVec.ofNat 16 (bits p0 31 16), blk := h.blk, num := u.head }
         (s.readD (compKey u.base)).setWidth 32 ≠ u.head → (s.notYet q = true → exec .dbell s = .next s.wait) ∧ ((p0.getLsbD 8 = false ∨ u.open_ = 0) →
         s.follow q (bits p0 10 9) (s.readD (compKey (at_ + 8))).toNat = some h.blk → s.inArena q h.blk 32 64 = true →
         s.chainBad g ty (bits p0 10 9) = none → s.headResv p0 g = true → (ty = 3 → s.launchBusy g = false) → (ty = 1 → s.takesContexts = true) →
         s.notYet q = false →
         ∀ e, typeEv ty g = some e → ∃ t, exec .dbell s = .next t ∧ (∃ n, (⟨n, e⟩ : Item) ∈ t.agenda) ∧
           tfind t.front.queues q = some { u with head := u.head + 1, open_ := u.open_ + 1 } ∧ t.front.served = q ∧
           (∃ n, (⟨n, .dbell q⟩ : Item) ∈ t.agenda) ∧
           t.valueAt (compKey (u.base + 8)) 8 = (u.head + 1).setWidth 64 ∧ SameMemoryBut (compKey (u.base + 8)) 8 s t)))) ∧
    (s.ev = .contextCreate h → s.createResv h = false → id = 0 → s.createBad h = none → bits (s.blkD h 0xA0) 12 0 = 0 →
      let x := s.newCtx h
      ends .contextCreate 1 x.ctxid.toNat fun u => u.ctx x.asid = some x ∧ x.ctxid = s.front.nextCtx ∧
        u.front.nextCtx = (if x.ctxid + 1 = 0 then 1 else x.ctxid + 1) ∧ ∀ a, a ≠ x.asid → u.ctx a = s.ctx a) ∧
    (s.ev = .contextDestroy h → (s.ctxs.map Prod.snd).find? (fun y => y.ctxid == id) = some c →
      (c.closed = true → ends .contextDestroy 1 0 fun u => u.ctx c.asid = none) ∧
      (c.closed = false → c.ended ≠ none → exec .contextDestroy s = .next s.wait) ∧
      (c.closed = false → c.ended = none → exec .contextDestroy s = .next (s.endCtx c.asid .host 0x7FF []).wait)) ∧
    (s.ctxOf id = none → (s.ev = .invalidate h → ends .invalidate 0x14 0 fun u => u = s) ∧
      (s.ev = .signal h → bits (s.blkD h 0x20) 20 0 = 0 → (s.blkD h 0x28).toNat < 2 ^ 24 →
        ends .signal 0x14 0 fun u => u = s)) ∧
    (s.ctxOf id = some c → s.ctx c.asid = some c →
      (let w : WinReq := { chip := s.blkD h 0x20, num := s.blkD h 0x28, e := s.readDs (compKey (h.blk + 0x40)) 4 }
       ∀ n, s.ev = .windowOpen h → w.resv = false → s.blkD h 0x30 = 0 → s.blkD h 0x38 = 0 →
        s.winCheck c w 0x20 0x28 = .ok n → ends .windowOpen 1 n fun u =>
          (w.chip = s.chip.setWidth 64 → w.win.kind ≠ 0 → u.window n = w.win) ∧
          (w.chip = s.chip.setWidth 64 → w.win.kind = 0 → (u.window n).kind = 0)) ∧
      (let a := s.blkD h 0x20
       let d := s.readDs (compKey (h.blk + 0x40)) 4
       let e := s.cist c.asid (handleUnit a) (handleIndex a)
       s.ev = .cisternArm h → s.blkD h 0x28 = 0 → s.blkD h 0x30 = 0 → s.blkD h 0x38 = 0 →
        bits (d.getD 0 0) 59 56 = 0 → bits (d.getD 2 0) 49 41 = 0 → handleFor s c.asid a = true →
        descOk (handleUnit a) { Cist.init with desc := d } = true →
        s.armReason c.asid (handleUnit a) (handleIndex a) { Cist.init with desc := d } = 0 →
        (2048 ≤ handleUnit a ∨ ∀ j y, s.keyOf (handleUnit a) c.asid = some j →
          s.bctx (handleUnit a) j = some y → j < 4 ∨ s.imageBad (handleUnit a) y = none) →
        ends .cisternArm 1 0 fun u => u.cist c.asid (handleUnit a) (handleIndex a) =
          { e with st := .armed, desc := d, count := 0, fires := 0, ovf := false }) ∧
      (let a := s.blkD h 0x20
       let d := s.readDs (compKey (h.blk + 0x40)) 4
       s.ev = .cisternArm h → bits a 17 0 = 0 → s.blkD h 0x28 = 0 → s.blkD h 0x30 = 0 → s.blkD h 0x38 = 0 →
        bits (d.getD 0 0) 59 56 = 0 → bits (d.getD 2 0) 49 41 = 0 → bits a 63 42 ≠ s.chip.toNat →
        (s.inBox c.pkgs (bits a 63 42) = false ∨ handleFar c a = false → ends .cisternArm 0x23 0x20 fun u => u = s) ∧
        (s.inBox c.pkgs (bits a 63 42) = true → handleFar c a = true →
          descOk (handleUnit a) { Cist.init with desc := d } = false → ends .cisternArm 0x21 1 fun u => u = s)) ∧
      (let a := s.blkD h 0x20
       s.ev = .signal h → bits a 20 0 = 0 → (s.blkD h 0x28).toNat < 2 ^ 24 → bits a 63 42 ≠ s.chip.toNat →
        (s.inBox c.pkgs (bits a 63 42) = false → ends .signal 0x23 0x20 fun u => u = s) ∧
        (s.inBox c.pkgs (bits a 63 42) = true → 1536 ≤ bits a 41 31 ∨ inRect c.rect (bits a 41 31) = false →
          ends .signal 0x16 0 fun u => u = s)) ∧
      (let a := s.blkD h 0x20
       let n := s.blkD h 0x28
       ∀ i y, s.ev = .signal h → bits a 20 0 = 0 → n.toNat < 2 ^ 24 → s.inBox c.pkgs s.chip.toNat = true →
        bits a 63 42 = s.chip.toNat → s.usable c.asid (bits a 41 31) = true → s.keyOf (bits a 41 31) c.asid = some i →
        s.bctx (bits a 41 31) i = some y → bits a 30 21 < y.quota.sems →
        (i < 4 ∨ s.imageBad (bits a 41 31) y = none) →
        ends .signal 1 0 fun u => s.Posted u (bits a 41 31) c.asid (bits a 30 21) n.toNat) ∧
      (let va := (s.blkD h 0x20).toNat
       let n := (s.blkD h 0x28).toNat
       s.ev = .invalidate h → va % 65536 = 0 → n % 65536 = 0 → n ≠ 0 → ends .invalidate 1 0 fun u =>
        u = { s with tlb := u.tlb } ∧ ∀ p ∈ u.tlb, ∀ t ∈ p.2, t.asid = c.asid → t.va * 2 ^ t.bits + 2 ^ t.bits ≤ va ∨ va + n ≤ t.va * 2 ^ t.bits) ∧
      (let r := s.launchReq h
       let bays := launchBays r.rect
       ∀ k base image s1, s.ev = .launch h → s.launchResv h = false → c.launch = none → r.fieldBad c = none →
        s.inBox c.pkgs s.chip.toNat = true → bays.findSome? (s.bayBad c r) = none → bays ≠ [] →
        s.bayCtxs c.asid = [] → s.baseChan c r.quota.chans bays = some base → s.admit_ c r = .ok k →
        s.readImage (bays.headD 0) c.asid r.image r.imageLen = (.ok image, s1) →
        ∃ t x l, exec .launch s = .next t ∧ t.ctx c.asid = some x ∧ x.launch = some l ∧ x.lseq = c.lseq + 1 ∧
          l.contract = k ∧ x.live = c.live + r.fibres * bays.length ∧
          (∀ b ∈ bays, memBytes t.mem (spadKey c.asid b 0) image.length = image) ∧
          ∀ b ∈ bays, ∃ i y, i < 4 ∧ t.bctx b i = some y ∧ y.asid = c.asid ∧ y.quota = r.quota ∧ y.base = base ∧
            y.launchArg = r.arg ∧ ∀ n < r.fibres, ∃ g, (y.slot n).fib = some g ∧ g.pc = r.entry ∧ g.pri = r.pri ∧
              g.reg 1 = BitVec.ofNat 64 n ∧ g.hm = false) ∧
      (let m := s.hostCmd h
       s.ev = .copy h → (∀ x ∈ s.front.copies, x.1 ≠ h) → s.blkD h 0x20 = 0 → s.blkD h 0x28 = 0 → s.blkD h 0x30 = 0 →
        s.blkD h 0x38 = 0 → m.reserved = false → (m.sk = 1 ∨ m.sk = 2 ∨ m.sk = 4) → (m.dk = 1 ∨ m.dk = 2) → m.badWord = none →
        m.badBay s c.asid = none → m.extent s hostBay c.asid = none →
        ∃ t, exec .copy s = .next t ∧ SameMemory s t ∧
          t.front.copies = s.front.copies ++ [(h, CopyAct.start m)] ∧ ∃ n, (⟨n, .copy h⟩ : Item) ∈ t.agenda) ∧
      (∀ a, s.ev = .copy h → s.front.copies = [(h, a)] → a.bad = none → a.wrote = true → a.cmd.total ≤ a.stop →
        ends .copy 1 0 fun u => u.front.copies = []) ∧
      (let n := bits (s.blkD h 0x28) 15 0
       let l := (s.table (s.blkD h 0x20).toNat 4 n).map planReq
       let here := (l.filter fun x => x.chip == s.chip.toNat).map PlanReq.e
       s.ev = .switchPlan h → (s.blkD h 0x28).toNat < 65536 → l.any PlanReq.resv = false → 1 ≤ n → n ≤ 4096 →
        l.findSome? s.planField = none → s.planBad l = none →
        ends .switchPlan 1 0 fun u => u.front.plan = s.front.plan ++ here ∧
          ∀ e ∈ here, ∃ k, (⟨k, planEv e⟩ : Item) ∈ u.agenda))

/-- A write of DBELL rings the queue of its low six bits, writes of ERRBASE, ERRCFG and ERRHEAD change those
registers, and a write at any other offset changes nothing. FESTAT has READY in bit 63, the time lock in bit 62, which
the time root always has (the model’s choice, assumption log entry 82), and the chip ID below. A record that fits
enters the error queue at its tail, which moves on by its 64-byte units (that ERRTAIL and ERRHEAD count 64-byte units
modulo 2^32 is the model’s reading of R435, assumption log entry 10); a full queue keeps a record of KIND 1 waiting,
while register writes wait for nothing else, and drops and counts one of KIND 2. A host write stores its bytes at its
physical addresses, in whichever stacks these are, and nothing else. (R434, R435, R449.) -/
def Obligations.FrontRegisters : Prop :=
  ∀ (s : State) (off : Nat) (v : Word) (w : List Word) (kind : Nat),
    (s.ev = .registerWrite off v →
      (off = 0 → ∃ t, exec .registerWrite s = .next t ∧ SameMemory s t ∧
        t.agenda = s.agenda ++ [s.newItem (.dbell (bits v 5 0))]) ∧
      (s.front.errWait = [] → s.front.after = [] →
        (off = 0x10 → exec .registerWrite s = .next { s with front := { s.front with errBase := v } }) ∧
        (off = 0x18 → exec .registerWrite s = .next { s with front := { s.front with errCfg := v &&& 0xF00000000 } }) ∧
        (off = 0x20 → exec .registerWrite s = .next { s with front := { s.front with errHead := v } })) ∧
      (off ≠ 0 → off ≠ 0x10 → off ≠ 0x18 → off ≠ 0x20 → exec .registerWrite s = .next s)) ∧
    (s.ev = .errheadWrite v → s.front.errWait = [] → s.front.after = [] →
      exec .errheadWrite s = .next { s with front := { s.front with errHead := v } }) ∧
    ((s.frontReg 8).getLsbD 63 = s.mgmt.ready ∧ (s.frontReg 8).getLsbD 62 = (s.time.locked || s.time.isRoot) ∧
      (s.frontReg 8).setWidth 62 = s.chip.setWidth 62 ∧ s.frontReg 0x28 = s.front.errTail ∧
      s.frontReg 0x30 = s.front.errOvf) ∧
    (s.mgmt.updating = none → s.front.errWait = [] → w.length % 8 = 0 →
      (s.errUsed + w.length / 8 ≤ s.errSize → s.front.errTail.toNat < 2 ^ 32 →
        (s.errPush kind w).front.errTail.toNat = (s.front.errTail.toNat + w.length / 8) % 2 ^ 32 ∧
        ∀ j, j < w.length → (s.errPush kind w).readD (compKey ((s.front.errBase.toNat +
          (s.front.errTail.toNat + j / 8) % s.errSize * 64) % 2 ^ 42) + 8 * (j % 8)) = w.getD j 0) ∧
      (s.errSize < s.errUsed + w.length / 8 →
        (kind = 1 → s.errPush kind w = { s with front := { s.front with errWait := [w] } }) ∧
        (kind = 2 → s.errPush kind w = { s with front := { s.front with errOvf := s.front.errOvf + 1 } }))) ∧
    (∀ a d, s.ev = .hostAccess a (some d) →
      a % 2 ^ 42 + d.length ≤ 2 ^ 42 → ∃ t, exec .hostAccess s = .next t ∧
        (∀ j < d.length, ∀ key, physKey (a + j) = some key → memGet t.mem key = d.getD j 0) ∧
        ∀ x, (∀ j < d.length, physKey (a + j) ≠ some x) → memGet t.mem x = memGet s.mem x) ∧
    (∀ a, s.ev = .hostAccess a none → exec .hostAccess s = .next s)

/-- RESET puts every piece of state but memory, the boot ROM, fuses, stored images and the event log as after reset,
verifies stage 1 and both slots under the fused digest and runs the slot that R452 gives, begins the wipe and leaves
no context; the end of the wipe leaves every byte of device memory zero and companion memory as it was, draws a new
boot key and, outside recovery, makes the front end ready. ATTEST answers its report, which has no certificate and
signature while there is no identity key (the model’s choice, log entry 31); LCSET moves the life cycle along R454
without contexts and wipes; UPDATE of an image that verifies and is not below the minimum writes the inactive slot and
restarts, and is refused otherwise; the restart is one which the new image completes within 1 s or not at all; FENCE
ends the contexts of a bay with reason HOST and stops it, and so does an uncorrectable error in control state; READMIT
wipes a fenced bay, which leaves no context any state there, and lifts the fence where the self-test passes; PORTSET
fences a port or trains it again, and once all eight are FENCED the package is being replaced and its contexts end
with reason HOST (the model reads R464 so, log entry 74); CTRRD answers the counter of the event that an opaque
constant selects for it (R457 leaves the selection to management: log entry 35). A patrol scrub changes no data: what
it corrects leaves everything as it was, what it cannot correct is marked, a line of an instruction cache is dropped
and a bay with an error in control state is fenced; the power stage holds and releases; a junction shutdown resets and
logs, with a code of the model’s choice (assumption log entry 22). (R451, R452, R453, R454, R455, R457, R461, R462,
R463, R464, R466.) -/
def Obligations.ServiceResults : Prop :=
  ∀ (s : State) (k : Nat) (y : Bool),
    (s.ev = .reset → ∃ t, exec .reset s = .next t ∧ SameMemory s t ∧ t.ctxs = [] ∧ t.bays = [] ∧ t.windows = [] ∧
      t.mgmt.ready = false ∧ t.mgmt.wiping = true ∧ t.mgmt.log = s.mgmt.log ∧ t.mgmt.lc = s.mgmt.lc ∧
      t.mgmt.minVer = s.mgmt.minVer ∧ t.agenda = [⟨0, .wipeComplete⟩] ∧ t.mgmt.slot = (s.mgmt.verified.bootSlot).getD 0 ∧
      t.mgmt.recovery = s.mgmt.verified.bootSlot.isNone ∧ t.mgmt.harts = List.replicate 4 s.mgmt.verified.bootSlot ∧
      t.mgmt.ok1 = Config.verifies s.mgmt.keyDigest s.mgmt.img1 ∧ t.mgmt.okA = Config.verifies s.mgmt.keyDigest s.mgmt.imgA ∧
      t.mgmt.okB = Config.verifies s.mgmt.keyDigest s.mgmt.imgB ∧ t.mgmt.keyDigest = s.mgmt.keyDigest ∧ t.mgmt.mrom = sha384 s.mgmt.img1 ∧
      t.mgmt.verA = s.mgmt.verA ∧ t.mgmt.verB = s.mgmt.verB ∧ t = { State.reset with
        mem := s.mem, poison := s.poison, mgmt := t.mgmt, tick := s.tick, free := s.free, nextId := s.nextId }) ∧
    (s.ev = .junctionShutdown → ∃ t, exec .junctionShutdown s = .next t ∧ SameMemory s t ∧ t.ctxs = [] ∧ t.bays = [] ∧
      t.agenda = [⟨0, .wipeComplete⟩] ∧ t.mgmt.log = s.mgmt.log ++ [6]) ∧
    (s.ev = .wipeComplete → s.agenda.any (fun x => x.ev == .wipeComplete) = true → exec .wipeComplete s = .next s) ∧
    (s.ev = .wipeComplete → s.agenda.any (fun x => x.ev == .wipeComplete) = false → ∃ t, exec .wipeComplete s = .next t ∧
      t.mgmt.wiping = false ∧ t.mgmt.bootKey = (Config.freeWord s.free ++ Config.freeWord (s.free + 1) ++
        Config.freeWord (s.free + 2) ++ Config.freeWord (s.free + 3)).setWidth 256 ∧ t.images = [] ∧ t.senders = [] ∧ t.receivers = [] ∧ t.held = [] ∧
      t.agenda.all (fun x => match x.ev with | .packetForward _ h => h.inp.isNone | _ => true) = true ∧
      (∀ a, a < 2 ^ 50 ∨ 2 ^ 51 ≤ a → memGet t.mem a = 0) ∧
      (∀ a, 2 ^ 50 ≤ a → a < 2 ^ 51 → memGet t.mem a = memGet s.mem a) ∧
      (s.mgmt.recovery = false → t.mgmt.ready = true) ∧ (s.mgmt.recovery = true → t.mgmt.ready = s.mgmt.ready)) ∧
    (∀ nonce, s.ev = .attest nonce → ∃ t, exec .attest s = .next t ∧ SameMemory s t ∧ t.mgmt.answer = 0 ∧
      t.mgmt.report = s.report nonce ∧ (s.mgmt.idKey = none → t.mgmt.report = s.reportBody nonce) ∧ t.ctxs = s.ctxs ∧ t.bays = s.bays) ∧
    (s.mgmt.recovery = false → s.ev = .lcset k →
      (s.ctxs = [] → (s.mgmt.lc, k) ∈ [(1, 2), (2, 3), (2, 4), (3, 4)] → ∃ t, exec .lcset s = .next t ∧ SameMemory s t ∧
        t.mgmt.answer = 0 ∧ t.mgmt.lc = k ∧ t.mgmt.ready = false ∧ t.mgmt.wiping = true ∧
        (k = 2 → t.mgmt.idKey.isSome = true) ∧ (k = 4 → t.mgmt.idKey = none) ∧
        t.agenda = s.agenda ++ [s.newItem .wipeComplete]) ∧
      (s.ctxs ≠ [] ∨ (s.mgmt.lc, k) ∉ [(1, 2), (2, 3), (2, 4), (3, 4)] → ∃ t, exec .lcset s = .next t ∧ SameMemory s t ∧
        t.mgmt.answer ≠ 0 ∧ t.mgmt.lc = s.mgmt.lc ∧ t.agenda = s.agenda)) ∧
    (∀ image, s.ev = .update k image → ∃ t, exec .update s = .next t ∧ SameMemory s t ∧
      if Config.verifies s.mgmt.keyDigest image = true ∧ s.mgmt.minVer ≤ k then t.mgmt.answer = 0 ∧
        t.mgmt.updating = some s.mgmt.slot ∧ t.mgmt.harts = List.replicate 4 none ∧ t.mgmt.ver (1 - s.mgmt.slot) = k ∧ t.mgmt.img (1 - s.mgmt.slot) = image ∧
        t.mgmt.updSince = s.now ∧ (t.agenda.drop s.agenda.length).map Item.ev = [.updateRestartComplete, .updateStartTimeout] ∧
        t.agenda.take s.agenda.length = s.agenda
      else t.mgmt.answer ≠ 0 ∧ t.mgmt.updating = s.mgmt.updating ∧ t.mgmt.slot = s.mgmt.slot) ∧
    (s.front.errWait = [] → s.front.after = [] →
      (s.ev = .updateRestartComplete → s.mgmt.updating = some k → s.mgmt.recovery = false →
        s.now < s.mgmt.updSince + 1000000000 → ∃ t, exec .updateRestartComplete s = .next t ∧ t = { s with mgmt := t.mgmt } ∧ t.mgmt.updating = none ∧
          t.mgmt.slot = 1 - k ∧ t.mgmt.harts = List.replicate 4 (some (1 - k)) ∧ t.mgmt.recovery = false ∧
          t.mgmt.sram = (s.mgmt.img (1 - k)).take (2 ^ 23) ∧ t.mgmt.ms1 = sha384 (s.mgmt.img (1 - k))) ∧
      (s.ev = .updateRestartComplete → s.mgmt.updSince + 1000000000 ≤ s.now → exec .updateRestartComplete s = .next s) ∧
      (s.ev = .updateStartTimeout → s.mgmt.updating = some k → s.mgmt.updSince + 1000000000 ≤ s.now →
        exec .updateStartTimeout s = .next { s with mgmt := { s.mgmt with
          updating := none, harts := List.replicate 4 (if s.mgmt.recovery = true then none else some s.mgmt.slot) } })) ∧
    (let fenced := fun (t : State) => SameMemory s t ∧ (t.bay k).fenced = true ∧ (t.bay k).active = none ∧
        ∀ i c x, i < 4 → (i, c) ∈ (s.bay k).ctxs → s.ctx c.asid = some x → x.closed = false →
          (t.ctx c.asid).bind Ctx.ended = some (x.ended.getD .host)
     (s.mgmt.recovery = false → s.ev = .mailboxFence k → k < 1536 →
       ∃ t, exec .mailboxFence s = .next t ∧ fenced t ∧ t.mgmt.answer = 0) ∧
     (∀ n, s.ev = .controlStateError k n → ∃ t, exec .controlStateError s = .next t ∧ fenced t)) ∧
    (s.mgmt.recovery = false →
      (s.ev = .readmit k y → k < 1536 → (s.bay k).fenced = true → ∃ t, exec .readmit s = .next t ∧
        t.mgmt.answer = 0 ∧ (t.bay k).fenced = !y ∧ (t.bay k).ctxs = [] ∧ (∀ b, b ≠ k → t.bay b = s.bay b) ∧
        ∀ a, memGet t.mem a = if ofBay k a = true then 0 else memGet s.mem a) ∧
      (s.ev = .portset k true → k < 8 → ∃ t, exec .portset s = .next t ∧ SameMemory s t ∧ t.mgmt.answer = 0 ∧
        (t.port k).st = .fenced ∧ ((∀ n, n < 8 → n ≠ k → (s.port n).st = .fenced) → ∀ a x, s.ctx a = some x → x.closed = false →
          s.inBox x.pkgs s.chip.toNat = true → (t.ctx a).bind Ctx.ended = some (x.ended.getD .host))) ∧
      (s.ev = .portset k false → k < 8 → (s.port k).st = .fenced → ∃ t, exec .portset s = .next t ∧ SameMemory s t ∧
        t.mgmt.answer = 0 ∧ (t.port k).st = if s.neighbour k = none then .down else .retrain) ∧
      (∀ n, s.ev = .ctrrd k n → k < 40 → n < 16 → ∃ t, exec .ctrrd s = .next t ∧
        SameMemory s t ∧ t.mgmt.answer = 0 ∧ t.mgmt.counters = s.mgmt.counters ∧
        t.mgmt.report = leBytes 6 (tget 0 s.mgmt.counters (k * 16 + Config.counterSel k n % 16)).toNat)) ∧
    (s.mgmt.recovery = true → (s.ev = .mailboxFence k ∨ s.ev = .readmit k y ∨ s.ev = .portset k y ∨ s.ev = .lcset k) →
      ∃ t, exec s.ev.instr s = .next t ∧ SameMemory s t ∧ t.mgmt.answer ≠ 0 ∧ t.bays = s.bays ∧ t.ports = s.ports ∧
        t.mgmt.lc = s.mgmt.lc) ∧
    (∀ at_ found, s.ev = .patrolScrub at_ found → ∃ t, exec .patrolScrub s = .next t ∧
      (∀ a, a < 2 ^ 50 ∨ 2 ^ 51 ≤ a → memGet t.mem a = memGet s.mem a) ∧
      (at_ = .mem k →
        (found = .corrected → SameMemory s t ∧ t.poison = s.poison) ∧
        (found = .uncorrectable → k < 2 ^ 50 → ∀ u, u / 8 = k / 64 → u ∈ t.poison) ∧
        (found = .nothing → ∀ u, u * 8 < 2 ^ 50 ∨ 2 ^ 51 ≤ u * 8 → (u ∈ t.poison ↔ u ∈ s.poison)) ∧
        (found = .nothing → k < 2 ^ 50 → s.bad (64 * (k / 64)) 64 = none → t = s)) ∧
      (∀ n, at_ = .icache n k → found ≠ .nothing → SameMemory s t ∧ tfind (t.bay n).icache k = none) ∧
      (∀ n, at_ = .control n k → (found = .uncorrectable → (t.bay n).fenced = true) ∧ (found = .nothing → t = s))) ∧
    (s.ev = .powerThrottle y → ∃ t, exec .powerThrottle s = .next t ∧ SameMemory s t ∧ t.mgmt.throttle = y ∧
      t.ctxs = s.ctxs ∧ t.bays = s.bays)
end

