-- ==== Sys2Proof/Laws/State.lean ====
section
/-!
SUPPORT. What each named update of the state and of a fibre leaves alone, field by field.
-/
namespace Sys2Proof.Machine


/-! ### State.modBay -/

@[simp] theorem State.modBay_chip (s : State) (b : Nat) (h : Bay → Bay) : (s.modBay b h).chip = s.chip := rfl
@[simp] theorem State.modBay_dims (s : State) (b : Nat) (h : Bay → Bay) : (s.modBay b h).dims = s.dims := rfl
@[simp] theorem State.modBay_mem (s : State) (b : Nat) (h : Bay → Bay) : (s.modBay b h).mem = s.mem := rfl
@[simp] theorem State.modBay_poison (s : State) (b : Nat) (h : Bay → Bay) : (s.modBay b h).poison = s.poison := rfl
@[simp] theorem State.modBay_ctxs (s : State) (b : Nat) (h : Bay → Bay) : (s.modBay b h).ctxs = s.ctxs := rfl
@[simp] theorem State.modBay_tlb (s : State) (b : Nat) (h : Bay → Bay) : (s.modBay b h).tlb = s.tlb := rfl
@[simp] theorem State.modBay_dcists (s : State) (b : Nat) (h : Bay → Bay) : (s.modBay b h).dcists = s.dcists := rfl
@[simp] theorem State.modBay_mig (s : State) (b : Nat) (h : Bay → Bay) : (s.modBay b h).mig = s.mig := rfl
@[simp] theorem State.modBay_images (s : State) (b : Nat) (h : Bay → Bay) : (s.modBay b h).images = s.images := rfl
@[simp] theorem State.modBay_senders (s : State) (b : Nat) (h : Bay → Bay) : (s.modBay b h).senders = s.senders := rfl
@[simp] theorem State.modBay_receivers (s : State) (b : Nat) (h : Bay → Bay) : (s.modBay b h).receivers = s.receivers := rfl
@[simp] theorem State.modBay_stale (s : State) (b : Nat) (h : Bay → Bay) : (s.modBay b h).stale = s.stale := rfl
@[simp] theorem State.modBay_toks (s : State) (b : Nat) (h : Bay → Bay) : (s.modBay b h).toks = s.toks := rfl
@[simp] theorem State.modBay_cons (s : State) (b : Nat) (h : Bay → Bay) : (s.modBay b h).cons = s.cons := rfl
@[simp] theorem State.modBay_outs (s : State) (b : Nat) (h : Bay → Bay) : (s.modBay b h).outs = s.outs := rfl
@[simp] theorem State.modBay_windows (s : State) (b : Nat) (h : Bay → Bay) : (s.modBay b h).windows = s.windows := rfl
@[simp] theorem State.modBay_groups (s : State) (b : Nat) (h : Bay → Bay) : (s.modBay b h).groups = s.groups := rfl
@[simp] theorem State.modBay_ports (s : State) (b : Nat) (h : Bay → Bay) : (s.modBay b h).ports = s.ports := rfl
@[simp] theorem State.modBay_failed (s : State) (b : Nat) (h : Bay → Bay) : (s.modBay b h).failed = s.failed := rfl
@[simp] theorem State.modBay_held (s : State) (b : Nat) (h : Bay → Bay) : (s.modBay b h).held = s.held := rfl
@[simp] theorem State.modBay_front (s : State) (b : Nat) (h : Bay → Bay) : (s.modBay b h).front = s.front := rfl
@[simp] theorem State.modBay_mgmt (s : State) (b : Nat) (h : Bay → Bay) : (s.modBay b h).mgmt = s.mgmt := rfl
@[simp] theorem State.modBay_time (s : State) (b : Nat) (h : Bay → Bay) : (s.modBay b h).time = s.time := rfl
@[simp] theorem State.modBay_agenda (s : State) (b : Nat) (h : Bay → Bay) : (s.modBay b h).agenda = s.agenda := rfl
@[simp] theorem State.modBay_ev (s : State) (b : Nat) (h : Bay → Bay) : (s.modBay b h).ev = s.ev := rfl
@[simp] theorem State.modBay_lane (s : State) (b : Nat) (h : Bay → Bay) : (s.modBay b h).lane = s.lane := rfl
@[simp] theorem State.modBay_cur (s : State) (b : Nat) (h : Bay → Bay) : (s.modBay b h).cur = s.cur := rfl
@[simp] theorem State.modBay_tick (s : State) (b : Nat) (h : Bay → Bay) : (s.modBay b h).tick = s.tick := rfl
@[simp] theorem State.modBay_free (s : State) (b : Nat) (h : Bay → Bay) : (s.modBay b h).free = s.free := rfl
@[simp] theorem State.modBay_nextId (s : State) (b : Nat) (h : Bay → Bay) : (s.modBay b h).nextId = s.nextId := rfl

/-! ### State.modC -/

@[simp] theorem State.modC_chip (s : State) (b i : Nat) (h : BayCtx → BayCtx) : (s.modC b i h).chip = s.chip := rfl
@[simp] theorem State.modC_dims (s : State) (b i : Nat) (h : BayCtx → BayCtx) : (s.modC b i h).dims = s.dims := rfl
@[simp] theorem State.modC_mem (s : State) (b i : Nat) (h : BayCtx → BayCtx) : (s.modC b i h).mem = s.mem := rfl
@[simp] theorem State.modC_poison (s : State) (b i : Nat) (h : BayCtx → BayCtx) : (s.modC b i h).poison = s.poison := rfl
@[simp] theorem State.modC_ctxs (s : State) (b i : Nat) (h : BayCtx → BayCtx) : (s.modC b i h).ctxs = s.ctxs := rfl
@[simp] theorem State.modC_tlb (s : State) (b i : Nat) (h : BayCtx → BayCtx) : (s.modC b i h).tlb = s.tlb := rfl
@[simp] theorem State.modC_dcists (s : State) (b i : Nat) (h : BayCtx → BayCtx) : (s.modC b i h).dcists = s.dcists := rfl
@[simp] theorem State.modC_mig (s : State) (b i : Nat) (h : BayCtx → BayCtx) : (s.modC b i h).mig = s.mig := rfl
@[simp] theorem State.modC_images (s : State) (b i : Nat) (h : BayCtx → BayCtx) : (s.modC b i h).images = s.images := rfl
@[simp] theorem State.modC_senders (s : State) (b i : Nat) (h : BayCtx → BayCtx) : (s.modC b i h).senders = s.senders := rfl
@[simp] theorem State.modC_receivers (s : State) (b i : Nat) (h : BayCtx → BayCtx) : (s.modC b i h).receivers = s.receivers := rfl
@[simp] theorem State.modC_stale (s : State) (b i : Nat) (h : BayCtx → BayCtx) : (s.modC b i h).stale = s.stale := rfl
@[simp] theorem State.modC_toks (s : State) (b i : Nat) (h : BayCtx → BayCtx) : (s.modC b i h).toks = s.toks := rfl
@[simp] theorem State.modC_cons (s : State) (b i : Nat) (h : BayCtx → BayCtx) : (s.modC b i h).cons = s.cons := rfl
@[simp] theorem State.modC_outs (s : State) (b i : Nat) (h : BayCtx → BayCtx) : (s.modC b i h).outs = s.outs := rfl
@[simp] theorem State.modC_windows (s : State) (b i : Nat) (h : BayCtx → BayCtx) : (s.modC b i h).windows = s.windows := rfl
@[simp] theorem State.modC_groups (s : State) (b i : Nat) (h : BayCtx → BayCtx) : (s.modC b i h).groups = s.groups := rfl
@[simp] theorem State.modC_ports (s : State) (b i : Nat) (h : BayCtx → BayCtx) : (s.modC b i h).ports = s.ports := rfl
@[simp] theorem State.modC_failed (s : State) (b i : Nat) (h : BayCtx → BayCtx) : (s.modC b i h).failed = s.failed := rfl
@[simp] theorem State.modC_held (s : State) (b i : Nat) (h : BayCtx → BayCtx) : (s.modC b i h).held = s.held := rfl
@[simp] theorem State.modC_front (s : State) (b i : Nat) (h : BayCtx → BayCtx) : (s.modC b i h).front = s.front := rfl
@[simp] theorem State.modC_mgmt (s : State) (b i : Nat) (h : BayCtx → BayCtx) : (s.modC b i h).mgmt = s.mgmt := rfl
@[simp] theorem State.modC_time (s : State) (b i : Nat) (h : BayCtx → BayCtx) : (s.modC b i h).time = s.time := rfl
@[simp] theorem State.modC_agenda (s : State) (b i : Nat) (h : BayCtx → BayCtx) : (s.modC b i h).agenda = s.agenda := rfl
@[simp] theorem State.modC_ev (s : State) (b i : Nat) (h : BayCtx → BayCtx) : (s.modC b i h).ev = s.ev := rfl
@[simp] theorem State.modC_lane (s : State) (b i : Nat) (h : BayCtx → BayCtx) : (s.modC b i h).lane = s.lane := rfl
@[simp] theorem State.modC_cur (s : State) (b i : Nat) (h : BayCtx → BayCtx) : (s.modC b i h).cur = s.cur := rfl
@[simp] theorem State.modC_tick (s : State) (b i : Nat) (h : BayCtx → BayCtx) : (s.modC b i h).tick = s.tick := rfl
@[simp] theorem State.modC_free (s : State) (b i : Nat) (h : BayCtx → BayCtx) : (s.modC b i h).free = s.free := rfl
@[simp] theorem State.modC_nextId (s : State) (b i : Nat) (h : BayCtx → BayCtx) : (s.modC b i h).nextId = s.nextId := rfl

/-! ### State.modCtx -/

@[simp] theorem State.modCtx_chip (s : State) (a : Nat) (h : Ctx → Ctx) : (s.modCtx a h).chip = s.chip := rfl
@[simp] theorem State.modCtx_dims (s : State) (a : Nat) (h : Ctx → Ctx) : (s.modCtx a h).dims = s.dims := rfl
@[simp] theorem State.modCtx_mem (s : State) (a : Nat) (h : Ctx → Ctx) : (s.modCtx a h).mem = s.mem := rfl
@[simp] theorem State.modCtx_poison (s : State) (a : Nat) (h : Ctx → Ctx) : (s.modCtx a h).poison = s.poison := rfl
@[simp] theorem State.modCtx_bays (s : State) (a : Nat) (h : Ctx → Ctx) : (s.modCtx a h).bays = s.bays := rfl
@[simp] theorem State.modCtx_tlb (s : State) (a : Nat) (h : Ctx → Ctx) : (s.modCtx a h).tlb = s.tlb := rfl
@[simp] theorem State.modCtx_dcists (s : State) (a : Nat) (h : Ctx → Ctx) : (s.modCtx a h).dcists = s.dcists := rfl
@[simp] theorem State.modCtx_mig (s : State) (a : Nat) (h : Ctx → Ctx) : (s.modCtx a h).mig = s.mig := rfl
@[simp] theorem State.modCtx_images (s : State) (a : Nat) (h : Ctx → Ctx) : (s.modCtx a h).images = s.images := rfl
@[simp] theorem State.modCtx_senders (s : State) (a : Nat) (h : Ctx → Ctx) : (s.modCtx a h).senders = s.senders := rfl
@[simp] theorem State.modCtx_receivers (s : State) (a : Nat) (h : Ctx → Ctx) : (s.modCtx a h).receivers = s.receivers := rfl
@[simp] theorem State.modCtx_stale (s : State) (a : Nat) (h : Ctx → Ctx) : (s.modCtx a h).stale = s.stale := rfl
@[simp] theorem State.modCtx_toks (s : State) (a : Nat) (h : Ctx → Ctx) : (s.modCtx a h).toks = s.toks := rfl
@[simp] theorem State.modCtx_cons (s : State) (a : Nat) (h : Ctx → Ctx) : (s.modCtx a h).cons = s.cons := rfl
@[simp] theorem State.modCtx_outs (s : State) (a : Nat) (h : Ctx → Ctx) : (s.modCtx a h).outs = s.outs := rfl
@[simp] theorem State.modCtx_windows (s : State) (a : Nat) (h : Ctx → Ctx) : (s.modCtx a h).windows = s.windows := rfl
@[simp] theorem State.modCtx_groups (s : State) (a : Nat) (h : Ctx → Ctx) : (s.modCtx a h).groups = s.groups := rfl
@[simp] theorem State.modCtx_ports (s : State) (a : Nat) (h : Ctx → Ctx) : (s.modCtx a h).ports = s.ports := rfl
@[simp] theorem State.modCtx_failed (s : State) (a : Nat) (h : Ctx → Ctx) : (s.modCtx a h).failed = s.failed := rfl
@[simp] theorem State.modCtx_held (s : State) (a : Nat) (h : Ctx → Ctx) : (s.modCtx a h).held = s.held := rfl
@[simp] theorem State.modCtx_front (s : State) (a : Nat) (h : Ctx → Ctx) : (s.modCtx a h).front = s.front := rfl
@[simp] theorem State.modCtx_mgmt (s : State) (a : Nat) (h : Ctx → Ctx) : (s.modCtx a h).mgmt = s.mgmt := rfl
@[simp] theorem State.modCtx_time (s : State) (a : Nat) (h : Ctx → Ctx) : (s.modCtx a h).time = s.time := rfl
@[simp] theorem State.modCtx_agenda (s : State) (a : Nat) (h : Ctx → Ctx) : (s.modCtx a h).agenda = s.agenda := rfl
@[simp] theorem State.modCtx_ev (s : State) (a : Nat) (h : Ctx → Ctx) : (s.modCtx a h).ev = s.ev := rfl
@[simp] theorem State.modCtx_lane (s : State) (a : Nat) (h : Ctx → Ctx) : (s.modCtx a h).lane = s.lane := rfl
@[simp] theorem State.modCtx_cur (s : State) (a : Nat) (h : Ctx → Ctx) : (s.modCtx a h).cur = s.cur := rfl
@[simp] theorem State.modCtx_tick (s : State) (a : Nat) (h : Ctx → Ctx) : (s.modCtx a h).tick = s.tick := rfl
@[simp] theorem State.modCtx_free (s : State) (a : Nat) (h : Ctx → Ctx) : (s.modCtx a h).free = s.free := rfl
@[simp] theorem State.modCtx_nextId (s : State) (a : Nat) (h : Ctx → Ctx) : (s.modCtx a h).nextId = s.nextId := rfl

/-! ### State.modF -/

@[simp] theorem State.modF_chip (s : State) (b i k : Nat) (h : Fibre → Fibre) : (s.modF b i k h).chip = s.chip := rfl
@[simp] theorem State.modF_dims (s : State) (b i k : Nat) (h : Fibre → Fibre) : (s.modF b i k h).dims = s.dims := rfl
@[simp] theorem State.modF_mem (s : State) (b i k : Nat) (h : Fibre → Fibre) : (s.modF b i k h).mem = s.mem := rfl
@[simp] theorem State.modF_poison (s : State) (b i k : Nat) (h : Fibre → Fibre) : (s.modF b i k h).poison = s.poison := rfl
@[simp] theorem State.modF_ctxs (s : State) (b i k : Nat) (h : Fibre → Fibre) : (s.modF b i k h).ctxs = s.ctxs := rfl
@[simp] theorem State.modF_tlb (s : State) (b i k : Nat) (h : Fibre → Fibre) : (s.modF b i k h).tlb = s.tlb := rfl
@[simp] theorem State.modF_dcists (s : State) (b i k : Nat) (h : Fibre → Fibre) : (s.modF b i k h).dcists = s.dcists := rfl
@[simp] theorem State.modF_mig (s : State) (b i k : Nat) (h : Fibre → Fibre) : (s.modF b i k h).mig = s.mig := rfl
@[simp] theorem State.modF_images (s : State) (b i k : Nat) (h : Fibre → Fibre) : (s.modF b i k h).images = s.images := rfl
@[simp] theorem State.modF_senders (s : State) (b i k : Nat) (h : Fibre → Fibre) : (s.modF b i k h).senders = s.senders := rfl
@[simp] theorem State.modF_receivers (s : State) (b i k : Nat) (h : Fibre → Fibre) : (s.modF b i k h).receivers = s.receivers := rfl
@[simp] theorem State.modF_stale (s : State) (b i k : Nat) (h : Fibre → Fibre) : (s.modF b i k h).stale = s.stale := rfl
@[simp] theorem State.modF_toks (s : State) (b i k : Nat) (h : Fibre → Fibre) : (s.modF b i k h).toks = s.toks := rfl
@[simp] theorem State.modF_cons (s : State) (b i k : Nat) (h : Fibre → Fibre) : (s.modF b i k h).cons = s.cons := rfl
@[simp] theorem State.modF_outs (s : State) (b i k : Nat) (h : Fibre → Fibre) : (s.modF b i k h).outs = s.outs := rfl
@[simp] theorem State.modF_windows (s : State) (b i k : Nat) (h : Fibre → Fibre) : (s.modF b i k h).windows = s.windows := rfl
@[simp] theorem State.modF_groups (s : State) (b i k : Nat) (h : Fibre → Fibre) : (s.modF b i k h).groups = s.groups := rfl
@[simp] theorem State.modF_ports (s : State) (b i k : Nat) (h : Fibre → Fibre) : (s.modF b i k h).ports = s.ports := rfl
@[simp] theorem State.modF_failed (s : State) (b i k : Nat) (h : Fibre → Fibre) : (s.modF b i k h).failed = s.failed := rfl
@[simp] theorem State.modF_held (s : State) (b i k : Nat) (h : Fibre → Fibre) : (s.modF b i k h).held = s.held := rfl
@[simp] theorem State.modF_front (s : State) (b i k : Nat) (h : Fibre → Fibre) : (s.modF b i k h).front = s.front := rfl
@[simp] theorem State.modF_mgmt (s : State) (b i k : Nat) (h : Fibre → Fibre) : (s.modF b i k h).mgmt = s.mgmt := rfl
@[simp] theorem State.modF_time (s : State) (b i k : Nat) (h : Fibre → Fibre) : (s.modF b i k h).time = s.time := rfl
@[simp] theorem State.modF_agenda (s : State) (b i k : Nat) (h : Fibre → Fibre) : (s.modF b i k h).agenda = s.agenda := rfl
@[simp] theorem State.modF_ev (s : State) (b i k : Nat) (h : Fibre → Fibre) : (s.modF b i k h).ev = s.ev := rfl
@[simp] theorem State.modF_lane (s : State) (b i k : Nat) (h : Fibre → Fibre) : (s.modF b i k h).lane = s.lane := rfl
@[simp] theorem State.modF_cur (s : State) (b i k : Nat) (h : Fibre → Fibre) : (s.modF b i k h).cur = s.cur := rfl
@[simp] theorem State.modF_tick (s : State) (b i k : Nat) (h : Fibre → Fibre) : (s.modF b i k h).tick = s.tick := rfl
@[simp] theorem State.modF_free (s : State) (b i k : Nat) (h : Fibre → Fibre) : (s.modF b i k h).free = s.free := rfl
@[simp] theorem State.modF_nextId (s : State) (b i k : Nat) (h : Fibre → Fibre) : (s.modF b i k h).nextId = s.nextId := rfl

/-! ### State.modCur -/

@[simp] theorem State.modCur_chip (s : State) (h : Fibre → Fibre) : (s.modCur h).chip = s.chip := rfl
@[simp] theorem State.modCur_dims (s : State) (h : Fibre → Fibre) : (s.modCur h).dims = s.dims := rfl
@[simp] theorem State.modCur_mem (s : State) (h : Fibre → Fibre) : (s.modCur h).mem = s.mem := rfl
@[simp] theorem State.modCur_poison (s : State) (h : Fibre → Fibre) : (s.modCur h).poison = s.poison := rfl
@[simp] theorem State.modCur_ctxs (s : State) (h : Fibre → Fibre) : (s.modCur h).ctxs = s.ctxs := rfl
@[simp] theorem State.modCur_tlb (s : State) (h : Fibre → Fibre) : (s.modCur h).tlb = s.tlb := rfl
@[simp] theorem State.modCur_dcists (s : State) (h : Fibre → Fibre) : (s.modCur h).dcists = s.dcists := rfl
@[simp] theorem State.modCur_mig (s : State) (h : Fibre → Fibre) : (s.modCur h).mig = s.mig := rfl
@[simp] theorem State.modCur_images (s : State) (h : Fibre → Fibre) : (s.modCur h).images = s.images := rfl
@[simp] theorem State.modCur_senders (s : State) (h : Fibre → Fibre) : (s.modCur h).senders = s.senders := rfl
@[simp] theorem State.modCur_receivers (s : State) (h : Fibre → Fibre) : (s.modCur h).receivers = s.receivers := rfl
@[simp] theorem State.modCur_stale (s : State) (h : Fibre → Fibre) : (s.modCur h).stale = s.stale := rfl
@[simp] theorem State.modCur_toks (s : State) (h : Fibre → Fibre) : (s.modCur h).toks = s.toks := rfl
@[simp] theorem State.modCur_cons (s : State) (h : Fibre → Fibre) : (s.modCur h).cons = s.cons := rfl
@[simp] theorem State.modCur_outs (s : State) (h : Fibre → Fibre) : (s.modCur h).outs = s.outs := rfl
@[simp] theorem State.modCur_windows (s : State) (h : Fibre → Fibre) : (s.modCur h).windows = s.windows := rfl
@[simp] theorem State.modCur_groups (s : State) (h : Fibre → Fibre) : (s.modCur h).groups = s.groups := rfl
@[simp] theorem State.modCur_ports (s : State) (h : Fibre → Fibre) : (s.modCur h).ports = s.ports := rfl
@[simp] theorem State.modCur_failed (s : State) (h : Fibre → Fibre) : (s.modCur h).failed = s.failed := rfl
@[simp] theorem State.modCur_held (s : State) (h : Fibre → Fibre) : (s.modCur h).held = s.held := rfl
@[simp] theorem State.modCur_front (s : State) (h : Fibre → Fibre) : (s.modCur h).front = s.front := rfl
@[simp] theorem State.modCur_mgmt (s : State) (h : Fibre → Fibre) : (s.modCur h).mgmt = s.mgmt := rfl
@[simp] theorem State.modCur_time (s : State) (h : Fibre → Fibre) : (s.modCur h).time = s.time := rfl
@[simp] theorem State.modCur_agenda (s : State) (h : Fibre → Fibre) : (s.modCur h).agenda = s.agenda := rfl
@[simp] theorem State.modCur_ev (s : State) (h : Fibre → Fibre) : (s.modCur h).ev = s.ev := rfl
@[simp] theorem State.modCur_lane (s : State) (h : Fibre → Fibre) : (s.modCur h).lane = s.lane := rfl
@[simp] theorem State.modCur_cur (s : State) (h : Fibre → Fibre) : (s.modCur h).cur = s.cur := rfl
@[simp] theorem State.modCur_tick (s : State) (h : Fibre → Fibre) : (s.modCur h).tick = s.tick := rfl
@[simp] theorem State.modCur_free (s : State) (h : Fibre → Fibre) : (s.modCur h).free = s.free := rfl
@[simp] theorem State.modCur_nextId (s : State) (h : Fibre → Fibre) : (s.modCur h).nextId = s.nextId := rfl

/-! ### State.modCurC -/

@[simp] theorem State.modCurC_chip (s : State) (h : BayCtx → BayCtx) : (s.modCurC h).chip = s.chip := rfl
@[simp] theorem State.modCurC_dims (s : State) (h : BayCtx → BayCtx) : (s.modCurC h).dims = s.dims := rfl
@[simp] theorem State.modCurC_mem (s : State) (h : BayCtx → BayCtx) : (s.modCurC h).mem = s.mem := rfl
@[simp] theorem State.modCurC_poison (s : State) (h : BayCtx → BayCtx) : (s.modCurC h).poison = s.poison := rfl
@[simp] theorem State.modCurC_ctxs (s : State) (h : BayCtx → BayCtx) : (s.modCurC h).ctxs = s.ctxs := rfl
@[simp] theorem State.modCurC_tlb (s : State) (h : BayCtx → BayCtx) : (s.modCurC h).tlb = s.tlb := rfl
@[simp] theorem State.modCurC_dcists (s : State) (h : BayCtx → BayCtx) : (s.modCurC h).dcists = s.dcists := rfl
@[simp] theorem State.modCurC_mig (s : State) (h : BayCtx → BayCtx) : (s.modCurC h).mig = s.mig := rfl
@[simp] theorem State.modCurC_images (s : State) (h : BayCtx → BayCtx) : (s.modCurC h).images = s.images := rfl
@[simp] theorem State.modCurC_senders (s : State) (h : BayCtx → BayCtx) : (s.modCurC h).senders = s.senders := rfl
@[simp] theorem State.modCurC_receivers (s : State) (h : BayCtx → BayCtx) : (s.modCurC h).receivers = s.receivers := rfl
@[simp] theorem State.modCurC_stale (s : State) (h : BayCtx → BayCtx) : (s.modCurC h).stale = s.stale := rfl
@[simp] theorem State.modCurC_toks (s : State) (h : BayCtx → BayCtx) : (s.modCurC h).toks = s.toks := rfl
@[simp] theorem State.modCurC_cons (s : State) (h : BayCtx → BayCtx) : (s.modCurC h).cons = s.cons := rfl
@[simp] theorem State.modCurC_outs (s : State) (h : BayCtx → BayCtx) : (s.modCurC h).outs = s.outs := rfl
@[simp] theorem State.modCurC_windows (s : State) (h : BayCtx → BayCtx) : (s.modCurC h).windows = s.windows := rfl
@[simp] theorem State.modCurC_groups (s : State) (h : BayCtx → BayCtx) : (s.modCurC h).groups = s.groups := rfl
@[simp] theorem State.modCurC_ports (s : State) (h : BayCtx → BayCtx) : (s.modCurC h).ports = s.ports := rfl
@[simp] theorem State.modCurC_failed (s : State) (h : BayCtx → BayCtx) : (s.modCurC h).failed = s.failed := rfl
@[simp] theorem State.modCurC_held (s : State) (h : BayCtx → BayCtx) : (s.modCurC h).held = s.held := rfl
@[simp] theorem State.modCurC_front (s : State) (h : BayCtx → BayCtx) : (s.modCurC h).front = s.front := rfl
@[simp] theorem State.modCurC_mgmt (s : State) (h : BayCtx → BayCtx) : (s.modCurC h).mgmt = s.mgmt := rfl
@[simp] theorem State.modCurC_time (s : State) (h : BayCtx → BayCtx) : (s.modCurC h).time = s.time := rfl
@[simp] theorem State.modCurC_agenda (s : State) (h : BayCtx → BayCtx) : (s.modCurC h).agenda = s.agenda := rfl
@[simp] theorem State.modCurC_ev (s : State) (h : BayCtx → BayCtx) : (s.modCurC h).ev = s.ev := rfl
@[simp] theorem State.modCurC_lane (s : State) (h : BayCtx → BayCtx) : (s.modCurC h).lane = s.lane := rfl
@[simp] theorem State.modCurC_cur (s : State) (h : BayCtx → BayCtx) : (s.modCurC h).cur = s.cur := rfl
@[simp] theorem State.modCurC_tick (s : State) (h : BayCtx → BayCtx) : (s.modCurC h).tick = s.tick := rfl
@[simp] theorem State.modCurC_free (s : State) (h : BayCtx → BayCtx) : (s.modCurC h).free = s.free := rfl
@[simp] theorem State.modCurC_nextId (s : State) (h : BayCtx → BayCtx) : (s.modCurC h).nextId = s.nextId := rfl

/-! ### State.modU -/

@[simp] theorem State.modU_chip (s : State) (u : Nat) (h : Fibre → Fibre) : (s.modU u h).chip = s.chip := rfl
@[simp] theorem State.modU_dims (s : State) (u : Nat) (h : Fibre → Fibre) : (s.modU u h).dims = s.dims := rfl
@[simp] theorem State.modU_mem (s : State) (u : Nat) (h : Fibre → Fibre) : (s.modU u h).mem = s.mem := rfl
@[simp] theorem State.modU_poison (s : State) (u : Nat) (h : Fibre → Fibre) : (s.modU u h).poison = s.poison := rfl
@[simp] theorem State.modU_ctxs (s : State) (u : Nat) (h : Fibre → Fibre) : (s.modU u h).ctxs = s.ctxs := rfl
@[simp] theorem State.modU_tlb (s : State) (u : Nat) (h : Fibre → Fibre) : (s.modU u h).tlb = s.tlb := rfl
@[simp] theorem State.modU_dcists (s : State) (u : Nat) (h : Fibre → Fibre) : (s.modU u h).dcists = s.dcists := rfl
@[simp] theorem State.modU_images (s : State) (u : Nat) (h : Fibre → Fibre) : (s.modU u h).images = s.images := rfl
@[simp] theorem State.modU_senders (s : State) (u : Nat) (h : Fibre → Fibre) : (s.modU u h).senders = s.senders := rfl
@[simp] theorem State.modU_receivers (s : State) (u : Nat) (h : Fibre → Fibre) : (s.modU u h).receivers = s.receivers := rfl
@[simp] theorem State.modU_stale (s : State) (u : Nat) (h : Fibre → Fibre) : (s.modU u h).stale = s.stale := rfl
@[simp] theorem State.modU_toks (s : State) (u : Nat) (h : Fibre → Fibre) : (s.modU u h).toks = s.toks := rfl
@[simp] theorem State.modU_cons (s : State) (u : Nat) (h : Fibre → Fibre) : (s.modU u h).cons = s.cons := rfl
@[simp] theorem State.modU_outs (s : State) (u : Nat) (h : Fibre → Fibre) : (s.modU u h).outs = s.outs := rfl
@[simp] theorem State.modU_windows (s : State) (u : Nat) (h : Fibre → Fibre) : (s.modU u h).windows = s.windows := rfl
@[simp] theorem State.modU_groups (s : State) (u : Nat) (h : Fibre → Fibre) : (s.modU u h).groups = s.groups := rfl
@[simp] theorem State.modU_ports (s : State) (u : Nat) (h : Fibre → Fibre) : (s.modU u h).ports = s.ports := rfl
@[simp] theorem State.modU_failed (s : State) (u : Nat) (h : Fibre → Fibre) : (s.modU u h).failed = s.failed := rfl
@[simp] theorem State.modU_held (s : State) (u : Nat) (h : Fibre → Fibre) : (s.modU u h).held = s.held := rfl
@[simp] theorem State.modU_front (s : State) (u : Nat) (h : Fibre → Fibre) : (s.modU u h).front = s.front := rfl
@[simp] theorem State.modU_mgmt (s : State) (u : Nat) (h : Fibre → Fibre) : (s.modU u h).mgmt = s.mgmt := rfl
@[simp] theorem State.modU_time (s : State) (u : Nat) (h : Fibre → Fibre) : (s.modU u h).time = s.time := rfl
@[simp] theorem State.modU_agenda (s : State) (u : Nat) (h : Fibre → Fibre) : (s.modU u h).agenda = s.agenda := rfl
@[simp] theorem State.modU_ev (s : State) (u : Nat) (h : Fibre → Fibre) : (s.modU u h).ev = s.ev := rfl
@[simp] theorem State.modU_lane (s : State) (u : Nat) (h : Fibre → Fibre) : (s.modU u h).lane = s.lane := rfl
@[simp] theorem State.modU_cur (s : State) (u : Nat) (h : Fibre → Fibre) : (s.modU u h).cur = s.cur := rfl
@[simp] theorem State.modU_tick (s : State) (u : Nat) (h : Fibre → Fibre) : (s.modU u h).tick = s.tick := rfl
@[simp] theorem State.modU_free (s : State) (u : Nat) (h : Fibre → Fibre) : (s.modU u h).free = s.free := rfl
@[simp] theorem State.modU_nextId (s : State) (u : Nat) (h : Fibre → Fibre) : (s.modU u h).nextId = s.nextId := rfl

/-! ### State.post -/

@[simp] theorem State.post_chip (s : State) (l : Nat) (e : Ev) : (s.post l e).chip = s.chip := rfl
@[simp] theorem State.post_dims (s : State) (l : Nat) (e : Ev) : (s.post l e).dims = s.dims := rfl
@[simp] theorem State.post_mem (s : State) (l : Nat) (e : Ev) : (s.post l e).mem = s.mem := rfl
@[simp] theorem State.post_poison (s : State) (l : Nat) (e : Ev) : (s.post l e).poison = s.poison := rfl
@[simp] theorem State.post_bays (s : State) (l : Nat) (e : Ev) : (s.post l e).bays = s.bays := rfl
@[simp] theorem State.post_ctxs (s : State) (l : Nat) (e : Ev) : (s.post l e).ctxs = s.ctxs := rfl
@[simp] theorem State.post_tlb (s : State) (l : Nat) (e : Ev) : (s.post l e).tlb = s.tlb := rfl
@[simp] theorem State.post_dcists (s : State) (l : Nat) (e : Ev) : (s.post l e).dcists = s.dcists := rfl
@[simp] theorem State.post_mig (s : State) (l : Nat) (e : Ev) : (s.post l e).mig = s.mig := rfl
@[simp] theorem State.post_images (s : State) (l : Nat) (e : Ev) : (s.post l e).images = s.images := rfl
@[simp] theorem State.post_senders (s : State) (l : Nat) (e : Ev) : (s.post l e).senders = s.senders := rfl
@[simp] theorem State.post_receivers (s : State) (l : Nat) (e : Ev) : (s.post l e).receivers = s.receivers := rfl
@[simp] theorem State.post_stale (s : State) (l : Nat) (e : Ev) : (s.post l e).stale = s.stale := rfl
@[simp] theorem State.post_toks (s : State) (l : Nat) (e : Ev) : (s.post l e).toks = s.toks := rfl
@[simp] theorem State.post_cons (s : State) (l : Nat) (e : Ev) : (s.post l e).cons = s.cons := rfl
@[simp] theorem State.post_outs (s : State) (l : Nat) (e : Ev) : (s.post l e).outs = s.outs := rfl
@[simp] theorem State.post_windows (s : State) (l : Nat) (e : Ev) : (s.post l e).windows = s.windows := rfl
@[simp] theorem State.post_groups (s : State) (l : Nat) (e : Ev) : (s.post l e).groups = s.groups := rfl
@[simp] theorem State.post_ports (s : State) (l : Nat) (e : Ev) : (s.post l e).ports = s.ports := rfl
@[simp] theorem State.post_failed (s : State) (l : Nat) (e : Ev) : (s.post l e).failed = s.failed := rfl
@[simp] theorem State.post_held (s : State) (l : Nat) (e : Ev) : (s.post l e).held = s.held := rfl
@[simp] theorem State.post_front (s : State) (l : Nat) (e : Ev) : (s.post l e).front = s.front := rfl
@[simp] theorem State.post_mgmt (s : State) (l : Nat) (e : Ev) : (s.post l e).mgmt = s.mgmt := rfl
@[simp] theorem State.post_time (s : State) (l : Nat) (e : Ev) : (s.post l e).time = s.time := rfl
@[simp] theorem State.post_ev (s : State) (l : Nat) (e : Ev) : (s.post l e).ev = s.ev := rfl
@[simp] theorem State.post_lane (s : State) (l : Nat) (e : Ev) : (s.post l e).lane = s.lane := rfl
@[simp] theorem State.post_cur (s : State) (l : Nat) (e : Ev) : (s.post l e).cur = s.cur := rfl
@[simp] theorem State.post_tick (s : State) (l : Nat) (e : Ev) : (s.post l e).tick = s.tick := rfl
@[simp] theorem State.post_free (s : State) (l : Nat) (e : Ev) : (s.post l e).free = s.free := rfl
@[simp] theorem State.post_nextId (s : State) (l : Nat) (e : Ev) : (s.post l e).nextId = s.nextId := rfl

/-! ### State.postFront -/

@[simp] theorem State.postFront_chip (s : State) (l : Nat) (e : Ev) : (s.postFront l e).chip = s.chip := rfl
@[simp] theorem State.postFront_dims (s : State) (l : Nat) (e : Ev) : (s.postFront l e).dims = s.dims := rfl
@[simp] theorem State.postFront_mem (s : State) (l : Nat) (e : Ev) : (s.postFront l e).mem = s.mem := rfl
@[simp] theorem State.postFront_poison (s : State) (l : Nat) (e : Ev) : (s.postFront l e).poison = s.poison := rfl
@[simp] theorem State.postFront_bays (s : State) (l : Nat) (e : Ev) : (s.postFront l e).bays = s.bays := rfl
@[simp] theorem State.postFront_ctxs (s : State) (l : Nat) (e : Ev) : (s.postFront l e).ctxs = s.ctxs := rfl
@[simp] theorem State.postFront_tlb (s : State) (l : Nat) (e : Ev) : (s.postFront l e).tlb = s.tlb := rfl
@[simp] theorem State.postFront_dcists (s : State) (l : Nat) (e : Ev) : (s.postFront l e).dcists = s.dcists := rfl
@[simp] theorem State.postFront_mig (s : State) (l : Nat) (e : Ev) : (s.postFront l e).mig = s.mig := rfl
@[simp] theorem State.postFront_images (s : State) (l : Nat) (e : Ev) : (s.postFront l e).images = s.images := rfl
@[simp] theorem State.postFront_senders (s : State) (l : Nat) (e : Ev) : (s.postFront l e).senders = s.senders := rfl
@[simp] theorem State.postFront_receivers (s : State) (l : Nat) (e : Ev) : (s.postFront l e).receivers = s.receivers := rfl
@[simp] theorem State.postFront_stale (s : State) (l : Nat) (e : Ev) : (s.postFront l e).stale = s.stale := rfl
@[simp] theorem State.postFront_toks (s : State) (l : Nat) (e : Ev) : (s.postFront l e).toks = s.toks := rfl
@[simp] theorem State.postFront_cons (s : State) (l : Nat) (e : Ev) : (s.postFront l e).cons = s.cons := rfl
@[simp] theorem State.postFront_outs (s : State) (l : Nat) (e : Ev) : (s.postFront l e).outs = s.outs := rfl
@[simp] theorem State.postFront_windows (s : State) (l : Nat) (e : Ev) : (s.postFront l e).windows = s.windows := rfl
@[simp] theorem State.postFront_groups (s : State) (l : Nat) (e : Ev) : (s.postFront l e).groups = s.groups := rfl
@[simp] theorem State.postFront_ports (s : State) (l : Nat) (e : Ev) : (s.postFront l e).ports = s.ports := rfl
@[simp] theorem State.postFront_failed (s : State) (l : Nat) (e : Ev) : (s.postFront l e).failed = s.failed := rfl
@[simp] theorem State.postFront_held (s : State) (l : Nat) (e : Ev) : (s.postFront l e).held = s.held := rfl
@[simp] theorem State.postFront_front (s : State) (l : Nat) (e : Ev) : (s.postFront l e).front = s.front := rfl
@[simp] theorem State.postFront_mgmt (s : State) (l : Nat) (e : Ev) : (s.postFront l e).mgmt = s.mgmt := rfl
@[simp] theorem State.postFront_time (s : State) (l : Nat) (e : Ev) : (s.postFront l e).time = s.time := rfl
@[simp] theorem State.postFront_ev (s : State) (l : Nat) (e : Ev) : (s.postFront l e).ev = s.ev := rfl
@[simp] theorem State.postFront_lane (s : State) (l : Nat) (e : Ev) : (s.postFront l e).lane = s.lane := rfl
@[simp] theorem State.postFront_cur (s : State) (l : Nat) (e : Ev) : (s.postFront l e).cur = s.cur := rfl
@[simp] theorem State.postFront_tick (s : State) (l : Nat) (e : Ev) : (s.postFront l e).tick = s.tick := rfl
@[simp] theorem State.postFront_free (s : State) (l : Nat) (e : Ev) : (s.postFront l e).free = s.free := rfl
@[simp] theorem State.postFront_nextId (s : State) (l : Nat) (e : Ev) : (s.postFront l e).nextId = s.nextId := rfl

/-! ### State.postFree -/

@[simp] theorem State.postFree_chip (s : State) (e : Ev) : (s.postFree e).chip = s.chip := rfl
@[simp] theorem State.postFree_dims (s : State) (e : Ev) : (s.postFree e).dims = s.dims := rfl
@[simp] theorem State.postFree_mem (s : State) (e : Ev) : (s.postFree e).mem = s.mem := rfl
@[simp] theorem State.postFree_poison (s : State) (e : Ev) : (s.postFree e).poison = s.poison := rfl
@[simp] theorem State.postFree_bays (s : State) (e : Ev) : (s.postFree e).bays = s.bays := rfl
@[simp] theorem State.postFree_ctxs (s : State) (e : Ev) : (s.postFree e).ctxs = s.ctxs := rfl
@[simp] theorem State.postFree_tlb (s : State) (e : Ev) : (s.postFree e).tlb = s.tlb := rfl
@[simp] theorem State.postFree_dcists (s : State) (e : Ev) : (s.postFree e).dcists = s.dcists := rfl
@[simp] theorem State.postFree_mig (s : State) (e : Ev) : (s.postFree e).mig = s.mig := rfl
@[simp] theorem State.postFree_images (s : State) (e : Ev) : (s.postFree e).images = s.images := rfl
@[simp] theorem State.postFree_senders (s : State) (e : Ev) : (s.postFree e).senders = s.senders := rfl
@[simp] theorem State.postFree_receivers (s : State) (e : Ev) : (s.postFree e).receivers = s.receivers := rfl
@[simp] theorem State.postFree_stale (s : State) (e : Ev) : (s.postFree e).stale = s.stale := rfl
@[simp] theorem State.postFree_toks (s : State) (e : Ev) : (s.postFree e).toks = s.toks := rfl
@[simp] theorem State.postFree_cons (s : State) (e : Ev) : (s.postFree e).cons = s.cons := rfl
@[simp] theorem State.postFree_outs (s : State) (e : Ev) : (s.postFree e).outs = s.outs := rfl
@[simp] theorem State.postFree_windows (s : State) (e : Ev) : (s.postFree e).windows = s.windows := rfl
@[simp] theorem State.postFree_groups (s : State) (e : Ev) : (s.postFree e).groups = s.groups := rfl
@[simp] theorem State.postFree_ports (s : State) (e : Ev) : (s.postFree e).ports = s.ports := rfl
@[simp] theorem State.postFree_failed (s : State) (e : Ev) : (s.postFree e).failed = s.failed := rfl
@[simp] theorem State.postFree_held (s : State) (e : Ev) : (s.postFree e).held = s.held := rfl
@[simp] theorem State.postFree_front (s : State) (e : Ev) : (s.postFree e).front = s.front := rfl
@[simp] theorem State.postFree_mgmt (s : State) (e : Ev) : (s.postFree e).mgmt = s.mgmt := rfl
@[simp] theorem State.postFree_time (s : State) (e : Ev) : (s.postFree e).time = s.time := rfl
@[simp] theorem State.postFree_ev (s : State) (e : Ev) : (s.postFree e).ev = s.ev := rfl
@[simp] theorem State.postFree_lane (s : State) (e : Ev) : (s.postFree e).lane = s.lane := rfl
@[simp] theorem State.postFree_cur (s : State) (e : Ev) : (s.postFree e).cur = s.cur := rfl
@[simp] theorem State.postFree_tick (s : State) (e : Ev) : (s.postFree e).tick = s.tick := rfl
@[simp] theorem State.postFree_free (s : State) (e : Ev) : (s.postFree e).free = s.free := rfl

/-! ### State.wait -/

@[simp] theorem State.wait_chip (s : State) : (s.wait).chip = s.chip := rfl
@[simp] theorem State.wait_dims (s : State) : (s.wait).dims = s.dims := rfl
@[simp] theorem State.wait_mem (s : State) : (s.wait).mem = s.mem := rfl
@[simp] theorem State.wait_poison (s : State) : (s.wait).poison = s.poison := rfl
@[simp] theorem State.wait_bays (s : State) : (s.wait).bays = s.bays := rfl
@[simp] theorem State.wait_ctxs (s : State) : (s.wait).ctxs = s.ctxs := rfl
@[simp] theorem State.wait_tlb (s : State) : (s.wait).tlb = s.tlb := rfl
@[simp] theorem State.wait_dcists (s : State) : (s.wait).dcists = s.dcists := rfl
@[simp] theorem State.wait_mig (s : State) : (s.wait).mig = s.mig := rfl
@[simp] theorem State.wait_images (s : State) : (s.wait).images = s.images := rfl
@[simp] theorem State.wait_senders (s : State) : (s.wait).senders = s.senders := rfl
@[simp] theorem State.wait_receivers (s : State) : (s.wait).receivers = s.receivers := rfl
@[simp] theorem State.wait_stale (s : State) : (s.wait).stale = s.stale := rfl
@[simp] theorem State.wait_toks (s : State) : (s.wait).toks = s.toks := rfl
@[simp] theorem State.wait_cons (s : State) : (s.wait).cons = s.cons := rfl
@[simp] theorem State.wait_outs (s : State) : (s.wait).outs = s.outs := rfl
@[simp] theorem State.wait_windows (s : State) : (s.wait).windows = s.windows := rfl
@[simp] theorem State.wait_groups (s : State) : (s.wait).groups = s.groups := rfl
@[simp] theorem State.wait_ports (s : State) : (s.wait).ports = s.ports := rfl
@[simp] theorem State.wait_failed (s : State) : (s.wait).failed = s.failed := rfl
@[simp] theorem State.wait_held (s : State) : (s.wait).held = s.held := rfl
@[simp] theorem State.wait_front (s : State) : (s.wait).front = s.front := rfl
@[simp] theorem State.wait_mgmt (s : State) : (s.wait).mgmt = s.mgmt := rfl
@[simp] theorem State.wait_time (s : State) : (s.wait).time = s.time := rfl
@[simp] theorem State.wait_ev (s : State) : (s.wait).ev = s.ev := rfl
@[simp] theorem State.wait_lane (s : State) : (s.wait).lane = s.lane := rfl
@[simp] theorem State.wait_cur (s : State) : (s.wait).cur = s.cur := rfl
@[simp] theorem State.wait_tick (s : State) : (s.wait).tick = s.tick := rfl
@[simp] theorem State.wait_free (s : State) : (s.wait).free = s.free := rfl
@[simp] theorem State.wait_nextId (s : State) : (s.wait).nextId = s.nextId := rfl

/-! ### State.pulse -/

@[simp] theorem State.pulse_chip (s : State) (a : Nat) : (s.pulse a).chip = s.chip := rfl
@[simp] theorem State.pulse_dims (s : State) (a : Nat) : (s.pulse a).dims = s.dims := rfl
@[simp] theorem State.pulse_mem (s : State) (a : Nat) : (s.pulse a).mem = s.mem := rfl
@[simp] theorem State.pulse_poison (s : State) (a : Nat) : (s.pulse a).poison = s.poison := rfl
@[simp] theorem State.pulse_bays (s : State) (a : Nat) : (s.pulse a).bays = s.bays := rfl
@[simp] theorem State.pulse_tlb (s : State) (a : Nat) : (s.pulse a).tlb = s.tlb := rfl
@[simp] theorem State.pulse_dcists (s : State) (a : Nat) : (s.pulse a).dcists = s.dcists := rfl
@[simp] theorem State.pulse_mig (s : State) (a : Nat) : (s.pulse a).mig = s.mig := rfl
@[simp] theorem State.pulse_images (s : State) (a : Nat) : (s.pulse a).images = s.images := rfl
@[simp] theorem State.pulse_senders (s : State) (a : Nat) : (s.pulse a).senders = s.senders := rfl
@[simp] theorem State.pulse_receivers (s : State) (a : Nat) : (s.pulse a).receivers = s.receivers := rfl
@[simp] theorem State.pulse_stale (s : State) (a : Nat) : (s.pulse a).stale = s.stale := rfl
@[simp] theorem State.pulse_toks (s : State) (a : Nat) : (s.pulse a).toks = s.toks := rfl
@[simp] theorem State.pulse_cons (s : State) (a : Nat) : (s.pulse a).cons = s.cons := rfl
@[simp] theorem State.pulse_outs (s : State) (a : Nat) : (s.pulse a).outs = s.outs := rfl
@[simp] theorem State.pulse_windows (s : State) (a : Nat) : (s.pulse a).windows = s.windows := rfl
@[simp] theorem State.pulse_groups (s : State) (a : Nat) : (s.pulse a).groups = s.groups := rfl
@[simp] theorem State.pulse_ports (s : State) (a : Nat) : (s.pulse a).ports = s.ports := rfl
@[simp] theorem State.pulse_failed (s : State) (a : Nat) : (s.pulse a).failed = s.failed := rfl
@[simp] theorem State.pulse_held (s : State) (a : Nat) : (s.pulse a).held = s.held := rfl
@[simp] theorem State.pulse_front (s : State) (a : Nat) : (s.pulse a).front = s.front := rfl
@[simp] theorem State.pulse_mgmt (s : State) (a : Nat) : (s.pulse a).mgmt = s.mgmt := rfl
@[simp] theorem State.pulse_time (s : State) (a : Nat) : (s.pulse a).time = s.time := rfl
@[simp] theorem State.pulse_agenda (s : State) (a : Nat) : (s.pulse a).agenda = s.agenda := rfl
@[simp] theorem State.pulse_ev (s : State) (a : Nat) : (s.pulse a).ev = s.ev := rfl
@[simp] theorem State.pulse_lane (s : State) (a : Nat) : (s.pulse a).lane = s.lane := rfl
@[simp] theorem State.pulse_cur (s : State) (a : Nat) : (s.pulse a).cur = s.cur := rfl
@[simp] theorem State.pulse_tick (s : State) (a : Nat) : (s.pulse a).tick = s.tick := rfl
@[simp] theorem State.pulse_free (s : State) (a : Nat) : (s.pulse a).free = s.free := rfl
@[simp] theorem State.pulse_nextId (s : State) (a : Nat) : (s.pulse a).nextId = s.nextId := rfl

/-! ### State.bump -/

@[simp] theorem State.bump_chip (s : State) (b a : Nat) (c : BitVec 16) (n : Nat) : (s.bump b a c n).chip = s.chip := rfl
@[simp] theorem State.bump_dims (s : State) (b a : Nat) (c : BitVec 16) (n : Nat) : (s.bump b a c n).dims = s.dims := rfl
@[simp] theorem State.bump_mem (s : State) (b a : Nat) (c : BitVec 16) (n : Nat) : (s.bump b a c n).mem = s.mem := rfl
@[simp] theorem State.bump_poison (s : State) (b a : Nat) (c : BitVec 16) (n : Nat) : (s.bump b a c n).poison = s.poison := rfl
@[simp] theorem State.bump_ctxs (s : State) (b a : Nat) (c : BitVec 16) (n : Nat) : (s.bump b a c n).ctxs = s.ctxs := rfl
@[simp] theorem State.bump_tlb (s : State) (b a : Nat) (c : BitVec 16) (n : Nat) : (s.bump b a c n).tlb = s.tlb := rfl
@[simp] theorem State.bump_dcists (s : State) (b a : Nat) (c : BitVec 16) (n : Nat) : (s.bump b a c n).dcists = s.dcists := rfl
@[simp] theorem State.bump_mig (s : State) (b a : Nat) (c : BitVec 16) (n : Nat) : (s.bump b a c n).mig = s.mig := rfl
@[simp] theorem State.bump_images (s : State) (b a : Nat) (c : BitVec 16) (n : Nat) : (s.bump b a c n).images = s.images := rfl
@[simp] theorem State.bump_senders (s : State) (b a : Nat) (c : BitVec 16) (n : Nat) : (s.bump b a c n).senders = s.senders := rfl
@[simp] theorem State.bump_receivers (s : State) (b a : Nat) (c : BitVec 16) (n : Nat) : (s.bump b a c n).receivers = s.receivers := rfl
@[simp] theorem State.bump_stale (s : State) (b a : Nat) (c : BitVec 16) (n : Nat) : (s.bump b a c n).stale = s.stale := rfl
@[simp] theorem State.bump_toks (s : State) (b a : Nat) (c : BitVec 16) (n : Nat) : (s.bump b a c n).toks = s.toks := rfl
@[simp] theorem State.bump_cons (s : State) (b a : Nat) (c : BitVec 16) (n : Nat) : (s.bump b a c n).cons = s.cons := rfl
@[simp] theorem State.bump_outs (s : State) (b a : Nat) (c : BitVec 16) (n : Nat) : (s.bump b a c n).outs = s.outs := rfl
@[simp] theorem State.bump_windows (s : State) (b a : Nat) (c : BitVec 16) (n : Nat) : (s.bump b a c n).windows = s.windows := rfl
@[simp] theorem State.bump_groups (s : State) (b a : Nat) (c : BitVec 16) (n : Nat) : (s.bump b a c n).groups = s.groups := rfl
@[simp] theorem State.bump_ports (s : State) (b a : Nat) (c : BitVec 16) (n : Nat) : (s.bump b a c n).ports = s.ports := rfl
@[simp] theorem State.bump_failed (s : State) (b a : Nat) (c : BitVec 16) (n : Nat) : (s.bump b a c n).failed = s.failed := rfl
@[simp] theorem State.bump_held (s : State) (b a : Nat) (c : BitVec 16) (n : Nat) : (s.bump b a c n).held = s.held := rfl
@[simp] theorem State.bump_front (s : State) (b a : Nat) (c : BitVec 16) (n : Nat) : (s.bump b a c n).front = s.front := rfl
@[simp] theorem State.bump_mgmt (s : State) (b a : Nat) (c : BitVec 16) (n : Nat) : (s.bump b a c n).mgmt = s.mgmt := rfl
@[simp] theorem State.bump_time (s : State) (b a : Nat) (c : BitVec 16) (n : Nat) : (s.bump b a c n).time = s.time := rfl
@[simp] theorem State.bump_agenda (s : State) (b a : Nat) (c : BitVec 16) (n : Nat) : (s.bump b a c n).agenda = s.agenda := rfl
@[simp] theorem State.bump_ev (s : State) (b a : Nat) (c : BitVec 16) (n : Nat) : (s.bump b a c n).ev = s.ev := rfl
@[simp] theorem State.bump_lane (s : State) (b a : Nat) (c : BitVec 16) (n : Nat) : (s.bump b a c n).lane = s.lane := rfl
@[simp] theorem State.bump_cur (s : State) (b a : Nat) (c : BitVec 16) (n : Nat) : (s.bump b a c n).cur = s.cur := rfl
@[simp] theorem State.bump_tick (s : State) (b a : Nat) (c : BitVec 16) (n : Nat) : (s.bump b a c n).tick = s.tick := rfl
@[simp] theorem State.bump_free (s : State) (b a : Nat) (c : BitVec 16) (n : Nat) : (s.bump b a c n).free = s.free := rfl
@[simp] theorem State.bump_nextId (s : State) (b a : Nat) (c : BitVec 16) (n : Nat) : (s.bump b a c n).nextId = s.nextId := rfl

/-! ### State.write -/

@[simp] theorem State.write_chip (s : State) (a : Nat) (l : List Byte) : (s.write a l).chip = s.chip := rfl
@[simp] theorem State.write_dims (s : State) (a : Nat) (l : List Byte) : (s.write a l).dims = s.dims := rfl
@[simp] theorem State.write_bays (s : State) (a : Nat) (l : List Byte) : (s.write a l).bays = s.bays := rfl
@[simp] theorem State.write_ctxs (s : State) (a : Nat) (l : List Byte) : (s.write a l).ctxs = s.ctxs := rfl
@[simp] theorem State.write_tlb (s : State) (a : Nat) (l : List Byte) : (s.write a l).tlb = s.tlb := rfl
@[simp] theorem State.write_dcists (s : State) (a : Nat) (l : List Byte) : (s.write a l).dcists = s.dcists := rfl
@[simp] theorem State.write_mig (s : State) (a : Nat) (l : List Byte) : (s.write a l).mig = s.mig := rfl
@[simp] theorem State.write_images (s : State) (a : Nat) (l : List Byte) : (s.write a l).images = s.images := rfl
@[simp] theorem State.write_senders (s : State) (a : Nat) (l : List Byte) : (s.write a l).senders = s.senders := rfl
@[simp] theorem State.write_receivers (s : State) (a : Nat) (l : List Byte) : (s.write a l).receivers = s.receivers := rfl
@[simp] theorem State.write_stale (s : State) (a : Nat) (l : List Byte) : (s.write a l).stale = s.stale := rfl
@[simp] theorem State.write_toks (s : State) (a : Nat) (l : List Byte) : (s.write a l).toks = s.toks := rfl
@[simp] theorem State.write_cons (s : State) (a : Nat) (l : List Byte) : (s.write a l).cons = s.cons := rfl
@[simp] theorem State.write_outs (s : State) (a : Nat) (l : List Byte) : (s.write a l).outs = s.outs := rfl
@[simp] theorem State.write_windows (s : State) (a : Nat) (l : List Byte) : (s.write a l).windows = s.windows := rfl
@[simp] theorem State.write_groups (s : State) (a : Nat) (l : List Byte) : (s.write a l).groups = s.groups := rfl
@[simp] theorem State.write_ports (s : State) (a : Nat) (l : List Byte) : (s.write a l).ports = s.ports := rfl
@[simp] theorem State.write_failed (s : State) (a : Nat) (l : List Byte) : (s.write a l).failed = s.failed := rfl
@[simp] theorem State.write_held (s : State) (a : Nat) (l : List Byte) : (s.write a l).held = s.held := rfl
@[simp] theorem State.write_front (s : State) (a : Nat) (l : List Byte) : (s.write a l).front = s.front := rfl
@[simp] theorem State.write_mgmt (s : State) (a : Nat) (l : List Byte) : (s.write a l).mgmt = s.mgmt := rfl
@[simp] theorem State.write_time (s : State) (a : Nat) (l : List Byte) : (s.write a l).time = s.time := rfl
@[simp] theorem State.write_agenda (s : State) (a : Nat) (l : List Byte) : (s.write a l).agenda = s.agenda := rfl
@[simp] theorem State.write_ev (s : State) (a : Nat) (l : List Byte) : (s.write a l).ev = s.ev := rfl
@[simp] theorem State.write_lane (s : State) (a : Nat) (l : List Byte) : (s.write a l).lane = s.lane := rfl
@[simp] theorem State.write_cur (s : State) (a : Nat) (l : List Byte) : (s.write a l).cur = s.cur := rfl
@[simp] theorem State.write_tick (s : State) (a : Nat) (l : List Byte) : (s.write a l).tick = s.tick := rfl
@[simp] theorem State.write_free (s : State) (a : Nat) (l : List Byte) : (s.write a l).free = s.free := rfl
@[simp] theorem State.write_nextId (s : State) (a : Nat) (l : List Byte) : (s.write a l).nextId = s.nextId := rfl

/-! ### State.mark -/

@[simp] theorem State.mark_chip (s : State) (a n : Nat) : (s.mark a n).chip = s.chip := rfl
@[simp] theorem State.mark_dims (s : State) (a n : Nat) : (s.mark a n).dims = s.dims := rfl
@[simp] theorem State.mark_mem (s : State) (a n : Nat) : (s.mark a n).mem = s.mem := rfl
@[simp] theorem State.mark_bays (s : State) (a n : Nat) : (s.mark a n).bays = s.bays := rfl
@[simp] theorem State.mark_ctxs (s : State) (a n : Nat) : (s.mark a n).ctxs = s.ctxs := rfl
@[simp] theorem State.mark_tlb (s : State) (a n : Nat) : (s.mark a n).tlb = s.tlb := rfl
@[simp] theorem State.mark_dcists (s : State) (a n : Nat) : (s.mark a n).dcists = s.dcists := rfl
@[simp] theorem State.mark_mig (s : State) (a n : Nat) : (s.mark a n).mig = s.mig := rfl
@[simp] theorem State.mark_images (s : State) (a n : Nat) : (s.mark a n).images = s.images := rfl
@[simp] theorem State.mark_senders (s : State) (a n : Nat) : (s.mark a n).senders = s.senders := rfl
@[simp] theorem State.mark_receivers (s : State) (a n : Nat) : (s.mark a n).receivers = s.receivers := rfl
@[simp] theorem State.mark_stale (s : State) (a n : Nat) : (s.mark a n).stale = s.stale := rfl
@[simp] theorem State.mark_toks (s : State) (a n : Nat) : (s.mark a n).toks = s.toks := rfl
@[simp] theorem State.mark_cons (s : State) (a n : Nat) : (s.mark a n).cons = s.cons := rfl
@[simp] theorem State.mark_outs (s : State) (a n : Nat) : (s.mark a n).outs = s.outs := rfl
@[simp] theorem State.mark_windows (s : State) (a n : Nat) : (s.mark a n).windows = s.windows := rfl
@[simp] theorem State.mark_groups (s : State) (a n : Nat) : (s.mark a n).groups = s.groups := rfl
@[simp] theorem State.mark_ports (s : State) (a n : Nat) : (s.mark a n).ports = s.ports := rfl
@[simp] theorem State.mark_failed (s : State) (a n : Nat) : (s.mark a n).failed = s.failed := rfl
@[simp] theorem State.mark_held (s : State) (a n : Nat) : (s.mark a n).held = s.held := rfl
@[simp] theorem State.mark_front (s : State) (a n : Nat) : (s.mark a n).front = s.front := rfl
@[simp] theorem State.mark_mgmt (s : State) (a n : Nat) : (s.mark a n).mgmt = s.mgmt := rfl
@[simp] theorem State.mark_time (s : State) (a n : Nat) : (s.mark a n).time = s.time := rfl
@[simp] theorem State.mark_agenda (s : State) (a n : Nat) : (s.mark a n).agenda = s.agenda := rfl
@[simp] theorem State.mark_ev (s : State) (a n : Nat) : (s.mark a n).ev = s.ev := rfl
@[simp] theorem State.mark_lane (s : State) (a n : Nat) : (s.mark a n).lane = s.lane := rfl
@[simp] theorem State.mark_cur (s : State) (a n : Nat) : (s.mark a n).cur = s.cur := rfl
@[simp] theorem State.mark_tick (s : State) (a n : Nat) : (s.mark a n).tick = s.tick := rfl
@[simp] theorem State.mark_free (s : State) (a n : Nat) : (s.mark a n).free = s.free := rfl
@[simp] theorem State.mark_nextId (s : State) (a n : Nat) : (s.mark a n).nextId = s.nextId := rfl

/-! ### State.tally -/

@[simp] theorem State.tally_chip (s : State) (u : Nat) (k : Tally) (n : Nat) : (s.tally u k n).chip = s.chip := rfl
@[simp] theorem State.tally_dims (s : State) (u : Nat) (k : Tally) (n : Nat) : (s.tally u k n).dims = s.dims := rfl
@[simp] theorem State.tally_mem (s : State) (u : Nat) (k : Tally) (n : Nat) : (s.tally u k n).mem = s.mem := rfl
@[simp] theorem State.tally_poison (s : State) (u : Nat) (k : Tally) (n : Nat) : (s.tally u k n).poison = s.poison := rfl
@[simp] theorem State.tally_bays (s : State) (u : Nat) (k : Tally) (n : Nat) : (s.tally u k n).bays = s.bays := rfl
@[simp] theorem State.tally_ctxs (s : State) (u : Nat) (k : Tally) (n : Nat) : (s.tally u k n).ctxs = s.ctxs := rfl
@[simp] theorem State.tally_tlb (s : State) (u : Nat) (k : Tally) (n : Nat) : (s.tally u k n).tlb = s.tlb := rfl
@[simp] theorem State.tally_dcists (s : State) (u : Nat) (k : Tally) (n : Nat) : (s.tally u k n).dcists = s.dcists := rfl
@[simp] theorem State.tally_mig (s : State) (u : Nat) (k : Tally) (n : Nat) : (s.tally u k n).mig = s.mig := rfl
@[simp] theorem State.tally_images (s : State) (u : Nat) (k : Tally) (n : Nat) : (s.tally u k n).images = s.images := rfl
@[simp] theorem State.tally_senders (s : State) (u : Nat) (k : Tally) (n : Nat) : (s.tally u k n).senders = s.senders := rfl
@[simp] theorem State.tally_receivers (s : State) (u : Nat) (k : Tally) (n : Nat) : (s.tally u k n).receivers = s.receivers := rfl
@[simp] theorem State.tally_stale (s : State) (u : Nat) (k : Tally) (n : Nat) : (s.tally u k n).stale = s.stale := rfl
@[simp] theorem State.tally_toks (s : State) (u : Nat) (k : Tally) (n : Nat) : (s.tally u k n).toks = s.toks := rfl
@[simp] theorem State.tally_cons (s : State) (u : Nat) (k : Tally) (n : Nat) : (s.tally u k n).cons = s.cons := rfl
@[simp] theorem State.tally_outs (s : State) (u : Nat) (k : Tally) (n : Nat) : (s.tally u k n).outs = s.outs := rfl
@[simp] theorem State.tally_windows (s : State) (u : Nat) (k : Tally) (n : Nat) : (s.tally u k n).windows = s.windows := rfl
@[simp] theorem State.tally_groups (s : State) (u : Nat) (k : Tally) (n : Nat) : (s.tally u k n).groups = s.groups := rfl
@[simp] theorem State.tally_ports (s : State) (u : Nat) (k : Tally) (n : Nat) : (s.tally u k n).ports = s.ports := rfl
@[simp] theorem State.tally_failed (s : State) (u : Nat) (k : Tally) (n : Nat) : (s.tally u k n).failed = s.failed := rfl
@[simp] theorem State.tally_held (s : State) (u : Nat) (k : Tally) (n : Nat) : (s.tally u k n).held = s.held := rfl
@[simp] theorem State.tally_front (s : State) (u : Nat) (k : Tally) (n : Nat) : (s.tally u k n).front = s.front := rfl
@[simp] theorem State.tally_time (s : State) (u : Nat) (k : Tally) (n : Nat) : (s.tally u k n).time = s.time := rfl
@[simp] theorem State.tally_agenda (s : State) (u : Nat) (k : Tally) (n : Nat) : (s.tally u k n).agenda = s.agenda := rfl
@[simp] theorem State.tally_ev (s : State) (u : Nat) (k : Tally) (n : Nat) : (s.tally u k n).ev = s.ev := rfl
@[simp] theorem State.tally_lane (s : State) (u : Nat) (k : Tally) (n : Nat) : (s.tally u k n).lane = s.lane := rfl
@[simp] theorem State.tally_cur (s : State) (u : Nat) (k : Tally) (n : Nat) : (s.tally u k n).cur = s.cur := rfl
@[simp] theorem State.tally_tick (s : State) (u : Nat) (k : Tally) (n : Nat) : (s.tally u k n).tick = s.tick := rfl
@[simp] theorem State.tally_free (s : State) (u : Nat) (k : Tally) (n : Nat) : (s.tally u k n).free = s.free := rfl
@[simp] theorem State.tally_nextId (s : State) (u : Nat) (k : Tally) (n : Nat) : (s.tally u k n).nextId = s.nextId := rfl

/-! ### State.endCtx -/

@[simp] theorem State.endCtx_chip (s : State) (a : Nat) (r : EndReason) (b : Nat) (l : List Word) : (s.endCtx a r b l).chip = s.chip := rfl
@[simp] theorem State.endCtx_dims (s : State) (a : Nat) (r : EndReason) (b : Nat) (l : List Word) : (s.endCtx a r b l).dims = s.dims := rfl
@[simp] theorem State.endCtx_mem (s : State) (a : Nat) (r : EndReason) (b : Nat) (l : List Word) : (s.endCtx a r b l).mem = s.mem := rfl
@[simp] theorem State.endCtx_poison (s : State) (a : Nat) (r : EndReason) (b : Nat) (l : List Word) : (s.endCtx a r b l).poison = s.poison := rfl
@[simp] theorem State.endCtx_bays (s : State) (a : Nat) (r : EndReason) (b : Nat) (l : List Word) : (s.endCtx a r b l).bays = s.bays := rfl
@[simp] theorem State.endCtx_tlb (s : State) (a : Nat) (r : EndReason) (b : Nat) (l : List Word) : (s.endCtx a r b l).tlb = s.tlb := rfl
@[simp] theorem State.endCtx_dcists (s : State) (a : Nat) (r : EndReason) (b : Nat) (l : List Word) : (s.endCtx a r b l).dcists = s.dcists := rfl
@[simp] theorem State.endCtx_mig (s : State) (a : Nat) (r : EndReason) (b : Nat) (l : List Word) : (s.endCtx a r b l).mig = s.mig := rfl
@[simp] theorem State.endCtx_images (s : State) (a : Nat) (r : EndReason) (b : Nat) (l : List Word) : (s.endCtx a r b l).images = s.images := rfl
@[simp] theorem State.endCtx_senders (s : State) (a : Nat) (r : EndReason) (b : Nat) (l : List Word) : (s.endCtx a r b l).senders = s.senders := rfl
@[simp] theorem State.endCtx_receivers (s : State) (a : Nat) (r : EndReason) (b : Nat) (l : List Word) : (s.endCtx a r b l).receivers = s.receivers := rfl
@[simp] theorem State.endCtx_stale (s : State) (a : Nat) (r : EndReason) (b : Nat) (l : List Word) : (s.endCtx a r b l).stale = s.stale := rfl
@[simp] theorem State.endCtx_toks (s : State) (a : Nat) (r : EndReason) (b : Nat) (l : List Word) : (s.endCtx a r b l).toks = s.toks := rfl
@[simp] theorem State.endCtx_cons (s : State) (a : Nat) (r : EndReason) (b : Nat) (l : List Word) : (s.endCtx a r b l).cons = s.cons := rfl
@[simp] theorem State.endCtx_outs (s : State) (a : Nat) (r : EndReason) (b : Nat) (l : List Word) : (s.endCtx a r b l).outs = s.outs := rfl
@[simp] theorem State.endCtx_windows (s : State) (a : Nat) (r : EndReason) (b : Nat) (l : List Word) : (s.endCtx a r b l).windows = s.windows := rfl
@[simp] theorem State.endCtx_groups (s : State) (a : Nat) (r : EndReason) (b : Nat) (l : List Word) : (s.endCtx a r b l).groups = s.groups := rfl
@[simp] theorem State.endCtx_ports (s : State) (a : Nat) (r : EndReason) (b : Nat) (l : List Word) : (s.endCtx a r b l).ports = s.ports := rfl
@[simp] theorem State.endCtx_failed (s : State) (a : Nat) (r : EndReason) (b : Nat) (l : List Word) : (s.endCtx a r b l).failed = s.failed := rfl
@[simp] theorem State.endCtx_held (s : State) (a : Nat) (r : EndReason) (b : Nat) (l : List Word) : (s.endCtx a r b l).held = s.held := rfl
@[simp] theorem State.endCtx_front (s : State) (a : Nat) (r : EndReason) (b : Nat) (l : List Word) : (s.endCtx a r b l).front = s.front := rfl
@[simp] theorem State.endCtx_mgmt (s : State) (a : Nat) (r : EndReason) (b : Nat) (l : List Word) : (s.endCtx a r b l).mgmt = s.mgmt := rfl
@[simp] theorem State.endCtx_time (s : State) (a : Nat) (r : EndReason) (b : Nat) (l : List Word) : (s.endCtx a r b l).time = s.time := rfl
@[simp] theorem State.endCtx_ev (s : State) (a : Nat) (r : EndReason) (b : Nat) (l : List Word) : (s.endCtx a r b l).ev = s.ev := rfl
@[simp] theorem State.endCtx_lane (s : State) (a : Nat) (r : EndReason) (b : Nat) (l : List Word) : (s.endCtx a r b l).lane = s.lane := rfl
@[simp] theorem State.endCtx_cur (s : State) (a : Nat) (r : EndReason) (b : Nat) (l : List Word) : (s.endCtx a r b l).cur = s.cur := rfl
@[simp] theorem State.endCtx_tick (s : State) (a : Nat) (r : EndReason) (b : Nat) (l : List Word) : (s.endCtx a r b l).tick = s.tick := rfl
@[simp] theorem State.endCtx_free (s : State) (a : Nat) (r : EndReason) (b : Nat) (l : List Word) : (s.endCtx a r b l).free = s.free := rfl
@[simp] theorem State.endCtx_nextId (s : State) (a : Nat) (r : EndReason) (b : Nat) (l : List Word) : (s.endCtx a r b l).nextId = s.nextId := rfl

/-! ### Fibre.setReg -/

@[simp] theorem Fibre.setReg_uid (f : Fibre) (r : GReg) (v : Word) : (f.setReg r v).uid = f.uid := rfl
@[simp] theorem Fibre.setReg_pc (f : Fibre) (r : GReg) (v : Word) : (f.setReg r v).pc = f.pc := rfl
@[simp] theorem Fibre.setReg_loops (f : Fibre) (r : GReg) (v : Word) : (f.setReg r v).loops = f.loops := rfl
@[simp] theorem Fibre.setReg_pri (f : Fibre) (r : GReg) (v : Word) : (f.setReg r v).pri = f.pri := rfl
@[simp] theorem Fibre.setReg_hm (f : Fibre) (r : GReg) (v : Word) : (f.setReg r v).hm = f.hm := rfl
@[simp] theorem Fibre.setReg_vctx (f : Fibre) (r : GReg) (v : Word) : (f.setReg r v).vctx = f.vctx := rfl
@[simp] theorem Fibre.setReg_frame (f : Fibre) (r : GReg) (v : Word) : (f.setReg r v).frame = f.frame := rfl
@[simp] theorem Fibre.setReg_hpc (f : Fibre) (r : GReg) (v : Word) : (f.setReg r v).hpc = f.hpc := rfl
@[simp] theorem Fibre.setReg_hcause (f : Fibre) (r : GReg) (v : Word) : (f.setReg r v).hcause = f.hcause := rfl
@[simp] theorem Fibre.setReg_hval (f : Fibre) (r : GReg) (v : Word) : (f.setReg r v).hval = f.hval := rfl
@[simp] theorem Fibre.setReg_hseq (f : Fibre) (r : GReg) (v : Word) : (f.setReg r v).hseq = f.hseq := rfl
@[simp] theorem Fibre.setReg_hscr (f : Fibre) (r : GReg) (v : Word) : (f.setReg r v).hscr = f.hscr := rfl
@[simp] theorem Fibre.setReg_ring (f : Fibre) (r : GReg) (v : Word) : (f.setReg r v).ring = f.ring := rfl
@[simp] theorem Fibre.setReg_dfaults (f : Fibre) (r : GReg) (v : Word) : (f.setReg r v).dfaults = f.dfaults := rfl
@[simp] theorem Fibre.setReg_ticket (f : Fibre) (r : GReg) (v : Word) : (f.setReg r v).ticket = f.ticket := rfl
@[simp] theorem Fibre.setReg_pend (f : Fibre) (r : GReg) (v : Word) : (f.setReg r v).pend = f.pend := rfl
@[simp] theorem Fibre.setReg_wait (f : Fibre) (r : GReg) (v : Word) : (f.setReg r v).wait = f.wait := rfl
@[simp] theorem Fibre.setReg_since (f : Fibre) (r : GReg) (v : Word) : (f.setReg r v).since = f.since := rfl
@[simp] theorem Fibre.setReg_w (f : Fibre) (r : GReg) (v : Word) : (f.setReg r v).w = f.w := rfl
@[simp] theorem Fibre.setReg_nextIssue (f : Fibre) (r : GReg) (v : Word) : (f.setReg r v).nextIssue = f.nextIssue := rfl
@[simp] theorem Fibre.setReg_locals (f : Fibre) (r : GReg) (v : Word) : (f.setReg r v).locals = f.locals := rfl
@[simp] theorem Fibre.setReg_spawnUnack (f : Fibre) (r : GReg) (v : Word) : (f.setReg r v).spawnUnack = f.spawnUnack := rfl
@[simp] theorem Fibre.setReg_mrUnack (f : Fibre) (r : GReg) (v : Word) : (f.setReg r v).mrUnack = f.mrUnack := rfl
@[simp] theorem Fibre.setReg_mrHeld (f : Fibre) (r : GReg) (v : Word) : (f.setReg r v).mrHeld = f.mrHeld := rfl
@[simp] theorem Fibre.setReg_relMark (f : Fibre) (r : GReg) (v : Word) : (f.setReg r v).relMark = f.relMark := rfl
@[simp] theorem Fibre.setReg_isFault (f : Fibre) (r : GReg) (v : Word) : (f.setReg r v).isFault = f.isFault := rfl

/-! ### Fibre.setEmpty -/

@[simp] theorem Fibre.setEmpty_uid (f : Fibre) (r : GReg) : (f.setEmpty r).uid = f.uid := rfl
@[simp] theorem Fibre.setEmpty_pc (f : Fibre) (r : GReg) : (f.setEmpty r).pc = f.pc := rfl
@[simp] theorem Fibre.setEmpty_g (f : Fibre) (r : GReg) : (f.setEmpty r).g = f.g := rfl
@[simp] theorem Fibre.setEmpty_faulted (f : Fibre) (r : GReg) : (f.setEmpty r).faulted = f.faulted := rfl
@[simp] theorem Fibre.setEmpty_loops (f : Fibre) (r : GReg) : (f.setEmpty r).loops = f.loops := rfl
@[simp] theorem Fibre.setEmpty_pri (f : Fibre) (r : GReg) : (f.setEmpty r).pri = f.pri := rfl
@[simp] theorem Fibre.setEmpty_hm (f : Fibre) (r : GReg) : (f.setEmpty r).hm = f.hm := rfl
@[simp] theorem Fibre.setEmpty_vctx (f : Fibre) (r : GReg) : (f.setEmpty r).vctx = f.vctx := rfl
@[simp] theorem Fibre.setEmpty_frame (f : Fibre) (r : GReg) : (f.setEmpty r).frame = f.frame := rfl
@[simp] theorem Fibre.setEmpty_hpc (f : Fibre) (r : GReg) : (f.setEmpty r).hpc = f.hpc := rfl
@[simp] theorem Fibre.setEmpty_hcause (f : Fibre) (r : GReg) : (f.setEmpty r).hcause = f.hcause := rfl
@[simp] theorem Fibre.setEmpty_hval (f : Fibre) (r : GReg) : (f.setEmpty r).hval = f.hval := rfl
@[simp] theorem Fibre.setEmpty_hseq (f : Fibre) (r : GReg) : (f.setEmpty r).hseq = f.hseq := rfl
@[simp] theorem Fibre.setEmpty_hscr (f : Fibre) (r : GReg) : (f.setEmpty r).hscr = f.hscr := rfl
@[simp] theorem Fibre.setEmpty_ring (f : Fibre) (r : GReg) : (f.setEmpty r).ring = f.ring := rfl
@[simp] theorem Fibre.setEmpty_dfaults (f : Fibre) (r : GReg) : (f.setEmpty r).dfaults = f.dfaults := rfl
@[simp] theorem Fibre.setEmpty_ticket (f : Fibre) (r : GReg) : (f.setEmpty r).ticket = f.ticket := rfl
@[simp] theorem Fibre.setEmpty_pend (f : Fibre) (r : GReg) : (f.setEmpty r).pend = f.pend := rfl
@[simp] theorem Fibre.setEmpty_wait (f : Fibre) (r : GReg) : (f.setEmpty r).wait = f.wait := rfl
@[simp] theorem Fibre.setEmpty_since (f : Fibre) (r : GReg) : (f.setEmpty r).since = f.since := rfl
@[simp] theorem Fibre.setEmpty_w (f : Fibre) (r : GReg) : (f.setEmpty r).w = f.w := rfl
@[simp] theorem Fibre.setEmpty_nextIssue (f : Fibre) (r : GReg) : (f.setEmpty r).nextIssue = f.nextIssue := rfl
@[simp] theorem Fibre.setEmpty_locals (f : Fibre) (r : GReg) : (f.setEmpty r).locals = f.locals := rfl
@[simp] theorem Fibre.setEmpty_spawnUnack (f : Fibre) (r : GReg) : (f.setEmpty r).spawnUnack = f.spawnUnack := rfl
@[simp] theorem Fibre.setEmpty_mrUnack (f : Fibre) (r : GReg) : (f.setEmpty r).mrUnack = f.mrUnack := rfl
@[simp] theorem Fibre.setEmpty_mrHeld (f : Fibre) (r : GReg) : (f.setEmpty r).mrHeld = f.mrHeld := rfl
@[simp] theorem Fibre.setEmpty_relMark (f : Fibre) (r : GReg) : (f.setEmpty r).relMark = f.relMark := rfl
@[simp] theorem Fibre.setEmpty_isFault (f : Fibre) (r : GReg) : (f.setEmpty r).isFault = f.isFault := rfl

/-! ### Fibre.setFaulted -/

@[simp] theorem Fibre.setFaulted_uid (f : Fibre) (r : GReg) : (f.setFaulted r).uid = f.uid := rfl
@[simp] theorem Fibre.setFaulted_pc (f : Fibre) (r : GReg) : (f.setFaulted r).pc = f.pc := rfl
@[simp] theorem Fibre.setFaulted_g (f : Fibre) (r : GReg) : (f.setFaulted r).g = f.g := rfl
@[simp] theorem Fibre.setFaulted_empty (f : Fibre) (r : GReg) : (f.setFaulted r).empty = f.empty := rfl
@[simp] theorem Fibre.setFaulted_loops (f : Fibre) (r : GReg) : (f.setFaulted r).loops = f.loops := rfl
@[simp] theorem Fibre.setFaulted_pri (f : Fibre) (r : GReg) : (f.setFaulted r).pri = f.pri := rfl
@[simp] theorem Fibre.setFaulted_hm (f : Fibre) (r : GReg) : (f.setFaulted r).hm = f.hm := rfl
@[simp] theorem Fibre.setFaulted_vctx (f : Fibre) (r : GReg) : (f.setFaulted r).vctx = f.vctx := rfl
@[simp] theorem Fibre.setFaulted_frame (f : Fibre) (r : GReg) : (f.setFaulted r).frame = f.frame := rfl
@[simp] theorem Fibre.setFaulted_hpc (f : Fibre) (r : GReg) : (f.setFaulted r).hpc = f.hpc := rfl
@[simp] theorem Fibre.setFaulted_hcause (f : Fibre) (r : GReg) : (f.setFaulted r).hcause = f.hcause := rfl
@[simp] theorem Fibre.setFaulted_hval (f : Fibre) (r : GReg) : (f.setFaulted r).hval = f.hval := rfl
@[simp] theorem Fibre.setFaulted_hseq (f : Fibre) (r : GReg) : (f.setFaulted r).hseq = f.hseq := rfl
@[simp] theorem Fibre.setFaulted_hscr (f : Fibre) (r : GReg) : (f.setFaulted r).hscr = f.hscr := rfl
@[simp] theorem Fibre.setFaulted_ring (f : Fibre) (r : GReg) : (f.setFaulted r).ring = f.ring := rfl
@[simp] theorem Fibre.setFaulted_dfaults (f : Fibre) (r : GReg) : (f.setFaulted r).dfaults = f.dfaults := rfl
@[simp] theorem Fibre.setFaulted_ticket (f : Fibre) (r : GReg) : (f.setFaulted r).ticket = f.ticket := rfl
@[simp] theorem Fibre.setFaulted_pend (f : Fibre) (r : GReg) : (f.setFaulted r).pend = f.pend := rfl
@[simp] theorem Fibre.setFaulted_wait (f : Fibre) (r : GReg) : (f.setFaulted r).wait = f.wait := rfl
@[simp] theorem Fibre.setFaulted_since (f : Fibre) (r : GReg) : (f.setFaulted r).since = f.since := rfl
@[simp] theorem Fibre.setFaulted_w (f : Fibre) (r : GReg) : (f.setFaulted r).w = f.w := rfl
@[simp] theorem Fibre.setFaulted_nextIssue (f : Fibre) (r : GReg) : (f.setFaulted r).nextIssue = f.nextIssue := rfl
@[simp] theorem Fibre.setFaulted_locals (f : Fibre) (r : GReg) : (f.setFaulted r).locals = f.locals := rfl
@[simp] theorem Fibre.setFaulted_spawnUnack (f : Fibre) (r : GReg) : (f.setFaulted r).spawnUnack = f.spawnUnack := rfl
@[simp] theorem Fibre.setFaulted_mrUnack (f : Fibre) (r : GReg) : (f.setFaulted r).mrUnack = f.mrUnack := rfl
@[simp] theorem Fibre.setFaulted_mrHeld (f : Fibre) (r : GReg) : (f.setFaulted r).mrHeld = f.mrHeld := rfl
@[simp] theorem Fibre.setFaulted_relMark (f : Fibre) (r : GReg) : (f.setFaulted r).relMark = f.relMark := rfl
@[simp] theorem Fibre.setFaulted_isFault (f : Fibre) (r : GReg) : (f.setFaulted r).isFault = f.isFault := rfl

/-! ### Fibre.enter -/

@[simp] theorem Fibre.enter_uid (f : Fibre) (h c v q p : Word) : (f.enter h c v q p).uid = f.uid := rfl
@[simp] theorem Fibre.enter_g (f : Fibre) (h c v q p : Word) : (f.enter h c v q p).g = f.g := rfl
@[simp] theorem Fibre.enter_empty (f : Fibre) (h c v q p : Word) : (f.enter h c v q p).empty = f.empty := rfl
@[simp] theorem Fibre.enter_faulted (f : Fibre) (h c v q p : Word) : (f.enter h c v q p).faulted = f.faulted := rfl
@[simp] theorem Fibre.enter_loops (f : Fibre) (h c v q p : Word) : (f.enter h c v q p).loops = f.loops := rfl
@[simp] theorem Fibre.enter_pri (f : Fibre) (h c v q p : Word) : (f.enter h c v q p).pri = f.pri := rfl
@[simp] theorem Fibre.enter_vctx (f : Fibre) (h c v q p : Word) : (f.enter h c v q p).vctx = f.vctx := rfl
@[simp] theorem Fibre.enter_hscr (f : Fibre) (h c v q p : Word) : (f.enter h c v q p).hscr = f.hscr := rfl
@[simp] theorem Fibre.enter_ring (f : Fibre) (h c v q p : Word) : (f.enter h c v q p).ring = f.ring := rfl
@[simp] theorem Fibre.enter_dfaults (f : Fibre) (h c v q p : Word) : (f.enter h c v q p).dfaults = f.dfaults := rfl
@[simp] theorem Fibre.enter_ticket (f : Fibre) (h c v q p : Word) : (f.enter h c v q p).ticket = f.ticket := rfl
@[simp] theorem Fibre.enter_pend (f : Fibre) (h c v q p : Word) : (f.enter h c v q p).pend = f.pend := rfl
@[simp] theorem Fibre.enter_since (f : Fibre) (h c v q p : Word) : (f.enter h c v q p).since = f.since := rfl
@[simp] theorem Fibre.enter_w (f : Fibre) (h c v q p : Word) : (f.enter h c v q p).w = f.w := rfl
@[simp] theorem Fibre.enter_nextIssue (f : Fibre) (h c v q p : Word) : (f.enter h c v q p).nextIssue = f.nextIssue := rfl
@[simp] theorem Fibre.enter_locals (f : Fibre) (h c v q p : Word) : (f.enter h c v q p).locals = f.locals := rfl
@[simp] theorem Fibre.enter_spawnUnack (f : Fibre) (h c v q p : Word) : (f.enter h c v q p).spawnUnack = f.spawnUnack := rfl
@[simp] theorem Fibre.enter_mrUnack (f : Fibre) (h c v q p : Word) : (f.enter h c v q p).mrUnack = f.mrUnack := rfl
@[simp] theorem Fibre.enter_mrHeld (f : Fibre) (h c v q p : Word) : (f.enter h c v q p).mrHeld = f.mrHeld := rfl
@[simp] theorem Fibre.enter_relMark (f : Fibre) (h c v q p : Word) : (f.enter h c v q p).relMark = f.relMark := rfl
@[simp] theorem Fibre.enter_isFault (f : Fibre) (h c v q p : Word) : (f.enter h c v q p).isFault = f.isFault := rfl

/-! ### Fibre.leave -/

@[simp] theorem Fibre.leave_uid (f : Fibre) : (f.leave).uid = f.uid := rfl
@[simp] theorem Fibre.leave_g (f : Fibre) : (f.leave).g = f.g := rfl
@[simp] theorem Fibre.leave_empty (f : Fibre) : (f.leave).empty = f.empty := rfl
@[simp] theorem Fibre.leave_faulted (f : Fibre) : (f.leave).faulted = f.faulted := rfl
@[simp] theorem Fibre.leave_loops (f : Fibre) : (f.leave).loops = f.loops := rfl
@[simp] theorem Fibre.leave_pri (f : Fibre) : (f.leave).pri = f.pri := rfl
@[simp] theorem Fibre.leave_vctx (f : Fibre) : (f.leave).vctx = f.vctx := rfl
@[simp] theorem Fibre.leave_frame (f : Fibre) : (f.leave).frame = f.frame := rfl
@[simp] theorem Fibre.leave_hpc (f : Fibre) : (f.leave).hpc = f.hpc := rfl
@[simp] theorem Fibre.leave_hcause (f : Fibre) : (f.leave).hcause = f.hcause := rfl
@[simp] theorem Fibre.leave_hval (f : Fibre) : (f.leave).hval = f.hval := rfl
@[simp] theorem Fibre.leave_hseq (f : Fibre) : (f.leave).hseq = f.hseq := rfl
@[simp] theorem Fibre.leave_hscr (f : Fibre) : (f.leave).hscr = f.hscr := rfl
@[simp] theorem Fibre.leave_ring (f : Fibre) : (f.leave).ring = f.ring := rfl
@[simp] theorem Fibre.leave_dfaults (f : Fibre) : (f.leave).dfaults = f.dfaults := rfl
@[simp] theorem Fibre.leave_ticket (f : Fibre) : (f.leave).ticket = f.ticket := rfl
@[simp] theorem Fibre.leave_pend (f : Fibre) : (f.leave).pend = f.pend := rfl
@[simp] theorem Fibre.leave_since (f : Fibre) : (f.leave).since = f.since := rfl
@[simp] theorem Fibre.leave_w (f : Fibre) : (f.leave).w = f.w := rfl
@[simp] theorem Fibre.leave_nextIssue (f : Fibre) : (f.leave).nextIssue = f.nextIssue := rfl
@[simp] theorem Fibre.leave_locals (f : Fibre) : (f.leave).locals = f.locals := rfl
@[simp] theorem Fibre.leave_spawnUnack (f : Fibre) : (f.leave).spawnUnack = f.spawnUnack := rfl
@[simp] theorem Fibre.leave_mrUnack (f : Fibre) : (f.leave).mrUnack = f.mrUnack := rfl
@[simp] theorem Fibre.leave_mrHeld (f : Fibre) : (f.leave).mrHeld = f.mrHeld := rfl
@[simp] theorem Fibre.leave_relMark (f : Fibre) : (f.leave).relMark = f.relMark := rfl
@[simp] theorem Fibre.leave_isFault (f : Fibre) : (f.leave).isFault = f.isFault := rfl

/-! ### Fibre.block -/

@[simp] theorem Fibre.block_uid (f : Fibre) (x : Wait) (n : Nat) : (f.block x n).uid = f.uid := rfl
@[simp] theorem Fibre.block_pc (f : Fibre) (x : Wait) (n : Nat) : (f.block x n).pc = f.pc := rfl
@[simp] theorem Fibre.block_g (f : Fibre) (x : Wait) (n : Nat) : (f.block x n).g = f.g := rfl
@[simp] theorem Fibre.block_empty (f : Fibre) (x : Wait) (n : Nat) : (f.block x n).empty = f.empty := rfl
@[simp] theorem Fibre.block_faulted (f : Fibre) (x : Wait) (n : Nat) : (f.block x n).faulted = f.faulted := rfl
@[simp] theorem Fibre.block_loops (f : Fibre) (x : Wait) (n : Nat) : (f.block x n).loops = f.loops := rfl
@[simp] theorem Fibre.block_pri (f : Fibre) (x : Wait) (n : Nat) : (f.block x n).pri = f.pri := rfl
@[simp] theorem Fibre.block_hm (f : Fibre) (x : Wait) (n : Nat) : (f.block x n).hm = f.hm := rfl
@[simp] theorem Fibre.block_vctx (f : Fibre) (x : Wait) (n : Nat) : (f.block x n).vctx = f.vctx := rfl
@[simp] theorem Fibre.block_frame (f : Fibre) (x : Wait) (n : Nat) : (f.block x n).frame = f.frame := rfl
@[simp] theorem Fibre.block_hpc (f : Fibre) (x : Wait) (n : Nat) : (f.block x n).hpc = f.hpc := rfl
@[simp] theorem Fibre.block_hcause (f : Fibre) (x : Wait) (n : Nat) : (f.block x n).hcause = f.hcause := rfl
@[simp] theorem Fibre.block_hval (f : Fibre) (x : Wait) (n : Nat) : (f.block x n).hval = f.hval := rfl
@[simp] theorem Fibre.block_hseq (f : Fibre) (x : Wait) (n : Nat) : (f.block x n).hseq = f.hseq := rfl
@[simp] theorem Fibre.block_hscr (f : Fibre) (x : Wait) (n : Nat) : (f.block x n).hscr = f.hscr := rfl
@[simp] theorem Fibre.block_ring (f : Fibre) (x : Wait) (n : Nat) : (f.block x n).ring = f.ring := rfl
@[simp] theorem Fibre.block_dfaults (f : Fibre) (x : Wait) (n : Nat) : (f.block x n).dfaults = f.dfaults := rfl
@[simp] theorem Fibre.block_ticket (f : Fibre) (x : Wait) (n : Nat) : (f.block x n).ticket = f.ticket := rfl
@[simp] theorem Fibre.block_pend (f : Fibre) (x : Wait) (n : Nat) : (f.block x n).pend = f.pend := rfl
@[simp] theorem Fibre.block_w (f : Fibre) (x : Wait) (n : Nat) : (f.block x n).w = f.w := rfl
@[simp] theorem Fibre.block_nextIssue (f : Fibre) (x : Wait) (n : Nat) : (f.block x n).nextIssue = f.nextIssue := rfl
@[simp] theorem Fibre.block_locals (f : Fibre) (x : Wait) (n : Nat) : (f.block x n).locals = f.locals := rfl
@[simp] theorem Fibre.block_spawnUnack (f : Fibre) (x : Wait) (n : Nat) : (f.block x n).spawnUnack = f.spawnUnack := rfl
@[simp] theorem Fibre.block_mrUnack (f : Fibre) (x : Wait) (n : Nat) : (f.block x n).mrUnack = f.mrUnack := rfl
@[simp] theorem Fibre.block_mrHeld (f : Fibre) (x : Wait) (n : Nat) : (f.block x n).mrHeld = f.mrHeld := rfl
@[simp] theorem Fibre.block_relMark (f : Fibre) (x : Wait) (n : Nat) : (f.block x n).relMark = f.relMark := rfl
@[simp] theorem Fibre.block_isFault (f : Fibre) (x : Wait) (n : Nat) : (f.block x n).isFault = f.isFault := rfl

/-! ### What the named updates write -/

@[simp] theorem State.post_agenda (s : State) (l : Nat) (e : Ev) :
    (s.post l e).agenda = s.agenda ++ [{ lane := l, ev := e }] := rfl
@[simp] theorem State.postFront_agenda (s : State) (l : Nat) (e : Ev) :
    (s.postFront l e).agenda = { lane := l, ev := e } :: s.agenda := rfl
@[simp] theorem State.write_mem (s : State) (a : Nat) (l : List Byte) : (s.write a l).mem = memPuts s.mem a l := rfl
@[simp] theorem Fibre.enter_pc (f : Fibre) (h c v q p : Word) : (f.enter h c v q p).pc = h := rfl
@[simp] theorem Fibre.enter_hpc (f : Fibre) (h c v q p : Word) : (f.enter h c v q p).hpc = p := rfl
@[simp] theorem Fibre.enter_hcause (f : Fibre) (h c v q p : Word) : (f.enter h c v q p).hcause = c := rfl
@[simp] theorem Fibre.enter_hval (f : Fibre) (h c v q p : Word) : (f.enter h c v q p).hval = v := rfl
@[simp] theorem Fibre.enter_hseq (f : Fibre) (h c v q p : Word) : (f.enter h c v q p).hseq = q := rfl
@[simp] theorem Fibre.enter_hm (f : Fibre) (h c v q p : Word) : (f.enter h c v q p).hm = true := rfl
@[simp] theorem Fibre.enter_frame (f : Fibre) (h c v q p : Word) : (f.enter h c v q p).frame = none := rfl
@[simp] theorem Fibre.leave_pc (f : Fibre) : f.leave.pc = f.hpc := rfl
@[simp] theorem Fibre.leave_hm (f : Fibre) : f.leave.hm = false := rfl
@[simp] theorem Fibre.block_wait (f : Fibre) (x : Wait) (n : Nat) : (f.block x n).wait = x := rfl

end Sys2Proof.Machine
end

