-- ==== Sys2Proof/Laws/Memory.lean ====
section
/-!
SUPPORT. Reading after writing for tables and for memory, and the canonical form of memory, which every memory operation
keeps.
-/
namespace Sys2Proof

/-! ### Tables -/

theorem tfind_tset_self {α : Type} (l : Tab α) (k : Nat) (v : α) : tfind (tset l k v) k = some v := by
  induction l with
  | nil => simp [tset, tfind]
  | cons p r ih =>
    obtain ⟨j, x⟩ := p
    simp only [tset]
    split
    · simp [tfind]
    · split <;> simp_all [tfind]

theorem tfind_tset_ne {α : Type} (l : Tab α) {k j : Nat} (v : α) (h : j ≠ k) : tfind (tset l k v) j = tfind l j := by
  induction l with
  | nil => simp [tset, tfind, h]
  | cons p r ih =>
    obtain ⟨i, x⟩ := p
    simp only [tset]
    split
    · subst_vars; simp [tfind, h]
    · split <;> simp_all [tfind]

theorem tget_tset_self {α : Type} (d : α) (l : Tab α) (k : Nat) (v : α) : tget d (tset l k v) k = v := by
  induction l with
  | nil => simp [tset, tget]
  | cons p r ih =>
    obtain ⟨j, x⟩ := p
    simp only [tset]
    split
    · simp [tget]
    · split <;> simp_all [tget]

theorem tget_tset_ne {α : Type} (d : α) (l : Tab α) {k j : Nat} (v : α) (h : j ≠ k) :
    tget d (tset l k v) j = tget d l j := by
  induction l with
  | nil => simp [tset, tget, h]
  | cons p r ih =>
    obtain ⟨i, x⟩ := p
    simp only [tset]
    split
    · subst_vars; simp [tget, h]
    · split <;> simp_all [tget]

theorem tset_tset {α : Type} (l : Tab α) (k : Nat) (v w : α) : tset (tset l k v) k w = tset l k w := by
  induction l with
  | nil => simp [tset]
  | cons p r ih =>
    obtain ⟨j, x⟩ := p
    simp only [tset]
    split
    · simp [tset]
    · split <;> simp_all [tset]

theorem tget_tdel_self {α : Type} (d : α) (l : Tab α) (k : Nat) : tget d (tdel l k) k = d := by
  induction l with
  | nil => rfl
  | cons p r ih =>
    obtain ⟨j, x⟩ := p
    simp only [tdel]
    split <;> simp_all [tget]

theorem tget_tdel_ne {α : Type} (d : α) (l : Tab α) {k j : Nat} (h : j ≠ k) : tget d (tdel l k) j = tget d l j := by
  induction l with
  | nil => rfl
  | cons p r ih =>
    obtain ⟨i, x⟩ := p
    simp only [tdel]
    split <;> simp_all [tget]

namespace Machine

theorem tfind_tmod_self {α : Type} (f : α → α) (l : Tab α) (k : Nat) : tfind (tmod f l k) k = (tfind l k).map f := by
  induction l with
  | nil => rfl
  | cons p r ih =>
    obtain ⟨j, x⟩ := p
    simp only [tmod]
    split <;> simp_all [tfind]

theorem tfind_tmod_ne {α : Type} (f : α → α) (l : Tab α) {k j : Nat} (h : j ≠ k) : tfind (tmod f l k) j = tfind l j := by
  induction l with
  | nil => rfl
  | cons p r ih =>
    obtain ⟨i, x⟩ := p
    simp only [tmod]
    split <;> simp_all [tfind]

theorem tmod_tmod {α : Type} (f g : α → α) (l : Tab α) (k : Nat) : tmod g (tmod f l k) k = tmod (fun x => g (f x)) l k := by
  induction l with
  | nil => rfl
  | cons p r ih =>
    obtain ⟨j, x⟩ := p
    simp only [tmod]
    split <;> simp_all [tmod]

theorem tfind_tmap {α : Type} (f : α → α) (l : Tab α) (k : Nat) : tfind (tmap f l) k = (tfind l k).map f := by
  induction l with
  | nil => rfl
  | cons p r ih =>
    obtain ⟨j, x⟩ := p
    simp only [tmap, tfind]
    split <;> simp_all

/-! ### Reading after writing -/

theorem memGet_memPut_self (m : List Host.Cell) (a : Nat) (v : Byte) : memGet (memPut m a v) a = v := by
  unfold memGet memPut
  split
  · rw [tget_tdel_self]; simp_all
  · exact tget_tset_self ..

theorem memGet_memPut_ne (m : List Host.Cell) {a b : Nat} (v : Byte) (h : b ≠ a) :
    memGet (memPut m a v) b = memGet m b := by
  unfold memGet memPut
  split
  · exact tget_tdel_ne _ _ h
  · exact tget_tset_ne _ _ _ h

/-- A write leaves every byte outside its range as it was. -/
theorem memGet_memPuts_out (l : List Byte) (m : List Host.Cell) (a b : Nat) (h : b < a ∨ a + l.length ≤ b) :
    memGet (memPuts m a l) b = memGet m b := by
  induction l generalizing m a with
  | nil => rfl
  | cons x r ih =>
    simp only [List.length_cons] at h
    simp only [memPuts]
    rw [ih _ _ (by omega), memGet_memPut_ne _ _ (by omega)]

/-- A write leaves its bytes, in order. -/
theorem memGet_memPuts_in (l : List Byte) (m : List Host.Cell) (a k : Nat) (h : k < l.length) :
    memGet (memPuts m a l) (a + k) = l[k] := by
  induction l generalizing m a k with
  | nil => simp at h
  | cons x r ih =>
    simp only [memPuts]
    cases k with
    | zero =>
      show memGet (memPuts (memPut m a x) (a + 1) r) a = x
      rw [memGet_memPuts_out _ _ _ _ (by omega), memGet_memPut_self]
    | succ k =>
      have := ih (memPut m a x) (a + 1) k (by simpa using h)
      rw [show a + (k + 1) = a + 1 + k by omega, this]; rfl

/-! ### The canonical form -/

/-- Keys strictly rising, and no byte 0. -/
theorem Memory.wf_iff (m : List Host.Cell) :
    Memory.wf m = true ↔ m.Pairwise (fun p q => p.1 < q.1) ∧ ∀ p ∈ m, p.2 ≠ 0 := by
  induction m with
  | nil => simp [Memory.wf]
  | cons p r ih =>
    obtain ⟨a, v⟩ := p
    cases r with
    | nil => simp [Memory.wf]
    | cons q r =>
      obtain ⟨b, w⟩ := q
      simp only [Memory.wf, Bool.and_eq_true, bne_iff_ne, ne_eq, decide_eq_true_eq, ih]
      constructor
      · rintro ⟨⟨hv, hab⟩, hp, hn⟩
        refine ⟨List.pairwise_cons.2 ⟨?_, hp⟩, ?_⟩
        · intro x hx
          rcases List.mem_cons.1 hx with rfl | hx
          · exact hab
          · exact lt_trans hab ((List.pairwise_cons.1 hp).1 x hx)
        · intro x hx
          rcases List.mem_cons.1 hx with rfl | hx
          · exact hv
          · exact hn x hx
      · rintro ⟨hp, hn⟩
        have h := List.pairwise_cons.1 hp
        exact ⟨⟨hn _ (List.mem_cons_self ..), h.1 _ (List.mem_cons_self ..)⟩, h.2,
          fun x hx => hn x (List.mem_cons_of_mem _ hx)⟩

theorem mem_tset {α : Type} (l : Tab α) (k : Nat) (v : α) : ∀ p ∈ tset l k v, p = (k, v) ∨ p ∈ l := by
  induction l with
  | nil => simp [tset]
  | cons q r ih =>
    obtain ⟨j, x⟩ := q
    simp only [tset]
    intro p
    split
    · simp only [List.mem_cons]; tauto
    · split
      · simp only [List.mem_cons]; tauto
      · simp only [List.mem_cons]
        rintro (h | h)
        · exact .inr (.inl h)
        · rcases ih p h with h | h
          · exact .inl h
          · exact .inr (.inr h)

theorem mem_tdel {α : Type} (l : Tab α) (k : Nat) : ∀ p ∈ tdel l k, p ∈ l := by
  induction l with
  | nil => simp [tdel]
  | cons q r ih =>
    obtain ⟨j, x⟩ := q
    simp only [tdel]
    intro p
    split
    · intro h; exact List.mem_cons_of_mem _ (ih p h)
    · simp only [List.mem_cons]
      rintro (h | h)
      · exact .inl h
      · exact .inr (ih p h)

theorem tset_sorted {α : Type} (l : Tab α) (k : Nat) (v : α) (h : l.Pairwise fun p q => p.1 < q.1) :
    (tset l k v).Pairwise fun p q => p.1 < q.1 := by
  induction l with
  | nil => simp [tset]
  | cons q r ih =>
    obtain ⟨j, x⟩ := q
    obtain ⟨h1, h2⟩ := List.pairwise_cons.1 h
    simp only [tset]
    split
    · subst_vars; exact List.pairwise_cons.2 ⟨h1, h2⟩
    · split
      · rename_i hlt
        refine List.pairwise_cons.2 ⟨?_, h⟩
        intro p hp
        rcases List.mem_cons.1 hp with rfl | hp
        · exact hlt
        · exact lt_trans hlt (h1 p hp)
      · refine List.pairwise_cons.2 ⟨?_, ih h2⟩
        intro p hp
        rcases mem_tset r k v p hp with rfl | hp
        · simp only; omega
        · exact h1 p hp

theorem tdel_sorted {α : Type} (l : Tab α) (k : Nat) (h : l.Pairwise fun p q => p.1 < q.1) :
    (tdel l k).Pairwise fun p q => p.1 < q.1 := by
  induction l with
  | nil => simp [tdel]
  | cons q r ih =>
    obtain ⟨j, x⟩ := q
    obtain ⟨h1, h2⟩ := List.pairwise_cons.1 h
    simp only [tdel]
    split
    · exact ih h2
    · exact List.pairwise_cons.2 ⟨fun p hp => h1 p (mem_tdel r k p hp), ih h2⟩

theorem memPut_wf (m : List Host.Cell) (a : Nat) (v : Byte) (h : Memory.wf m = true) :
    Memory.wf (memPut m a v) = true := by
  rw [Memory.wf_iff] at h ⊢
  obtain ⟨hs, hn⟩ := h
  unfold memPut
  split
  · exact ⟨tdel_sorted _ _ hs, fun p hp => hn p (mem_tdel _ _ p hp)⟩
  · rename_i hv
    refine ⟨tset_sorted _ _ _ hs, fun p hp => ?_⟩
    rcases mem_tset _ _ _ p hp with rfl | hp
    · exact hv
    · exact hn p hp

theorem memPuts_wf (l : List Byte) (m : List Host.Cell) (a : Nat) (h : Memory.wf m = true) :
    Memory.wf (memPuts m a l) = true := by
  induction l generalizing m a with
  | nil => exact h
  | cons x r ih => exact ih _ _ (memPut_wf m a x h)

theorem filter_wf (m : List Host.Cell) (p : Host.Cell → Bool) (h : Memory.wf m = true) :
    Memory.wf (m.filter p) = true := by
  rw [Memory.wf_iff] at h ⊢
  exact ⟨h.1.filter p, fun x hx => h.2 x (List.mem_of_mem_filter hx)⟩

/-- The invariant looks at nothing but memory. -/
theorem State.Inv_of_mem {s t : State} (h : s.Inv) (e : t.mem = s.mem) : t.Inv := by
  unfold State.Inv at h ⊢; rw [e]; exact h

theorem State.write_Inv (s : State) (a : Nat) (l : List Byte) (h : s.Inv) : (s.write a l).Inv :=
  memPuts_wf l s.mem a h

theorem State.writeDs_Inv (l : List Word) (s : State) (a : Nat) (h : s.Inv) : (s.writeDs a l).Inv := by
  induction l generalizing s a with
  | nil => exact h
  | cons x r ih => exact ih _ _ (State.write_Inv s a _ h)

/-- Doublewords written change no byte outside their range. -/
theorem State.writeDs_out (l : List Word) (s : State) (a b : Nat) (h : b < a ∨ a + 8 * l.length ≤ b) :
    memGet (s.writeDs a l).mem b = memGet s.mem b := by
  induction l generalizing s a with
  | nil => rfl
  | cons x r ih =>
    simp only [List.length_cons] at h
    simp only [State.writeDs]
    rw [ih _ _ (by omega), State.write_mem]
    exact memGet_memPuts_out _ _ _ _ (by simp [leBytes]; omega)

end Machine
end Sys2Proof
end

