-- ==== Sys2Proof/Laws/Fibre.lean ====
section
/-!
SUPPORT. Reading a bay, a context, a slot and a fibre after a change; the registers of a fibre; what an issue can do.
-/
namespace Sys2Proof.Machine

/-! ### Bays and contexts -/

theorem State.bay_modBay_self (s : State) (b : Nat) (h : Bay → Bay) : (s.modBay b h).bay b = h (s.bay b) :=
  tget_tset_self ..

theorem State.bay_modBay_ne (s : State) {b j : Nat} (h : Bay → Bay) (e : j ≠ b) : (s.modBay b h).bay j = s.bay j :=
  tget_tset_ne _ _ _ e

theorem State.modBay_modBay (s : State) (b : Nat) (g h : Bay → Bay) :
    (s.modBay b g).modBay b h = s.modBay b fun x => h (g x) := by
  show State.mk .. = State.mk ..
  congr 1
  exact (tset_tset ..).trans (by rw [State.bay_modBay_self])

theorem State.bctx_modC_self (s : State) (b i : Nat) (h : BayCtx → BayCtx) :
    (s.modC b i h).bctx b i = (s.bctx b i).map h := by
  unfold State.bctx State.modC
  rw [State.bay_modBay_self]
  exact tfind_tmod_self ..

theorem State.bctx_modC_ne (s : State) {b i c j : Nat} (h : BayCtx → BayCtx) (e : c ≠ b ∨ j ≠ i) :
    (s.modC b i h).bctx c j = s.bctx c j := by
  unfold State.bctx State.modC
  by_cases hc : c = b
  · subst hc
    rw [State.bay_modBay_self]
    exact tfind_tmod_ne _ _ (by tauto)
  · rw [State.bay_modBay_ne _ _ hc]

theorem State.modC_modC (s : State) (b i : Nat) (g h : BayCtx → BayCtx) :
    (s.modC b i g).modC b i h = s.modC b i fun x => h (g x) := by
  unfold State.modC
  rw [State.modBay_modBay]
  simp only [tmod_tmod]

theorem tmod_congr {α : Type} {g h : α → α} {l : Tab α} {k : Nat} {v : α} (e : tfind l k = some v) (w : g v = h v) :
    tmod g l k = tmod h l k := by
  induction l with
  | nil => rfl
  | cons p r ih =>
    obtain ⟨j, x⟩ := p
    simp only [tfind] at e
    simp only [tmod]
    split <;> simp_all

theorem State.modC_congr {s : State} {b i : Nat} {c : BayCtx} {g h : BayCtx → BayCtx} (e : s.bctx b i = some c)
    (w : g c = h c) : s.modC b i g = s.modC b i h := by
  have k : tmod g (s.bay b).ctxs i = tmod h (s.bay b).ctxs i := tmod_congr e w
  unfold State.modC State.modBay
  dsimp only
  rw [k]

/-! ### Slots and fibres -/

theorem BayCtx.slot_modSlot_self (c : BayCtx) (k : Nat) (h : Slot → Slot) : (c.modSlot k h).slot k = h (c.slot k) :=
  tget_tset_self ..

theorem BayCtx.slot_modSlot_ne (c : BayCtx) {k j : Nat} (h : Slot → Slot) (e : j ≠ k) : (c.modSlot k h).slot j = c.slot j :=
  tget_tset_ne _ _ _ e

theorem BayCtx.modSlot_modSlot (c : BayCtx) (k : Nat) (g h : Slot → Slot) :
    (c.modSlot k g).modSlot k h = c.modSlot k fun x => h (g x) := by
  show BayCtx.mk .. = BayCtx.mk ..
  congr 1
  exact (tset_tset ..).trans (by rw [BayCtx.slot_modSlot_self])

theorem State.fib_modF_self (s : State) (b i k : Nat) (h : Fibre → Fibre) :
    (s.modF b i k h).fib b i k = (s.fib b i k).map h := by
  unfold State.fib State.modF
  rw [State.bctx_modC_self]
  cases s.bctx b i with
  | none => rfl
  | some c => simp [BayCtx.slot_modSlot_self]

theorem State.fib_modF_ne (s : State) {b i k b' i' k' : Nat} (h : Fibre → Fibre) (e : b' ≠ b ∨ i' ≠ i ∨ k' ≠ k) :
    (s.modF b i k h).fib b' i' k' = s.fib b' i' k' := by
  unfold State.fib State.modF
  by_cases hc : b' = b ∧ i' = i
  · obtain ⟨rfl, rfl⟩ := hc
    rw [State.bctx_modC_self]
    cases s.bctx b' i' with
    | none => rfl
    | some c => simp [BayCtx.slot_modSlot_ne c _ (show k' ≠ k by tauto)]
  · rw [State.bctx_modC_ne _ _ (by tauto)]

theorem State.modF_modF (s : State) (b i k : Nat) (g h : Fibre → Fibre) :
    (s.modF b i k g).modF b i k h = s.modF b i k fun x => h (g x) := by
  unfold State.modF
  rw [State.modC_modC]
  simp only [BayCtx.modSlot_modSlot, Option.map_map]
  rfl

theorem State.modF_congr {s : State} {b i k : Nat} {f : Fibre} {g h : Fibre → Fibre} (e : s.fib b i k = some f)
    (w : g f = h f) : s.modF b i k g = s.modF b i k h := by
  unfold State.fib at e
  cases hc : s.bctx b i with
  | none => simp [hc] at e
  | some c =>
    rw [hc] at e
    refine State.modC_congr hc ?_
    have e' : (c.slot k).fib = some f := e
    simp only [BayCtx.modSlot, e', Option.map_some, w]

theorem State.modCur_modCur (s : State) (g h : Fibre → Fibre) : (s.modCur g).modCur h = s.modCur fun x => h (g x) :=
  State.modF_modF ..

theorem State.modCur_eq_asFibre {s : State} {f : Fibre} (e : s.curF = some f) (h : Fibre → Fibre) :
    s.modCur h = s.asFibre (h f) :=
  State.modF_congr e rfl

@[simp] theorem State.curF_asFibre {s : State} {f : Fibre} (e : s.curF = some f) (g : Fibre) : (s.asFibre g).curF = some g :=
  (State.fib_modF_self ..).trans (by unfold State.curF at e; rw [e]; rfl)

theorem State.modCur_asFibre (s : State) (g : Fibre) (h : Fibre → Fibre) : (s.asFibre g).modCur h = s.asFibre (h g) :=
  State.modF_modF ..

@[simp] theorem State.asFibre_asFibre (s : State) (g h : Fibre) : (s.asFibre g).asFibre h = s.asFibre h :=
  State.modF_modF ..

@[simp] theorem State.asFibre_cur (s : State) (g : Fibre) : (s.asFibre g).cur = s.cur := rfl
@[simp] theorem State.asFibre_mem (s : State) (g : Fibre) : (s.asFibre g).mem = s.mem := rfl

theorem State.curC_modCur {s : State} {c : BayCtx} (e : s.curC = some c) (h : Fibre → Fibre) :
    (s.modCur h).curC = some (c.modSlot s.cur.slot fun x => { x with fib := x.fib.map h }) :=
  (State.bctx_modC_self ..).trans (by unfold State.curC at e; rw [e]; rfl)

/-- The contexts of a bay stay the same contexts when a fibre changes. -/
theorem State.asid_modF (s : State) (b i k c j : Nat) (h : Fibre → Fibre) :
    ((s.modF b i k h).bctx c j).map BayCtx.asid = (s.bctx c j).map BayCtx.asid := by
  unfold State.modF
  by_cases hc : c = b ∧ j = i
  · obtain ⟨rfl, rfl⟩ := hc
    rw [State.bctx_modC_self]
    cases s.bctx c j <;> rfl
  · rw [State.bctx_modC_ne _ _ (by tauto)]

/-! ### Registers -/

theorem Fibre.reg_setReg_self (f : Fibre) (r : GReg) (v : Word) : (f.setReg r v).reg r = v := by
  simp [Fibre.reg, Fibre.setReg]

theorem Fibre.reg_setReg_ne (f : Fibre) {r q : GReg} (v : Word) (h : q ≠ r) : (f.setReg r v).reg q = f.reg q := by
  have : r.toNat ≠ q.toNat := fun e => h (BitVec.eq_of_toNat_eq e.symm)
  simp [Fibre.reg, Fibre.setReg, Vector.getElem_set_ne, this]

theorem Fibre.isEmpty_setReg_self (f : Fibre) (r : GReg) (v : Word) : (f.setReg r v).isEmpty r = false := by
  have := r.isLt
  simp [Fibre.isEmpty, Fibre.setReg]

theorem Fibre.isEmpty_setReg_ne (f : Fibre) {r q : GReg} (v : Word) (h : q ≠ r) :
    (f.setReg r v).isEmpty q = f.isEmpty q := by
  have h1 := r.isLt
  have h2 := q.isLt
  have h3 : r.toNat ≠ q.toNat := fun e => h (BitVec.eq_of_toNat_eq e.symm)
  simp only [Fibre.isEmpty, Fibre.setReg, BitVec.getLsbD_and, BitVec.getLsbD_not, BitVec.getLsbD_shiftLeft]
  rw [BitVec.getLsbD_one]
  by_cases hl : q.toNat < r.toNat
  · simp [hl]; omega
  · have : q.toNat - r.toNat ≠ 0 := by omega
    simp [hl, this]; omega

/-! ### What an issue does -/

/-- An instruction whose registers are full, whose early checks pass and that no frame stops does what its body says. -/
theorem issue_runs {s : State} {i : Instr} {e : BayCtx → Fibre → Option (Cause × Word)}
    {k : BayCtx → Fibre → State → Res} {c : BayCtx} {f : Fibre} (hc : s.curC = some c) (hf : s.curF = some f)
    (hr : ∀ r ∈ namedRegs i, f.isEmpty r = false) (he : e c f = none) (hn : f.frame = none) :
    issue i e k s = .next (s.finish f (k c f s)) := by
  have : (namedRegs i).any f.isEmpty = false := by
    rw [List.any_eq_false]; intro r h; simp [hr r h]
  simp [issue, hc, hf, this, he, hn]

/-- An early check that fails is a precise fault. -/
theorem issue_early {s : State} {i : Instr} {e : BayCtx → Fibre → Option (Cause × Word)}
    {k : BayCtx → Fibre → State → Res} {c : BayCtx} {f : Fibre} {x : Cause} {v : Word} (hc : s.curC = some c)
    (hf : s.curF = some f) (hr : ∀ r ∈ namedRegs i, f.isEmpty r = false) (he : e c f = some (x, v)) :
    issue i e k s = .next (s.raise f x v) := by
  have : (namedRegs i).any f.isEmpty = false := by
    rw [List.any_eq_false]; intro r h; simp [hr r h]
  simp [issue, hc, hf, this, he]

/-- A body that changed the issuing fibre and retires it. -/
theorem finish_done_asFibre (s : State) (f g : Fibre) : s.finish f (.done (s.asFibre g)) = s.retired g.retire := by
  simp [State.finish, State.retireCur, State.modCur_asFibre, State.retired]

theorem finish_done_self {s : State} {f : Fibre} (e : s.curF = some f) : s.finish f (.done s) = s.retired f.retire := by
  simp [State.finish, State.retireCur, State.retired, State.modCur_eq_asFibre e]

theorem finish_jumped_asFibre (s : State) (f g : Fibre) :
    s.finish f (.jumped (s.asFibre g)) = s.retired { g with wait := .ready } := by
  simp [State.finish, State.modCur_asFibre, State.retired]

/-- An instruction that only writes a register. -/
theorem aluOp_runs {s : State} {i : Instr} {d : GReg} {v : Fibre → Word} {c : BayCtx} {f : Fibre}
    (h : s.Issues (namedRegs i) c f) : aluOp i d v s = .next (s.result f d (v f)) := by
  unfold aluOp
  rw [issue_runs h.ctx h.fibre h.full rfl h.frame, State.modCur_eq_asFibre h.fibre, finish_done_asFibre]
  rfl

/-- Taking an exception in ordinary mode with nothing outstanding (R409). -/
theorem raise_ordinary {s : State} {f : Fibre} (e : s.curF = some f) (h : f.hm = false) (q : f.quiet) (c : Cause)
    (v : Word) : s.raise f c v = s.entered f (causeWord c) v 0 f.pc := by
  obtain ⟨h1, h2⟩ := q
  simp only [State.raise, State.enterHandler, State.enterNow, h, h1, h2, List.isEmpty_nil, if_true, State.entered,
    Bool.false_eq_true, if_false]
  exact congrArg (State.countEntry · s.cur) (State.modCur_eq_asFibre e fun x => x.enter (s.hentryOf s.cur) _ v 0 f.pc)

/-- A precise fault of a body. -/
theorem finish_fault (s : State) (f : Fibre) (c : Cause) (v : Word) : s.finish f (.fault c v) = s.raise f c v := rfl

/-! ### Memory under the shared operations -/

@[simp] theorem State.countRetired_mem (s : State) (b i : Nat) : (s.countRetired b i).mem = s.mem := by
  unfold State.countRetired; split <;> rfl
@[simp] theorem State.countRetired_cur (s : State) (b i : Nat) : (s.countRetired b i).cur = s.cur := by
  unfold State.countRetired; split <;> rfl
@[simp] theorem State.retired_mem (s : State) (g : Fibre) : (s.retired g).mem = s.mem := by simp [State.retired]
@[simp] theorem State.retireCur_mem (s : State) : s.retireCur.mem = s.mem := by simp [State.retireCur]
@[simp] theorem State.retireU_mem (s : State) (u : Nat) (h : Fibre → Fibre) : (s.retireU u h).mem = s.mem := by
  unfold State.retireU; dsimp only; split <;> simp
@[simp] theorem State.countEntry_mem (s : State) (p : Cur) : (s.countEntry p).mem = s.mem := by
  unfold State.countEntry; split <;> rfl
@[simp] theorem State.doubleFault_mem (s : State) (p : Cur) (f : Fibre) (c v q a : Word) :
    (s.doubleFault p f c v q a).mem = s.mem := by
  unfold State.doubleFault; split <;> rfl
@[simp] theorem State.reportDeferred_mem (s : State) (p : Cur) (f : Fibre) : (s.reportDeferred p f).mem = s.mem := by
  unfold State.reportDeferred; dsimp only
  split
  · rfl
  · split
    · simp
    · split <;> simp
@[simp] theorem State.enterNow_mem (s : State) (p : Cur) (f : Fibre) (c v q r : Word) :
    (s.enterNow p f c v q r).mem = s.mem := by
  unfold State.enterNow; split <;> simp
@[simp] theorem State.enterHandler_mem (s : State) (p : Cur) (f : Fibre) (c v q r : Word) :
    (s.enterHandler p f c v q r).mem = s.mem := by
  unfold State.enterHandler; split
  · simp
  · split <;> simp
@[simp] theorem State.raise_mem (s : State) (f : Fibre) (c : Cause) (v : Word) : (s.raise f c v).mem = s.mem := by
  simp [State.raise]
@[simp] theorem State.entryReady_mem (s : State) (u : Nat) : (s.entryReady u).mem = s.mem := by
  unfold State.entryReady
  split
  · split
    · split <;> simp
    · rfl
  · rfl

/-- The memory that a body's result leaves (`s` where it faults, blocks or reports). -/
def Res.mem (s : State) : Res → List Host.Cell
  | .done t => t.mem
  | .jumped t => t.mem
  | .stay t => t.mem
  | .enter t _ _ _ => t.mem
  | .block _ => s.mem
  | .fault _ _ => s.mem
  | .deferred => s.mem

theorem State.finish_mem (s : State) (f : Fibre) (r : Res) : (s.finish f r).mem = r.mem s := by
  cases r <;> simp only [State.finish, Res.mem, retireCur_mem, countRetired_mem, modCur_mem, raise_mem, reportDeferred_mem]
  split <;> simp

/-- Everything an issue can do: it waits, reports a deferred fault, faults early, or does what its body says. -/
theorem issue_cases {s t : State} {i : Instr} {e : BayCtx → Fibre → Option (Cause × Word)}
    {k : BayCtx → Fibre → State → Res} (h : issue i e k s = .next t) :
    ∃ c f, s.curC = some c ∧ s.curF = some f ∧
      (t = s ∨ t = s.reportDeferred s.cur f ∨ t = s.modCur (fun x => x.block (.retry 9) (s.bay s.cur.bay).cycle) ∨
        (∃ x v, t = s.raise f x v) ∨ t = s.finish f (k c f s)) := by
  unfold issue at h
  split at h
  · rename_i c f hc hf
    refine ⟨c, f, hc, hf, ?_⟩
    repeat' split at h
    all_goals injection h with h; subst h
    all_goals first
      | exact .inl rfl
      | exact .inr (.inl rfl)
      | exact .inr (.inr (.inl rfl))
      | exact .inr (.inr (.inr (.inl ⟨_, _, rfl⟩)))
      | exact .inr (.inr (.inr (.inr rfl)))
  · cases h

/-- Memory after an issue is memory before it, or what the body leaves. -/
theorem issue_mem {s t : State} {i : Instr} {e : BayCtx → Fibre → Option (Cause × Word)}
    {k : BayCtx → Fibre → State → Res} (h : issue i e k s = .next t) :
    t.mem = s.mem ∨ ∃ c f, s.curC = some c ∧ s.curF = some f ∧ t.mem = (k c f s).mem s := by
  obtain ⟨c, f, hc, hf, h | h | h | ⟨_, _, h⟩ | h⟩ := issue_cases h <;> subst h
  · exact .inl rfl
  · exact .inl (by simp)
  · exact .inl rfl
  · exact .inl (by simp)
  · exact .inr ⟨c, f, hc, hf, State.finish_mem ..⟩

end Sys2Proof.Machine
end

