-- ==== Sys2Proof/Laws/Image.lean ====
section
/-!
SUPPORT. What a change of a context's state on a bay does where the context is saved off it (spec/14_contexts.md R425): memory
becomes that of the change or stays, and keeps its canonical form.
-/
namespace Sys2Proof.Machine

@[simp] theorem State.tallyPages_mem (s : State) (b a : Nat) (k : Tally) (l : List Nat) :
    (s.tallyPages b a k l).mem = s.mem := by
  unfold State.tallyPages
  induction l generalizing s with
  | nil => rfl
  | cons p r ih => simp [ih]

@[simp] theorem State.sealPages_mem (s : State) (b : Nat) (c : BayCtx) (ks : List Nat) : (s.sealPages b c ks).mem = s.mem := by
  simp [State.sealPages]

@[simp] theorem State.endImage_mem (s : State) (b a k : Nat) (m : Bool) : (s.endImage b a k m).mem = s.mem := by
  cases m <;> simp [State.endImage]

/-- A context that is not saved off the bay has no image to check. -/
theorem State.viaPages_resident (s t : State) {b a : Nat} (ks : List Nat) (h : s.saved b a = none) :
    s.viaPages t b a ks = (t, true) := by
  simp [State.viaPages, h]

theorem State.putPages_mem (s t : State) (b a : Nat) (d : BayCtx) (ks : List Nat) (x : Option (Nat × Bool)) :
    (s.putPages t b a d ks x).1.mem = if (s.putPages t b a d ks x).2 then t.mem else s.mem := by
  rcases x with _ | ⟨k, m⟩
  · exact State.sealPages_mem ..
  · exact State.endImage_mem ..

/-- A change that may be made has the memory of the change; one that may not leaves memory as it was. -/
theorem State.viaPages_mem (s t : State) (b a : Nat) (ks : List Nat) :
    (s.viaPages t b a ks).1.mem = if (s.viaPages t b a ks).2 then t.mem else s.mem := by
  unfold State.viaPages
  generalize s.saved b a = x, ((s.keyOf b a).bind fun i => t.bctx b i) = y
  rcases x with _ | c
  · rfl
  rcases y with _ | d
  · rfl
  exact State.putPages_mem ..

theorem State.viaPages_Inv {s t : State} (b a : Nat) (ks : List Nat) (hs : s.Inv) (ht : t.Inv) :
    (s.viaPages t b a ks).1.Inv := by
  have h := State.viaPages_mem s t b a ks
  split at h
  · exact State.Inv_of_mem ht h
  · exact State.Inv_of_mem hs h

theorem State.imaged_Inv {s t : State} (b a : Nat) (hs : s.Inv) (ht : t.Inv) : (s.imaged t b a).Inv :=
  State.viaPages_Inv b a [] hs ht

theorem State.putSaved_Inv {s : State} (b a off key : Nat) (d : List Byte) (h : s.Inv) : (s.putSaved b a off key d).1.Inv :=
  State.viaPages_Inv b a _ h (State.write_Inv s key d h)

/-- A request that reads a saved context's pages changes no memory. -/
theorem State.readPages_mem (s : State) (b : Nat) (c : BayCtx) (ks : List Nat) : (s.readPages b c ks).1.mem = s.mem := by
  unfold State.readPages
  split <;> simp

end Sys2Proof.Machine
end

