-- ==== Sys2Proof/Laws/PerInstr.lean ====
section
/-!
SUPPORT. Per instruction: the words that a frame may hold (R111, R44) are those of the instructions of majors 0x34 to
0x39, read off the encoding.
-/
namespace Sys2Proof.Laws

/-- What stands above the last field of a word. -/
theorem lead_base {n m : Nat} (x : BitVec n) (y : BitVec m) : (x ++ y).toNat / 2 ^ m = x.toNat := by
  rw [BitVec.toNat_append, ← Nat.shiftRight_eq_div_pow, Nat.shiftRight_or_distrib, Nat.shiftLeft_shiftRight,
    Nat.shiftRight_eq_div_pow, Nat.div_eq_of_lt y.isLt, Nat.or_zero]

/-- What stands above the last field and some before it. -/
theorem lead_step {n m k v : Nat} {x : BitVec n} {y : BitVec m} (h : x.toNat / 2 ^ k = v) :
    (x ++ y).toNat / 2 ^ (m + k) = v := by
  rw [Nat.pow_add, ← Nat.div_div_eq_div_mul, lead_base, h]

/-- An instruction counts as one of a frame by its word exactly where it is one of majors 0x34 to 0x39 (R44, R111). -/
def Framed.Statement (i : Instr) : Prop := Machine.inFrame i = Machine.vecFramed i

/-- The statement from the major of the word. -/
theorem framed_of {i : Instr} {w : BitVec 32} {v k : Nat} (h : encode i = some w) (e : w.toNat / 2 ^ k = v) (q : k = 26)
    (r : (decide (0x34 ≤ v) && decide (v ≤ 0x39)) = Machine.vecFramed i) : Framed.Statement i := by
  subst q
  simp only [Framed.Statement, Machine.inFrame, h, e, r]

theorem Framed.add (x0 x1 x2) : Framed.Statement (.add x0 x1 x2) :=
  framed_of rfl (lead_step (lead_step (lead_step (lead_step (lead_base _ _))))) rfl rfl

theorem Framed.sub (x0 x1 x2) : Framed.Statement (.sub x0 x1 x2) :=
  framed_of rfl (lead_step (lead_step (lead_step (lead_step (lead_base _ _))))) rfl rfl

theorem Framed.and (x0 x1 x2) : Framed.Statement (.and x0 x1 x2) :=
  framed_of rfl (lead_step (lead_step (lead_step (lead_step (lead_base _ _))))) rfl rfl

theorem Framed.or (x0 x1 x2) : Framed.Statement (.or x0 x1 x2) :=
  framed_of rfl (lead_step (lead_step (lead_step (lead_step (lead_base _ _))))) rfl rfl

theorem Framed.xor (x0 x1 x2) : Framed.Statement (.xor x0 x1 x2) :=
  framed_of rfl (lead_step (lead_step (lead_step (lead_step (lead_base _ _))))) rfl rfl

theorem Framed.andn (x0 x1 x2) : Framed.Statement (.andn x0 x1 x2) :=
  framed_of rfl (lead_step (lead_step (lead_step (lead_step (lead_base _ _))))) rfl rfl

theorem Framed.sll (x0 x1 x2) : Framed.Statement (.sll x0 x1 x2) :=
  framed_of rfl (lead_step (lead_step (lead_step (lead_step (lead_base _ _))))) rfl rfl

theorem Framed.srl (x0 x1 x2) : Framed.Statement (.srl x0 x1 x2) :=
  framed_of rfl (lead_step (lead_step (lead_step (lead_step (lead_base _ _))))) rfl rfl

theorem Framed.sra (x0 x1 x2) : Framed.Statement (.sra x0 x1 x2) :=
  framed_of rfl (lead_step (lead_step (lead_step (lead_step (lead_base _ _))))) rfl rfl

theorem Framed.rol (x0 x1 x2) : Framed.Statement (.rol x0 x1 x2) :=
  framed_of rfl (lead_step (lead_step (lead_step (lead_step (lead_base _ _))))) rfl rfl

theorem Framed.slt (x0 x1 x2) : Framed.Statement (.slt x0 x1 x2) :=
  framed_of rfl (lead_step (lead_step (lead_step (lead_step (lead_base _ _))))) rfl rfl

theorem Framed.sltu (x0 x1 x2) : Framed.Statement (.sltu x0 x1 x2) :=
  framed_of rfl (lead_step (lead_step (lead_step (lead_step (lead_base _ _))))) rfl rfl

theorem Framed.seq (x0 x1 x2) : Framed.Statement (.seq x0 x1 x2) :=
  framed_of rfl (lead_step (lead_step (lead_step (lead_step (lead_base _ _))))) rfl rfl

theorem Framed.min (x0 x1 x2) : Framed.Statement (.min x0 x1 x2) :=
  framed_of rfl (lead_step (lead_step (lead_step (lead_step (lead_base _ _))))) rfl rfl

theorem Framed.max (x0 x1 x2) : Framed.Statement (.max x0 x1 x2) :=
  framed_of rfl (lead_step (lead_step (lead_step (lead_step (lead_base _ _))))) rfl rfl

theorem Framed.minu (x0 x1 x2) : Framed.Statement (.minu x0 x1 x2) :=
  framed_of rfl (lead_step (lead_step (lead_step (lead_step (lead_base _ _))))) rfl rfl

theorem Framed.maxu (x0 x1 x2) : Framed.Statement (.maxu x0 x1 x2) :=
  framed_of rfl (lead_step (lead_step (lead_step (lead_step (lead_base _ _))))) rfl rfl

theorem Framed.slli (x0 x1 x2) : Framed.Statement (.slli x0 x1 x2) :=
  framed_of rfl (lead_step (lead_step (lead_step (lead_step (lead_step (lead_base _ _)))))) rfl rfl

theorem Framed.srli (x0 x1 x2) : Framed.Statement (.srli x0 x1 x2) :=
  framed_of rfl (lead_step (lead_step (lead_step (lead_step (lead_step (lead_base _ _)))))) rfl rfl

theorem Framed.srai (x0 x1 x2) : Framed.Statement (.srai x0 x1 x2) :=
  framed_of rfl (lead_step (lead_step (lead_step (lead_step (lead_step (lead_base _ _)))))) rfl rfl

theorem Framed.sel (x0 x1 x2) : Framed.Statement (.sel x0 x1 x2) :=
  framed_of rfl (lead_step (lead_step (lead_step (lead_step (lead_base _ _))))) rfl rfl

theorem Framed.addw (x0 x1 x2) : Framed.Statement (.addw x0 x1 x2) :=
  framed_of rfl (lead_step (lead_step (lead_step (lead_step (lead_base _ _))))) rfl rfl

theorem Framed.subw (x0 x1 x2) : Framed.Statement (.subw x0 x1 x2) :=
  framed_of rfl (lead_step (lead_step (lead_step (lead_step (lead_base _ _))))) rfl rfl

theorem Framed.addi (x0 x1 x2) : Framed.Statement (.addi x0 x1 x2) :=
  framed_of rfl (lead_step (lead_step (lead_base _ _))) rfl rfl

theorem Framed.andi (x0 x1 x2) : Framed.Statement (.andi x0 x1 x2) :=
  framed_of rfl (lead_step (lead_step (lead_base _ _))) rfl rfl

theorem Framed.ori (x0 x1 x2) : Framed.Statement (.ori x0 x1 x2) :=
  framed_of rfl (lead_step (lead_step (lead_base _ _))) rfl rfl

theorem Framed.xori (x0 x1 x2) : Framed.Statement (.xori x0 x1 x2) :=
  framed_of rfl (lead_step (lead_step (lead_base _ _))) rfl rfl

theorem Framed.slti (x0 x1 x2) : Framed.Statement (.slti x0 x1 x2) :=
  framed_of rfl (lead_step (lead_step (lead_base _ _))) rfl rfl

theorem Framed.sltiu (x0 x1 x2) : Framed.Statement (.sltiu x0 x1 x2) :=
  framed_of rfl (lead_step (lead_step (lead_base _ _))) rfl rfl

theorem Framed.limm (x0 x1) : Framed.Statement (.limm x0 x1) :=
  framed_of rfl (lead_step (lead_base _ _)) rfl rfl

theorem Framed.lshi (x0 x1) : Framed.Statement (.lshi x0 x1) :=
  framed_of rfl (lead_step (lead_base _ _)) rfl rfl

theorem Framed.mul (x0 x1 x2) : Framed.Statement (.mul x0 x1 x2) :=
  framed_of rfl (lead_step (lead_step (lead_step (lead_step (lead_base _ _))))) rfl rfl

theorem Framed.mulh (x0 x1 x2) : Framed.Statement (.mulh x0 x1 x2) :=
  framed_of rfl (lead_step (lead_step (lead_step (lead_step (lead_base _ _))))) rfl rfl

theorem Framed.mulhu (x0 x1 x2) : Framed.Statement (.mulhu x0 x1 x2) :=
  framed_of rfl (lead_step (lead_step (lead_step (lead_step (lead_base _ _))))) rfl rfl

theorem Framed.mulw (x0 x1 x2) : Framed.Statement (.mulw x0 x1 x2) :=
  framed_of rfl (lead_step (lead_step (lead_step (lead_step (lead_base _ _))))) rfl rfl

theorem Framed.div (x0 x1 x2) : Framed.Statement (.div x0 x1 x2) :=
  framed_of rfl (lead_step (lead_step (lead_step (lead_step (lead_base _ _))))) rfl rfl

theorem Framed.divu (x0 x1 x2) : Framed.Statement (.divu x0 x1 x2) :=
  framed_of rfl (lead_step (lead_step (lead_step (lead_step (lead_base _ _))))) rfl rfl

theorem Framed.rem (x0 x1 x2) : Framed.Statement (.rem x0 x1 x2) :=
  framed_of rfl (lead_step (lead_step (lead_step (lead_step (lead_base _ _))))) rfl rfl

theorem Framed.remu (x0 x1 x2) : Framed.Statement (.remu x0 x1 x2) :=
  framed_of rfl (lead_step (lead_step (lead_step (lead_step (lead_base _ _))))) rfl rfl

theorem Framed.popc (x0 x1) : Framed.Statement (.popc x0 x1) :=
  framed_of rfl (lead_step (lead_step (lead_step (lead_step (lead_base _ _))))) rfl rfl

theorem Framed.clz (x0 x1) : Framed.Statement (.clz x0 x1) :=
  framed_of rfl (lead_step (lead_step (lead_step (lead_step (lead_base _ _))))) rfl rfl

theorem Framed.ctz (x0 x1) : Framed.Statement (.ctz x0 x1) :=
  framed_of rfl (lead_step (lead_step (lead_step (lead_step (lead_base _ _))))) rfl rfl

theorem Framed.bswap (x0 x1) : Framed.Statement (.bswap x0 x1) :=
  framed_of rfl (lead_step (lead_step (lead_step (lead_step (lead_base _ _))))) rfl rfl

theorem Framed.bext (x0 x1 x2) : Framed.Statement (.bext x0 x1 x2) :=
  framed_of rfl (lead_step (lead_step (lead_step (lead_step (lead_base _ _))))) rfl rfl

theorem Framed.bins (x0 x1 x2) : Framed.Statement (.bins x0 x1 x2) :=
  framed_of rfl (lead_step (lead_step (lead_step (lead_step (lead_base _ _))))) rfl rfl

theorem Framed.sext (x0 x1 x2) : Framed.Statement (.sext x0 x1 x2) :=
  framed_of rfl (lead_step (lead_step (lead_step (lead_step (lead_step (lead_base _ _)))))) rfl rfl

theorem Framed.zext (x0 x1 x2) : Framed.Statement (.zext x0 x1 x2) :=
  framed_of rfl (lead_step (lead_step (lead_step (lead_step (lead_step (lead_base _ _)))))) rfl rfl

theorem Framed.addpc (x0 x1) : Framed.Statement (.addpc x0 x1) :=
  framed_of rfl (lead_step (lead_step (lead_base _ _))) rfl rfl

theorem Framed.lea (x0 x1 x2 x3) : Framed.Statement (.lea x0 x1 x2 x3) :=
  framed_of rfl (lead_step (lead_step (lead_step (lead_step (lead_step (lead_base _ _)))))) rfl rfl

theorem Framed.bayn (x0 x1 x2) : Framed.Statement (.bayn x0 x1 x2) :=
  framed_of rfl (lead_step (lead_step (lead_step (lead_step (lead_base _ _))))) rfl rfl

theorem Framed.baya (x0 x1 x2) : Framed.Statement (.baya x0 x1 x2) :=
  framed_of rfl (lead_step (lead_step (lead_step (lead_step (lead_base _ _))))) rfl rfl

theorem Framed.beq (x0 x1 x2) : Framed.Statement (.beq x0 x1 x2) :=
  framed_of rfl (lead_step (lead_step (lead_step (lead_base _ _)))) rfl rfl

theorem Framed.bne (x0 x1 x2) : Framed.Statement (.bne x0 x1 x2) :=
  framed_of rfl (lead_step (lead_step (lead_step (lead_base _ _)))) rfl rfl

theorem Framed.blt (x0 x1 x2) : Framed.Statement (.blt x0 x1 x2) :=
  framed_of rfl (lead_step (lead_step (lead_step (lead_base _ _)))) rfl rfl

theorem Framed.bge (x0 x1 x2) : Framed.Statement (.bge x0 x1 x2) :=
  framed_of rfl (lead_step (lead_step (lead_step (lead_base _ _)))) rfl rfl

theorem Framed.bltu (x0 x1 x2) : Framed.Statement (.bltu x0 x1 x2) :=
  framed_of rfl (lead_step (lead_step (lead_step (lead_base _ _)))) rfl rfl

theorem Framed.bgeu (x0 x1 x2) : Framed.Statement (.bgeu x0 x1 x2) :=
  framed_of rfl (lead_step (lead_step (lead_step (lead_base _ _)))) rfl rfl

theorem Framed.bbc (x0 x1 x2) : Framed.Statement (.bbc x0 x1 x2) :=
  framed_of rfl (lead_step (lead_step (lead_step (lead_base _ _)))) rfl rfl

theorem Framed.bbs (x0 x1 x2) : Framed.Statement (.bbs x0 x1 x2) :=
  framed_of rfl (lead_step (lead_step (lead_step (lead_base _ _)))) rfl rfl

theorem Framed.jmp (x0) : Framed.Statement (.jmp x0) :=
  framed_of rfl (lead_base _ _) rfl rfl

theorem Framed.call (x0) : Framed.Statement (.call x0) :=
  framed_of rfl (lead_base _ _) rfl rfl

theorem Framed.jr (x0) : Framed.Statement (.jr x0) :=
  framed_of rfl (lead_step (lead_step (lead_step (lead_step (lead_base _ _))))) rfl rfl

theorem Framed.callr (x0) : Framed.Statement (.callr x0) :=
  framed_of rfl (lead_step (lead_step (lead_step (lead_step (lead_base _ _))))) rfl rfl

theorem Framed.loop (x0 x1 x2) : Framed.Statement (.loop x0 x1 x2) :=
  framed_of rfl (lead_step (lead_step (lead_step (lead_step (lead_base _ _))))) rfl rfl

theorem Framed.loopReg (x0 x1 x2) : Framed.Statement (.loopReg x0 x1 x2) :=
  framed_of rfl (lead_step (lead_step (lead_step (lead_step (lead_base _ _))))) rfl rfl

theorem Framed.lbrk (x0) : Framed.Statement (.lbrk x0) :=
  framed_of rfl (lead_step (lead_step (lead_step (lead_base _ _)))) rfl rfl

theorem Framed.lcnt (x0 x1) : Framed.Statement (.lcnt x0 x1) :=
  framed_of rfl (lead_step (lead_step (lead_step (lead_step (lead_base _ _))))) rfl rfl

theorem Framed.vrep (x0 x1 x2 x3 x4) : Framed.Statement (.vrep x0 x1 x2 x3 x4) :=
  framed_of rfl (lead_step (lead_step (lead_step (lead_step (lead_step (lead_step (lead_step (lead_base _ _)))))))) rfl rfl

theorem Framed.vrepReg (x0 x1 x2 x3 x4) : Framed.Statement (.vrepReg x0 x1 x2 x3 x4) :=
  framed_of rfl (lead_step (lead_step (lead_step (lead_step (lead_step (lead_step (lead_step (lead_base _ _)))))))) rfl rfl

theorem Framed.nop : Framed.Statement .nop :=
  framed_of rfl (lead_step (lead_base _ _)) rfl rfl

theorem Framed.trap (x0) : Framed.Statement (.trap x0) :=
  framed_of rfl (lead_step (lead_step (lead_base _ _))) rfl rfl

theorem Framed.hret : Framed.Statement .hret :=
  framed_of rfl (lead_step (lead_base _ _)) rfl rfl

theorem Framed.sysrd (x0 x1) : Framed.Statement (.sysrd x0 x1) :=
  framed_of rfl (lead_step (lead_step (lead_step (lead_base _ _)))) rfl rfl

theorem Framed.syswr (x0 x1) : Framed.Statement (.syswr x0 x1) :=
  framed_of rfl (lead_step (lead_step (lead_step (lead_base _ _)))) rfl rfl

theorem Framed.evsel (x0 x1) : Framed.Statement (.evsel x0 x1) :=
  framed_of rfl (lead_step (lead_step (lead_step (lead_step (lead_base _ _))))) rfl rfl

theorem Framed.evrd (x0 x1) : Framed.Statement (.evrd x0 x1) :=
  framed_of rfl (lead_step (lead_step (lead_step (lead_base _ _)))) rfl rfl

theorem Framed.time (x0) : Framed.Statement (.time x0) :=
  framed_of rfl (lead_step (lead_step (lead_base _ _))) rfl rfl

theorem Framed.icinv (x0 x1) : Framed.Statement (.icinv x0 x1) :=
  framed_of rfl (lead_step (lead_step (lead_step (lead_base _ _)))) rfl rfl

theorem Framed.fspawn (x0 x1 x2) : Framed.Statement (.fspawn x0 x1 x2) :=
  framed_of rfl (lead_step (lead_step (lead_step (lead_step (lead_base _ _))))) rfl rfl

theorem Framed.fspawnb (x0 x1 x2) : Framed.Statement (.fspawnb x0 x1 x2) :=
  framed_of rfl (lead_step (lead_step (lead_step (lead_step (lead_base _ _))))) rfl rfl

theorem Framed.fexit : Framed.Statement .fexit :=
  framed_of rfl (lead_step (lead_step (lead_base _ _))) rfl rfl

theorem Framed.fid (x0) : Framed.Statement (.fid x0) :=
  framed_of rfl (lead_step (lead_step (lead_step (lead_base _ _)))) rfl rfl

theorem Framed.fpri (x0) : Framed.Statement (.fpri x0) :=
  framed_of rfl (lead_step (lead_step (lead_step (lead_step (lead_base _ _))))) rfl rfl

theorem Framed.fyield : Framed.Statement .fyield :=
  framed_of rfl (lead_step (lead_step (lead_base _ _))) rfl rfl

theorem Framed.fgo (x0) : Framed.Statement (.fgo x0) :=
  framed_of rfl (lead_step (lead_step (lead_step (lead_step (lead_base _ _))))) rfl rfl

theorem Framed.fpark : Framed.Statement .fpark :=
  framed_of rfl (lead_step (lead_step (lead_base _ _))) rfl rfl

theorem Framed.fctx (x0) : Framed.Statement (.fctx x0) :=
  framed_of rfl (lead_step (lead_step (lead_step (lead_base _ _)))) rfl rfl

theorem Framed.cbudget (x0) : Framed.Statement (.cbudget x0) :=
  framed_of rfl (lead_step (lead_step (lead_step (lead_base _ _)))) rfl rfl

theorem Framed.spost (x0 x1 x2 x3) : Framed.Statement (.spost x0 x1 x2 x3) :=
  framed_of rfl (lead_step (lead_step (lead_step (lead_step (lead_step (lead_base _ _)))))) rfl rfl

theorem Framed.swait (x0 x1 x2 x3) : Framed.Statement (.swait x0 x1 x2 x3) :=
  framed_of rfl (lead_step (lead_step (lead_step (lead_step (lead_step (lead_base _ _)))))) rfl rfl

theorem Framed.stry (x0 x1 x2 x3 x4) : Framed.Statement (.stry x0 x1 x2 x3 x4) :=
  framed_of rfl (lead_step (lead_step (lead_step (lead_step (lead_step (lead_base _ _)))))) rfl rfl

theorem Framed.sread (x0 x1) : Framed.Statement (.sread x0 x1) :=
  framed_of rfl (lead_step (lead_step (lead_step (lead_step (lead_base _ _))))) rfl rfl

theorem Framed.sinit (x0 x1) : Framed.Statement (.sinit x0 x1) :=
  framed_of rfl (lead_step (lead_step (lead_step (lead_step (lead_base _ _))))) rfl rfl

theorem Framed.barr (x0 x1 x2) : Framed.Statement (.barr x0 x1 x2) :=
  framed_of rfl (lead_step (lead_step (lead_step (lead_step (lead_base _ _))))) rfl rfl

theorem Framed.bwait (x0 x1 x2) : Framed.Statement (.bwait x0 x1 x2) :=
  framed_of rfl (lead_step (lead_step (lead_step (lead_step (lead_base _ _))))) rfl rfl

theorem Framed.bsync (x0 x1 x2) : Framed.Statement (.bsync x0 x1 x2) :=
  framed_of rfl (lead_step (lead_step (lead_step (lead_step (lead_base _ _))))) rfl rfl

theorem Framed.bmask (x0 x1) : Framed.Statement (.bmask x0 x1) :=
  framed_of rfl (lead_step (lead_step (lead_step (lead_step (lead_base _ _))))) rfl rfl

theorem Framed.bstat (x0 x1) : Framed.Statement (.bstat x0 x1) :=
  framed_of rfl (lead_step (lead_step (lead_step (lead_step (lead_base _ _))))) rfl rfl

theorem Framed.qpush (x0 x1) : Framed.Statement (.qpush x0 x1) :=
  framed_of rfl (lead_step (lead_step (lead_step (lead_step (lead_step (lead_base _ _)))))) rfl rfl

theorem Framed.qpop (x0 x1) : Framed.Statement (.qpop x0 x1) :=
  framed_of rfl (lead_step (lead_step (lead_step (lead_step (lead_base _ _))))) rfl rfl

theorem Framed.qpusht (x0 x1 x2) : Framed.Statement (.qpusht x0 x1 x2) :=
  framed_of rfl (lead_step (lead_step (lead_step (lead_step (lead_step (lead_base _ _)))))) rfl rfl

theorem Framed.qpopt (x0 x1 x2) : Framed.Statement (.qpopt x0 x1 x2) :=
  framed_of rfl (lead_step (lead_step (lead_step (lead_step (lead_step (lead_base _ _)))))) rfl rfl

theorem Framed.qfwd (x0 x1) : Framed.Statement (.qfwd x0 x1) :=
  framed_of rfl (lead_step (lead_step (lead_step (lead_step (lead_base _ _))))) rfl rfl

theorem Framed.qstat (x0 x1) : Framed.Statement (.qstat x0 x1) :=
  framed_of rfl (lead_step (lead_step (lead_step (lead_step (lead_base _ _))))) rfl rfl

theorem Framed.ldl (x0 x1 x2 x3 x4) : Framed.Statement (.ldl x0 x1 x2 x3 x4) :=
  framed_of rfl (lead_step (lead_step (lead_step (lead_step (lead_base _ _))))) rfl rfl

theorem Framed.stl (x0 x1 x2 x3) : Framed.Statement (.stl x0 x1 x2 x3) :=
  framed_of rfl (lead_step (lead_step (lead_step (lead_step (lead_base _ _))))) rfl rfl

theorem Framed.ldg (x0 x1 x2 x3 x4) : Framed.Statement (.ldg x0 x1 x2 x3 x4) :=
  framed_of rfl (lead_step (lead_step (lead_step (lead_step (lead_base _ _))))) rfl rfl

theorem Framed.stg (x0 x1 x2 x3) : Framed.Statement (.stg x0 x1 x2 x3) :=
  framed_of rfl (lead_step (lead_step (lead_step (lead_step (lead_base _ _))))) rfl rfl

theorem Framed.aadd (x0 x1 x2 x3 x4 x5 x6) : Framed.Statement (.aadd x0 x1 x2 x3 x4 x5 x6) :=
  framed_of rfl (lead_step (lead_step (lead_step (lead_step (lead_step (lead_step (lead_step (lead_step (lead_step (lead_base _ _)))))))))) rfl rfl

theorem Framed.aand (x0 x1 x2 x3 x4 x5 x6) : Framed.Statement (.aand x0 x1 x2 x3 x4 x5 x6) :=
  framed_of rfl (lead_step (lead_step (lead_step (lead_step (lead_step (lead_step (lead_step (lead_step (lead_step (lead_base _ _)))))))))) rfl rfl

theorem Framed.aor (x0 x1 x2 x3 x4 x5 x6) : Framed.Statement (.aor x0 x1 x2 x3 x4 x5 x6) :=
  framed_of rfl (lead_step (lead_step (lead_step (lead_step (lead_step (lead_step (lead_step (lead_step (lead_step (lead_base _ _)))))))))) rfl rfl

theorem Framed.axor (x0 x1 x2 x3 x4 x5 x6) : Framed.Statement (.axor x0 x1 x2 x3 x4 x5 x6) :=
  framed_of rfl (lead_step (lead_step (lead_step (lead_step (lead_step (lead_step (lead_step (lead_step (lead_step (lead_base _ _)))))))))) rfl rfl

theorem Framed.amin (x0 x1 x2 x3 x4 x5 x6) : Framed.Statement (.amin x0 x1 x2 x3 x4 x5 x6) :=
  framed_of rfl (lead_step (lead_step (lead_step (lead_step (lead_step (lead_step (lead_step (lead_step (lead_step (lead_base _ _)))))))))) rfl rfl

theorem Framed.amax (x0 x1 x2 x3 x4 x5 x6) : Framed.Statement (.amax x0 x1 x2 x3 x4 x5 x6) :=
  framed_of rfl (lead_step (lead_step (lead_step (lead_step (lead_step (lead_step (lead_step (lead_step (lead_step (lead_base _ _)))))))))) rfl rfl

theorem Framed.aminu (x0 x1 x2 x3 x4 x5 x6) : Framed.Statement (.aminu x0 x1 x2 x3 x4 x5 x6) :=
  framed_of rfl (lead_step (lead_step (lead_step (lead_step (lead_step (lead_step (lead_step (lead_step (lead_step (lead_base _ _)))))))))) rfl rfl

theorem Framed.amaxu (x0 x1 x2 x3 x4 x5 x6) : Framed.Statement (.amaxu x0 x1 x2 x3 x4 x5 x6) :=
  framed_of rfl (lead_step (lead_step (lead_step (lead_step (lead_step (lead_step (lead_step (lead_step (lead_step (lead_base _ _)))))))))) rfl rfl

theorem Framed.aswap (x0 x1 x2 x3 x4 x5 x6) : Framed.Statement (.aswap x0 x1 x2 x3 x4 x5 x6) :=
  framed_of rfl (lead_step (lead_step (lead_step (lead_step (lead_step (lead_step (lead_step (lead_step (lead_step (lead_base _ _)))))))))) rfl rfl

theorem Framed.acas (x0 x1 x2 x3 x4 x5 x6) : Framed.Statement (.acas x0 x1 x2 x3 x4 x5 x6) :=
  framed_of rfl (lead_step (lead_step (lead_step (lead_step (lead_step (lead_step (lead_step (lead_step (lead_step (lead_base _ _)))))))))) rfl rfl

theorem Framed.stadd (x0 x1 x2 x3 x4 x5) : Framed.Statement (.stadd x0 x1 x2 x3 x4 x5) :=
  framed_of rfl (lead_step (lead_step (lead_step (lead_step (lead_step (lead_step (lead_step (lead_step (lead_step (lead_base _ _)))))))))) rfl rfl

theorem Framed.stand (x0 x1 x2 x3 x4 x5) : Framed.Statement (.stand x0 x1 x2 x3 x4 x5) :=
  framed_of rfl (lead_step (lead_step (lead_step (lead_step (lead_step (lead_step (lead_step (lead_step (lead_step (lead_base _ _)))))))))) rfl rfl

theorem Framed.stor (x0 x1 x2 x3 x4 x5) : Framed.Statement (.stor x0 x1 x2 x3 x4 x5) :=
  framed_of rfl (lead_step (lead_step (lead_step (lead_step (lead_step (lead_step (lead_step (lead_step (lead_step (lead_base _ _)))))))))) rfl rfl

theorem Framed.stxor (x0 x1 x2 x3 x4 x5) : Framed.Statement (.stxor x0 x1 x2 x3 x4 x5) :=
  framed_of rfl (lead_step (lead_step (lead_step (lead_step (lead_step (lead_step (lead_step (lead_step (lead_step (lead_base _ _)))))))))) rfl rfl

theorem Framed.stmin (x0 x1 x2 x3 x4 x5) : Framed.Statement (.stmin x0 x1 x2 x3 x4 x5) :=
  framed_of rfl (lead_step (lead_step (lead_step (lead_step (lead_step (lead_step (lead_step (lead_step (lead_step (lead_base _ _)))))))))) rfl rfl

theorem Framed.stmax (x0 x1 x2 x3 x4 x5) : Framed.Statement (.stmax x0 x1 x2 x3 x4 x5) :=
  framed_of rfl (lead_step (lead_step (lead_step (lead_step (lead_step (lead_step (lead_step (lead_step (lead_step (lead_base _ _)))))))))) rfl rfl

theorem Framed.stminu (x0 x1 x2 x3 x4 x5) : Framed.Statement (.stminu x0 x1 x2 x3 x4 x5) :=
  framed_of rfl (lead_step (lead_step (lead_step (lead_step (lead_step (lead_step (lead_step (lead_step (lead_step (lead_base _ _)))))))))) rfl rfl

theorem Framed.stmaxu (x0 x1 x2 x3 x4 x5) : Framed.Statement (.stmaxu x0 x1 x2 x3 x4 x5) :=
  framed_of rfl (lead_step (lead_step (lead_step (lead_step (lead_step (lead_step (lead_step (lead_step (lead_step (lead_base _ _)))))))))) rfl rfl

theorem Framed.fence (x0 x1) : Framed.Statement (.fence x0 x1) :=
  framed_of rfl (lead_step (lead_step (lead_step (lead_base _ _)))) rfl rfl

theorem Framed.fencea (x0 x1) : Framed.Statement (.fencea x0 x1) :=
  framed_of rfl (lead_step (lead_step (lead_step (lead_base _ _)))) rfl rfl

theorem Framed.vbind : Framed.Statement .vbind :=
  framed_of rfl (lead_step (lead_step (lead_base _ _))) rfl rfl

theorem Framed.vfree : Framed.Statement .vfree :=
  framed_of rfl (lead_step (lead_step (lead_base _ _))) rfl rfl

theorem Framed.vdrain : Framed.Statement .vdrain :=
  framed_of rfl (lead_step (lead_step (lead_base _ _))) rfl rfl

theorem Framed.vsplat (x0 x1 x2 x3) : Framed.Statement (.vsplat x0 x1 x2 x3) :=
  framed_of rfl (lead_step (lead_step (lead_step (lead_step (lead_step (lead_step (lead_base _ _))))))) rfl rfl

theorem Framed.vins (x0 x1 x2 x3) : Framed.Statement (.vins x0 x1 x2 x3) :=
  framed_of rfl (lead_step (lead_step (lead_step (lead_step (lead_step (lead_step (lead_step (lead_base _ _)))))))) rfl rfl

theorem Framed.vget (x0 x1 x2 x3) : Framed.Statement (.vget x0 x1 x2 x3) :=
  framed_of rfl (lead_step (lead_step (lead_step (lead_step (lead_step (lead_step (lead_step (lead_base _ _)))))))) rfl rfl

theorem Framed.vld (x0 x1 x2 x3) : Framed.Statement (.vld x0 x1 x2 x3) :=
  framed_of rfl (lead_step (lead_step (lead_step (lead_step (lead_step (lead_base _ _)))))) rfl rfl

theorem Framed.vlds (x0 x1 x2 x3 x4) : Framed.Statement (.vlds x0 x1 x2 x3 x4) :=
  framed_of rfl (lead_step (lead_step (lead_step (lead_step (lead_step (lead_base _ _)))))) rfl rfl

theorem Framed.vldb (x0 x1 x2 x3) : Framed.Statement (.vldb x0 x1 x2 x3) :=
  framed_of rfl (lead_step (lead_step (lead_step (lead_step (lead_step (lead_base _ _)))))) rfl rfl

theorem Framed.vst (x0 x1 x2 x3) : Framed.Statement (.vst x0 x1 x2 x3) :=
  framed_of rfl (lead_step (lead_step (lead_step (lead_step (lead_step (lead_base _ _)))))) rfl rfl

theorem Framed.vsts (x0 x1 x2 x3 x4) : Framed.Statement (.vsts x0 x1 x2 x3 x4) :=
  framed_of rfl (lead_step (lead_step (lead_step (lead_step (lead_step (lead_base _ _)))))) rfl rfl

theorem Framed.vadd (x0 x1 x2 x3 x4) : Framed.Statement (.vadd x0 x1 x2 x3 x4) :=
  framed_of rfl (lead_step (lead_step (lead_step (lead_step (lead_step (lead_base _ _)))))) rfl rfl

theorem Framed.vsub (x0 x1 x2 x3 x4) : Framed.Statement (.vsub x0 x1 x2 x3 x4) :=
  framed_of rfl (lead_step (lead_step (lead_step (lead_step (lead_step (lead_base _ _)))))) rfl rfl

theorem Framed.vmul (x0 x1 x2 x3 x4) : Framed.Statement (.vmul x0 x1 x2 x3 x4) :=
  framed_of rfl (lead_step (lead_step (lead_step (lead_step (lead_step (lead_base _ _)))))) rfl rfl

theorem Framed.vfma (x0 x1 x2 x3 x4) : Framed.Statement (.vfma x0 x1 x2 x3 x4) :=
  framed_of rfl (lead_step (lead_step (lead_step (lead_step (lead_step (lead_base _ _)))))) rfl rfl

theorem Framed.vfms (x0 x1 x2 x3 x4) : Framed.Statement (.vfms x0 x1 x2 x3 x4) :=
  framed_of rfl (lead_step (lead_step (lead_step (lead_step (lead_step (lead_base _ _)))))) rfl rfl

theorem Framed.vmin (x0 x1 x2 x3 x4) : Framed.Statement (.vmin x0 x1 x2 x3 x4) :=
  framed_of rfl (lead_step (lead_step (lead_step (lead_step (lead_step (lead_base _ _)))))) rfl rfl

theorem Framed.vmax (x0 x1 x2 x3 x4) : Framed.Statement (.vmax x0 x1 x2 x3 x4) :=
  framed_of rfl (lead_step (lead_step (lead_step (lead_step (lead_step (lead_base _ _)))))) rfl rfl

theorem Framed.vabs (x0 x1 x2 x3) : Framed.Statement (.vabs x0 x1 x2 x3) :=
  framed_of rfl (lead_step (lead_step (lead_step (lead_step (lead_step (lead_base _ _)))))) rfl rfl

theorem Framed.vneg (x0 x1 x2 x3) : Framed.Statement (.vneg x0 x1 x2 x3) :=
  framed_of rfl (lead_step (lead_step (lead_step (lead_step (lead_step (lead_base _ _)))))) rfl rfl

theorem Framed.vrsq (x0 x1 x2) : Framed.Statement (.vrsq x0 x1 x2) :=
  framed_of rfl (lead_step (lead_step (lead_step (lead_step (lead_step (lead_base _ _)))))) rfl rfl

theorem Framed.vrcp (x0 x1 x2) : Framed.Statement (.vrcp x0 x1 x2) :=
  framed_of rfl (lead_step (lead_step (lead_step (lead_step (lead_step (lead_base _ _)))))) rfl rfl

theorem Framed.vexp2 (x0 x1 x2) : Framed.Statement (.vexp2 x0 x1 x2) :=
  framed_of rfl (lead_step (lead_step (lead_step (lead_step (lead_step (lead_base _ _)))))) rfl rfl

theorem Framed.vlog2 (x0 x1 x2) : Framed.Statement (.vlog2 x0 x1 x2) :=
  framed_of rfl (lead_step (lead_step (lead_step (lead_step (lead_step (lead_base _ _)))))) rfl rfl

theorem Framed.vsqrt (x0 x1 x2) : Framed.Statement (.vsqrt x0 x1 x2) :=
  framed_of rfl (lead_step (lead_step (lead_step (lead_step (lead_step (lead_base _ _)))))) rfl rfl

theorem Framed.vdiv (x0 x1 x2 x3) : Framed.Statement (.vdiv x0 x1 x2 x3) :=
  framed_of rfl (lead_step (lead_step (lead_step (lead_step (lead_step (lead_base _ _)))))) rfl rfl

theorem Framed.vadds (x0 x1 x2 x3 x4) : Framed.Statement (.vadds x0 x1 x2 x3 x4) :=
  framed_of rfl (lead_step (lead_step (lead_step (lead_step (lead_step (lead_step (lead_base _ _))))))) rfl rfl

theorem Framed.vmuls (x0 x1 x2 x3 x4) : Framed.Statement (.vmuls x0 x1 x2 x3 x4) :=
  framed_of rfl (lead_step (lead_step (lead_step (lead_step (lead_step (lead_step (lead_base _ _))))))) rfl rfl

theorem Framed.vfmas (x0 x1 x2 x3 x4) : Framed.Statement (.vfmas x0 x1 x2 x3 x4) :=
  framed_of rfl (lead_step (lead_step (lead_step (lead_step (lead_step (lead_step (lead_base _ _))))))) rfl rfl

theorem Framed.viadd (x0 x1 x2 x3 x4) : Framed.Statement (.viadd x0 x1 x2 x3 x4) :=
  framed_of rfl (lead_step (lead_step (lead_step (lead_step (lead_step (lead_base _ _)))))) rfl rfl

theorem Framed.visub (x0 x1 x2 x3 x4) : Framed.Statement (.visub x0 x1 x2 x3 x4) :=
  framed_of rfl (lead_step (lead_step (lead_step (lead_step (lead_step (lead_base _ _)))))) rfl rfl

theorem Framed.vimul (x0 x1 x2 x3 x4) : Framed.Statement (.vimul x0 x1 x2 x3 x4) :=
  framed_of rfl (lead_step (lead_step (lead_step (lead_step (lead_step (lead_base _ _)))))) rfl rfl

theorem Framed.vimin (x0 x1 x2 x3 x4) : Framed.Statement (.vimin x0 x1 x2 x3 x4) :=
  framed_of rfl (lead_step (lead_step (lead_step (lead_step (lead_step (lead_base _ _)))))) rfl rfl

theorem Framed.vimax (x0 x1 x2 x3 x4) : Framed.Statement (.vimax x0 x1 x2 x3 x4) :=
  framed_of rfl (lead_step (lead_step (lead_step (lead_step (lead_step (lead_base _ _)))))) rfl rfl

theorem Framed.viminu (x0 x1 x2 x3 x4) : Framed.Statement (.viminu x0 x1 x2 x3 x4) :=
  framed_of rfl (lead_step (lead_step (lead_step (lead_step (lead_step (lead_base _ _)))))) rfl rfl

theorem Framed.vimaxu (x0 x1 x2 x3 x4) : Framed.Statement (.vimaxu x0 x1 x2 x3 x4) :=
  framed_of rfl (lead_step (lead_step (lead_step (lead_step (lead_step (lead_base _ _)))))) rfl rfl

theorem Framed.vand (x0 x1 x2 x3 x4) : Framed.Statement (.vand x0 x1 x2 x3 x4) :=
  framed_of rfl (lead_step (lead_step (lead_step (lead_step (lead_step (lead_base _ _)))))) rfl rfl

theorem Framed.vor (x0 x1 x2 x3 x4) : Framed.Statement (.vor x0 x1 x2 x3 x4) :=
  framed_of rfl (lead_step (lead_step (lead_step (lead_step (lead_step (lead_base _ _)))))) rfl rfl

theorem Framed.vxor (x0 x1 x2 x3 x4) : Framed.Statement (.vxor x0 x1 x2 x3 x4) :=
  framed_of rfl (lead_step (lead_step (lead_step (lead_step (lead_step (lead_base _ _)))))) rfl rfl

theorem Framed.vshl (x0 x1 x2 x3 x4) : Framed.Statement (.vshl x0 x1 x2 x3 x4) :=
  framed_of rfl (lead_step (lead_step (lead_step (lead_step (lead_step (lead_base _ _)))))) rfl rfl

theorem Framed.vshr (x0 x1 x2 x3 x4) : Framed.Statement (.vshr x0 x1 x2 x3 x4) :=
  framed_of rfl (lead_step (lead_step (lead_step (lead_step (lead_step (lead_base _ _)))))) rfl rfl

theorem Framed.vsar (x0 x1 x2 x3 x4) : Framed.Statement (.vsar x0 x1 x2 x3 x4) :=
  framed_of rfl (lead_step (lead_step (lead_step (lead_step (lead_step (lead_base _ _)))))) rfl rfl

theorem Framed.viadds (x0 x1 x2 x3 x4) : Framed.Statement (.viadds x0 x1 x2 x3 x4) :=
  framed_of rfl (lead_step (lead_step (lead_step (lead_step (lead_step (lead_step (lead_base _ _))))))) rfl rfl

theorem Framed.vidx (x0 x1 x2) : Framed.Statement (.vidx x0 x1 x2) :=
  framed_of rfl (lead_step (lead_step (lead_step (lead_step (lead_base _ _))))) rfl rfl

theorem Framed.vcmpeq (x0 x1 x2 x3 x4) : Framed.Statement (.vcmpeq x0 x1 x2 x3 x4) :=
  framed_of rfl (lead_step (lead_step (lead_step (lead_step (lead_step (lead_step (lead_base _ _))))))) rfl rfl

theorem Framed.vcmplt (x0 x1 x2 x3 x4) : Framed.Statement (.vcmplt x0 x1 x2 x3 x4) :=
  framed_of rfl (lead_step (lead_step (lead_step (lead_step (lead_step (lead_step (lead_base _ _))))))) rfl rfl

theorem Framed.vcmple (x0 x1 x2 x3 x4) : Framed.Statement (.vcmple x0 x1 x2 x3 x4) :=
  framed_of rfl (lead_step (lead_step (lead_step (lead_step (lead_step (lead_step (lead_base _ _))))))) rfl rfl

theorem Framed.vsel (x0 x1 x2 x3 x4) : Framed.Statement (.vsel x0 x1 x2 x3 x4) :=
  framed_of rfl (lead_step (lead_step (lead_step (lead_step (lead_step (lead_base _ _)))))) rfl rfl

theorem Framed.vrsum (x0 x1 x2 x3) : Framed.Statement (.vrsum x0 x1 x2 x3) :=
  framed_of rfl (lead_step (lead_step (lead_step (lead_step (lead_step (lead_base _ _)))))) rfl rfl

theorem Framed.vrmax (x0 x1 x2 x3) : Framed.Statement (.vrmax x0 x1 x2 x3) :=
  framed_of rfl (lead_step (lead_step (lead_step (lead_step (lead_step (lead_base _ _)))))) rfl rfl

theorem Framed.vrmin (x0 x1 x2 x3) : Framed.Statement (.vrmin x0 x1 x2 x3) :=
  framed_of rfl (lead_step (lead_step (lead_step (lead_step (lead_step (lead_base _ _)))))) rfl rfl

theorem Framed.vshuf (x0 x1 x2 x3 x4) : Framed.Statement (.vshuf x0 x1 x2 x3 x4) :=
  framed_of rfl (lead_step (lead_step (lead_step (lead_step (lead_step (lead_base _ _)))))) rfl rfl

theorem Framed.vbcast (x0 x1 x2 x3 x4) : Framed.Statement (.vbcast x0 x1 x2 x3 x4) :=
  framed_of rfl (lead_step (lead_step (lead_step (lead_step (lead_step (lead_step (lead_base _ _))))))) rfl rfl

theorem Framed.vrot (x0 x1 x2 x3 x4) : Framed.Statement (.vrot x0 x1 x2 x3 x4) :=
  framed_of rfl (lead_step (lead_step (lead_step (lead_step (lead_step (lead_step (lead_base _ _))))))) rfl rfl

theorem Framed.kand (x0 x1 x2) : Framed.Statement (.kand x0 x1 x2) :=
  framed_of rfl (lead_step (lead_step (lead_step (lead_step (lead_step (lead_step (lead_step (lead_base _ _)))))))) rfl rfl

theorem Framed.kor (x0 x1 x2) : Framed.Statement (.kor x0 x1 x2) :=
  framed_of rfl (lead_step (lead_step (lead_step (lead_step (lead_step (lead_step (lead_step (lead_base _ _)))))))) rfl rfl

theorem Framed.knot (x0 x1) : Framed.Statement (.knot x0 x1) :=
  framed_of rfl (lead_step (lead_step (lead_step (lead_step (lead_step (lead_step (lead_base _ _))))))) rfl rfl

theorem Framed.vcvt (x0 x1 x2 x3 x4 x5) : Framed.Statement (.vcvt x0 x1 x2 x3 x4 x5) :=
  framed_of rfl (lead_step (lead_step (lead_step (lead_step (lead_step (lead_step (lead_base _ _))))))) rfl rfl

theorem Framed.vcvtsr (x0 x1 x2 x3) : Framed.Statement (.vcvtsr x0 x1 x2 x3) :=
  framed_of rfl (lead_step (lead_step (lead_step (lead_step (lead_step (lead_base _ _)))))) rfl rfl

theorem Framed.vrng (x0 x1 x2) : Framed.Statement (.vrng x0 x1 x2) :=
  framed_of rfl (lead_step (lead_step (lead_step (lead_step (lead_step (lead_step (lead_base _ _))))))) rfl rfl

theorem Framed.vpack (x0 x1 x2 x3) : Framed.Statement (.vpack x0 x1 x2 x3) :=
  framed_of rfl (lead_step (lead_step (lead_step (lead_step (lead_step (lead_base _ _)))))) rfl rfl

theorem Framed.vunpk (x0 x1 x2 x3) : Framed.Statement (.vunpk x0 x1 x2 x3) :=
  framed_of rfl (lead_step (lead_step (lead_step (lead_step (lead_step (lead_step (lead_base _ _))))))) rfl rfl

theorem Framed.vcvtn4 (x0 x1 x2 x3 x4) : Framed.Statement (.vcvtn4 x0 x1 x2 x3 x4) :=
  framed_of rfl (lead_step (lead_step (lead_step (lead_step (lead_step (lead_step (lead_base _ _))))))) rfl rfl

theorem Framed.vcvtw4 (x0 x1 x2 x3) : Framed.Statement (.vcvtw4 x0 x1 x2 x3) :=
  framed_of rfl (lead_step (lead_step (lead_step (lead_step (lead_step (lead_base _ _)))))) rfl rfl

theorem Framed.cpy (x0 x1 x2 x3) : Framed.Statement (.cpy x0 x1 x2 x3) :=
  framed_of rfl (lead_step (lead_step (lead_step (lead_step (lead_step (lead_base _ _)))))) rfl rfl

theorem Framed.cpym (x0 x1 x2 x3) : Framed.Statement (.cpym x0 x1 x2 x3) :=
  framed_of rfl (lead_step (lead_step (lead_step (lead_step (lead_step (lead_base _ _)))))) rfl rfl

theorem Framed.cpyt (x0 x1 x2 x3 x4) : Framed.Statement (.cpyt x0 x1 x2 x3 x4) :=
  framed_of rfl (lead_step (lead_step (lead_step (lead_step (lead_step (lead_base _ _)))))) rfl rfl

theorem Framed.cpyq (x0 x1) : Framed.Statement (.cpyq x0 x1) :=
  framed_of rfl (lead_step (lead_step (lead_step (lead_base _ _)))) rfl rfl

theorem Framed.mpass (x0 x1 x2 x3 x4) : Framed.Statement (.mpass x0 x1 x2 x3 x4) :=
  framed_of rfl (lead_step (lead_step (lead_step (lead_step (lead_base _ _))))) rfl rfl

theorem Framed.mzero (x0 x1) : Framed.Statement (.mzero x0 x1) :=
  framed_of rfl (lead_step (lead_step (lead_step (lead_base _ _)))) rfl rfl

theorem Framed.mldw (x0 x1 x2 x3) : Framed.Statement (.mldw x0 x1 x2 x3) :=
  framed_of rfl (lead_step (lead_step (lead_step (lead_step (lead_step (lead_base _ _)))))) rfl rfl

theorem Framed.mrd (x0 x1 x2) : Framed.Statement (.mrd x0 x1 x2) :=
  framed_of rfl (lead_step (lead_step (lead_step (lead_step (lead_base _ _))))) rfl rfl

theorem Framed.mwr (x0 x1 x2) : Framed.Statement (.mwr x0 x1 x2) :=
  framed_of rfl (lead_step (lead_step (lead_step (lead_step (lead_base _ _))))) rfl rfl

theorem Framed.mrcmd (x0 x1 x2) : Framed.Statement (.mrcmd x0 x1 x2) :=
  framed_of rfl (lead_step (lead_step (lead_step (lead_step (lead_base _ _))))) rfl rfl

theorem Framed.mgrant (x0 x1) : Framed.Statement (.mgrant x0 x1) :=
  framed_of rfl (lead_step (lead_step (lead_step (lead_step (lead_base _ _))))) rfl rfl

theorem Framed.vtld (x0 x1 x2) : Framed.Statement (.vtld x0 x1 x2) :=
  framed_of rfl (lead_step (lead_step (lead_step (lead_step (lead_step (lead_base _ _)))))) rfl rfl

theorem Framed.vtst (x0 x1 x2) : Framed.Statement (.vtst x0 x1 x2) :=
  framed_of rfl (lead_step (lead_step (lead_step (lead_step (lead_step (lead_base _ _)))))) rfl rfl

theorem Framed.rput (x0 x1 x2 x3) : Framed.Statement (.rput x0 x1 x2 x3) :=
  framed_of rfl (lead_step (lead_step (lead_step (lead_step (lead_step (lead_base _ _)))))) rfl rfl

theorem Framed.rputi (x0 x1 x2 x3 x4) : Framed.Statement (.rputi x0 x1 x2 x3 x4) :=
  framed_of rfl (lead_step (lead_step (lead_step (lead_step (lead_step (lead_base _ _)))))) rfl rfl

theorem Framed.rget (x0 x1 x2 x3) : Framed.Statement (.rget x0 x1 x2 x3) :=
  framed_of rfl (lead_step (lead_step (lead_step (lead_step (lead_step (lead_base _ _)))))) rfl rfl

theorem Framed.rsig (x0 x1 x2 x3 x4) : Framed.Statement (.rsig x0 x1 x2 x3 x4) :=
  framed_of rfl (lead_step (lead_step (lead_step (lead_step (lead_step (lead_base _ _)))))) rfl rfl

theorem Framed.ramo (x0 x1 x2 x3) : Framed.Statement (.ramo x0 x1 x2 x3) :=
  framed_of rfl (lead_step (lead_step (lead_step (lead_step (lead_step (lead_base _ _)))))) rfl rfl

theorem Framed.rspawn (x0 x1 x2 x3) : Framed.Statement (.rspawn x0 x1 x2 x3) :=
  framed_of rfl (lead_step (lead_step (lead_step (lead_step (lead_step (lead_base _ _)))))) rfl rfl

theorem Framed.crd (x0 x1 x2 x3) : Framed.Statement (.crd x0 x1 x2 x3) :=
  framed_of rfl (lead_step (lead_step (lead_step (lead_step (lead_step (lead_base _ _)))))) rfl rfl

theorem Framed.crdg (x0 x1 x2 x3) : Framed.Statement (.crdg x0 x1 x2 x3) :=
  framed_of rfl (lead_step (lead_step (lead_step (lead_step (lead_step (lead_base _ _)))))) rfl rfl

theorem Framed.crdq (x0 x1) : Framed.Statement (.crdq x0 x1) :=
  framed_of rfl (lead_step (lead_step (lead_step (lead_base _ _)))) rfl rfl

theorem Framed.flush (x0) : Framed.Statement (.flush x0) :=
  framed_of rfl (lead_step (lead_step (lead_base _ _))) rfl rfl

theorem Framed.flushc (x0 x1) : Framed.Statement (.flushc x0 x1) :=
  framed_of rfl (lead_step (lead_step (lead_step (lead_step (lead_base _ _))))) rfl rfl

theorem Framed.strmq (x0 x1) : Framed.Statement (.strmq x0 x1) :=
  framed_of rfl (lead_step (lead_step (lead_step (lead_base _ _)))) rfl rfl

theorem Framed.carm (x0 x1 x2) : Framed.Statement (.carm x0 x1 x2) :=
  framed_of rfl (lead_step (lead_step (lead_step (lead_step (lead_base _ _))))) rfl rfl

theorem Framed.cadd (x0 x1 x2 x3) : Framed.Statement (.cadd x0 x1 x2 x3) :=
  framed_of rfl (lead_step (lead_step (lead_step (lead_step (lead_step (lead_base _ _)))))) rfl rfl

theorem Framed.cread (x0 x1) : Framed.Statement (.cread x0 x1) :=
  framed_of rfl (lead_step (lead_step (lead_step (lead_base _ _)))) rfl rfl

theorem Framed.cdisarm (x0 x1) : Framed.Statement (.cdisarm x0 x1) :=
  framed_of rfl (lead_step (lead_step (lead_step (lead_base _ _)))) rfl rfl

theorem Framed.icinvDone : Framed.Statement .icinvDone := rfl

theorem Framed.loadDataReturn : Framed.Statement .loadDataReturn := rfl

theorem Framed.divideComplete : Framed.Statement .divideComplete := rfl

theorem Framed.accessAccepted : Framed.Statement .accessAccepted := rfl

theorem Framed.accessFaultRecorded : Framed.Statement .accessFaultRecorded := rfl

theorem Framed.globalAccessAtStation : Framed.Statement .globalAccessAtStation := rfl

theorem Framed.pageWalkComplete : Framed.Statement .pageWalkComplete := rfl

theorem Framed.atomicAtUnit : Framed.Statement .atomicAtUnit := rfl

theorem Framed.apertureAccess : Framed.Statement .apertureAccess := rfl

theorem Framed.instructionLineFill : Framed.Statement .instructionLineFill := rfl

theorem Framed.pendingFaultTaken : Framed.Statement .pendingFaultTaken := rfl

theorem Framed.faultFibreStart : Framed.Statement .faultFibreStart := rfl

theorem Framed.spawnMessageArrival : Framed.Statement .spawnMessageArrival := rfl

theorem Framed.spawnAckArrival : Framed.Statement .spawnAckArrival := rfl

theorem Framed.migrationArrival : Framed.Statement .migrationArrival := rfl

theorem Framed.fibreEviction : Framed.Statement .fibreEviction := rfl

theorem Framed.cellarRestore : Framed.Statement .cellarRestore := rfl

theorem Framed.fyieldDelayExpiry : Framed.Statement .fyieldDelayExpiry := rfl

theorem Framed.waitingCountThreshold : Framed.Statement .waitingCountThreshold := rfl

theorem Framed.planEntryActivate : Framed.Statement .planEntryActivate := rfl

theorem Framed.planEntryRestore : Framed.Statement .planEntryRestore := rfl

theorem Framed.planEntrySave : Framed.Statement .planEntrySave := rfl

theorem Framed.stateCapture : Framed.Statement .stateCapture := rfl

theorem Framed.residentSwitchComplete : Framed.Statement .residentSwitchComplete := rfl

theorem Framed.saveComplete : Framed.Statement .saveComplete := rfl

theorem Framed.restoreComplete : Framed.Statement .restoreComplete := rfl

theorem Framed.contractPeriodStart : Framed.Statement .contractPeriodStart := rfl

theorem Framed.bestEffortQuantumExpiry : Framed.Statement .bestEffortQuantumExpiry := rfl

theorem Framed.barrierPhaseComplete : Framed.Statement .barrierPhaseComplete := rfl

theorem Framed.gutterWordArrival : Framed.Statement .gutterWordArrival := rfl

theorem Framed.gutterCreditReturn : Framed.Statement .gutterCreditReturn := rfl

theorem Framed.vectorEntryExecute : Framed.Statement .vectorEntryExecute := rfl

theorem Framed.copyCommandBegin : Framed.Statement .copyCommandBegin := rfl

theorem Framed.copySegmentWritten : Framed.Statement .copySegmentWritten := rfl

theorem Framed.copyAccessFault : Framed.Statement .copyAccessFault := rfl

theorem Framed.copyCommandComplete : Framed.Statement .copyCommandComplete := rfl

theorem Framed.cpymTileAck : Framed.Statement .cpymTileAck := rfl

theorem Framed.matrixCommandBegin : Framed.Statement .matrixCommandBegin := rfl

theorem Framed.matrixCommandComplete : Framed.Statement .matrixCommandComplete := rfl

theorem Framed.rendezvousTransfer : Framed.Statement .rendezvousTransfer := rfl

theorem Framed.mrcmdArrival : Framed.Statement .mrcmdArrival := rfl

theorem Framed.mrcmdAckArrival : Framed.Statement .mrcmdAckArrival := rfl

theorem Framed.meshPostArrival : Framed.Statement .meshPostArrival := rfl

theorem Framed.fabricCommandBegin : Framed.Statement .fabricCommandBegin := rfl

theorem Framed.put : Framed.Statement .put := rfl

theorem Framed.puti : Framed.Statement .puti := rfl

theorem Framed.getq : Framed.Statement .getq := rfl

theorem Framed.getr : Framed.Statement .getr := rfl

theorem Framed.sig : Framed.Statement .sig := rfl

theorem Framed.amo : Framed.Statement .amo := rfl

theorem Framed.amor : Framed.Statement .amor := rfl

theorem Framed.spawn : Framed.Statement .spawn := rfl

theorem Framed.pld : Framed.Statement .pld := rfl

theorem Framed.pst : Framed.Statement .pst := rfl

theorem Framed.pamo : Framed.Statement .pamo := rfl

theorem Framed.crq : Framed.Statement .crq := rfl

theorem Framed.cdata : Framed.Statement .cdata := rfl

theorem Framed.cdone : Framed.Statement .cdone := rfl

theorem Framed.cstop : Framed.Statement .cstop := rfl

theorem Framed.ackAnswer : Framed.Statement .ackAnswer := rfl

theorem Framed.ackResynchronise : Framed.Statement .ackResynchronise := rfl

theorem Framed.ackResynchronised : Framed.Statement .ackResynchronised := rfl

theorem Framed.refuse : Framed.Statement .refuse := rfl

theorem Framed.bup : Framed.Statement .bup := rfl

theorem Framed.bdown : Framed.Statement .bdown := rfl

theorem Framed.gack : Framed.Statement .gack := rfl

theorem Framed.tsync : Framed.Statement .tsync := rfl

theorem Framed.tsyncInterval : Framed.Statement .tsyncInterval := rfl

theorem Framed.timeLock : Framed.Statement .timeLock := rfl

theorem Framed.timeUnlock : Framed.Statement .timeUnlock := rfl

theorem Framed.heldPacketPerform : Framed.Statement .heldPacketPerform := rfl

theorem Framed.retransmissionTimeout : Framed.Statement .retransmissionTimeout := rfl

theorem Framed.streamTimeout : Framed.Statement .streamTimeout := rfl

theorem Framed.streamStateFetchComplete : Framed.Statement .streamStateFetchComplete := rfl

theorem Framed.packetForward : Framed.Statement .packetForward := rfl

theorem Framed.flitReplay : Framed.Statement .flitReplay := rfl

theorem Framed.portRetrain : Framed.Statement .portRetrain := rfl

theorem Framed.portTrained : Framed.Statement .portTrained := rfl

theorem Framed.portDown : Framed.Statement .portDown := rfl

theorem Framed.carmAtUnit : Framed.Statement .carmAtUnit := rfl

theorem Framed.caddAtUnit : Framed.Statement .caddAtUnit := rfl

theorem Framed.creadAtUnit : Framed.Statement .creadAtUnit := rfl

theorem Framed.cdisarmAtUnit : Framed.Statement .cdisarmAtUnit := rfl

theorem Framed.cisternAnswer : Framed.Statement .cisternAnswer := rfl

theorem Framed.cisternSpawnRetry : Framed.Statement .cisternSpawnRetry := rfl

theorem Framed.watchdogFire : Framed.Statement .watchdogFire := rfl

theorem Framed.contextEnd : Framed.Statement .contextEnd := rfl

theorem Framed.launchEnd : Framed.Statement .launchEnd := rfl

theorem Framed.dbell : Framed.Statement .dbell := rfl

theorem Framed.contextCreate : Framed.Statement .contextCreate := rfl

theorem Framed.contextDestroy : Framed.Statement .contextDestroy := rfl

theorem Framed.launch : Framed.Statement .launch := rfl

theorem Framed.windowOpen : Framed.Statement .windowOpen := rfl

theorem Framed.cisternArm : Framed.Statement .cisternArm := rfl

theorem Framed.signal : Framed.Statement .signal := rfl

theorem Framed.copy : Framed.Statement .copy := rfl

theorem Framed.switchPlan : Framed.Statement .switchPlan := rfl

theorem Framed.invalidate : Framed.Statement .invalidate := rfl

theorem Framed.errheadWrite : Framed.Statement .errheadWrite := rfl

theorem Framed.registerWrite : Framed.Statement .registerWrite := rfl

theorem Framed.hostAccess : Framed.Statement .hostAccess := rfl

theorem Framed.attest : Framed.Statement .attest := rfl

theorem Framed.lcset : Framed.Statement .lcset := rfl

theorem Framed.update : Framed.Statement .update := rfl

theorem Framed.updateStartTimeout : Framed.Statement .updateStartTimeout := rfl

theorem Framed.mailboxFence : Framed.Statement .mailboxFence := rfl

theorem Framed.readmit : Framed.Statement .readmit := rfl

theorem Framed.portset : Framed.Statement .portset := rfl

theorem Framed.ctrrd : Framed.Statement .ctrrd := rfl

theorem Framed.reset : Framed.Statement .reset := rfl

theorem Framed.wipeComplete : Framed.Statement .wipeComplete := rfl

theorem Framed.controlStateError : Framed.Statement .controlStateError := rfl

theorem Framed.patrolScrub : Framed.Statement .patrolScrub := rfl

theorem Framed.powerThrottle : Framed.Statement .powerThrottle := rfl

theorem Framed.junctionShutdown : Framed.Statement .junctionShutdown := rfl

theorem Framed.illegalWord : Framed.Statement .illegalWord := rfl

theorem Framed.groupTreeRebuild : Framed.Statement .groupTreeRebuild := rfl

theorem Framed.updateRestartComplete : Framed.Statement .updateRestartComplete := rfl

theorem Framed.linkPartnerArrival : Framed.Statement .linkPartnerArrival := rfl

end Sys2Proof.Laws
end

