-- ==== Sys2Proof/Tests/Slice0.lean ====
section
/-!
SUPPORT. The author's own tests: ill-formed terms that the check refuses, one written-out word for each instruction,
witnesses for the hypotheses of the statements, and small one-step tests.
-/
namespace Sys2Proof.Tests
open Sys2Proof.Machine
set_option Elab.async false

/-! ### Ill-formed terms (R50 item 5): the check refuses each, and so does the decoder -/

theorem test_wf_loops :
    ([.loop 0 1 0, .loopReg 0 1 0] : List Instr).all (fun i =>
      !i.wf && (match (encode i).map decode with | some (.ok _) => false | _ => true)) = true := by
  decide +kernel

theorem test_wf_registers :
    ([.sysrd 1 6, .sysrd 1 0x13, .syswr 1 0x80, .syswr 1 0x3F] : List Instr).all (fun i =>
      !i.wf && (match (encode i).map decode with | some (.ok _) => false | _ => true)) = true := by
  decide +kernel

theorem test_wf_lines :
    ([.icinv 1 0] : List Instr).all (fun i =>
      !i.wf && (match (encode i).map decode with | some (.ok _) => false | _ => true)) = true := by
  decide +kernel

theorem test_wf_float :
    ([.vadd 1 2 3 .e4m3 0, .vsub 1 2 3 .e4m3 0, .vmul 1 2 3 .e4m3 0, .vfma 1 2 3 .e4m3 0,
      .vfms 1 2 3 .e4m3 0, .vmin 1 2 3 .e4m3 0, .vmax 1 2 3 .e4m3 0, .vabs 1 2 .i32 0,
      .vneg 1 2 .i32 0, .vadds 1 2 3 .e5m2 0, .vmuls 1 2 3 .e5m2 0, .vfmas 1 2 3 .e5m2 0] : List Instr).all (fun i =>
      !i.wf && (match (encode i).map decode with | some (.ok _) => false | _ => true)) = true := by
  decide +kernel

theorem test_wf_integer :
    ([.viadd 1 2 3 .f16 0, .visub 1 2 3 .f16 0, .vimul 1 2 3 .f16 0, .vimin 1 2 3 .f16 0,
      .vimax 1 2 3 .f16 0, .viminu 1 2 3 .f16 0, .vimaxu 1 2 3 .f16 0, .vand 1 2 3 .f16 0,
      .vor 1 2 3 .f16 0, .vxor 1 2 3 .f16 0, .vshl 1 2 3 .f16 0, .vshr 1 2 3 .f16 0,
      .vsar 1 2 3 .f16 0, .viadds 1 2 3 .e5m2 0, .vidx 1 .f32 0] : List Instr).all (fun i =>
      !i.wf && (match (encode i).map decode with | some (.ok _) => false | _ => true)) = true := by
  decide +kernel

theorem test_wf_lanes :
    ([.vcmpeq 1 2 3 .e4m3 0, .vcmplt 1 2 3 .e4m3 0, .vcmple 1 2 3 .e4m3 0, .vrsum 1 2 .e5m2 0,
      .vrmax 1 2 .e5m2 0, .vrmin 1 2 .e5m2 0] : List Instr).all (fun i =>
      !i.wf && (match (encode i).map decode with | some (.ok _) => false | _ => true)) = true := by
  decide +kernel

theorem test_wf_select :
    ([.vsel 1 2 3 .f32 0] : List Instr).all (fun i =>
      !i.wf && (match (encode i).map decode with | some (.ok _) => false | _ => true)) = true := by
  decide +kernel

theorem test_wf_convert :
    ([.vcvt 1 2 .rne .f16 .f16 0, .vpack 1 2 3 .f32, .vpack 1 2 3 .i32, .vunpk 1 2 2 .bf16,
      .vunpk 1 2 0 .e4m3, .vcvtn4 1 2 .rne .i32 0, .vcvtw4 1 2 .i8 0] : List Instr).all (fun i =>
      !i.wf && (match (encode i).map decode with | some (.ok _) => false | _ => true)) = true := by
  decide +kernel

theorem test_wf_matrix :
    ([.mpass 1 2 3 12 4, .mldw 3 1 2 4] : List Instr).all (fun i =>
      !i.wf && (match (encode i).map decode with | some (.ok _) => false | _ => true)) = true := by
  decide +kernel

/-! ### A word of each instruction, written out from the formats of R41 and the tables of R46 to R49 -/

theorem test_decode_integer :
    decode 0x06BC0000 = .ok (.add 5 3 6) ∧ decode 0x06BC0400 = .ok (.sub 5 3 6) ∧
    decode 0x06BC0800 = .ok (.and 5 3 6) ∧ decode 0x06BC0C00 = .ok (.or 5 3 6) ∧
    decode 0x06BC1000 = .ok (.xor 5 3 6) ∧ decode 0x06BC1400 = .ok (.andn 5 3 6) ∧
    decode 0x06BC1800 = .ok (.sll 5 3 6) ∧ decode 0x06BC1C00 = .ok (.srl 5 3 6) ∧
    decode 0x06BC2000 = .ok (.sra 5 3 6) ∧ decode 0x06BC2400 = .ok (.rol 5 3 6) ∧
    decode 0x06BC2800 = .ok (.slt 5 3 6) ∧ decode 0x06BC2C00 = .ok (.sltu 5 3 6) ∧
    decode 0x06BC3000 = .ok (.seq 5 3 6) ∧ decode 0x06BC3400 = .ok (.min 5 3 6) ∧
    decode 0x06BC3800 = .ok (.max 5 3 6) ∧ decode 0x06BC3C00 = .ok (.minu 5 3 6) ∧
    decode 0x06BC4000 = .ok (.maxu 5 3 6) ∧ decode 0x06B04425 = .ok (.slli 5 3 37) ∧
    decode 0x06B04825 = .ok (.srli 5 3 37) ∧ decode 0x06B04C25 = .ok (.srai 5 3 37) ∧
    decode 0x06BC5000 = .ok (.sel 5 3 6) ∧ decode 0x06BC5400 = .ok (.addw 5 3 6) ∧
    decode 0x06BC5800 = .ok (.subw 5 3 6) := by
  decide +kernel

theorem test_decode_immediate :
    decode 0x0ABFFFFE = .ok (.addi 5 3 0xFFFFE) ∧ decode 0x0EBFFFFE = .ok (.andi 5 3 0xFFFFE) ∧
    decode 0x12BFFFFE = .ok (.ori 5 3 0xFFFFE) ∧ decode 0x16BFFFFE = .ok (.xori 5 3 0xFFFFE) ∧
    decode 0x1ABFFFFE = .ok (.slti 5 3 0xFFFFE) ∧ decode 0x1EBFFFFE = .ok (.sltiu 5 3 0xFFFFE) ∧
    decode 0x22FFFFFD = .ok (.limm 5 0x7FFFFD) ∧ decode 0x26C56789 = .ok (.lshi 5 0x456789) ∧
    decode 0x32812345 = .ok (.addpc 5 0x12345) := by
  decide +kernel

theorem test_decode_multiply_and_bits :
    decode 0x2ABC0000 = .ok (.mul 5 3 6) ∧ decode 0x2ABC0400 = .ok (.mulh 5 3 6) ∧
    decode 0x2ABC0800 = .ok (.mulhu 5 3 6) ∧ decode 0x2ABC0C00 = .ok (.mulw 5 3 6) ∧
    decode 0x2ABC1000 = .ok (.div 5 3 6) ∧ decode 0x2ABC1400 = .ok (.divu 5 3 6) ∧
    decode 0x2ABC1800 = .ok (.rem 5 3 6) ∧ decode 0x2ABC1C00 = .ok (.remu 5 3 6) ∧
    decode 0x2EB00000 = .ok (.popc 5 3) ∧ decode 0x2EB00400 = .ok (.clz 5 3) ∧
    decode 0x2EB00800 = .ok (.ctz 5 3) ∧ decode 0x2EB00C00 = .ok (.bswap 5 3) ∧
    decode 0x2EBC1000 = .ok (.bext 5 3 6) ∧ decode 0x2EBC1400 = .ok (.bins 5 3 6) ∧
    decode 0x2EB0183F = .ok (.sext 5 3 63) ∧ decode 0x2EB01C07 = .ok (.zext 5 3 7) ∧
    decode 0x36BC0003 = .ok (.lea 5 3 6 3) ∧ decode 0x36BC0400 = .ok (.bayn 5 3 6) ∧
    decode 0x36BC0800 = .ok (.baya 5 3 6) := by
  decide +kernel

theorem test_decode_control :
    decode 0x41E1FFFC = .ok (.beq 3 6 0x1FFFC) ∧ decode 0x41E3FFFC = .ok (.bne 3 6 0x1FFFC) ∧
    decode 0x41E5FFFC = .ok (.blt 3 6 0x1FFFC) ∧ decode 0x41E7FFFC = .ok (.bge 3 6 0x1FFFC) ∧
    decode 0x41E9FFFC = .ok (.bltu 3 6 0x1FFFC) ∧ decode 0x41EBFFFC = .ok (.bgeu 3 6 0x1FFFC) ∧
    decode 0x41EDFFFC = .ok (.bbc 3 6 0x1FFFC) ∧ decode 0x41EFFFFC = .ok (.bbs 3 6 0x1FFFC) ∧
    decode 0x47FFFFFF = .ok (.jmp 0x3FFFFFF) ∧ decode 0x49234567 = .ok (.call 0x1234567) ∧
    decode 0x4C300000 = .ok (.jr 3) ∧ decode 0x4C300400 = .ok (.callr 3) ∧
    decode 0x52002407 = .ok (.loop 2 9 7) ∧ decode 0x51B003FF = .ok (.loopReg 1 3 1023) ∧
    decode 0x54000003 = .ok (.lbrk 3) ∧ decode 0x56800402 = .ok (.lcnt 5 2) := by
  decide +kernel

theorem test_decode_system :
    decode 0xF8000000 = .ok .nop ∧ decode 0xF8101234 = .ok (.trap 0x1234) ∧
    decode 0xF8200000 = .ok .hret ∧ decode 0xF83A007F = .ok (.sysrd 5 0x7F) ∧
    decode 0xF840C005 = .ok (.syswr 3 5) ∧ decode 0xF850C007 = .ok (.evsel 3 7) ∧
    decode 0xF86A0006 = .ok (.evrd 5 6) ∧ decode 0xF87A0000 = .ok (.time 5) ∧
    decode 0xF880FFFF = .ok (.icinv 3 16383) := by
  decide +kernel

theorem test_decode_fibres_and_semaphores :
    decode 0x62BC0000 = .ok (.fspawn 5 3 6) ∧ decode 0x62BC0400 = .ok (.fspawnb 5 3 6) ∧
    decode 0x60000800 = .ok .fexit ∧ decode 0x62800C00 = .ok (.fid 5) ∧
    decode 0x60301000 = .ok (.fpri 3) ∧ decode 0x60001400 = .ok .fyield ∧
    decode 0x60301800 = .ok (.fgo 3) ∧ decode 0x60001C00 = .ok .fpark ∧
    decode 0x62802000 = .ok (.fctx 5) ∧ decode 0x62802400 = .ok (.cbudget 5) ∧
    decode 0x65803220 = .ok (.spost 3 12 .rel .bay) ∧ decode 0x658FFD01 = .ok (.swait 3 1023 .acq .fib) ∧
    decode 0x65E007A2 = .ok (.stry 3 6 1 .ar .sys) ∧ decode 0x64600803 = .ok (.sread 6 2) ∧
    decode 0x65800804 = .ok (.sinit 3 2) := by
  decide +kernel

theorem test_decode_barriers_and_gutters :
    decode 0x6800BE40 = .ok (.barr 47 .rel .die) ∧ decode 0x68000561 = .ok (.bwait 1 .acq .pkg) ∧
    decode 0x68000782 = .ok (.bsync 1 .ar .dom) ∧ decode 0x69801403 = .ok (.bmask 3 5) ∧
    decode 0x68601404 = .ok (.bstat 6 5) ∧ decode 0x6C300001 = .ok (.qpush 3 .west) ∧
    decode 0x6E800400 = .ok (.qpop 5 .east) ∧ decode 0x6EB00801 = .ok (.qpusht 5 3 .west) ∧
    decode 0x6E8C0C01 = .ok (.qpopt 5 6 .west) ∧ decode 0x6E801000 = .ok (.qfwd 5 .east) ∧
    decode 0x6E801401 = .ok (.qstat 5 .west) := by
  decide +kernel

theorem test_decode_memory :
    decode 0x82B7FFFE = .ok (.ldl 5 3 .h true 0x1FFFE) ∧ decode 0x86B80008 = .ok (.stl 5 3 .w 8) ∧
    decode 0x8ABC0010 = .ok (.ldg 5 3 .d false 16) ∧ decode 0x8EB00001 = .ok (.stg 5 3 .b 1) ∧
    decode 0x92BC00CF = .ok (.aadd 5 3 6 true .rel .pkg .d) ∧ decode 0x92BC04CF = .ok (.aand 5 3 6 true .rel .pkg .d) ∧
    decode 0x92BC08CF = .ok (.aor 5 3 6 true .rel .pkg .d) ∧ decode 0x92BC0CCF = .ok (.axor 5 3 6 true .rel .pkg .d) ∧
    decode 0x92BC10CF = .ok (.amin 5 3 6 true .rel .pkg .d) ∧ decode 0x92BC14CF = .ok (.amax 5 3 6 true .rel .pkg .d) ∧
    decode 0x92BC18CF = .ok (.aminu 5 3 6 true .rel .pkg .d) ∧ decode 0x92BC1CCF = .ok (.amaxu 5 3 6 true .rel .pkg .d) ∧
    decode 0x92BC20CF = .ok (.aswap 5 3 6 true .rel .pkg .d) ∧ decode 0x92BC24CF = .ok (.acas 5 3 6 true .rel .pkg .d) ∧
    decode 0x903C4026 = .ok (.stadd 3 6 false .acq .bay .w) ∧ decode 0x903C4426 = .ok (.stand 3 6 false .acq .bay .w) ∧
    decode 0x903C4826 = .ok (.stor 3 6 false .acq .bay .w) ∧ decode 0x903C4C26 = .ok (.stxor 3 6 false .acq .bay .w) ∧
    decode 0x903C5026 = .ok (.stmin 3 6 false .acq .bay .w) ∧ decode 0x903C5426 = .ok (.stmax 3 6 false .acq .bay .w) ∧
    decode 0x903C5826 = .ok (.stminu 3 6 false .acq .bay .w) ∧ decode 0x903C5C26 = .ok (.stmaxu 3 6 false .acq .bay .w) ∧
    decode 0x9400001B = .ok (.fence .full .pkg) ∧ decode 0x94100015 = .ok (.fencea .rel .sys) := by
  decide +kernel

theorem test_decode_copy_and_fabric :
    decode 0xA1803220 = .ok (.cpy 3 12 .rel .bay) ∧ decode 0xA1803141 = .ok (.cpym 3 12 .acq .die) ∧
    decode 0xA1E03362 = .ok (.cpyt 3 6 12 .ar .pkg) ∧ decode 0xA1E00003 = .ok (.cpyq 3 6) ∧
    decode 0xB1803020 = .ok (.rput 3 12 .rlx .bay) ∧ decode 0xB1E03281 = .ok (.rputi 3 6 12 .rel .dom) ∧
    decode 0xB1803122 = .ok (.rget 3 12 .acq .bay) ∧ decode 0xB1E032A3 = .ok (.rsig 3 6 12 .rel .sys) ∧
    decode 0xB1803024 = .ok (.ramo 3 12 .rlx .bay) ∧ decode 0xB1803265 = .ok (.rspawn 3 12 .rel .pkg) ∧
    decode 0xB5803020 = .ok (.crd 3 12 .rlx .bay) ∧ decode 0xB5803021 = .ok (.crdg 3 12 .rlx .bay) ∧
    decode 0xB5E00002 = .ok (.crdq 3 6) ∧ decode 0xB8000005 = .ok (.flush .sys) ∧
    decode 0xB810C004 = .ok (.flushc 3 .dom) ∧ decode 0xB82AC000 = .ok (.strmq 5 3) ∧
    decode 0xC1E03000 = .ok (.carm 3 6 12) ∧ decode 0xC1E00261 = .ok (.cadd 3 6 .rel .pkg) ∧
    decode 0xC1E00002 = .ok (.cread 3 6) ∧ decode 0xC1E00003 = .ok (.cdisarm 3 6) := by
  decide +kernel

theorem test_decode_vector_float :
    decode 0xD229F00D = .ok (.vadd 17 9 30 .bf16 5) ∧ decode 0xD229F04D = .ok (.vsub 17 9 30 .bf16 5) ∧
    decode 0xD229F08D = .ok (.vmul 17 9 30 .bf16 5) ∧ decode 0xD229F0CD = .ok (.vfma 17 9 30 .bf16 5) ∧
    decode 0xD229F10D = .ok (.vfms 17 9 30 .bf16 5) ∧ decode 0xD229F14D = .ok (.vmin 17 9 30 .bf16 5) ∧
    decode 0xD229F18D = .ok (.vmax 17 9 30 .bf16 5) ∧ decode 0xD22901D5 = .ok (.vabs 17 9 .f16 5) ∧
    decode 0xD2290200 = .ok (.vneg 17 9 .f32 0) ∧ decode 0xD2290245 = .ok (.vrsq 17 9 5) ∧
    decode 0xD2290285 = .ok (.vrcp 17 9 5) ∧ decode 0xD22902C5 = .ok (.vexp2 17 9 5) ∧
    decode 0xD2290305 = .ok (.vlog2 17 9 5) ∧ decode 0xD2290345 = .ok (.vsqrt 17 9 5) ∧
    decode 0xD229F385 = .ok (.vdiv 17 9 30 5) ∧ decode 0xD229C3CD = .ok (.vadds 17 9 6 .bf16 5) ∧
    decode 0xD229C40D = .ok (.vmuls 17 9 6 .bf16 5) ∧ decode 0xD229C44D = .ok (.vfmas 17 9 6 .bf16 5) := by
  decide +kernel

theorem test_decode_vector_integer :
    decode 0xD629F035 = .ok (.viadd 17 9 30 .i16 5) ∧ decode 0xD629F075 = .ok (.visub 17 9 30 .i16 5) ∧
    decode 0xD629F0B5 = .ok (.vimul 17 9 30 .i16 5) ∧ decode 0xD629F0F5 = .ok (.vimin 17 9 30 .i16 5) ∧
    decode 0xD629F135 = .ok (.vimax 17 9 30 .i16 5) ∧ decode 0xD629F175 = .ok (.viminu 17 9 30 .i16 5) ∧
    decode 0xD629F1B5 = .ok (.vimaxu 17 9 30 .i16 5) ∧ decode 0xD629F1F5 = .ok (.vand 17 9 30 .i16 5) ∧
    decode 0xD629F235 = .ok (.vor 17 9 30 .i16 5) ∧ decode 0xD629F275 = .ok (.vxor 17 9 30 .i16 5) ∧
    decode 0xD629F2B5 = .ok (.vshl 17 9 30 .i16 5) ∧ decode 0xD629F2F5 = .ok (.vshr 17 9 30 .i16 5) ∧
    decode 0xD629F335 = .ok (.vsar 17 9 30 .i16 5) ∧ decode 0xD629C36D = .ok (.viadds 17 9 6 .i32 5) ∧
    decode 0xD62003BD = .ok (.vidx 17 .i8 5) := by
  decide +kernel

theorem test_decode_vector_compare :
    decode 0xD8A9F032 = .ok (.vcmpeq 5 9 30 .i16 2) ∧ decode 0xD8A9F072 = .ok (.vcmplt 5 9 30 .i16 2) ∧
    decode 0xD8A9F0B2 = .ok (.vcmple 5 9 30 .i16 2) ∧ decode 0xDA29F0DA = .ok (.vsel 17 9 30 .e4m3 2) ∧
    decode 0xDA290102 = .ok (.vrsum 17 9 .f32 2) ∧ decode 0xDA290142 = .ok (.vrmax 17 9 .f32 2) ∧
    decode 0xDA290182 = .ok (.vrmin 17 9 .f32 2) ∧ decode 0xDA29F1E2 = .ok (.vshuf 17 9 30 .e5m2 2) ∧
    decode 0xDA29C23A = .ok (.vbcast 17 9 6 .i8 2) ∧ decode 0xDA29C242 = .ok (.vrot 17 9 6 .f32 2) ∧
    decode 0xD8A33280 = .ok (.kand 5 3 6) ∧ decode 0xD8A332C0 = .ok (.kor 5 3 6) ∧
    decode 0xD8A30300 = .ok (.knot 5 3) := by
  decide +kernel

theorem test_decode_vector_convert :
    decode 0xDE29C805 = .ok (.vcvt 17 9 .ru .bf16 .f32 5) ∧ decode 0xDE29F04D = .ok (.vcvtsr 17 9 30 5) ∧
    decode 0xDE20C0AD = .ok (.vrng 17 6 5) ∧ decode 0xDE29F0F0 = .ok (.vpack 17 9 30 .i16) ∧
    decode 0xDE291938 = .ok (.vunpk 17 9 3 .i8) ∧ decode 0xDE294165 = .ok (.vcvtn4 17 9 .rz .e5m2 5) ∧
    decode 0xDE29019D = .ok (.vcvtw4 17 9 .e4m3 5) := by
  decide +kernel

theorem test_decode_vector_memory :
    decode 0x59C3E86C = .ok (.vrep 7 1000 1 2 3) ∧ decode 0x5BEC00C4 = .ok (.vrepReg 15 3 3 0 1) ∧
    decode 0xE22C17FF = .ok (.vld 17 3 5 0x3FF) ∧ decode 0xE22F3402 = .ok (.vlds 17 3 6 5 2) ∧
    decode 0xE22C5402 = .ok (.vldb 17 3 5 2) ∧ decode 0xE62C1402 = .ok (.vst 17 3 5 2) ∧
    decode 0xE62F3402 = .ok (.vsts 17 3 6 5 2) ∧ decode 0xE8000000 = .ok .vbind ∧
    decode 0xE8000040 = .ok .vfree ∧ decode 0xE8000140 = .ok .vdrain ∧
    decode 0xEA20C09D = .ok (.vsplat 17 6 .e4m3 5) ∧ decode 0xEA2CC0E8 = .ok (.vins 17 3 6 .i32) ∧
    decode 0xE869C130 = .ok (.vget 3 9 6 .i16) := by
  decide +kernel

theorem test_decode_matrix :
    decode 0xEED7AFFF = .ok (.mpass 45 3 6 11 1023) ∧ decode 0xF2D00009 = .ok (.mzero 45 9) ∧
    decode 0xF0278409 = .ok (.mldw 2 3 6 9) ∧ decode 0xF2D60809 = .ok (.mrd 45 3 9) ∧
    decode 0xF2D60C09 = .ok (.mwr 45 3 9) ∧ decode 0xF0079009 = .ok (.mrcmd 3 6 9) ∧
    decode 0xF0079400 = .ok (.mgrant 3 6) ∧ decode 0xF2D01A30 = .ok (.vtld 45 17 2) ∧
    decode 0xF2D01E38 = .ok (.vtst 45 17 3) := by
  decide +kernel

/-! ### Small states -/

/-- Quotas of a small context. -/
def tQuota : Quota :=
  { slots := 16, scratch := 65536, sems := 64, chans := 4, cists := 8, vctxs := 2, tiles := 8, wbuf := 16384 }
/-- A context with nothing in it. -/
def tCtx : BayCtx := BayCtx.init 1 tQuota 0
/-- A fibre with three registers set. -/
def tR (a b c : Word) : Fibre := { Fibre.start 1 0x1000 0 0 with g := #v[0, a, b, c, 0, 0, 0, 0] }
/-- The context with the fibre in slot 0. -/
def tC (f : Fibre) (c : BayCtx) : BayCtx := { c with slots := [(0, { gen := 0, fib := some f, resv := false })] }
/-- Bay 0 holds the context, active, with the fibre in slot 0, which issues. -/
def tS (f : Fibre) (c : BayCtx) : State :=
  { State.reset with
    bays := [(0, { Bay.init with ctxs := [(0, tC f c)], active := some 0 })]
    ctxs := [(1, bareCtx)]
    agenda := [] }
/-- The same, with the context on bay 1 as well. -/
def tS2 (f : Fibre) (c : BayCtx) : State :=
  { tS f c with
    bays := [(0, { Bay.init with ctxs := [(0, tC f c)], active := some 0 }), (1, { Bay.init with ctxs := [(0, c)], active := some 0 })] }
/-- A launch that runs. -/
def tLaunch : Launch :=
  { pkt := { queue := 0, tag := 0, blk := 0, num := 0 }, rect := 0, lseq := 1, tfirst := none, spawned := 1, faults := 0, contract := none }
/-- The state with a running launch. -/
def launched (s : State) : State := { s with ctxs := [(1, { bareCtx with launch := some tLaunch })] }
/-- The state in which an event comes about. -/
def happens (e : Ev) (s : State) : State := { s with ev := e }
/-- The next state of an outcome. -/
def after (o : Out) : State := match o with | .next t => t | .fault _ => State.reset | .refused _ => State.reset
/-- A value of the issuing fibre. -/
def curIs {α : Type} [DecidableEq α] (o : Out) (g : Fibre → α) (v : α) : Bool := goesOn o && (after o).curF.map g == some v

/-- Whatever the registers hold, an instruction that names them issues. -/
theorem test_issues (f : Fibre) (c : BayCtx) (l : List GReg) (h : f.empty = 0) (k : f.frame = none) :
    (tS f c).Issues l (tC f c) f :=
  ⟨rfl, rfl, fun r _ => by simp [Fibre.isEmpty, h], k⟩
/-- The registers may hold anything. -/
theorem test_operands (a b c : Word) : (tR a b c).reg 1 = a ∧ (tR a b c).reg 2 = b ∧ (tR a b c).reg 3 = c :=
  ⟨rfl, rfl, rfl⟩

/-! ### Witnesses: states that meet the hypotheses of the statements, with values where clauses meet -/

theorem test_RoundTrip : (Instr.vcvt 17 9 .ru .bf16 .f32 5).wf = true ∧
    encode (.vcvt 17 9 .ru .bf16 .f32 5) = some 0xDE29C805 ∧ decode 0xDE29C805 = .ok (.vcvt 17 9 .ru .bf16 .f32 5) := by
  decide +kernel
theorem test_StepKeepsInvariant : State.reset.Inv ∧ goesOn (step State.reset) = true := ⟨rfl, rfl⟩
theorem test_LifeCycle :
    let s : State := { State.reset with agenda := [⟨0, .lcset 2⟩] }
    goesOn (step s) = true ∧ (after (step s)).mgmt.lc = 2 ∧ (after (step s)).mgmt.wiping = true := by decide +kernel
/-- What the cycle of bay 0 would issue: slot and act, with the word at PC. -/
def chosen (s : State) : Option (Nat × Act × Option (BitVec 32)) :=
  let u := s.tickTime
  (u.bctx 0 0).bind fun c => (choose c.quota.slots c.lastSlot c.cellar.cong (u.readyList 0 0 c c.slots)).bind fun x =>
    if pickOne u.choices u.tick = some (.bay 0 0) ∧ x.2.1.pend = [] then some (x.1, x.2.2, u.fetch 0 c.asid x.2.1.pc) else none
theorem test_StepRunsDecoded :
    chosen (State.reset.withFetchWord 32 0x05260000) = some (0, .run (.add 2 2 3), some 0x05260000) ∧
    decode 0x05260000 = .ok (.add 2 2 3) ∧
    chosen (State.reset.withFetchWord 32 0xFFFFFFFF) = some (0, .illegal 0xFFFFFFFF, some 0xFFFFFFFF) := by decide +kernel
theorem test_StepRunsDecoded_event :
    let u := State.reset.tickTime
    pickOne u.choices u.tick = some (.event 0) ∧ u.agenda[0]? = some ⟨0, .wipeComplete⟩ := ⟨rfl, rfl⟩
theorem test_StepRunsDecoded_parks :
    let s := tS (tR 0 0 0) tCtx
    let off : State := { s with bays := [(0, { Bay.init with ctxs := [(0, tC (tR 0 0 0) tCtx)] })] }
    s.parksAt ⟨0, .loadDataReturn 1 2 5 7⟩ = none ∧ off.parksAt ⟨0, .loadDataReturn 1 2 5 7⟩ = some (0, 0) ∧ 0 < 4 ∧
      off.bctx 0 0 = some (tC (tR 0 0 0) tCtx) ∧ off.keyOf 0 (tC (tR 0 0 0) tCtx).asid = some 0 := by decide +kernel
theorem test_RegisterFrame : registerOnly (.add 3 1 2) = true ∧ goesOn (exec (.add 3 1 2) (tS (tR 1 2 3) tCtx)) = true ∧
    registerOnly (.bayn 3 1 2) = true ∧ goesOn (exec (.bayn 3 1 2) (tS (tR 64 2 3) tCtx)) = true := by decide +kernel

theorem test_IntegerResults : (tS (tR 5 7 0) tCtx).Issues [3, 1, 2] (tC (tR 5 7 0) tCtx) (tR 5 7 0) := test_issues _ _ _ rfl rfl
theorem test_ImmediateResults : (tS (tR 5 7 0) tCtx).Issues [3, 1] (tC (tR 5 7 0) tCtx) (tR 5 7 0) := test_issues _ _ _ rfl rfl
theorem test_ConstantResults : (tS (tR 5 7 0) tCtx).Issues [3] (tC (tR 5 7 0) tCtx) (tR 5 7 0) ∧
    (let f := { tR 5 7 0 with empty := 8 }
     (tS f tCtx).curC = some (tC f tCtx) ∧ (tS f tCtx).curF = some f ∧ f.isEmpty 3 = true ∧ f.isFaulted 3 = false) :=
  ⟨test_issues _ _ _ rfl rfl, rfl, rfl, rfl, rfl⟩
theorem test_MultiplyDivideResults (x y : Word) : (tS (tR x y 0) tCtx).Issues [3, 1, 2] (tC (tR x y 0) tCtx) (tR x y 0) ∧
    ((tS (tR x y 0) tCtx).bay 0).divBusy = false ∧
    (((tS (tR x y 0) tCtx).modBay 0 fun b => { b with divBusy := true }).Issues [3, 1, 2] (tC (tR x y 0) tCtx) (tR x y 0) ∧
      (((tS (tR x y 0) tCtx).modBay 0 fun b => { b with divBusy := true }).bay 0).divBusy = true) :=
  ⟨test_issues _ _ _ rfl rfl, rfl, ⟨rfl, rfl, fun r _ => show (0#8).getLsbD _ = false by simp, rfl⟩, rfl⟩
theorem test_BitResults : (tS (tR 5 7 0) tCtx).Issues [3, 1] (tC (tR 5 7 0) tCtx) (tR 5 7 0) ∧
    (tS (tR 5 4096 0) tCtx).Issues [3, 1, 2] (tC (tR 5 4096 0) tCtx) (tR 5 4096 0) :=
  ⟨test_issues _ _ _ rfl rfl, test_issues _ _ _ rfl rfl⟩
theorem test_AddressResults (x y : Word) : (tS (tR x y 0) tCtx).Issues [3, 1, 2] (tC (tR x y 0) tCtx) (tR x y 0) ∧
    (63 : Word) ≤ 63 ∧ (23 : Word) ≤ 23 ∧ (63 : Word) < 64 ∧ (23 : Word) < 24 ∧ (0x1FFFFF : Word) < 0x200000 ∧
    (1535 : Word) < 1536 := ⟨test_issues _ _ _ rfl rfl, by decide +kernel⟩
theorem test_BranchResults (x y : Word) : (tS (tR x y 0) tCtx).Issues [1, 2] (tC (tR x y 0) tCtx) (tR x y 0) ∧
    (tS (tR x y 0) tCtx).Issues [] (tC (tR x y 0) tCtx) (tR x y 0) ∧
    (tS (tR x y 0) tCtx).Issues [7] (tC (tR x y 0) tCtx) (tR x y 0) ∧
    (tS (tR x y 0) tCtx).Issues [1] (tC (tR x y 0) tCtx) (tR x y 0) ∧
    (tS (tR x y 0) tCtx).Issues [1, 7] (tC (tR x y 0) tCtx) (tR x y 0) :=
  ⟨test_issues _ _ _ rfl rfl, test_issues _ _ _ rfl rfl, test_issues _ _ _ rfl rfl, test_issues _ _ _ rfl rfl,
    test_issues _ _ _ rfl rfl⟩
/-- A fibre with n loops. -/
def tLoops (n : Nat) (hm : Bool) : Fibre :=
  { tR 9 0 0 with loops := (List.range n).map fun k => { start := 0x1004, stop := 0x1000, rem := toW k }, hm := hm }
theorem test_LoopResults (n : Nat) (h : Bool) : (tS (tLoops n h) tCtx).Issues [1] (tC (tLoops n h) tCtx) (tLoops n h) ∧
    (tS (tLoops n h) tCtx).Issues [] (tC (tLoops n h) tCtx) (tLoops n h) ∧ (tLoops n h).hm = h ∧
    (tLoops 3 false).loops.length = 3 ∧ (3#2).toNat ≤ 3 ∧ (tLoops 0 false).loops.length < (1#2).toNat ∧
    (∃ o i x, (tLoops 4 false).loops = i ++ x :: o ∧ o.length = (3#2).toNat) ∧
    (∃ o i x, (tLoops 1 false).loops = i ++ x :: o ∧ o.length = (0#2).toNat) :=
  ⟨test_issues _ _ _ rfl rfl, test_issues _ _ _ rfl rfl, rfl, rfl, by decide, by decide, ⟨_, [], _, rfl, rfl⟩, ⟨_, [], _, rfl, rfl⟩⟩
theorem test_NextPcRule :
    let f := fun (a : Word) (n : Word) (h : Bool) => { tR 0 0 0 with loops := [⟨0xF00, a, n⟩], hm := h }
    (f 0x1000 2 true).hm = true ∧ (tR 0 0 0).loops = [] ∧ ((0x1004 : Word) ≠ (f 0x1004 2 false).pc) ∧
      ((0x1000 : Word) = (f 0x1000 2 false).pc ∧ (1 : Word) < 2) ∧ ((0x1000 : Word) = (f 0x1000 1 false).pc ∧ (1 : Word) ≤ 1) := by
  decide +kernel
theorem test_StatusWord :
    let f : Fibre := { tLoops 4 true with vctx := some 7, frame := some ⟨16, 16, 1, 0, 0, 0, []⟩ }
    f.loops.length ≤ 4 ∧ (∀ v, f.vctx = some v → v < 8) ∧ (∀ x, f.frame = some x → x.left ≤ 16) := by
  refine ⟨by decide +kernel, ?_, ?_⟩ <;> intro _ h <;> cases h <;> decide
theorem test_StatusWord_issue : (tLoops 4 true).loops.length ≤ 4 ∧ (tLoops 4 true).vctx = none ∧ (tLoops 4 true).frame = none ∧
    (tS (tLoops 4 true) tCtx).Issues [3] (tC (tLoops 4 true) tCtx) (tLoops 4 true) :=
  ⟨by decide +kernel, rfl, rfl, test_issues _ _ _ rfl rfl⟩
/-- An access that is outstanding. -/
def tAcc (k : AKind) (d : Option GReg) : Access :=
  { rid := 7, asid := 1, bay := 0, pc := 0x1000, ea := 0x10000, size := 8, kind := k, dest := d, data := 5, exp := 0 }
/-- A fault that is recorded. -/
def tDf : DFault := { rid := 7, pc := 0xF00, ea := 0x10000, cause := .perm, dest := some 2 }
theorem test_NopTrapHret (f : Fibre) (h : f.empty = 0) (k : f.frame = none) : (tS f tCtx).Issues [] (tC f tCtx) f :=
  test_issues _ _ _ h k
theorem test_NopTrapHret_modes :
    let g : Fibre := { tR 0 0 0 with hm := true }
    ((tR 0 0 0).hm = false ∧ (tR 0 0 0).quiet) ∧ (g.hm = true ∧ g.quiet ∧ g.hpc.toNat % 4 = 0) ∧
    ((g.hm = true ∧ ({ g with hpc := 2 } : Fibre).hpc.toNat % 4 ≠ 0)) ∧
    (({ g with ring := [tAcc .store none] } : Fibre).ring ≠ [] ∧ g.wait = .ready) ∧
    (({ g with dfaults := [tDf] } : Fibre).ring = [] ∧ oldest [tDf] = some tDf) := by decide +kernel
theorem test_SystemRegisters (v : Word) : (tS (tR v 0 0) tCtx).Issues [1] (tC (tR v 0 0) tCtx) (tR v 0 0) ∧
    (tS (tR v 0 0) tCtx).Issues [3] (tC (tR v 0 0) tCtx) (tR v 0 0) ∧ (tR v 0 0).hm = false ∧
    (tS { tR v 0 0 with hm := true } tCtx).Issues [1] (tC { tR v 0 0 with hm := true } tCtx) { tR v 0 0 with hm := true } ∧
    (tS (tR v 0 0) tCtx).cur.idx < 4 ∧ 1 ≤ (tC (tR v 0 0) tCtx).quota.slots ∧ (tC (tR v 0 0) tCtx).quota.slots ≤ 256 ∧
    (tC (tR v 0 0) tCtx).asid < 65536 :=
  ⟨test_issues _ _ _ rfl rfl, test_issues _ _ _ rfl rfl, rfl, test_issues _ _ _ rfl rfl, show 0 < 4 by decide,
    show 1 ≤ 16 by decide, show 16 ≤ 256 by decide, show 1 < 65536 by decide⟩
theorem test_CountersAndCache :
    let f : Fibre := { tR 0x10000 0 0 with wait := .queued 0x0C }
    (tS (tR 0x10000 0 0) tCtx).Issues [1] (tC (tR 0x10000 0 0) tCtx) (tR 0x10000 0 0) ∧
    (tS (tR 0x10000 0 0) tCtx).Issues [3] (tC (tR 0x10000 0 0) tCtx) (tR 0x10000 0 0) ∧
    (let s := happens (.icinvDone 1 0x10000 (16383#14).toNat) (tS f tCtx)
     s.ev = .icinvDone 1 0x10000 (16383#14).toNat ∧ s.findU 1 = some (⟨0, 0, 0⟩, f) ∧ s.fib 0 0 0 = some f ∧ f.uid = 1 ∧
       f.wait = .queued 0x0C ∧ s.bctx 0 0 = some (tC f tCtx)) :=
  ⟨test_issues _ _ _ rfl rfl, test_issues _ _ _ rfl rfl, rfl, rfl, rfl, rfl, rfl, rfl⟩
theorem test_EmptyRegisterWaits :
    let f : Fibre := { tR 1 2 3 with empty := 4 }
    encode (.add 3 1 2) = some 0x05940000 ∧ (tS f tCtx).curC = some (tC f tCtx) ∧ (tS f tCtx).curF = some f ∧
      (∃ r ∈ namedRegs (.add 3 1 2), f.isEmpty r = true) ∧ ∀ r ∈ namedRegs (.add 3 1 2), f.isFaulted r = false := by
  decide +kernel

/-- The only context of bay 0. -/
theorem test_only (f : Fibre) (c : BayCtx) (j : Nat) (y : BayCtx) (h : (tS f c).bctx 0 j = some y) : y = tC f c := by
  cases j with
  | zero => exact (Option.some.inj h).symm
  | succ n => simp [State.bctx, tS, State.bay, tget, tfind] at h
theorem test_LocalLoadsAndStores :
    (∀ x : Word, (tS (tR x 0 9) tCtx).Issues [3, 1] (tC (tR x 0 9) tCtx) (tR x 0 9) ∧ (tR x 0 9).reg 1 = x) ∧
    (let c := tC (tR 65528 0 9) tCtx
     (65528 + 8 ≤ c.quota.scratch ∧ 65528 % 8 = 0 ∧ (tS (tR 65528 0 9) tCtx).bad (spadKey c.asid 0 65528) 8 = none) ∧
     (c.quota.scratch < 65529 + 8) ∧ (65524 + 8 ≤ c.quota.scratch ∧ 65524 % 8 ≠ 0) ∧ 65535 + 1 ≤ c.quota.scratch) ∧
    (let s := happens (.loadDataReturn 1 3 5 0) (tS (tR 0 0 0) tCtx)
     s.ev = .loadDataReturn 1 3 5 0 ∧ s.fib 0 0 0 = some (tR 0 0 0) ∧ (tR 0 0 0).uid = 1) :=
  ⟨fun _ => ⟨test_issues _ _ _ rfl rfl, rfl⟩, by decide +kernel, rfl, rfl, rfl⟩
theorem test_GlobalAccesses :
    let full : Fibre := { tR 0x10000 0 9 with ring := List.replicate 16 (tAcc .store none) }
    let last : Fibre := { tR 0x10000 0 9 with ring := List.replicate 15 (tAcc .store none) }
    (tS last tCtx).Issues [3, 1] (tC last tCtx) last ∧ (tS full tCtx).Issues [3, 1] (tC full tCtx) full ∧
    (∀ x : Word, (tS (tR x 0 9) tCtx).Issues [3, 1] (tC (tR x 0 9) tCtx) (tR x 0 9)) ∧
    (0x10000 % 8 = 0 ∧ globalForm 0x10000 = true ∧ ownAperture (tS last tCtx) 0x10000 = false ∧ last.ring.length < 16) ∧
    (globalForm 0x00FE000000200000 = true ∧ ownAperture (tS last tCtx) 0x00FE000000200000 = false ∧
      isAperture 0x00FE000000200000 = true) ∧
    (0x10004 % 8 ≠ 0) ∧ globalForm 0xFFFFFFFFFFFFFFF8 = false ∧ (16 ≤ full.ring.length ∧ full.wait = .ready) :=
  ⟨test_issues _ _ _ rfl rfl, test_issues _ _ _ rfl rfl, fun _ => test_issues _ _ _ rfl rfl, by decide +kernel⟩
/-- The access that the next instruction of a fibre makes at its own bay's aperture. -/
def tOwn (k : AKind) (x : Option GReg) (w : Word) : Access :=
  { rid := State.reset.nextId, asid := 1, bay := 0, pc := 0x1000, ea := 0x00FE00000000FFF8, size := 8, kind := k, dest := x,
    data := w, exp := 0 }
theorem test_GlobalAccesses_own :
    let s := tS (tR 0x00FE00000000FFF8 0 9) tCtx
    ownAperture s 0x00FE00000000FFF8 = true ∧ globalForm 0x00FE00000000FFF8 = true ∧ s.agenda = [] ∧
      s.aperture 1 0x00FE00000000FFF8 8 = .ok (spadKey 1 0 0xFFF8) ∧ s.bad (spadKey 1 0 0xFFF8) 8 = none ∧
      s.keyOf 0 1 = some 0 ∧ s.cur.idx < 4 ∧
      (s.takeEntry (tOwn (.load true) (some 3) 0)).access 1 s.nextId = some (tOwn (.load true) (some 3) 0) ∧
      (s.takeEntry (tOwn .store none 9)).access 1 s.nextId = some (tOwn .store none 9) := by decide +kernel
theorem test_Atomics :
    (∀ x : Word, (tS (tR x 0 9) tCtx).Issues [3, 1, 2] (tC (tR x 0 9) tCtx) (tR x 0 9) ∧
      (tS (tR x 0 9) tCtx).Issues [1, 2] (tC (tR x 0 9) tCtx) (tR x 0 9)) ∧
    (let f := tR 65528 0 9
     let s := tS f tCtx
     (s.mayRelease .ar .sys f ∧ 65528 + 8 ≤ (tC f tCtx).quota.scratch ∧ 65528 % 8 = 0 ∧ s.bad (spadKey 1 0 65528) 8 = none) ∧
     (tC f tCtx).quota.scratch < 65529 + 8 ∧ 65532 % 8 ≠ 0 ∧ 65532 + 4 ≤ (tC f tCtx).quota.scratch ∧ 65532 % 4 = 0) ∧
    (∀ j y, (tS (tR 65528 0 9) tCtx).bctx 0 j = some y → ∀ x ∈ y.cists, x.2.st = .idle) ∧
    (let f := tR 0x10000 0 9
     globalForm 0x10000 = true ∧ ownAperture (tS f tCtx) 0x10000 = false ∧ f.ring.length < 16 ∧ (tS f tCtx).mayRelease .ar .sys f ∧
       globalForm 0xFFFFFFFFFFFFFFF8 = false) :=
  ⟨fun _ => ⟨test_issues _ _ _ rfl rfl, test_issues _ _ _ rfl rfl⟩, by decide +kernel,
    fun j y h x hx => absurd hx (by rw [test_only _ _ j y h]; exact List.not_mem_nil), by decide +kernel⟩
theorem test_Fences :
    let f := tR 0 0 0
    let g : Fibre := { f with ring := [tAcc .store none] }
    let h : Fibre := { f with dfaults := [tDf] }
    (tS f tCtx).Issues [] (tC f tCtx) f ∧ (tS g tCtx).Issues [] (tC g tCtx) g ∧ (tS h tCtx).Issues [] (tC h tCtx) h ∧
    (f.quiet ∧ (tS f tCtx).unsent f.uid ((tS f tCtx).tick + 1) = false ∧ (tS f tCtx).remoteStores f.uid = false) ∧
    (g.ring ≠ [] ∧ g.wait = .ready) ∧ (h.ring = [] ∧ h.dfaults ≠ []) :=
  ⟨test_issues _ _ _ rfl rfl, test_issues _ _ _ rfl rfl, test_issues _ _ _ rfl rfl, by decide +kernel⟩
theorem test_DeferredReport :
    let f : Fibre := { tR 0 0 0 with dfaults := [tDf], empty := 4, faulted := 4 }
    let g : Fibre := { f with hm := true }
    ((tS f tCtx).curC = some (tC f tCtx) ∧ (tS f tCtx).curF = some f ∧ oldest f.dfaults = some tDf ∧ f.hm = false ∧
      (∃ y ∈ f.dfaults, y.dest = some 2) ∧ ∀ y ∈ f.dfaults, y.dest ≠ some 3) ∧
    ((tS g tCtx).curC = some (tC g tCtx) ∧ (tS g tCtx).curF = some g ∧ oldest g.dfaults = some tDf ∧ g.hm = true ∧
      (tS g tCtx).ctx (tC g tCtx).asid = some bareCtx) := by decide +kernel
/-- A fibre with one access in its ring. -/
def tWaits (k : AKind) (d : Option GReg) : Fibre := { tR 0 0 0 with ring := [tAcc k d] }
theorem test_AccessCompletion :
    let f := tWaits (.load true) (some 2)
    let s := tS f tCtx
    s.findU 1 = some (⟨0, 0, 0⟩, f) ∧ s.fib 0 0 0 = some f ∧ f.uid = 1 ∧ (7 ≠ 0) ∧ (∀ x y z w, f.wait ≠ .entry x y z w) ∧
    (happens (.accessAccepted 1 7) s).ev = .accessAccepted 1 7 ∧ (happens (.loadDataReturn 1 2 5 7) s).ev = .loadDataReturn 1 2 5 7 ∧
    (happens (.accessFaultRecorded 1 7 .perm) s).ev = .accessFaultRecorded 1 7 .perm ∧ s.access 1 7 = some (tAcc (.load true) (some 2)) :=
  ⟨rfl, rfl, rfl, by decide, nofun, rfl, rfl, rfl, rfl⟩
/-- The fibre whose access is the last before it enters handler mode. -/
theorem test_AccessCompletion_entry :
    let f : Fibre := { tWaits .store none with wait := .entry 0x2018 5 0 0x1000 }
    let g : Fibre := { f with dfaults := [tDf] }
    ([].filter fun a : Access => a.rid != 7) = [] ∧ (f.ring.filter fun a => a.rid != 7) = [] ∧ f.dfaults = [] ∧ g.hm = false ∧
      oldest g.dfaults = some tDf ∧ (tS f tCtx).findU 1 = some (⟨0, 0, 0⟩, f) ∧ (tS g tCtx).fib 0 0 0 = some g := by decide +kernel
/-- A translation that is cached at the home station of bay 0. -/
def tCached (leaf : Word) (s : State) : State :=
  { s with tlb := [(homeStation 0, [{ asid := 1, va := 1, bits := 16, leaf := leaf }])] }
theorem test_AccessAtMemory :
    let s := fun (k : AKind) => tS (tWaits k none) tCtx
    let a := fun (k : AKind) => tAcc k none
    let tr := fun (x : State) (k : AKind) => x.translateAt (homeStation 0) 1 0x10000 (a k).need
    (∀ k, (s k).access 1 7 = some (a k) ∧ (a k).rid = 7) ∧
    tlbFind (tget [] (s .store).tlb (homeStation 0)) 1 0x10000 = none ∧
    (tr (s .store) .store).1 = .error .xlate ∧
    (let c := tCached 0x3B9 (s .store)
     tlbFind (tget [] c.tlb (homeStation 0)) 1 0x10000 ≠ none ∧ (tr c .store).1 = .ok (.phys 0) ∧ physKey 0 = some 0 ∧
       (tr c .store).2.bad 0 8 = none) ∧
    (tr (tCached 0x3B9 (s (.load true))) (.load true)).1 = .ok (.phys 0) ∧
    (tr (tCached 0x3F9 (s (.atomic .add true))) (.atomic .add true)).1 = .ok (.phys 0) ∧
    (tr (tCached 0x3E9 (s .store)) .store).1 = .error .perm ∧
    (happens (.atomicAtUnit 1 7 0) (s (.atomic .add false))).ev = .atomicAtUnit 1 7 0 ∧
    ((s (.atomic .add false)).bad 0 8 = none ∧ ∀ x ∈ (s (.atomic .add false)).dcists, x.2.st = .idle) ∧
    (s .store).aperture 1 0x00FE000000000000 8 = .ok (spadKey 1 0 0) ∧ (s .store).bad (spadKey 1 0 0) 8 = none ∧
    (s .store).aperture 1 0x00FE000000200000 8 = .error .aperture ∧ (s .store).keyOf 0 1 = some 0 :=
  ⟨fun _ => ⟨rfl, rfl⟩, by decide +kernel⟩
/-- The context is saved off its bay, and a page of its image holds an uncorrectable error. -/
theorem test_AccessAtMemory_saved :
    let a := { tAcc (.load true) (some 2) with ea := 0x00FE000000001000 }
    let f : Fibre := { tR 0 0 0 with ring := [a] }
    let s := { tS (tR 0 0 0) tCtx with
               bays := [(0, { Bay.init with ctxs := [(5, tC f tCtx)] })]
               images := [(imageKey 0 1, { gen := 0, tags := [], err := [1] })]
               ev := .apertureAccess 1 7 }
    s.access 1 7 = some a ∧ s.aperture 1 a.ea a.size = .ok (spadKey 1 0 0x1000) ∧ s.keyOf (apBay a.ea) 1 = some 5 ∧ 4 ≤ 5 ∧
      s.bctx 0 5 = some (tC f tCtx) ∧ 0 < a.size ∧ s.pageBad 0 (tC f tCtx) (apOff a.ea / 4096) = some false ∧
      (let b := { tAcc (.atomic .add true) (some 2) with ea := 0x00FE000000001000 }
       let t := { s with bays := [(0, { Bay.init with ctxs := [(5, tC { f with ring := [b] } tCtx)] })] }
       t.access 1 7 = some b ∧ t.aperture 1 b.ea b.size = .ok (spadKey 1 0 0x1000)) := by decide +kernel

/-- A context whose semaphore 63 has a value, and waiters. -/
def tSem (v : BitVec 24) (q : List (Nat × Nat)) : BayCtx := { tCtx with sems := [(63, { value := v, ovf := false, queue := q })] }
theorem test_SemaphoreServe :
    let f := tR 0 0 0
    let s := tS f (tSem 2 [(1, 3), (9, 1)])
    s.bctx 0 0 = some (tC f (tSem 2 [(1, 3), (9, 1)])) ∧ 0 < 4 ∧ 63 ≠ 0 ∧ s.fib 0 0 0 = some f ∧
      (serveQ ((2 + 1) % 2 ^ 24) [(1, 3), (9, 1)]).2.2 = [f.uid] ∧ (∀ y ∈ tCtx.cellar.blocked, y.2.uid ≠ f.uid) ∧
      s.keyOf 0 1 = some 0 ∧ (happens (.meshPostArrival 0 1 63 1 none) s).ev = .meshPostArrival 0 1 63 1 none := by decide +kernel
theorem test_NullSemaphore : 0 < (tC (tR 0 0 0) tCtx).quota.sems ∧
    (∀ x, (tS (tR x 0 0) tCtx).Issues [1] (tC (tR x 0 0) tCtx) (tR x 0 0) ∧ (tS (tR x 0 0) tCtx).Issues [1, 2] (tC (tR x 0 0) tCtx) (tR x 0 0)) ∧
    (tS (tR 0xFFFFFF 0 0) tCtx).mayRelease .ar .sys (tR 0xFFFFFF 0 0) ∧ (tR 0xFFFFFF 0 0).reg 1 < 0x1000000 :=
  ⟨by decide, fun _ => ⟨test_issues _ _ _ rfl rfl, test_issues _ _ _ rfl rfl⟩, by decide +kernel⟩
theorem test_SemaphoreResults (x : Word) (v : BitVec 24) (q : List (Nat × Nat)) :
    (tS (tR x 0 0) (tSem v q)).Issues [1, 2] (tC (tR x 0 0) (tSem v q)) (tR x 0 0) ∧
    (tS (tR x 0 0) (tSem v q)).Issues [1] (tC (tR x 0 0) (tSem v q)) (tR x 0 0) ∧
    (tC (tR x 0 0) (tSem v q)).sem 63 = { value := v, ovf := false, queue := q } ∧ (tR x 0 0).reg 1 = x :=
  ⟨test_issues _ _ _ rfl rfl, test_issues _ _ _ rfl rfl, rfl, rfl⟩
theorem test_SemaphoreResults_bounds :
    let c := tC (tR 5 0 0) (tSem 5 [])
    (63#10 ≠ 0 ∧ (tS (tR 5 0 0) (tSem 5 [])).cur.idx < 4 ∧ (63#10).toNat < c.quota.sems ∧ c.quota.sems ≤ (64#10).toNat ∧
      (tS (tR 5 0 0) (tSem 5 [])).mayRelease .ar .sys (tR 5 0 0)) ∧
    ((∀ w ∈ [(2, 3), (9, 1)], w.1 ≠ (tR 5 0 0).uid) ∧
      (let s := (tS (tR 5 0 0) (tSem 5 [(2, 3), (9, 1)])).modBay 0 fun b => { b with
         ctxs := b.ctxs.map fun x => (x.1, { x.2 with slots := x.2.slots ++ [(1, { gen := 0, fib := some { tR 0 0 0 with uid := 2 }, resv := false })] }) }
       s.fib 0 0 1 = some { tR 0 0 0 with uid := 2 } ∧ (serveQ 5 [(2, 3), (9, 3)]).2.2 = [2] ∧ ∀ w ∈ tCtx.cellar.blocked, w.2.uid ≠ 2)) ∧
    ((5 : Word) < 0x1000000 ∧ (5 : Word) ≤ (5#24).setWidth 64 ∧ (5#24).setWidth 64 < (6 : Word)) ∧
    ((0xFFFFFF : Word) < 0x1000000 ∧ (0x1000000 : Word) ≤ 0x1000000) := by decide +kernel
theorem test_FibreResults :
    let f : Fibre := { tR 6 0 0 with wait := .queued 5, since := 10, w := 4095 }
    let at_ := fun (n : Nat) => (tS f tCtx).modBay 0 fun b => { b with cycle := n }
    let k : Contract := { p := 100, c := 50, d := 100, sc := 3, t0 := 0, begun := 1, overrun := 0, spent := 7 }
    let deal : State := { tS (tR 6 0 0) tCtx with ctxs := [(1, { bareCtx with launch := some { tLaunch with contract := some k } })] }
    ((tS (tR 6 0 0) tCtx).Issues [3] (tC (tR 6 0 0) tCtx) (tR 6 0 0) ∧ (tS (tR 7 0 0) tCtx).Issues [1] (tC (tR 7 0 0) tCtx) (tR 7 0 0)) ∧
    ((tS f tCtx).cur.bay < 2048 ∧ (tS f tCtx).cur.slot < 256 ∧ (tC f tCtx).occupied < 65536) ∧
    ((tS f tCtx).ctx 1 = some bareCtx ∧ bareCtx.launch.bind Launch.contract = none) ∧
    ((deal.ctx 1).bind fun y => y.launch.bind Launch.contract) = some k ∧ (6 : Word) ≤ 6 ∧ (6 : Word) < 7 ∧
    ((at_ 73).findU 1 = some (⟨0, 0, 0⟩, f) ∧ (at_ 73).fib 0 0 0 = some f ∧ f.wait = .queued 5 ∧
      f.since + 63 ≤ ((at_ 73).bay 0).cycle ∧ ((at_ 72).bay 0).cycle < f.since + 63) ∧
    (happens (.fyieldDelayExpiry 1) (at_ 73)).ev = .fyieldDelayExpiry 1 ∧ 4095 ≤ f.w := by
  refine ⟨⟨test_issues _ _ _ rfl rfl, test_issues _ _ _ rfl rfl⟩, ?_⟩
  decide +kernel
theorem test_SpawnResults :
    let f := tR 0x1000 7 1
    let s := launched (tS f tCtx)
    let q : SpawnReq := { entry := 0x1000, arg := 7, pri := 6 }
    let t := happens (.spawnMessageArrival 1 1 q 1) (launched (tS2 f tCtx))
    let jam : BayCtx := { tCtx with cellar := { Cellar.init with cong := true } }
    (∀ g c, g.empty = 0 → g.frame = none → (tS g c).Issues [3, 1, 2] (tC g c) g) ∧ s.Issues [3, 1, 2] (tC f tCtx) f ∧
    (launched (tS2 f tCtx)).Issues [3, 1, 2] (tC f tCtx) f ∧
    ((0x1002 : Word).toNat % 4 ≠ 0 ∧ (tC f jam).cellar.cong = true ∧ f.wait = .ready) ∧
    ((0x1000 : Word).toNat % 4 = 0 ∧ (tC f tCtx).cellar.cong = false ∧ s.launched 1 = true ∧ s.cur.idx < 4 ∧
      (tC f tCtx).cellar.ring = [] ∧ s.freeSlot 0 0 = some 1 ∧ f.pri ≠ 7 ∧ s.mayRelease .rel .pkg f) ∧
    (1536 ≤ (1536 : Word).toNat ∧ s.usable 1 1 = false ∧ s.usable 1 0 = true ∧ (launched (tS2 f tCtx)).usable 1 1 = true ∧
      f.spawnUnack < 4 ∧ (launched (tS2 f tCtx)).mayRelease .rel .pkg f) ∧
    (t.keyOf 1 1 = some 0 ∧ t.bctx 1 0 = some tCtx ∧ tCtx.cellar.held = [] ∧ tCtx.cellar.ring = [] ∧ tCtx.cellar.cong = false ∧
      t.launched 1 = true ∧ t.freeSlot 1 0 = some 0 ∧ q.pri ≠ 7) ∧
    ((happens (.spawnAckArrival 1 1) s).fib 0 0 0 = some f ∧ f.uid = 1) :=
  ⟨fun _ _ h k => test_issues _ _ _ h k, ⟨rfl, rfl, (test_issues _ tCtx _ rfl rfl).full, rfl⟩,
    ⟨rfl, rfl, (test_issues _ tCtx _ rfl rfl).full, rfl⟩, by decide +kernel⟩
/-- The state whose cellar area of bay 0 has a translation. -/
def tCellar (s : State) : State :=
  { s with
    ctxs := [(1, { bareCtx with cellarVa := 0x10000, launch := some tLaunch, evict := 1024 })]
    tlb := [(homeStation 0, [{ asid := 1, va := 1, bits := 16, leaf := 0x3B9 }])] }
theorem test_FibreMoves :
    let f := tR 1 0 0
    let g : Fibre := { f with ring := [tAcc (.load true) none] }
    let h : Fibre := { f with hm := true }
    let ring : BayCtx := { tCtx with cellar := { Cellar.init with ring := [(0, .fib (tR 2 0 0))] } }
    let t : State := { happens (.migrationArrival 1 1 1) (launched (tS2 (tR 1 0 0) tCtx)) with mig := [(1, f)] }
    ((tS f tCtx).Issues [] (tC f tCtx) f ∧ (tS g tCtx).Issues [] (tC g tCtx) g ∧ (tS h tCtx).Issues [1] (tC h tCtx) h ∧
      (tS2 f tCtx).Issues [1] (tC f tCtx) f ∧ (tCellar (tS f ring)).Issues [] (tC f ring) f) ∧
    (f.quiet ∧ f.locals = 0 ∧ f.spawnUnack = 0 ∧ (tS f tCtx).remoteWrites f.uid none = false ∧ vecIdle (tC f tCtx) f = true ∧
      f.pend = []) ∧
    (g.ring ≠ [] ∧ g.wait = .ready ∧ h.hm = true ∧ f.vctx = none) ∧
    ((tS2 f tCtx).usable 1 1 = true ∧ (tS2 f tCtx).usable 1 2 = false ∧ (tS2 f tCtx).usable 1 0 = true ∧
      (∀ x ∈ f.ring, x.writes = false)) ∧
    (tfind t.mig 1 = some f ∧ t.keyOf 1 1 = some 0 ∧ t.bctx 1 0 = some tCtx ∧ t.launched 1 = true ∧ t.freeSlot 1 0 = some 0) ∧
    (f.empty = 0 ∧ (tC f ring).cellar.ring ≠ [] ∧ (tCellar (tS f ring)).cellarRoom (tC f ring) = true ∧
      ((tCellar (tS f ring)).cellarAccess 0 1 (tC f ring).cellar.room .write).2 = true) := by
  refine ⟨⟨test_issues _ _ _ rfl rfl, test_issues _ _ _ rfl rfl, test_issues _ _ _ rfl rfl,
    ⟨rfl, rfl, (test_issues _ tCtx _ rfl rfl).full, rfl⟩, ⟨rfl, rfl, (test_issues _ tCtx _ rfl rfl).full, rfl⟩⟩, ?_⟩
  decide +kernel
theorem test_CellarEvents :
    let f : Fibre := { tR 1 0 0 with wait := .queued 0x10, since := 0 }
    let one : Quota := { tQuota with slots := 2 }
    let c : BayCtx := { tCtx with
                        quota := one
                        cellar := { Cellar.init with ring := [(0, .spawn { entry := 0x1000, arg := 7, pri := 6 })] } }
    let s := happens (.fibreEviction 0 0) ((tCellar (tS f c)).modBay 0 fun b => { b with cycle := 5000 })
    let d : BayCtx := { c with slots := [(0, { gen := 0, fib := none, resv := true })], cellar := { c.cellar with order := [0] } }
    let u : State := { tCellar (tS f c) with bays := [(0, { Bay.init with ctxs := [(0, d)], active := some 0 })] }
    let q : PFault := { hcause := 0x2018, hval := 0, hseq := 0, gen := 0, eng := none }
    let w := fun (l m : List PFault) => { tS f tCtx with ctxs := [(1, { bareCtx with backlog := l, slice := m })] }
    (s.bctx 0 0 = some (tC f c) ∧ s.evictee 0 0 = some (0, f) ∧ s.cellarRoom (tC f c) = true ∧
      (s.cellarAccess 0 1 (tC f c).cellar.room .write).2 = true) ∧
    (({ s with tlb := [] } : State).cellarAccess 0 1 (tC f c).cellar.room .write).2 = false ∧
    (u.bctx 0 0 = some d ∧ d.cellar.order = [0] ∧ u.isFaultSlot 0 0 0 = false ∧
      d.cellar.ring = [(0, .spawn { entry := 0x1000, arg := 7, pri := 6 })] ∧ d.cellar.held = [] ∧
      (u.cellarAccess 0 1 0 .read).2 = true ∧ (({ u with tlb := [] } : State).cellarAccess 0 1 0 .read).2 = false) ∧
    ((launched (tS f tCtx)).keyOf 0 1 = some 0 ∧ (launched (tS f tCtx)).freeSlot 0 0 = some 1 ∧ tCtx.cellar.ring = [] ∧
      ((launched (tS f tCtx)).bay 0).fenced = false ∧ ((launched (tS f tCtx)).cist 1 0 0).queued.length ≤ 1) ∧
    ((w [q] []).faultFibre 1 = none ∧ (w [q] []).faultPlace 1 = some (0, 0, 15) ∧ (w [q] []).faultActive 1 = true ∧
      (w [] [q]).faultFibre 1 = none ∧ (w [] [q]).faultPlace 1 = some (0, 0, 15) ∧ (w [] [q]).faultActive 1 = true) := by
  decide +kernel
theorem test_PriorityRule :
    let l : List (Nat × Fibre × Act) := [(0, { tR 0 0 0 with w := 255 }, .fault), (1, { tR 0 0 0 with w := 256 }, .fault)]
    choose 16 0 false l = some (1, { tR 0 0 0 with w := 256 }, .fault) ∧ choose 16 0 false ([] : List (Nat × Fibre × Act)) = none ∧
      effPri true { tR 0 0 0 with w := 4095, pri := 6 } = 7 ∧ effPri false { tR 0 0 0 with w := 4096 } = 7 ∧
      effPri false { tR 0 0 0 with w := 4095 } = 3 := by decide +kernel
theorem test_SwitchAndContractEvents :
    let f := tR 0 0 0
    let e : PlanEntry := { time := 100, rect := 0, ctxid := 1, mode := 0, index := 0 }
    let s := fun (n : Nat) => { happens (.planEntryActivate e) (tS f tCtx) with time := { TimeSt.init with count := toW n } }
    let two : State := { tS f tCtx with
                         bays := [(0, { Bay.init with ctxs := [(5, tC f tCtx)], active := none })]
                         ev := .restoreComplete 0 1 0 }
    let k : Contract := { p := 100, c := 50, d := 100, sc := 3, t0 := 1000, begun := 0, overrun := 0, spent := 0 }
    let l : Launch := { tLaunch with contract := some k }
    let deal := fun (n : Nat) (b : Nat) (act : Option Nat) => { tS f tCtx with
                  bays := [(0, { Bay.init with ctxs := [(0, tC f tCtx)], active := act })]
                  ctxs := [(1, { bareCtx with launch := some { l with contract := some { k with begun := b } } })]
                  time := { TimeSt.init with count := toW n } }
    let both : State := { tS f tCtx with bays := [(0, { Bay.init with ctxs := [(0, tC f { tCtx with asid := 2 }), (5, tC f tCtx)] })] }
    let gone : State := (tS f tCtx).modBay 0 fun b => { b with due := some 1 }
    let spent : State := { deal 1000 1 none with
                           ctxs := [(1, { bareCtx with launch := some { l with contract := some { k with begun := 1, spent := 50000 } } })] }
    ((s 99).now < e.time.toNat ∧ e.time.toNat ≤ (s 100).now ∧ (s 100).planBefore e = false ∧ 0 ∈ rectBays e.rect ∧
      ((s 100).bay 0).fenced = false ∧ (s 100).contractPart (s 100).chip.toNat e = false ∧
      ({ s 100 with ctxs := [(1, { bareCtx with launch := some l })] } : State).contractPart 0 e = true ∧ 1 ∉ rectBays e.rect) ∧
    ((tS f tCtx).ctxOf e.ctxid = some bareCtx ∧ ((tS f tCtx).bay 0).fenced = false ∧ e.mode = 0 ∧ e.index.toNat = 0) ∧
    ((both.bctx 0 0).isSome = true ∧ (both.bctx 0 (4 + 1)).isSome = true ∧ both.ctxOf e.ctxid = some bareCtx) ∧
    ((gone.bay 0).due = some 1 ∧ gone.keyOf 0 1 = some 0 ∧ gone.front.saving.contains (e, 1) = false) ∧
    ((tS f tCtx).bctx 0 0 = some (tC f tCtx) ∧ (tS f tCtx).ctx 1 = some bareCtx ∧ bareCtx.ended = none ∧
      (tS f tCtx).keyOf 0 1 = some 0 ∧ ((tS f tCtx).bay 0).halts = 0 ∧ (tS f tCtx).savingCtx 1 = false) ∧
    (two.ctx 1 = some bareCtx ∧ two.bctx 0 0 = none ∧ two.bctx 0 (4 + 1) = some (tC f tCtx) ∧ (two.bay 0).fenced = false ∧
      (tC f tCtx).cellar.held = [] ∧ (two.bay 0).halts = 0 ∧ two.savingCtx 1 = false ∧ two.restoring 1 = false) ∧
    ((deal 999 0 none).now < k.t0 + 0 * k.p * 1000 ∧ k.t0 + 0 * k.p * 1000 ≤ (deal 1000 0 none).now) ∧
    ((deal 1000 1 none).contractBay 0 = true ∧ (deal 1000 1 none).turn 0 = some 0 ∧ (deal 1000 1 (some 0)).activeAt 0 0 = true ∧
      (deal 1000 1 none).activeAt 0 0 = false ∧ (deal 1000 1 none).switching 0 = false ∧
      (deal 1000 1 (some 0)).turn 0 = some 0 ∧ (deal 1000 1 (some 0)).contractBay 0 = true ∧
      (deal 1000 1 (some 0)).switching 0 = false) ∧
    (spent.contractBay 0 = true ∧ spent.turn 0 = none ∧ spent.switching 0 = false ∧ (spent.bay 0).fenced = false) ∧
    (let u := { deal 1000 1 none with agenda := [⟨lanePlan 0, .stateCapture 0⟩] }
     u.contractBay 0 = true ∧ u.switching 0 = true) := by decide +kernel

/-- A context whose channel 3 is as given. -/
def tChan (y : Chan) : BayCtx := { tCtx with chans := [(3, y)] }
/-- A channel that the bay has joined alone. -/
def tOn : Chan := { Chan.init with en := true, mask := 0x80000000 }
theorem test_BarrierResults :
    (∀ f y, f.empty = 0 → f.frame = none → (tS f (tChan y)).Issues [1] (tC f (tChan y)) f ∧ (tS f (tChan y)).Issues [] (tC f (tChan y)) f) ∧
    (let ok := fun (v : Word) => maskOk (tS (tR v 0 0) tCtx) (tC (tR v 0 0) tCtx) v
     ok 0x80000000 = true ∧ ok 0x80000001 = false ∧ (0x80000000 : Word) &&& 0x700000FF7C88E0C0 = 0 ∧
       ((0x80000000 : Word).setWidth 26 : BitVec 26) = 0 ∧ bayXY (tS (tR 0 0 0) tCtx).cur.bay = (0, 0) ∧
       (tS (tR 0 0 0) tCtx).ctx 1 = some bareCtx ∧ bareCtx.rect = 0x2000000 ∧ (0x7FFFFFFF : Word) ≠ 0 ∧ (0x7FFFFFFF : Word).getLsbD 31 = false) ∧
    (3 < tCtx.quota.chans ∧ tCtx.quota.chans ≤ (4#10).toNat ∧ tOn.arr = false ∧ tOn.larr = tOn.arrn ∧
      { tOn with mask := 0x000080000000 + 0x10000000000 }.arrn = 1 ∧ (tS (tR 0 0 0) (tChan tOn)).mayRelease .ar .sys (tR 0 0 0)) ∧
    (let f := { tR 0 0 0 with ticket := some (3, 1), wait := .queued 0x21 }
     let y := { tOn with arr := true, phWait := [1] }
     let s := happens (.barrierPhaseComplete 1 3 0) (tS f (tChan y))
     (1#16 ≠ y.phase) ∧ s.keyOf 0 1 = some 0 ∧ s.bctx 0 0 = some (tC f (tChan y)) ∧ s.phaseReady 1 3 y = true ∧
       (rectBays y.rect).Nodup ∧ rectBays y.rect = [0] ∧ y.phWait = [f.uid] ∧ s.fib 0 0 0 = some f) ∧
    (∀ f y j z, y.arrWait = [] → (tS f (tChan y)).bctx 0 j = some z → (z.chan 3).arrWait = []) :=
  ⟨fun _ _ h k => ⟨test_issues _ _ _ h k, test_issues _ _ _ h k⟩, by decide +kernel, by decide +kernel, by decide +kernel,
    fun f y j z h e => by rw [test_only f _ j z e]; exact h⟩
theorem test_StatusWords :
    let y : Chan := { tOn with larr := 255, phWait := List.replicate 255 1, arrWait := List.replicate 256 (.barr 1) }
    let g : Gutter := { q := List.replicate 32 5, pops := List.replicate 256 ⟨1, 0, 0, false⟩, cred := 32, pushes := List.replicate 256 ⟨1, 0, 0, false⟩ }
    (∀ c, (tS (tR 0 0 0) c).Issues [2] (tC (tR 0 0 0) c) (tR 0 0 0)) ∧
    (3 < (tChan y).quota.chans ∧ (tChan y).chan 3 = y ∧ y.larr < 256 ∧ y.waitn < 512 ∧ (tChan y).quota.chans ≤ (4#10).toNat) ∧
    (g.q.length ≤ 32 ∧ g.cred ≤ 32 ∧ g.pops.length ≤ 256 ∧ g.pushes.length ≤ 256) :=
  ⟨fun _ => test_issues _ _ _ rfl rfl, by decide +kernel⟩
/-- The context on bay 0, with its neighbours to both sides. -/
def tThree (f : Fibre) (c : BayCtx) : State :=
  { tS f c with
    bays := [(0, { Bay.init with ctxs := [(0, tC f c)], active := some 0 }), (1, { Bay.init with ctxs := [(0, c)], active := some 0 }),
             (591, { Bay.init with ctxs := [(0, c)], active := some 0 })] }
/-- A context with one gutter direction set. -/
def tGut (g : Gutter) : BayCtx := { tCtx with east := g }
theorem test_GutterResults :
    let f := tR 9 0 0
    let s := tThree f tCtx
    let x : GutWait := { uid := 1, d := 2, word := 7, fwd := false }
    let h := { f with wait := .queued 0x32 }
    (∀ g r, r = [1] ∨ r = [2] ∨ r = [2, 1] ∨ r = [2, 3] → (tThree f (tGut g)).Issues r (tC f (tGut g)) f) ∧
    (s.usable 1 (neighbour 0 .east) = true ∧ s.usable 1 (neighbour 0 .west) = true ∧
      (tS f tCtx).usable 1 (neighbour 0 .east) = false ∧ (tS f tCtx).usable 1 (neighbour 0 .west) = false ∧
      (tS2 f tCtx).usable 1 (neighbour 0 .west) = false ∧ (tS2 f tCtx).usable 1 (neighbour 0 .east) = true) ∧
    (s.credits 0 1 .east (tCtx.gut .east) = 32 ∧ (tCtx.gut .east).q = [] ∧
      s.credits 0 1 .east { tCtx.gut .east with cred := 0 } = 0 ∧ s.credits 0 1 .east { tCtx.gut .east with cred := 1 } = 1 ∧
      { tCtx.gut .east with q := [5] }.q = [5]) ∧
    (let t := tThree h (tGut { Gutter.init with pops := [x] })
     t.keyOf 0 1 = some 0 ∧ t.bctx 0 0 = some (tC h (tGut { Gutter.init with pops := [x] })) ∧ t.fib 0 0 0 = some h ∧ h.uid = x.uid ∧
       t.credits 0 1 .east { Gutter.init with pops := [x] } = 32) ∧
    (let t := tThree h (tGut { Gutter.init with cred := 0, pushes := [x] })
     t.keyOf 0 1 = some 0 ∧ t.fib 0 0 0 = some h ∧ t.credits 0 1 .east { Gutter.init with cred := 0, pushes := [x] } = 0) ∧
    (happens (.gutterWordArrival 0 1 .east 5) s).ev = .gutterWordArrival 0 1 .east 5 ∧
    (happens (.gutterCreditReturn 0 1 .east) s).ev = .gutterCreditReturn 0 1 .east :=
  ⟨fun _ _ _ => ⟨rfl, rfl, (test_issues _ tCtx _ rfl rfl).full, rfl⟩, by decide +kernel⟩
/-- A fibre that holds vector context 0. -/
def tV (a b c : Word) : Fibre := { tR a b c with vctx := some 0 }
/-- A context whose vector context 0 has this queue. -/
def tQueue (q : List VEnt) : BayCtx := { tCtx with vctxs := [(0, { VCtx.init with owner := some 1, queue := q })] }
/-- An entry of a vector queue. -/
def tEnt (k : VKind) (i : Instr) (x y : Word) : VEnt := VEnt.one k { op := i, x := x, y := y }
theorem test_VectorIssue :
    (∀ f c l, f.empty = 0 → f.frame = none → (tS f c).Issues l (tC f c) f) ∧
    vecFramed (.viadd 1 2 3 .i32 0) = true ∧ (tR 0 0 0).vctx = none ∧ (tV 0 0 0).vctx = some 0 ∧
    (vecFault (.vld 1 1 0 0) (tV 65280 0 0) 65536 1 0 = none ∧
      vecFault (.vld 1 1 0 0) (tV 65281 0 0) 65536 1 0 = some (.align, 65281) ∧
      vecFault (.vld 1 1 0 0) (tV 65312 0 0) 65536 1 0 = some (.quota, 65536) ∧
      vecFault (.vins 1 1 2 .i32) (tV 63 0 0) 65536 1 0 = none ∧
      vecFault (.vins 1 1 2 .i32) (tV 64 0 0) 65536 1 0 = some (.range, 64) ∧
      vecFault (.vlds 1 1 2 0 0) (tV 0 31 0) 65536 1 0 = some (.align, 31)) ∧
    ((tQueue (List.replicate 15 (tEnt .ins .nop 0 0))).vctx 0).queue.length < 16 ∧
    16 ≤ ((tQueue (List.replicate 16 (tEnt .ins .nop 0 0))).vctx 0).queue.length :=
  ⟨fun _ _ _ h k => test_issues _ _ _ h k, by decide +kernel⟩
theorem test_VectorFrames :
    let fr : Frame := { n := 2, left := 2, count := 3, sd := 1, sa := 0, sb := 0, ins := [] }
    let f := { tV 5 0 0 with frame := some fr }
    let last := { tV 5 0 0 with frame := some { fr with left := 1 } }
    let looped := { f with loops := [{ start := 0, stop := 0x1000, rem := 2 }] }
    let none_ := { tCtx with quota := { tQuota with vctxs := 0 } }
    let full := { tCtx with vctxs := [(0, { VCtx.init with owner := some 9 }), (1, { VCtx.init with owner := some 8 })] }
    let half := { tCtx with vctxs := [(0, { VCtx.init with owner := some 9 })] }
    (∀ f c l, f.empty = 0 → f.frame = none → (tS f c).Issues l (tC f c) f) ∧
    (65535 < (65536 : Word).toNat ∧ (65535 : Word).toNat ≤ 65535 ∧ (tV 0 0 0).vctx ≠ none) ∧
    ((tS f tCtx).curC = some (tC f tCtx) ∧ (tS f tCtx).curF = some f ∧ (∀ r ∈ namedRegs (.vsplat 1 2 .i32 0), f.isEmpty r = false) ∧
      vecFramed (.viadd 1 2 3 .i32 0) = true ∧ (encode (.viadd 1 2 3 .i32 0)).isSome = true ∧ fr.left ≠ 1 ∧ f.loopMoves = false ∧
      looped.loopMoves = true ∧ vecFault (.vld 1 1 0 0) f 65536 3 1 = some (.align, 5) ∧
      vecFault (.viadd 1 2 3 .i32 0) f 65536 3 1 = none ∧ last.frame.map Frame.left = some 1 ∧ (tCtx.vctx 0).queue.length < 16) ∧
    ((tC (tR 0 0 0) none_).quota.vctxs = 0 ∧ tCtx.quota.vctxs ≠ 0 ∧ (∀ k < tCtx.quota.vctxs, (full.vctx k).owner ≠ none) ∧
      1 < tCtx.quota.vctxs ∧ (half.vctx 1).owner = none ∧ (∀ k < 1, (half.vctx k).owner ≠ none) ∧ tCtx.vbindq = []) ∧
    ((63 : Word).getLsbD 63 = false ∧ (63 : Word).toNat < tyN .i32 ∧ ¬(64 : Word).toNat < tyN .i32 ∧
      (0xC000000000000000 : Word).getLsbD 63 = true ∧ (0xC000000000000000 : Word).extractLsb' 0 62 = 0) :=
  ⟨fun _ _ _ h k => test_issues _ _ _ h k, by decide +kernel⟩
theorem test_VectorExecute :
    let on := fun (q : List VEnt) => happens (.vectorEntryExecute 0 0 0) (tS (tV 0 0 0) (tQueue q))
    let two : VEnt := { tEnt .ins .nop 0 0 with ins := [⟨.viadd 1 2 3 .i32 0, 0, 0⟩, ⟨.viadd 1 2 3 .i32 0, 0, 0⟩], count := 65535, sd := 4 }
    (∀ q ∈ [tEnt .ins (.viadd 1 2 3 .i32 0) 0 0, tEnt .ins (.vst 1 1 0 0) 0 0, tEnt .ins (.vlds 1 1 2 0 0) 0 64,
        tEnt (.get 1 4) (.vget 1 1 4 .i32) 63 0, tEnt (.get 1 4) (.vget 1 1 4 .i32) 0xC000000000000000 0, tEnt (.drain 1) .vdrain 0 0,
        tEnt (.free 1) .vfree 0 0],
      (on [q]).bctx 0 0 = some (tC (tV 0 0 0) (tQueue [q])) ∧ (on [q]).mgmt.throttle = false ∧ (on [q]).activeAt 0 0 = true ∧
        (tQueue [q]).vctx 0 = { VCtx.init with owner := some 1, queue := [q] } ∧ q.ins.length = 1 ∧ q.count = 1 ∧
        (on [q]).poison = []) ∧
    (tCtx.vwaits = [] ∧ tCtx.mport.wq = []) ∧
    ((on []).fib 0 0 0 = some (tV 0 0 0) ∧ (tV 0 0 0).uid = 1 ∧ tCtx.vbindq = [] ∧ vecMem (.viadd 1 2 3 .i32 0) = false ∧
      ((on [two]).bctx 0 0).map (fun c => (c.vctx 0).queue) = some [two] ∧ two.ins[0]? = some ⟨.viadd 1 2 3 .i32 0, 0, 0⟩ ∧
      0 + 1 < two.ins.length ∧ ¬1 + 1 < two.ins.length ∧ 65533 + 1 < two.count ∧ ¬65534 + 1 < two.count) ∧
    ({ on [] with mgmt := { Mgmt.init with throttle := true } }).mgmt.throttle = true := by decide +kernel
/-- Frames that have reached their last position and iteration: a load, a store and VRNG. -/
theorem test_VectorExecute_frame :
    ∀ i ∈ [Instr.vld 1 1 0 0, .vlds 1 1 2 0 0, .vst 1 1 0 0, .vsts 1 1 2 0 0, .vrng 1 1 0],
      let e : VEnt := { tEnt .ins i 32 64 with count := 2, sd := 1 }
      let z := { VCtx.init with owner := some 1, queue := [e], iter := 1 }
      let c := { tCtx with vctxs := [(0, z)] }
      let s := happens (.vectorEntryExecute 0 0 0) (tS (tV 0 0 0) c)
      s.bctx 0 0 = some (tC (tV 0 0 0) c) ∧ s.activeAt 0 0 = true ∧ e.ins[z.pos]? = some ⟨i, 32, 64⟩ ∧
        ¬(z.pos + 1 < e.ins.length ∨ z.iter + 1 < e.count) ∧ c.vwaits = [] ∧ c.mport.wq = [] ∧ s.poison = [] ∧ z.bad = [] ∧
        (32 : Word).toNat % 32 = 0 ∧ (64 : Word).toNat % 32 = 0 := by decide +kernel
/-- Lane 63 of v1 is an FP32 NaN, lane 127 of v2 the same in both 16-bit formats, lane 63 of v3 is below −0. -/
def tNans : VCtx :=
  { VCtx.init with v := [(1, 0x7F800001#2048 <<< 2016), (2, 0x7FFF#2048 <<< 2032), (3, 0x80000001#2048 <<< 2016)] }
theorem test_LaneResults : Ty.isInt .i8 = true ∧ 255 < tyN .i8 ∧ Ty.isInt .i32 = true ∧ 63 < tyN .i32 ∧ (255 : Word).toNat < tyN .i8 ∧
    63 < tyN .f32 ∧ 127 < tyN .bf16 ∧ 127 < tyN .f16 ∧ tNans.sel 0 63 = true ∧ tNans.sel 0 127 = true ∧
    vlane (tNans.vr 1) 4 63 = 0x7F800001 ∧ vlane (tNans.vr 2) 2 127 = 0x7FFF ∧ vlane (tNans.vr 3) 4 63 = 0x80000001 := by
  decide +kernel

/-- The tree of R83 over any leaves. -/
theorem test_FloatLaneResults (op : Nat → Nat → Nat × BitVec 32) (leaf : Nat → Nat) :
    (∃ T : Nat → Nat → Nat, (∀ j < 64, T 0 j = leaf j) ∧ ∀ l j, T (l + 1) j = (op (T l (2 * j)) (T l (2 * j + 1))).1) ∧
    (tyFmt .f32 = some fp32 ∧ tyW .f32 ≠ 1 ∧ tyFmt .bf16 = some bf16 ∧ tyW .f16 = 2 ∧ tyW .i8 = 1 ∧ tyFmt .e4m3 = some e4m3 ∧
      tyFmt .i32 = none ∧ (1#2).toNat < 2) :=
  ⟨⟨fun l => Nat.rec leaf (fun _ g j => (op (g (2 * j)) (g (2 * j + 1))).1) l, fun _ _ => rfl, fun _ _ => rfl⟩, by decide +kernel⟩
theorem test_RoundingRule :
    ((2 ^ 24 : Nat) : ℚ) * 2 ^ (-1 : Int) ≤ 8388608 ∧ (8388608 : ℚ) < ((2 ^ 24 : Nat) + 1 : ℚ) * 2 ^ (-1 : Int) ∧
    (8388608 : ℚ) = ((2 ^ 24 : Nat) : ℚ) * 2 ^ (-1 : Int) ∧ ((2 ^ 24 : Nat) : ℚ) * 2 ^ (-1 : Int) ≤ 8388608 + 1 / 4 ∧
    (8388608 + 1 / 4 : ℚ) < ((2 ^ 24 : Nat) + 1 : ℚ) * 2 ^ (-1 : Int) ∧ (8388608 + 1 / 4 : ℚ) ≠ ((2 ^ 24 : Nat) : ℚ) * 2 ^ (-1 : Int) ∧
    2 ^ (fp32.f + 1) ≤ 2 ^ 24 := by
  refine ⟨?_, ?_, ?_, ?_, ?_, ?_, by decide⟩ <;> norm_num
theorem test_RoundingRule_values :
    (∃ m e, fp32.value 0xBF800001 = .num true m e ∧ m ≠ 0) ∧ (∃ m e, fp32.value 1 = .num false m e ∧ m ≠ 0) ∧
    fp32.value 0x7FC00000 = .nan ∧ fp32.value 0xFF800000 = .inf true ∧ tyFmt .i8 = none ∧ tyFmt .f32 = some fp32 :=
  ⟨⟨_, _, rfl, by decide⟩, ⟨_, _, rfl, by decide⟩, by decide, by decide, rfl, rfl⟩
/-- A ring entry of a command that is under way. -/
def tFEnt (q : BitVec 32) : FEnt := { FEnt.init with tag := mkTag 2 0 0 0 q, valid := true, st := 1, segs := 7 }
/-- A command with this instruction, operands and descriptor. -/
def tCmd (i : Instr) (x y : Word) (d : List Word) : Cmd :=
  { op := i, x := x, y := y, desc := d, sem := 63, ord := .rlx, scope := .bay, seq := 1, tag := 0, gen := 0, uid := 1, oBay := 0,
    oSlot := 0, remote := false, after := [], issued := 0 }
/-- A context whose rings know command 1. -/
def tKnown : BayCtx :=
  let r : FRing := { FRing.init with seq := 1, ents := [(1, tFEnt 1)] }
  { tCtx with cring := r, mring := r, fring := r }
theorem test_CopyInstructions :
    (∀ f c l, f.empty = 0 → f.frame = none → (tS f c).Issues l (tC f c) f) ∧ (tS (tR 0 0 0) tCtx).poison = [] ∧
    ((63#10).toNat < tCtx.quota.sems ∧ tCtx.quota.sems ≤ (64#10).toNat ∧ (65472 : Word).toNat % 64 = 0 ∧
      (65472 : Word).toNat + 64 ≤ tCtx.quota.scratch ∧ tCtx.quota.scratch < (65536 : Word).toNat + 64 ∧ (65473 : Word).toNat % 64 ≠ 0) ∧
    (tCtx.portFree 2 ∧ ¬{ tCtx with cport := { ents := List.replicate 16 (tCmd .nop 0 0 []), wq := [] } }.portFree 2 ∧
      ¬{ tCtx with cport := { ents := [], wq := [tCmd .nop 0 0 []] } }.portFree 2) ∧
    (2 ^ 32 ≤ (0x100000000 : Word).toNat ∧ (0xFFFFFFFF : Word).toNat < 2 ^ 32 ∧ tKnown.cring.entry 0xFFFFFFFF = none ∧
      tKnown.cring.entry ((1 : Word).setWidth 32) = some (tFEnt 1) ∧ (tFEnt 1).st < 4) :=
  ⟨fun _ _ _ h k => test_issues _ _ _ h k, by decide +kernel⟩
theorem test_CopyEngine :
    let good := tCmd (.cpy 1 63 .rlx .bay) 0 0 [0, 4096, 0, 4095, 0, 0, 0, 0]
    let bad := tCmd (.cpy 1 63 .rlx .bay) 0 0 [0, 4096, 0, 0x1000000, 0, 0, 0, 0]
    let far := tCmd (.cpy 1 63 .rlx .bay) 0 0 [0xFFFFFFFFFFFFFFF8, 4096, 1, 7, 0, 0, 0, 0]
    let tiles := tCmd (.cpym 1 63 .rlx .bay) 0 0 [0, 4096, 0x100000020, 63, 0, 0, 0, 0]
    let at_ := fun (m : Cmd) => { tKnown with cport := { ents := [m], wq := [] } }
    let on := fun (a : CopyAct) => { tKnown with cacts := [a] }
    let act := fun (m : Cmd) => on (CopyAct.start m)
    let last := { CopyAct.start good with rpos := 4096, wpos := 3968, rbuf := [(3968, 7)] }
    let s := tS (tR 0 0 0) (at_ good)
    let t := tS (tR 0 0 0) (act good)
    (s.bctx 0 0 = some (tC (tR 0 0 0) (at_ good)) ∧ s.keyOf 0 1 = some 0 ∧ s.activeAt 0 0 = true ∧ hasAcq good.ord = false ∧
      good.badWord = none ∧ good.badBay s 1 = none ∧ good.extent s 0 1 = none) ∧
    (bad.badWord = some 0x18 ∧ (at_ bad).cring.entry bad.seq = some (tFEnt 1)) ∧
    (t.copyAct 0 0 1 = some (CopyAct.start good) ∧ (CopyAct.start good).wrote = false ∧ t.activeAt 0 0 = true ∧
      (CopyAct.start good).rpos < (CopyAct.start good).stop ∧ (CopyAct.start good).stop = 4096 ∧ good.multi = false ∧ good.n1 = 1 ∧ good.n2 = 1 ∧ good.n3 = 1 ∧
      good.n0 = 4096 ∧ tKnown.cists = [] ∧ t.poison = [] ∧ good.dk = 0 ∧ (good.d 1).toNat + good.n0 ≤ 2 ^ 21 ∧ good.sk = 0) ∧
    (∀ a ∈ [last, { last with wpos := 0 }], (tS (tR 0 0 0) (on a)).copyAct 0 0 1 = some a ∧ a.rpos = a.stop ∧ a.rout = 0 ∧
      a.wpos < a.stop ∧ a.wout = 0 ∧ a.wrote = false) ∧
    (last.wpos + 128 = last.stop ∧ 0 + 128 < last.stop ∧ last.stop = good.total ∧ tKnown.cring.entry good.seq = some (tFEnt 1)) ∧
    (far.sk = 1 ∧ globalForm (far.d 0) = false ∧ far.n0 = 8 ∧ far.dk = 0) ∧
    (hasRel good.ord = false ∧ tiles.multi = true ∧ tiles.n3 = 2 ∧ hasRel tiles.ord = false ∧
      (tS (tR 0 0 0) (act tiles)).copyAct 0 0 1 = some (CopyAct.start tiles) ∧
      (CopyAct.start tiles).tiles + 1 < tiles.n3 ∧ { CopyAct.start tiles with tiles := 1 }.tiles + 1 = tiles.n3 ∧
      { CopyAct.start tiles with rpos := 128 }.rpos = (CopyAct.start tiles).stop) ∧
    (let four := { CopyAct.start tiles with sout := [(0, 1), (1, 1), (2, 1), (3, 1)] }
     let out := { CopyAct.start good with wout := 1 }
     4 ≤ four.sout.length ∧ four.rpos = four.first ∧ (CopyAct.start tiles).sout.length < 4 ∧ { four with rpos := 1 }.rpos ≠ four.first ∧
       (tS (tR 0 0 0) (on four)).copyAct 0 0 1 = some four ∧ out.wout ≠ 0 ∧ (tS (tR 0 0 0) (on out)).copyAct 0 0 1 = some out) := by
  decide +kernel
/-- Data of CPYM that reaches bay 1. -/
theorem test_CopyEngine_member :
    let s := happens (.cpymWritten 0 0 1 1 0 3 [(64, [1, 2])]) (tS2 (tR 0 0 0) tCtx)
    s.ev = .cpymWritten 0 0 1 1 0 3 [(64, [1, 2])] ∧ s.keyOf 1 1 = some 0 ∧ 0 < 4 ∧ s.bctx 1 0 = some tCtx ∧ tCtx.cists = [] := by
  decide +kernel
theorem test_MatrixIssue :
    let busy := { tCtx with mport := { ents := List.replicate 16 (tCmd .nop 0 0 []), wq := [] } }
    let s := tS (tR 0 65504 0) tCtx
    let cmd := { s with mem := memPuts [] (spadKey 1 0 65504) (leBytes 4 ((encode (.mzero 3 0)).getD 0).toNat) }
    (∀ f c l, f.empty = 0 → f.frame = none → (tS f c).Issues l (tC f c) f) ∧
    (tCtx.quota.tiles ≤ (8#6).toNat ∧ (7#6).toNat < tCtx.quota.tiles ∧ (63#10).toNat < tCtx.quota.sems) ∧
    (matCheck tCtx.quota (.mpass 0 1 2 0 0) 0 0 = none ∧ matCheck tCtx.quota (.mpass 0 1 2 0 0) 1 0 = some (.align, 1) ∧
      matCheck tCtx.quota (.mpass 0 1 2 0 0) 0 0x1000 = some (.range, 0x1000) ∧
      matCheck tCtx.quota (.mpass 0 1 2 0 0) 65536 0 = some (.quota, 65536) ∧
      matCheck tCtx.quota (.mldw 0 1 2 0) 0 0 = none) ∧
    ((64448 : Word).toNat % 64 = 0 ∧ (64448 : Word).toNat + 1088 ≤ tCtx.quota.scratch ∧ tCtx.quota.scratch < (64512 : Word).toNat + 1088) ∧
    (tCtx.portFree 1 ∧ ¬busy.portFree 1 ∧ (tV 0 0 0).vctx = some 0 ∧ ((tQueue []).vctx 0).queue.length < 16 ∧ tCtx.mact = none ∧
      16 ≤ ((tQueue (List.replicate 16 (tEnt .ins .nop 0 0))).vctx 0).queue.length) ∧
    ((0xFFFFFFFF : Word).toNat < 2 ^ 32 ∧ 2 ^ 32 ≤ (0x100000000 : Word).toNat ∧ (1 : Word).toNat ≤ 1 ∧ 1 < (2 : Word).toNat) ∧
    (s.inPart 1 0 = true ∧ s.inPart 1 1536 = false ∧ (s.bay 0).fenced = false ∧ s.poison = [] ∧ (65504 : Word).toNat % 32 = 0 ∧
      (65504 : Word).toNat + 32 ≤ tCtx.quota.scratch ∧ tCtx.quota.scratch < (65536 : Word).toNat + 32 ∧
      (remoteOp (((s.readDs (spadKey 1 0 65504) 4).getD 0 0).setWidth 32)) = none ∧
      (remoteOp (((cmd.readDs (spadKey 1 0 65504) 4).getD 0 0).setWidth 32)) = some (.mzero 3 0) ∧
      (cmd.readDs (spadKey 1 0 65504) 4).getD 3 0 = 0 ∧ (tR 0 65504 0).mrUnack < 4 ∧ (tR 0 65504 0).mrHeld = none ∧ (tR 0 65504 0).wait ≠ .retry 0x19 ∧ cmd.mayRelease .rel .pkg (tR 0 65504 0)) :=
  ⟨fun _ _ _ h k => test_issues _ _ _ h k, by decide +kernel⟩
/-- MRCMD with four unacknowledged messages, and MRCMD that goes on with the message it holds. -/
theorem test_MatrixIssue_held (m : MrMsg) :
    let four : Fibre := { tR 0 65504 0 with mrUnack := 4 }
    let held : Fibre := { tR 0 65504 0 with mrHeld := some m, mrUnack := 3 }
    (tS four tCtx).Issues [1, 2] (tC four tCtx) four ∧ 4 ≤ four.mrUnack ∧ four.wait ≠ .retry 0x19 ∧ four.mrHeld = none ∧
    (tS held tCtx).Issues [1, 2] (tC held tCtx) held ∧ held.mrHeld = some m ∧ held.mrUnack < 4 ∧
    (tS held tCtx).mayRelease .rel .pkg held :=
  ⟨⟨rfl, rfl, (test_issues _ tCtx _ rfl rfl).full, rfl⟩, by decide, by decide, rfl,
    ⟨rfl, rfl, (test_issues _ tCtx _ rfl rfl).full, rfl⟩, rfl, show 3 < 4 by decide, rfl, fun _ => rfl⟩
/-- The issue checks of MRCMD hold in a state with more in memory. -/
theorem test_MatrixIssue_issues (m : List Host.Cell) :
    ({ tS (tR 0 65504 0) tCtx with mem := m } : State).Issues [1, 2] (tC (tR 0 65504 0) tCtx) (tR 0 65504 0) :=
  ⟨rfl, rfl, (test_issues _ tCtx _ rfl rfl).full, rfl⟩
theorem test_MatrixEngine :
    let begin_ := { tKnown with mport := { ents := [tCmd (.mzero 7 63) 0 0 []], wq := [] } }
    let s := tS (tR 0 0 0) begin_
    let runs := fun (m : Cmd) => { tKnown with mact := some m }
    let q : VEnt := tEnt (.rdv 1) (.vtld 7 5 3) 0 0
    let meets := { runs (tCmd (.vtld 7 5 3) 0 0 []) with vctxs := [(0, { VCtx.init with owner := some 1, queue := [q] })] }
    let panel : State := { tS (tR 0 0 0) (runs (tCmd (.mpass 7 1 2 0 63) 0 0 [])) with mem := [(wbufKey 1 0 2, 0x4D)] }
    (s.bctx 0 0 = some (tC (tR 0 0 0) begin_) ∧ s.keyOf 0 1 = some 0 ∧ s.poison = [] ∧ begin_.mact = none ∧
      s.mgmt.throttle = false ∧ s.activeAt 0 0 = true ∧ (tCmd (.mzero 7 63) 0 0 []).isRdv = false ∧
      (tCmd (.mzero 7 63) 0 0 []).remote = false ∧ s.settled (tCmd (.mzero 7 63) 0 0 []) = true) ∧
    (tKnown.mring.entry 1 = some (tFEnt 1) ∧ tKnown.badTiles = [] ∧ (2096000 : Word).toNat + 1088 ≤ 2 ^ 21 ∧ (2090000 : Word).toNat + 16 * (16 * 4 / 8 + 16 / 8) ≤ 2 ^ 21 ∧
      (runs (tCmd (.mwr 7 1 63) 64 0 [])).mact = some (tCmd (.mwr 7 1 63) 64 0 [])) ∧
    (let at_ := fun (l : List Nat) => { tC (tR 0 0 0) (runs (tCmd (.mpass 7 1 2 0 63) 0 0 [])) with fetched := l }
     let next := fun (l : List Nat) => match panel.fetchNext (at_ l) 0 (passFmt 0) 0 0 with
      | .ok (some _) => 1 | .ok none => 2 | .error _ => 0
     next [] = 1 ∧ next (List.replicate 16 0) = 1 ∧ next (List.replicate 32 0) = 1 ∧ next (List.replicate 35 0) = 2) ∧
    ((tS (tR 0 0 0) meets).activeAt 0 0 = true ∧ (meets.vctx 0).queue = [q] ∧ q.kind = .rdv 1 ∧ (meets.vctx 0).bad = [] ∧
      meets.vwaits = [] ∧ meets.mport.wq = []) := by decide +kernel
/-- A 2:4 panel of 128 two-byte elements in scratchpad, its metadata in order. -/
theorem test_MatrixEngine_panel :
    let m := tCmd (.mldw 1 1 2 63) 0 0 []
    let panel := (List.range 16).flatMap fun j => (List.range 16).map fun k => (spadKey 1 0 (144 * j + 128 + k), (0x44 : Byte))
    let s : State := { tS (tR 0 0 0) { tKnown with mact := some m } with mem := panel }
    m.x.toNat + 16 * (128 / 2 * 16 / 8 + 128 / 8) ≤ 2 ^ 21 ∧
    (∀ j < 16, ∀ v < 32, leNat (memBytes s.mem (spadKey 1 0 0 + 144 * j + 128) 16) / 16 ^ v % 4 <
      leNat (memBytes s.mem (spadKey 1 0 0 + 144 * j + 128) 16) / 16 ^ v / 4 % 4) := by decide +kernel
/-- Remote commands at their beginning: one that passes its checks, one with a tile beyond the quota, one with a misaligned
image address; from another bay and from the fibre in slot 0 of this one. -/
theorem test_RemoteMatrix_begin :
    ∀ o ∈ [0, 1], ∀ p ∈ [((.mzero 7 0 : Instr), (0 : Word), (none : Option (Cause × Word))), (.mzero 8 0, 0, some (.quota, 8)),
        (.mrd 7 0 0, 32, some (.align, 32))],
      let q : Cmd := { tCmd p.1 p.2.1 0 [] with remote := true, oBay := o }
      let c := { tKnown with mport := { ents := [q], wq := [] } }
      let s := happens (.matrixCommandBegin 0 0) (tS (tR 0 0 0) c)
      s.bctx 0 0 = some (tC (tR 0 0 0) c) ∧ s.keyOf 0 c.asid = some 0 ∧ c.mact = none ∧ q.isPass = false ∧ s.activeAt 0 0 = true ∧
        q.isRdv = false ∧ s.settled q = true ∧ c.mring.entry q.seq = some (tFEnt 1) ∧
        (match Instr.tile p.1 with
          | some n => if c.quota.tiles ≤ n then some (.quota, BitVec.ofNat 64 n) else matCheck c.quota p.1 q.x q.y
          | none => none) = p.2.2 ∧
        ((tC (tR 0 0 0) c).slot q.oSlot).gen = q.gen ∧ ((tC (tR 0 0 0) c).slot q.oSlot).fib = some (tR 0 0 0) ∧
        (tR 0 0 0).pend.length < 16 := by decide +kernel
/-- What a pass has fetched in full: FMT 0 and FMT 8, and FMT 11 with its scales. -/
theorem test_MatrixEngine_fetched :
    ∀ p ∈ [((0#4 : BitVec 4), 0x4D0000, 33), (8, 0x4D0004, 33), (11, 0x4D001C, 35)],
      let l := List.replicate 16 0 ++ [p.2.1] ++ List.replicate (p.2.2 - 17) 0
      let c := tC (tR 0 0 0) { tKnown with mact := some (tCmd (.mpass 7 1 2 p.1 63) 0 0 []), fetched := l }
      (match (tS (tR 0 0 0) c).fetchNext c 0 (passFmt p.1.toNat) 0 0 with
        | .ok none => true | .ok (some _) => false | .error _ => false) = true ∧ p.1.toNat < 12 := by decide +kernel
/-- A remote matrix command from bay 1 to bay 0. -/
def tMr (key : BitVec 32) (sem : Nat) : MrMsg :=
  { target := 0, asid := 1, key := key, word := (encode (.mzero 3 0)).getD 0, opA := 0, opB := 0, sem := sem, oBay := 1, oSlot := 0, oGen := 0, uid := 1 }
theorem test_RemoteMatrix :
    let grant := { tCtx with grantEn := true, grantKey := 5 }
    let jam := { grant with mport := { ents := List.replicate 16 (tCmd .nop 0 0 []), wq := [] } }
    let s := happens (.mrcmdArrival (tMr 5 0)) (tS (tR 0 0 0) grant)
    let fence := s.modBay 0 fun b => { b with fenced := true }
    let f := { tR 0 0 0 with mrUnack := 4 }
    let t := happens (.mrcmdAckArrival { tMr 5 0 with oBay := 0, target := 1 } 4) (tS f tCtx)
    ((fence.bay 0).fenced = true ∧ (s.bay 0).fenced = false ∧ (s.modBay 0 fun b => { b with active := none }).bay 0 ≠ s.bay 0 ∧
      (s.bay 0).active = some 0 ∧ s.bctx 0 0 = some (tC (tR 0 0 0) grant)) ∧
    (grant.asid = (tMr 5 0).asid ∧ tCtx.grantEn = false ∧ grant.grantKey ≠ (tMr 6 0).key ∧ grant.grantKey = (tMr 5 0).key ∧
      remoteOp (tMr 5 0).word = some (.mzero 3 0) ∧ grant.portFree 1 ∧ ¬jam.portFree 1) ∧
    (t.fib 0 0 0 = some f ∧ f.uid = (tMr 5 0).uid ∧ t.keyOf 0 1 = some 0 ∧ t.homeU (tMr 5 0).uid = some (0, 1) ∧ ((tC f tCtx).slot 0).gen = (tMr 5 0).oGen ∧
      f.pend.length < 16 ∧ f.wait = .ready ∧ (tMr 5 0).sem = 0) := by decide +kernel

theorem test_FabricInstructions :
    let e := { tFEnt 1 with failn := 2 ^ 22, okn := 3, rsn := 4095, grp := true }
    let c := { tCtx with fring := { FRing.init with seq := 1, ents := [(1, e)] } }
    let ring := { tR 0 0 0 with ring := [tAcc .store none] }
    let bad := { tR 0 0 0 with dfaults := [tDf] }
    let far := { Sender.init with unack := [(0, { pkt := ⟨0, []⟩, own := .acc 1 0 0 0, uid := 1, write := true, lines := [], first := 0, last := 0 })] }
    let s := tS (tR 0 0 0) tCtx
    let out := { s with dims := (2, 1, 1, 1), senders := [(8192, far)] }
    (∀ f c l, f.empty = 0 → f.frame = none → (tS f c).Issues l (tC f c) f) ∧ s.poison = [] ∧
    ((63#10).toNat < tCtx.quota.sems ∧ tCtx.quota.sems ≤ (64#10).toNat ∧ (7 : Word).toNat % 8 ≠ 0 ∧
      s.chipOk 1 = false ∧ s.chipOk 0 = true ∧ ((0x40000000008 : Word).extractLsb' 42 22).toNat = 1 ∧ (0x40000000008 : Word).toNat % 8 = 0) ∧
    ((0x2FF80000000 : Word).extractLsb' 0 21 = 0 ∧ ((0x2FF80000000 : Word).extractLsb' 31 11).toNat = 1535 ∧
      ((0x30000000000 : Word).extractLsb' 31 11).toNat = 1536 ∧ 2 ^ 24 ≤ (0x1000000 : Word).toNat ∧ (0xFFFFFF : Word).toNat < 2 ^ 24) ∧
    (c.fring.entry ((1 : Word).setWidth 32) = some e ∧ e.st < 4 ∧ c.fring.entry ((65 : Word).setWidth 32) = none) ∧
    (tCtx.fport.ents.length ≤ 16 ∧ (s.sender 0).unack.length ≤ 1024) ∧
    (ring.ring ≠ [] ∧ ring.wait = .ready ∧ bad.ring = [] ∧ bad.dfaults ≠ [] ∧ (tR 0 0 0).quiet ∧ out.remoteWrites 1 none = true ∧
      out.remoteWrites 1 (some 0) = false ∧ s.remoteWrites 1 none = false ∧ s.unsent 1 (s.tick + 1) = false) :=
  ⟨fun _ _ _ h k => test_issues _ _ _ h k, by decide +kernel⟩
/-- Chip 1 of the first dimension. -/
def tFar : State := { State.reset with chip := 8192 }
/-- A packet that chip 1 of the first dimension sends for context 1. -/
def tPkt (opc : Nat) (addr o0 o1 o2 : Word) (data : List Byte) : Packet :=
  (stampSeq (tFar.packet 0 opc { rqchip := 8192, job := 0, asid := 1 } 0 addr o0 o1 o2 data) 0 0).seal
/-- Two chips, both ends of their streams active, window 0 on a page of context 1, which has a launch. -/
def tNet (f : Fibre) (c : BayCtx) : State :=
  { launched (tCached 0x3F9 (tS f c)) with
    dims := (2, 1, 1, 1)
    windows := [(0, { Win.init with base := 0x10000, len := 65536, owner := 1, rights := 0x1F, kind := 1, spann := 1 })]
    receivers := [(8192, { Receiver.init with resident := true })]
    senders := [(8192, { Sender.init with resident := true })] }
/-- An access of the fibre to a page of chip 1, and the same where that chip is outside its domain. -/
theorem test_AccessAtMemory_remote :
    let s := fun (k : AKind) => { tNet (tWaits k none) tCtx with
      dims := (2, 1, 1, 1)
      tlb := [(homeStation 0, [{ asid := 1, va := 1, bits := 16, leaf := 0x8000000000005F }])] }
    let far := fun (k : AKind) (n : Nat) => { s k with ctxs := [(1, { bareCtx with domain := { bareCtx.domain with a := (0, n) } })] }
    (∀ k ∈ [AKind.store, .load true, .atomic .add true],
      (far k 2).access 1 7 = some (tAcc k none) ∧
      ((far k 2).translateAt (homeStation 0) 1 0x10000 (tAcc k none).need).1 = .ok (.remote 8192 0) ∧
      ((far k 2).ctx 1).map (fun x => (far k 2).inBox x.domain 8192) = some true ∧
      ((far k 1).ctx 1).map (fun x => (far k 1).inBox x.domain 8192) = some false ∧
      (far k 2).fibres.find? (fun g => g.uid == 1) = some (tWaits k none)) ∧
    (((far .store 2).sender 8192).resident = true ∧ ((far .store 2).sender 8192).torn = false ∧
      ((far .store 2).sender 8192).waiting = [] ∧ ((far .store 2).sender 8192).unack.length < 1024) := by decide +kernel
/-- The same with data, and its check as a number. -/
def tData (opc : Nat) (addr o0 o1 o2 : Word) (data : List Byte) (e2e : Nat) : Packet :=
  let p := stampSeq (tFar.packet 0 opc { rqchip := 8192, job := 0, asid := 1 } 0 addr o0 o1 o2 data) 0 0
  { p with hdr := BitVec.ofNat 512 (p.hdr.toNat + e2e * 2 ^ 448) }
/-- The check of a packet, half by half. -/
theorem test_intact (p : Packet) (x y : BitVec 32)
    (h : (leBytes 64 p.bare).foldl crcByte (BitVec.allOnes 32) = x ∧ p.payload.foldl crcByte x = y ∧
      p.hdr.extractLsb' 448 32 = ~~~y ∧ p.payload.length = 64 * p.len) : p.intact = true := by
  unfold Packet.intact Packet.check crc32c
  rw [List.foldl_append, h.1, h.2.1, h.2.2.1, h.2.2.2]
  simp only [beq_self_eq_true, Bool.and_self]
/-- `Arrived` and `Fresh`, but for the check of the packet, as a test. -/
def tFresh (s : State) (p : Packet) : Bool :=
  decide (p.dst = s.chip.toNat) && p.wellFormed && (s.receiver p.src).resident
    && decide ((s.receiver p.src).fate p.seq = .fresh) && (s.receiver p.src).allows p && !s.unanswered p
theorem test_fresh (s : State) (p : Packet) (i : p.intact = true) (h : tFresh s p = true) : s.Fresh p := by
  simp only [tFresh, Bool.and_eq_true, decide_eq_true_eq, Bool.not_eq_true'] at h
  exact ⟨⟨i, h.1.1.1.1.1, h.1.1.1.1.2⟩, h.1.1.1.2, h.1.1.2, h.1.2, h.2⟩
/-- The packet passes R359 with n bytes in one run. -/
def tPasses (s : State) (p : Packet) (r : Right) (n : Nat) : Bool :=
  match (s.holding p).winAdmission (requester p) r p.addr n with
  | (.ok [x], h) => decide (x.n = n) && decide (x.bay = none) && decide (h = s.holding p)
  | _ => false
/-- Packets that carry data: PUT, CRQ and CDATA. -/
def tPut : Packet := tData 1 0 0x700000000 0 0 [1, 2, 3, 4, 5, 6, 7, 8] 0x82665ea5
def tCrq : Packet := tData 16 0 0x80000000000000 7 0 [0] 0x496ae3da
def tCdata : Packet := tData 17 0 0x700000000 1 0x3F000000 [1, 2, 3, 4, 5, 6, 7, 8] 0x671ab883
def tShut : Packet := tData 1 0x140000000 0x700000000 0 0 [1, 2, 3, 4, 5, 6, 7, 8] 0x38793cf7
theorem test_intact_data : tPut.intact = true ∧ tCrq.intact = true ∧ tCdata.intact = true ∧ tShut.intact = true :=
  ⟨test_intact _ 0xf4decf19 0x7d99a15a (by decide +kernel), test_intact _ 0xd7ecf32e 0xb6951c25 (by decide +kernel),
    test_intact _ 0xef9ee844 0x98e5477c (by decide +kernel), test_intact _ 0xcbe15a4a 0xc786c308 (by decide +kernel)⟩
theorem test_RequestsArrive :
    let s := tNet (tR 0 0 0) tCtx
    (∀ p ∈ [(tPkt 2 0xFFF8 0 5 0 [], Right.write, 8),
        (tPkt 10 0xFFFC 0x200000000 5 0 [], .write, 4), (tPkt 3 0 0x1FF00000000 9 0 [], .read, 512),
        (tPkt 9 0 0 9 0 [], .read, 1), (tPkt 6 0 0x2000000000 1 0 [], .atomic, 8), (tPkt 11 4 0x1000000000 1 0 [], .atomic, 4)],
      p.1.intact = true ∧ tFresh s p.1 = true ∧ tPasses s p.1 p.2.1 p.2.2 = true) ∧
    (∀ p ∈ [(tPut, Right.write, 8), (tCrq, .read, 8), (tCdata, .consign, 8)], tFresh s p.1 = true ∧ tPasses s p.1 p.2.1 p.2.2 = true) ∧
    (s.dcists = [] ∧ s.poison = [] ∧ (s.sender 8192).resident = true ∧ (s.sender 8192).torn = false ∧
      (s.sender 8192).waiting = [] ∧ (s.sender 8192).unack.length < 1024) ∧
    (tCrq.o1.getLsbD 24 = false ∧ chipOfPtr tCrq.o0 = 8192 ∧ bits tCrq.o1 23 0 + 1 ≤ 512 - tCrq.o0.toNat % 512 ∧
      (s.consOf tCdata).failed = 0 ∧ (s.consOf tCdata).placed + tCdata.count < bits tCdata.o2 47 24 + 1 ∧
      (s.consOf tCdata).seen + tCdata.count < bits tCdata.o2 47 24 + 1) := by decide +kernel
theorem test_RequestsArrive_others :
    let s := tNet (tR 0 0 0) tCtx
    let sig := tPkt 5 0x7E00000 0xFFFFFF 0 0 []
    let new := tPkt 8 0 0x1000 5 6 []
    let shut := tShut
    let got := fun (r : Receiver) => { s with receivers := [(8192, { r with resident := true })] }
    (sig.intact = true ∧ tFresh s sig = true ∧ (s.holding sig).admitBay (requester sig) 0 (some 63) = none) ∧
    (new.intact = true ∧ tFresh s new = true ∧ (s.holding new).admitBay (requester new) 0 none = none ∧ s.keyOf 0 1 = some 0 ∧
      s.bctx 0 0 = some (tC (tR 0 0 0) tCtx) ∧ tCtx.cellar.ring = [] ∧ s.launched 1 = true ∧ s.freeSlot 0 0 = some 1 ∧
      bits new.o2 2 0 = 6) ∧
    (tFresh s shut = true ∧ (s.window (shut.addr.toNat % 2 ^ 42 / 2 ^ 30)).kind = 0) ∧
    (((got { Receiver.init with low := 1 }).receiver 8192).fate 0 = .again .acked ∧
      ((got { Receiver.init with win := [(0, .held sig)] }).receiver 8192).fate 0 = .drop ∧
      ((got { Receiver.init with low := 0xFFFFFC00 }).receiver 8192).fate 0 = .stale ∧
      ((got { Receiver.init with low := 0xFFFFFC01 }).receiver 8192).fate 0 = .fresh) ∧
    ({ sig with hdr := sig.hdr + 1 }).intact = false ∧
    (let t := got { Receiver.init with win := [(0, .held sig)] }
     tfind (t.receiver sig.src).win sig.seq.toNat = some (.held sig) ∧ (t.receiver sig.src).allows sig = true ∧ t.unanswered sig = false ∧
       (sig.seq - (t.receiver sig.src).low).toNat < 1024 ∧ t.admitBay (requester sig) 0 (some 63) = none ∧
       Receiver.init.allows { sig with hdr := sig.hdr ||| BitVec.ofNat 512 (2 ^ 127 + 2 ^ 96) } = false) := by
  decide +kernel

/-- A fabric command that has begun, with a semaphore. -/
def tAct (i : Instr) (d : List Word) (left unacked : Nat) : FabAct := ⟨tCmd i 0 0 d, 0, unacked, left, none, [], false, 0, [], []⟩
/-- A response with data. -/
def tGetr : Packet := tData 4 0 0x700000000 1 0 [1, 2, 3, 4, 5, 6, 7, 8] 0xee875de8
theorem test_intact_getr : tGetr.intact = true :=
  test_intact _ 0x50c9471e 0x1178a217 (by decide +kernel)
/-- A context whose ring knows the command, which has begun. -/
def tBegun (a : FabAct) : BayCtx := { tKnown with facts := [a] }
theorem test_AnswersArrive_fresh :
    let get := tAct (.rget 1 63 .rlx .sys) [0, 4096, 7, 0, 0, 0, 0, 0] 8 0
    let amo := tAct (.ramo 1 63 .rlx .sys) [0, 4096, 0, 0, 0, 0, 0, 0] 0 0
    let crd := tAct (.crd 1 63 .rlx .sys) [0, 0, 0, 0, 0, 0, 0, 0] 0 0
    let s := { tNet (tR 0 0 0) (tBegun get) with toks := [(1, Asked.init (.piece 0 1 1 0 8))] }
    let t := { tNet (tR 0 0 0) (tBegun amo) with toks := [(1, Asked.init (.ramo 0 1 1))] }
    let u := tNet (tR 0 0 0) (tBegun crd)
    let amor := tPkt 7 0 0 1 0xFFFFFFFF []
    let good := tPkt 0x12 0 7 1 0 []
    let bad := tPkt 0x12 0 0x800000000000 1 0 []
    (tFresh s tGetr = true ∧ s.fabAct 0 1 1 = some get ∧ get.unacked = 0 ∧ (tfind s.toks tGetr.o1.toNat).map Asked.tok = some (.piece 0 1 1 0 8) ∧
      8 = tGetr.count ∧ get.past = false ∧ s.keyOf 0 1 = some 0 ∧ get.cmd.lk = false ∧ (get.cmd.d 1).toNat + 0 + 8 ≤ 2 ^ 21 ∧ get.left ≤ 8) ∧
    (amor.intact = true ∧ tFresh t amor = true ∧ t.fabAct 0 1 1 = some amo ∧ (tfind t.toks amor.o1.toNat).map Asked.tok = some (.ramo 0 1 1)) ∧
    (good.intact = true ∧ bad.intact = true ∧ tFresh u good = true ∧ tFresh u bad = true ∧ u.fabAct 0 1 1 = some crd ∧
      u.consCmd 1 good.o1 = some crd ∧ bits good.o1 41 31 = 0 ∧ u.keyOf 0 1 = some 0 ∧ u.ringAt 0 0 3 1 = some (tFEnt 1) ∧
      bits good.o0 50 47 = 0 ∧ bits good.o0 46 25 = 0 ∧ bits bad.o0 50 47 = 1 ∧ (u.ctx 1).isSome = true) := by decide +kernel
theorem test_AnswersArrive_single (a : FabAct) (y : BayCtx) (j : Nat) (q : BitVec 32) (h : (tNet (tR 0 0 0) (tBegun a)).bctx 0 j = some y) :
    (y.facts.filter fun z => z.cmd.seq == q).length ≤ 1 := by
  have e : y = tC (tR 0 0 0) (tBegun a) := test_only (tR 0 0 0) (tBegun a) j y h
  subst e
  exact List.length_filter_le _ [a]
/-- A packet that chip 0 has sent, with its owner. -/
def tSent (o : Own) : Sent :=
  { pkt := (stampSeq (State.reset.packet 8192 1 { rqchip := 0, job := 0, asid := 1 } 0 0 0 0 0 []) 7 0).seal, own := o, uid := 1,
    write := true, lines := [], first := 0, last := 0 }
/-- The sender's end toward chip 1 has one packet out. -/
def tOut (o : Own) (s : State) : State := { s with senders := [(8192, { Sender.init with resident := true, nseq := 8, unack := [(7, tSent o)] })] }
theorem test_AnswersArrive :
    let go := { tAct (.rspawn 1 63 .ar .sys) [] 0 1 with next := 1 }
    let s := tNet (tR 0 0 0) (tBegun go)
    let ack := tPkt 0x20 0 7 8 0 []
    let no := tPkt 0x21 0 1 7 0 []
    let stop := tPkt 0x13 0 1 5 0 []
    let sync := tPkt 0x20 0 0 0x500000000 0x700000002 []
    let echo := tPkt 0x20 0 0 0 0x800000003 []
    let up := tPkt 0x30 5 1 1 0 []
    let down := tPkt 0x31 5 1 1 0 []
    let gack := tPkt 0x32 5 1 9 0 []
    let here := fun (p : Packet) => p.intact = true ∧ p.dst = s.chip.toNat ∧ p.wellFormed = true ∧ p.src = 8192
    (here ack ∧ here no ∧ here stop ∧ here sync ∧ here echo ∧ here up ∧ here down ∧ here gack) ∧
    ((tOut (.cmd 0 1 1) s).sender 8192).unack = [(7, tSent (.cmd 0 1 1))] ∧
    (((tOut .none s).sender 8192).waiting = [] ∧ ∀ y ∈ ((tOut .none s).sender 8192).unack, y.2.own = .none) ∧
    (ack.o0.setWidth 32 = (7 : BitVec 32) ∧ (tOut (.cmd 0 1 1) s).fabAct 0 1 1 = some go ∧ go.unacked = 1 ∧ go.unsent = 0 ∧ go.more = false ∧
      go.past = false ∧ go.cmd.onAck = true) ∧
    (no.o1.setWidth 32 = (7 : BitVec 32) ∧ bits no.o0 3 0 ≠ 9 ∧ s.ctx (tSent (.acc 1 7 0 0)).pkt.asid ≠ none) ∧
    ((s.receiver 8192).resident = true ∧ (8 : Nat) = bits echo.o2 63 32 ∧ { (tOut .none s).sender 8192 with torn := true }.torn = true) ∧
    (let at_ := fun (n : Nat) => { tOut .none s with time := { TimeSt.init with count := toW n } }
     (at_ 19999).now < (tSent .none).last + s.mgmt.retxAfter ∧ (tSent .none).last + s.mgmt.retxAfter ≤ (at_ 20000).now ∧
       (at_ 49999999).now < (tSent .none).first + s.mgmt.streamAfter ∧ (tSent .none).first + s.mgmt.streamAfter ≤ (at_ 50000000).now) := by
  decide +kernel
/-- A group whose entry has a parent and two children. -/
theorem test_AnswersArrive_groups :
    let s := { tNet (tR 0 0 0) tCtx with dims := (3, 1, 1, 1) }
    let g : Group := { Group.init with expect := 2, parent := some 8192, children := [8192, 16384] }
    let up := tPkt 0x30 5 1 1 0 []
    let gack := tPkt 0x32 5 1 9 0 []
    (tfind [(State.groupKey 1 5, g)] (State.groupKey up.asid up.addr.toNat) = some g ∧ up.src ≠ s.chip.toNat ∧ up.o1.setWidth 16 = (1 : BitVec 16) ∧
      g.again 8192 1 = false ∧ g.came = [] ∧ g.sent = some (1 - 1) ∧ (g.came.filter fun y => y.serial == 1).length + 1 < g.expect ∧
      s.lostMember g = none ∧ (∃ y ∈ g.children, y ≠ gack.src) ∧ g.acks = []) ∧
    (s.lostMember { g with box := { bareCtx.domain with a := (0, 2) }, lost := [8192] } = some 8192 ∧
      (s.ctx up.asid).isSome = true) := by
  decide +kernel
/-- The same group with an arrival in the open count, with one that is counted, and with one that waits for its completion. -/
theorem test_AnswersArrive_counts :
    let s := { tNet (tR 0 0 0) tCtx with dims := (3, 1, 1, 1) }
    let g : Group := { Group.init with expect := 2, parent := some 8192, children := [8192, 16384] }
    let up := tPkt 0x30 5 1 1 0 []
    let down := tPkt 0x31 5 1 1 0 []
    (let one := { g with came := [⟨16384, 1, 1⟩] }
     one.again 8192 1 = false ∧ (∀ y ∈ one.came, y.phase = up.o0.setWidth 16 ∧ y.serial = 1) ∧
      one.expect = (one.came.filter fun y => y.serial == 1).length + 1 ∧ g.parent = some 8192) ∧
    ({ g with came := [⟨8192, 1, 1⟩] }.again 8192 1 = true ∧ { g with sent := some 1 }.again 8192 1 = true ∧
      (⟨16384, 1, 7⟩ : Arrival).phase ≠ up.o0.setWidth 16) ∧
    (let wait := { g with gone := [(1, 1)] }
     wait.gone.map Prod.fst = [down.o1.setWidth 16] ∧ wait.up = [] ∧ g.gone = [] ∧ s.rectReady down.asid down.addr.toNat ⟨3, 0, down.o0.setWidth 16, false⟩ = none) := by
  decide +kernel
/-- A group packet of this package on its tree edge. -/
theorem test_FabricLinks_edge :
    let s := { tNet (tR 0 0 0) tCtx with dims := (3, 1, 1, 1) }
    let g : Group := { Group.init with children := [8192] }
    (let t := { s with groups := [(State.groupKey 0 5, { g with edges := [(8192, 0)] })], ports := [(0, { FPort.init with st := .active })] }
     let out := { tPkt 0x30 5 1 1 0 [] with hdr := BitVec.ofNat 512 (8192 + 0x30 * 2 ^ 44 + 2 * 2 ^ 56 + 5 * 2 ^ 192) }
     out.src = t.chip.toNat ∧ out.dst ≠ t.chip.toNat ∧ t.chipOk out.dst = true ∧ out.opc = 0x30 ∧
      (tfind t.groups (State.groupKey out.asid out.addr.toNat)).bind (fun z => tfind z.edges out.dst) = some 0 ∧
      t.usablePort 0 = true ∧ s.usablePort 0 = false ∧ t.neighbour 0 = some out.dst ∧ switchOfPort 0 = 0 ∧
      out.len + 1 ≤ (t.port 0).credit (3 * out.cls)) := by
  decide +kernel
/-- The ends of the streams. -/
theorem test_AnswersArrive_ends :
    let s := tOut .none (tNet (tR 0 0 0) tCtx)
    s.activeEnds < 4096 ∧ (s.sender 8192).torn = false := by decide +kernel
theorem test_FabricLinks :
    let m := { tCmd (.rputi 1 2 63 .rlx .sys) 0x80000000000000 5 [] with seq := 1 }
    let bad := tCmd (.rput 1 63 .rlx .sys) 0 0 [0, 0, 0x2000007, 0, 0, 0, 0, 0]
    let wait := fun (x : Cmd) => { tKnown with fport := { ents := [x], wq := [] } }
    let s := fun (x : Cmd) => tNet (tR 0 0 0) (wait x)
    (∀ x ∈ [m, bad], (s x).bctx 0 0 = some (tC (tR 0 0 0) (wait x)) ∧ (s x).keyOf 0 1 = some 0 ∧ (s x).activeAt 0 0 = true ∧
      (s x).fabMay 0 x = true ∧
      (wait x).fport = { ents := [x], wq := [] }) ∧
    (m.chip = 8192 ∧ lowest (m.fabBad (s m) 0) = none ∧ m.localOver tKnown.quota.scratch = none ∧
      lowest (bad.fabBad (s bad) 0) = some 16 ∧ tKnown.fring.entry bad.seq = some (tFEnt 1) ∧ (s bad).ctx 1 ≠ none) ∧
    (let three := { tNet (tR 0 0 0) tCtx with dims := (3, 1, 1, 1) }
     let on := { three with ports := [(1, { FPort.init with st := .active })] }
     let det := tPkt 5 0 0 0 0 []
     let p := fun (n : Nat) => { det with hdr := det.hdr + BitVec.ofNat 512 n }
     let esc : Hop := ⟨0, some (0, 1), 0⟩
     let wide := { three with dims := (3, 1, 2, 1), ports := [(2, { FPort.init with st := .active })] }
     (p 0).src ≠ three.chip.toNat ∧ (p 0).dst = 0 ∧ arrivalEv (p 0) = some (.sig (p 0)) ∧
       (p 1).dst = 1 ∧ three.chipOk 1 = false ∧ (p 16384).dst = 16384 ∧ three.chipOk 16384 = true ∧
       (three.allowedPorts (p 16384) ⟨0, none, 0⟩).filter three.usablePort = [] ∧ (p (16384 + 2 ^ 58)).det = true ∧
       (on.allowedPorts (p 16384) ⟨0, none, 0⟩).filter on.usablePort = [1] ∧
       (p 16384).len + 1 ≤ (on.port 1).credit (3 * (p 16384).cls) ∧ switchOfPort 1 = 0 ∧ (1 : Nat) ≠ 0 ∧
       chanOf ⟨0, none, 0⟩ = none ∧ (p 16384).det = false ∧
       (wide.allowedPorts (p 16384) ⟨0, none, 0⟩).filter wide.usablePort = [] ∧ wide.detourPort = some 2 ∧
       (p 16384).len + 1 ≤ (wide.port 2).credit (3 * (p 16384).cls) ∧
       chanOf esc = some 1 ∧ on.escapePort 16384 = some (1, true) ∧ on.usablePort 1 = true ∧
       (p 16384).len + 1 ≤ (on.port 1).credit (3 * (p 16384).cls + 2)) := by decide +kernel
/-- A begun command of the endpoint, and its packet in the staging buffer. -/
theorem test_FabricLinks_stage :
    let put := tCmd (.rputi 1 2 63 .rlx .sys) 0x80000000000000 5 []
    let sig := tCmd (.rsig 1 2 63 .rlx .sys) 0x80000000000000 5 []
    let c := fun (m : Cmd) (g : Option Staged) => { tKnown with facts := [FabAct.start m []], stage := g }
    let s := fun (m : Cmd) (g : Option Staged) => happens (.fabricPiece 0 0 1) (tNet (tR 0 0 0) (c m g))
    let g : Staged := ⟨1, 8192, [], tPkt 5 0 0 0 0 [], 0⟩
    (∀ m ∈ [put, sig], ((c m none).facts.find? fun x => x.cmd.seq.toNat == 1) = some (FabAct.start m []) ∧ (c m none).stage = none ∧
      (FabAct.start m []).past = false ∧ (FabAct.start m []).next = 0 ∧ (s m none).activeAt 0 0 = true ∧
      (s m none).bctx 0 0 = some (tC (tR 0 0 0) (c m none)) ∧ (s m none).keyOf 0 1 = some 0) ∧
    (((s put none).modBay 0 fun b => { b with active := none }).activeAt 0 0 = false) ∧
    ((c put (some g)).stage = some g ∧ g.seq = put.seq ∧ g.flits < g.pkt.len + 1 ∧ g.pkt.len + 1 ≤ { g with flits := 1 }.flits ∧
      ((s put (some g)).sender g.chip).resident = true ∧ ((s put (some g)).sender g.chip).torn = false ∧
      ((s put (some g)).sender g.chip).waiting = [] ∧ ((s put (some g)).sender g.chip).unack.length < 1024) := by
  decide +kernel
theorem test_FabricLinks_events :
    let port := fun (x : PortSt) (l : List Nat) => { tNet (tR 0 0 0) tCtx with ports := [(7, { FPort.init with st := x, replays := l })] }
    let up := tPkt 0x30 5 1 0 0 []
    let tree := { tNet (tR 0 0 0) tCtx with groups := [(State.groupKey 1 5, Group.init)], held := [(up, ⟨0, none, 0⟩)] }
    let ask := tPkt 0x38 0 0 5 0 []
    let got := tPkt 0x38 0 1 5 9 []
    let clock := fun (n : Nat) (l : Bool) => { tNet (tR 0 0 0) tCtx with
      time := { TimeSt.init with count := toW n, isRoot := false, parent := 8192, locked := l, lastValid := 999999999, nextSync := 10000, heard := true } }
    (((port .active (List.replicate 64 0)).port 7).st = .active ∧ ((port .active (List.replicate 64 0)).port 7).replays.length = 64 ∧
      ((port .retrain []).port 7).st = .retrain ∧
      (port .retrain []).now < ((port .retrain []).port 7).since + 10000000 ∧
      (let late := { port .retrain [] with time := { TimeSt.init with count := 10000000 } }
       (late.port 7).since + 10000000 ≤ late.now) ∧ ((port .down []).port 7).st = .down ∧ (port .down []).neighbour 7 = none ∧
      (port .down []).neighbour 0 = some 8192 ∧ ((port .down []).port 0).st = .down) ∧
    (tfind tree.groups (State.groupKey 1 5) = some Group.init ∧ up.opc = 0x30 ∧ up.asid = 1 ∧ up.addr.toNat = 5 ∧
      ({ tree with ports := [(2, { FPort.init with st := .active }), (3, { FPort.init with st := .active })], dims := (2, 1, 2, 1) } : State).detourPort ≠ none ∧
      tfind (tree.edgePorts (some 8192) []) 8192 = some 1 ∧
      tfind (({ tree with dims := (2, 1, 1, 1) } : State).edgePorts none [8192]) 8192 = some 0 ∧
      tfind (({ tree with dims := (2, 1, 1, 1), chip := 8192 } : State).edgePorts (some 0) []) 0 = some 1 ∧
      (let t := { tree with groups := [(State.groupKey 1 5, { Group.init with box := { bareCtx.domain with a := (0, 2) } })] }
       (t.entryOf 1 5).map (fun e => t.inBox e.box 8192) = some true) ∧ (tree.ctx 1).isSome = true) ∧
    (ask.intact = true ∧ ask.dst = 0 ∧ ask.wellFormed = true ∧ ask.o0.getLsbD 0 = false ∧ got.intact = true ∧ got.dst = 0 ∧
      got.wellFormed = true ∧ got.o0.getLsbD 0 = true ∧ (clock 0 false).time.isRoot = false ∧ got.src = (clock 0 false).time.parent) ∧
    ((clock 9999 false).now < 10000 ∧ 10000 ≤ (clock 10000 false).now) ∧
    ((clock 1000000000 false).now < 999999999 + 1000000 ∧ 0 + 1000000000 ≤ (clock 1000000000 false).now ∧
      (clock 999999999 false).now < 0 + 1000000000 ∧
      (clock 1000999998 true).now < 999999999 + 1000000 ∧ 999999999 + 1000000 ≤ (clock 1000999999 true).now) := by decide +kernel

/-- A context on bay 0 with the cistern entry 7 of the bay as given, 7 the last of its quota. -/
def tCist (e : Cist) : BayCtx := { tCtx with cists := [(7, e)] }
/-- A signal cistern of mark 3 that posts semaphore 63 of bay 0. -/
def tMark (rearm : Bool) : List Word := [0x1000000000000000 + (if rearm then 0x2000000000000000 else 0), 0x3F000000000002, 0, 0]
/-- A message of the fibre to entry n of bay 0. -/
def tMsg (n count : Nat) (d : List Word) : CistMsg :=
  { asid := 1, handle := BitVec.ofNat 64 (n * 2 ^ 18), count := count, desc := d, sem := 63, oBay := 0, oSlot := 0, oGen := 0, uid := 1, id := 9 }
theorem test_CisternResults :
    let s := tS (tR 0x1C0000 65504 0) tCtx
    let full := { s with mem := memPuts [] (spadKey 1 0 65504) ((tMark false).flatMap fun (v : Word) => leBytes 8 v.toNat) }
    let armed : Cist := { Cist.init with st := .armed, desc := tMark false, count := 2 }
    let t := fun (m : CistMsg) => happens (.caddAtUnit m) (tS (tR 0 0 0) (tCist armed))
    let f := { tR 0 0 0 with wait := .queued 0x50 }
    (∀ f c l, f.empty = 0 → f.frame = none → (tS f c).Issues l (tC f c) f) ∧ s.poison = [] ∧
    ((63#10).toNat < tCtx.quota.sems ∧ tCtx.quota.sems ≤ (64#10).toNat ∧ handleOk s tCtx 0x1C0000 = true ∧ handleOk s tCtx 1 = false ∧
      handleOk s tCtx 0x1000000 = false ∧ (65504 : Word).toNat % 32 = 0 ∧ (65504 : Word).toNat + 32 ≤ tCtx.quota.scratch ∧
      tCtx.quota.scratch < (65536 : Word).toNat + 32) ∧
    (descOk 0 { Cist.init with desc := s.readDs (spadKey 1 0 65504) 4 } = false ∧
      descOk 0 { Cist.init with desc := full.readDs (spadKey 1 0 65504) 4 } = true ∧ full.poison = []) ∧
    (2 ^ 48 ≤ (0x1000000000000 : Word).toNat ∧ (0xFFFFFFFFFFFF : Word).toNat < 2 ^ 48 ∧ s.mayRelease .ar .sys (tR 0x1C0000 65504 0)) ∧
    ((tS (tR 0 0 0) (tCist .init)).armReason 1 0 7 { Cist.init with desc := tMark false } = 0 ∧
      (tS (tR 0 0 0) (tCist .init)).armReason 1 0 8 { Cist.init with desc := tMark false } = 3 ∧
      (t (tMsg 7 0 [])).armReason 1 0 7 { Cist.init with desc := tMark false } = 2) ∧
    (handleUnit (tMsg 7 0 []).handle = 0 ∧ handleIndex (tMsg 7 0 []).handle = 7 ∧ 7 < (t (tMsg 7 0 [])).cistShare 1 0 ∧
      (t (tMsg 7 0 [])).cist 1 0 7 = armed ∧ armed.sig = true ∧ armed.rearm = false ∧ armed.act = 0 ∧ armed.markM = 3 ∧
      armed.count + 0 < armed.markM ∧ armed.count + 1 = armed.markM ∧ armed.actx = 63 ∧ armed.tbay = 0 ∧
      ((t (tMsg 7 1 [])).bay armed.tbay).fenced = false ∧ ((t (tMsg 7 1 [])).keyOf armed.tbay 1).isSome = true) ∧
    ((t (tMsg 7 1 [])).cistEarlier (tMsg 7 1 []) = false ∧
      ({ t (tMsg 7 1 []) with agenda := [⟨0, .carmAtUnit { tMsg 7 0 [] with id := 8 }⟩] } : State).cistEarlier (tMsg 7 1 []) = true ∧
      (t (tMsg 7 1 [])).keyOf 0 1 = some 0 ∧ 0 < 4 ∧ armed.queued = [] ∧ armed.st ≠ .idle ∧ armed.count + 1 < 2 ^ 49) ∧
    ((tS f tCtx).findU 1 = some (⟨0, 0, 0⟩, f) ∧ (tS f tCtx).fib 0 0 0 = some f ∧ f.uid = 1) :=
  ⟨fun _ _ _ h k => test_issues _ _ _ h k, by decide +kernel⟩
/-- The only key of the context on its bay is resident. -/
theorem test_CisternResults_clean (e : Cist) (j : Nat) (h : (tS (tR 0 0 0) (tCist e)).keyOf 0 1 = some j) : j < 4 := by
  cases h
  exact Nat.zero_lt_succ 3
theorem test_HandlerEntry :
    let f := tR 0 0 0
    let q : PFault := { hcause := 0x2018, hval := 0, hseq := 0, gen := 0, eng := none }
    let g := { f with pend := [q] }
    let s := happens (.pendingFaultTaken 0 0 0) (tS g tCtx)
    ((tS f tCtx).curC = some (tC f tCtx) ∧ (tS f tCtx).curF = some f ∧ (tS f tCtx).ctx (tC f tCtx).asid = some bareCtx ∧ f.hm = false ∧
      f.quiet ∧ { f with ring := [tAcc .store none] }.ring ≠ [] ∧ { f with hm := true }.hm = true) ∧
    (s.bctx 0 0 = some (tC g tCtx) ∧ s.ctx 1 = some bareCtx ∧ s.fib 0 0 0 = some g ∧ g.pend = [q] ∧ g.hm = false ∧ g.frame = none ∧
      g.wait = .ready ∧ g.quiet ∧ g.isFault = false) := by decide +kernel
theorem test_OtherEvents :
    let f := { tR 0 0 0 with empty := 4, locals := 1 }
    let s := happens (.divideComplete 0 1 2 5) (tS f tCtx)
    let t := tCached 0x3F9 (tS (tR 0 0 0) tCtx)
    let run := launched (tS (tR 0 0 0) tCtx)
    let idle := { run with ctxs := [(1, { bareCtx with launch := some tLaunch, live := 0 })] }
    (s.fib 0 0 0 = some f ∧ f.uid = 1 ∧ s.findU 1 = some (⟨0, 0, 0⟩, f) ∧ f.wait = .ready) ∧
    (let busy := s.modBay 0 fun b => { b with divEnd := 20, cycle := 19 }
     (busy.bay 0).active.isSome = true ∧ (busy.bay 0).cycle < (busy.bay 0).divEnd ∧ (s.bay 0).divEnd ≤ (s.bay 0).cycle) ∧
    (t.keyOf 0 1 = some 0 ∧ t.activeAt 0 0 = true ∧ t.bctx 0 0 = some (tC (tR 0 0 0) tCtx) ∧
      t.translateAt (homeStation 0) 1 0x1FFC0 .fetch = (.ok (.phys 0xFFC0), t) ∧ (physKey 0xFFC0).isSome = true ∧
      t.bad ((physKey 0xFFC0).getD 0) 64 = none) ∧
    ((run.ctx 1).map (fun x => (x.ended, x.launch.isSome, x.closed)) = some (none, true, false) ∧ run.front.copies = [] ∧
      (run.ctx 1).map Ctx.live ≠ some 0 ∧ (idle.ctx 1).map Ctx.live = some 0 ∧ (idle.bayCtxs 1).any BayCtx.engaged = false ∧
      idle.sending 1 = false ∧ run.sending 1 = false ∧ (1 : Nat) < 65536) := by
  decide +kernel
theorem test_OtherEvents_place (q : Cur) (g f : Fibre) (s : State) (h : s.findU 1 = some (⟨0, 0, 0⟩, f)) (k : s.findU 1 = some (q, g)) :
    q = ⟨0, 0, 0⟩ := by
  rw [h] at k
  exact (congrArg Prod.fst (Option.some.inj k)).symm
/-- A packet whose command block stands at 0x1000 of companion memory. -/
def tPktAt : HostPkt := { queue := 3, tag := 0xFFFF, blk := 0x1000, num := 0xF }
/-- Companion memory with doublewords at these addresses. -/
def tComp (l : List (Nat × Word)) : List Host.Cell := l.foldl (fun m p => memPuts m (compKey p.1) (leBytes 8 p.2.toNat)) []
/-- A state with such a memory. -/
def tHost (l : List (Nat × Word)) : State := { tS (tR 0 0 0) tCtx with mem := tComp l }
theorem test_PacketResults_queue :
    let u : HQueue := { base := 0x100, logSlots := 4, arena := 0x1000, arenaLen := 0x1000, head := 0xF, open_ := 0 }
    let s := tHost [(0x100, 0x10), (0x100 + 64 + 240, 0xFFFF0006), (0x100 + 64 + 240 + 8, 0x1000), (0x1018, 1), (0x1020, 0x7E00000), (0x1028, 0xFFFFFF)]
    let t := { s with front := { Front.init with queues := [(3, u)] }, mgmt := { Mgmt.init with ready := true, wiping := false } }
    let p0 := t.readD (compKey (u.base + 64 + u.head.toNat % 2 ^ u.logSlots * 16))
    (tfind t.front.queues 3 = some u ∧ t.mgmt.ready = true ∧ t.mgmt.updating = none ∧ State.reset.mgmt.ready = false) ∧
    ((t.readD (compKey u.base)).setWidth 32 ≠ u.head ∧ p0.getLsbD 8 = false ∧ bits p0 10 9 = 0 ∧ bits p0 7 0 = 6 ∧ bits p0 31 16 = 0xFFFF ∧
      t.follow 3 0 (t.readD (compKey (u.base + 64 + u.head.toNat % 2 ^ u.logSlots * 16 + 8))).toNat = some 0x1000 ∧
      t.inArena 3 0x1000 32 64 = true ∧ t.chainBad tPktAt 6 0 = none ∧ t.headResv p0 tPktAt = true ∧ t.launchBusy tPktAt = false ∧
      t.notYet 3 = false ∧
      typeEv 6 tPktAt = some (.signal tPktAt)) ∧
    ((t.readD (compKey u.base)).setWidth 32 = { u with head := 0x10 }.head) ∧
    ({ t with agenda := [⟨0, .dbell 3⟩], front := { t.front with queues := t.front.queues ++ [(5, u)], served := 0 } } : State).notYet 5
      = true ∧
    (t.blkD tPktAt 8 = 0 ∧ t.ctxOf ((t.blkD tPktAt 0x18).setWidth 32) = some bareCtx ∧ t.ctx bareCtx.asid = some bareCtx) ∧
    (bits (t.blkD tPktAt 0x20) 20 0 = 0 ∧ (t.blkD tPktAt 0x28).toNat < 2 ^ 24 ∧ t.inBox bareCtx.pkgs 0 = true ∧
      bits (t.blkD tPktAt 0x20) 63 42 = 0 ∧ bits (t.blkD tPktAt 0x20) 41 31 = 0 ∧ t.usable 1 0 = true ∧ t.keyOf 0 1 = some 0 ∧
      t.bctx 0 0 = some (tC (tR 0 0 0) tCtx) ∧ bits (t.blkD tPktAt 0x20) 30 21 < tCtx.quota.sems) ∧
    (tHost [(0x1018, 2)]).ctxOf 2 = none ∧
    (t.takesContexts = false ∧ ({ t with mgmt := { t.mgmt with lc := 2 } } : State).takesContexts = true ∧
      typeEv 1 tPktAt = some (.contextCreate tPktAt)) := by decide +kernel
/-- CISTERN-ARM and SIGNAL with a handle of chip 1, of the partition and not. -/
theorem test_PacketResults_far :
    let t := fun (h : Word) => { tHost [(0x1018, 1), (0x1020, h), (0x1028, 0)] with dims := (2, 1, 1, 1) }
    let pair : Ctx := { bareCtx with pkgs := { bareCtx.pkgs with a := (0, 2) } }
    let chip : Word := 0x80000000000000
    let bad := { Cist.init with desc := (t chip).readDs (compKey 0x1040) 4 }
    (bits chip 63 42 = 8192 ∧ 8192 ≠ (t chip).chip.toNat ∧ bits chip 17 0 = 0 ∧ bits chip 20 0 = 0 ∧
      (t chip).inBox bareCtx.pkgs 8192 = false ∧ (t chip).inBox pair.pkgs 8192 = true ∧ handleFar pair chip = true ∧
      handleFar pair (chip + 0x1000000) = false ∧ descOk (handleUnit chip) bad = false ∧ inRect bareCtx.rect 1535 = true ∧
      1536 ≤ bits (0x80030000000000 : Word) 41 31 ∧ inRect { bareCtx with rect := 0 }.rect 1 = false) := by decide +kernel
theorem test_PacketResults_context :
    let s := tHost [(0x1020, 2), (0x1040, 0x2000000), (0x1060, 0x10000), (0x1068, 38), (0x1070, 0x6400000400)]
    let w := tHost [(0x1018, 1), (0x1028, 0xFFF), (0x1040, 0x10000), (0x1048, 0x40000000), (0x1050, 0x1000000001F01), (0x1058, 0x1FFE001)]
    let a := tHost ((0x1018, 1) :: (0x1020, 0x1C0000) :: ((List.range 4).zip (tMark true)).map fun p => (0x1040 + 8 * p.1, p.2))
    let v := tHost [(0x1018, 1), (0x1020, 0x10000), (0x1028, 0x10000)]
    let req : WinReq := { chip := w.blkD tPktAt 0x20, num := w.blkD tPktAt 0x28, e := w.readDs (compKey 0x1040) 4 }
    let done := fun (x : Ctx) => { tHost [(0x1018, 1)] with ctxs := [(1, x)] }
    (s.createResv tPktAt = false ∧ (s.blkD tPktAt 0x18).setWidth 32 = (0 : BitVec 32) ∧ s.createBad tPktAt = none ∧
      bits (s.blkD tPktAt 0xA0) 12 0 = 0 ∧ (s.newCtx tPktAt).asid = 2) ∧
    ((∀ x ∈ [bareCtx, { bareCtx with closed := true }, { bareCtx with ended := some .host }],
      ((done x).ctxs.map Prod.snd).find? (fun y => y.ctxid == ((done x).blkD tPktAt 0x18).setWidth 32) = some x)) ∧
    (req.resv = false ∧ w.blkD tPktAt 0x30 = 0 ∧ w.blkD tPktAt 0x38 = 0 ∧
      (match w.winCheck bareCtx req 0x20 0x28 with | .ok n => n == 4095 | .error _ => false) = true ∧
      req.chip = w.chip.setWidth 64 ∧ req.win.kind = 1) ∧
    (let d := a.readDs (compKey 0x1040) 4
     d = tMark true ∧ handleFor a 1 (a.blkD tPktAt 0x20) = true ∧ descOk 0 { Cist.init with desc := d } = true ∧
       a.armReason 1 0 7 { Cist.init with desc := d } = 0 ∧ a.blkD tPktAt 0x28 = 0) ∧
    ((v.blkD tPktAt 0x20).toNat % 65536 = 0 ∧ (v.blkD tPktAt 0x28).toNat = 65536) := by decide +kernel
theorem test_PacketResults_work :
    let l := { tHost [(0x1018, 1), (0x1020, 0x1000), (0x1030, 0x060100), (0x1038, 0x2000), (0x2000, 0x0000000100010001)] with bays := [] }
    let r := l.launchReq tPktAt
    let c := tHost [(0x1018, 1), (0x1040, 0x10000), (0x1048, 0x20000), (0x1050, 0x11), (0x1058, 63)]
    let m := c.hostCmd tPktAt
    let act : CopyAct := { CopyAct.start m with wrote := true }
    let p := tHost [(0x1018, 1), (0x1020, 0x2000), (0x1028, 1), (0x2000, 5000), (0x2008, 0), (0x2010, 1), (0x2018, 0)]
    let plan := (p.table 0x2000 4 1).map planReq
    (l.ctxOf ((l.blkD tPktAt 0x18).setWidth 32) = some bareCtx ∧ l.launchResv tPktAt = false ∧ bareCtx.launch = none ∧ r.fieldBad bareCtx = none ∧
      l.inBox bareCtx.pkgs 0 = true ∧ launchBays r.rect ≠ [] ∧ (launchBays r.rect).findSome? (l.bayBad bareCtx r) = none ∧
      l.bayCtxs 1 = [] ∧ l.baseChan bareCtx r.quota.chans (launchBays r.rect) = some 0 ∧
      (match l.admit_ bareCtx r with | .ok k => k == none | .error _ => false) = true ∧
      (match (l.readImage ((launchBays r.rect).headD 0) 1 r.image r.imageLen).1 with | .ok b => b.length == r.imageLen | .error _ => false) = true) ∧
    (c.front.copies = [] ∧ m.sk = 1 ∧ m.dk = 1 ∧ m.badWord = none ∧ m.badBay c 1 = none ∧ m.extent c hostBay 1 = none ∧ act.wrote = true ∧
      act.cmd.total ≤ act.stop ∧ m.reserved = false) ∧
    ((p.blkD tPktAt 0x28).toNat < 65536 ∧ 1 ≤ bits (p.blkD tPktAt 0x28) 15 0 ∧ plan.any PlanReq.resv = false ∧ plan.findSome? p.planField = none ∧ p.planBad plan = none ∧
      (plan.filter fun x => x.chip == 0).length = 1) := by decide +kernel
theorem test_FrontRegisters :
    let s := fun (cfg head : Word) => { State.reset with front := { Front.init with errCfg := cfg, errHead := head, errTail := 0x40 } }
    ((s 0x600000000 0).errSize = 64 ∧ (s 0x600000000 0).errUsed = 64 ∧ (s 0x600000000 1).errUsed + 1 ≤ (s 0x600000000 1).errSize ∧
      (s 0x600000000 0).errSize < (s 0x600000000 0).errUsed + 1 ∧ (s 0x600000000 0).mgmt.updating = none ∧
      (s 0x600000000 0).front.errWait = [] ∧ (s 0x600000000 0).front.after = [] ∧ (s 0x600000000 1).front.errTail.toNat < 2 ^ 32 ∧
      (List.replicate 8 (5 : Word)).length % 8 = 0) ∧
    ((physKey 0xFFF).isSome = true ∧ physKey 0xC0000000000 = none) := by decide +kernel
theorem test_ServiceResults :
    let s := fun (lc : Nat) (cs : Tab Ctx) => { State.reset with mgmt := { Mgmt.init with lc := lc, minVer := 5 }, ctxs := cs }
    ((s 1 []).mgmt.recovery = false ∧ (s 1 []).ctxs = [] ∧ ((s 1 []).mgmt.lc, 2) ∈ [(1, 2), (2, 3), (2, 4), (3, 4)] ∧
      ((s 4 []).mgmt.lc, 4) ∉ [(1, 2), (2, 3), (2, 4), (3, 4)] ∧ (s 1 [(1, bareCtx)]).ctxs ≠ []) ∧
    ((s 1 []).mgmt.minVer ≤ 5 ∧ 4 < (s 1 []).mgmt.minVer ∧ { Mgmt.init with recovery := true }.recovery = true) ∧
    (let u : State := { s 1 [] with mgmt := { Mgmt.init with updating := some 1 } }
     u.front.errWait = [] ∧ u.front.after = [] ∧ u.mgmt.updating = some 1 ∧ u.mgmt.recovery = false ∧
       u.now < u.mgmt.updSince + 1000000000 ∧
       ({ u with time := { u.time with count := 1000000000 } }).mgmt.updSince + 1000000000 ≤
         ({ u with time := { u.time with count := 1000000000 } }).now) ∧
    ((s 1 []).agenda.any (fun x => x.ev == Ev.wipeComplete) = true ∧
      ({ s 1 [] with agenda := [] }).agenda.any (fun x => x.ev == Ev.wipeComplete) = false) ∧
    (let q : State := { s 1 [(1, bareCtx)] with ports := (List.range 7).map fun k => (k, { FPort.init with st := .fenced }) }
     (∀ n, n < 8 → n ≠ 7 → (q.port n).st = .fenced) ∧ q.ctx 1 = some bareCtx ∧ bareCtx.closed = false ∧
       q.inBox bareCtx.pkgs q.chip.toNat = true) ∧
    (let f := (s 1 []).modBay 1535 fun b => { b with fenced := true }
     (1535 : Nat) < 1536 ∧ (f.bay 1535).fenced = true ∧ ({ f with ports := [(7, { FPort.init with st := .fenced })] }.port 7).st = .fenced ∧
       f.bad (compKey 64) 64 = none) ∧
    ((s 1 []).mgmt.idKey = none ∧ (s 1 []).bad (64 * (64 / 64)) 64 = none ∧ 64 < 2 ^ 50 ∧ 9 / 8 = 64 / 64 ∧
      (s 1 []).neighbour 2 = none ∧ ({ s 1 [] with dims := (2, 1, 1, 1) } : State).neighbour 0 = some 8192) := by decide +kernel


/-! ### One-step tests; the expected values are the spec’s own worked examples, or worked out by hand from the rule -/

/-- 03_numbers.md, the worked examples of R84 and R73. -/
theorem test_vrsq_of_two : (estimate .rsq 0x40000000).1 = 0x3F34B000 := by decide +kernel
theorem test_vcvtsr_example : (stochastic 0x3F808000 0x7FFF).1 = 0x3F80 ∧ (stochastic 0x3F808000 0x8000).1 = 0x3F81 ∧
    (stochastic 0xBF808000 0x7FFF).1 = 0xBF80 ∧ (stochastic 0xBF808000 0x8000).1 = 0xBF81 := by decide +kernel
/-- 04_sequencer.md: X = 37 and Y = 15 is bay 1205, and its aperture address for offset 0x10040. -/
theorem test_bayn_example : curIs (exec (.bayn 3 1 2) (tS (tR 37 15 0) tCtx)) (·.reg 3) 1205 = true := by decide +kernel
theorem test_baya_example :
    curIs (exec (.baya 3 1 2) (tS (tR 0x10040 1205 0) tCtx)) (·.reg 3) 0x00FE000096A10040 = true := by decide +kernel
/-- 02_encoding.md: `li g5, 0x123456789ABC` is LIMM of 0x2468AC and LSHI of 0x789ABC. -/
theorem test_limm_example : curIs (exec (.limm 3 0x2468AC) (tS (tR 0 0 0) tCtx)) (·.reg 3) 0x2468AC = true := by decide +kernel
theorem test_lshi_example :
    curIs (exec (.lshi 3 0x789ABC) (tS (tR 0 0 0x2468AC) tCtx)) (·.reg 3) 0x123456789ABC = true := by decide +kernel
/-- IMM20 and IMM23 are sign-extended (R46). -/
theorem test_addi_minus_one : curIs (exec (.addi 3 1 (-1)) (tS (tR 5 0 0) tCtx)) (·.reg 3) 4 = true := by decide +kernel
theorem test_limm_minus_one :
    curIs (exec (.limm 3 (-1)) (tS (tR 0 0 0) tCtx)) (·.reg 3) 0xFFFFFFFFFFFFFFFF = true := by decide +kernel
/-- The corners of R99: a zero divisor, and the most negative value by −1. -/
theorem test_divide_corners : divW 7 0 = -1 ∧ remW 7 0 = 7 ∧ divW (2 ^ 63) (-1) = 2 ^ 63 ∧ remW (2 ^ 63) (-1) = 0 ∧
    divW (-7) 2 = -3 ∧ remW (-7) 2 = -1 := by decide +kernel
/-- 05_memory.md: ACAS with the word 5 in memory, comparing with 5 and with 4. -/
theorem test_acas_example :
    let s (g : Word) := { tS (tR 0x2000 9 g) tCtx with mem := memPuts [] (spadKey 1 0 0x2000) [5, 0, 0, 0] }
    let t (g : Word) := after (exec (.acas 3 1 2 false .acq .bay .w) (s g))
    memGet (t 5).mem (spadKey 1 0 0x2000) = 9 ∧ memGet (t 4).mem (spadKey 1 0 0x2000) = 5 := by decide +kernel
/-- FIPS 180-4's example for SHA-384, "abc", and SP 800-185's sample 4 for KMAC256 (log entry 43). -/
theorem test_sha384_abc : leBytes 8 (sha384 [0x61, 0x62, 0x63]).toNat = [0xCB, 0x00, 0x75, 0x3F, 0x45, 0xA3, 0x5E, 0x8B] := by
  decide +kernel
theorem test_kmac256_sample : (kmac256 ((List.range 32).map fun k => BitVec.ofNat 8 (0x40 + k)) [0, 1, 2, 3]
    [0x4D, 0x79, 0x20, 0x54, 0x61, 0x67, 0x67, 0x65, 0x64, 0x20, 0x41, 0x70, 0x70, 0x6C, 0x69, 0x63, 0x61, 0x74, 0x69, 0x6F, 0x6E]
    64).take 8 = [0x20, 0xC5, 0x70, 0xC3, 0x13, 0x46, 0xF7, 0x03] := by decide +kernel
/-- A scrub that finds an uncorrectable error marks its 64 bytes, and a bay with one in control state is fenced (R459, R460). -/
theorem test_scrub : (after (exec .patrolScrub (happens (.patrolScrub (.mem 64) .uncorrectable) (tS (tR 0 0 0) tCtx)))).poison.length = 8 ∧
    ((after (exec .patrolScrub (happens (.patrolScrub (.control 3 0) .uncorrectable) (tS (tR 0 0 0) tCtx)))).bay 3).fenced = true := by
  decide +kernel

end Sys2Proof.Tests
end

section
/-!
SUPPORT and PROOF. The reads and writes of a scratchpad by LDL and STL (O21).
-/
namespace Sys2Proof.Machine

/-! ### Fibres after a change by name, and after a retirement -/

theorem tget_tmap {α : Type} {d : α} {f : α → α} (hd : f d = d) (l : Tab α) (k : Nat) :
    tget d (tmap f l) k = f (tget d l k) := by
  induction l with
  | nil => exact hd.symm
  | cons p r ih =>
    obtain ⟨j, x⟩ := p
    simp only [tmap, tget]
    split
    · rfl
    · exact ih

/-- A change by name reaches the fibre of a slot where the slot holds that name (R91). -/
theorem State.fib_modU (s : State) (u b i k : Nat) (h : Fibre → Fibre) :
    (s.modU u h).fib b i k = (s.fib b i k).map (onU u h) := by
  have hb : (s.modU u h).bctx b i = (s.bctx b i).map (BayCtx.mapF (onU u h)) := by
    unfold State.bctx State.bay State.modU
    rw [tget_tmap rfl]
    exact tfind_tmap ..
  unfold State.fib
  rw [hb]
  cases s.bctx b i with
  | none => rfl
  | some c => exact congrArg Slot.fib (tget_tmap rfl c.slots k)

theorem onU_of_uid {u : Nat} {f : Fibre} (e : f.uid = u) (h : Fibre → Fibre) : onU u h f = h f := if_pos e

/-- The issuing fibre after a change under its own name. -/
theorem State.curF_modU_self {s : State} {f : Fibre} (e : s.curF = some f) (h : Fibre → Fibre) :
    (s.modU f.uid h).curF = some (h f) := by
  unfold State.curF at e ⊢
  rw [State.fib_modU, State.modU_cur, e]
  exact congrArg some (onU_of_uid rfl h)

/-- The counters of retired instructions change no fibre (R456). -/
@[simp] theorem State.countRetired_fib (s : State) (a j b i k : Nat) : (s.countRetired a j).fib b i k = s.fib b i k := by
  unfold State.countRetired
  split
  · rename_i c _
    have hc : ((s.pulse c.asid).bump a c.asid 2 1).bctx b i = s.bctx b i := by
      unfold State.bump State.bctx
      by_cases e : b = a
      · rw [e, State.bay_modBay_self]
        split <;> rfl
      · rw [State.bay_modBay_ne _ _ e]
        rfl
    unfold State.fib
    rw [hc]
  · rfl

@[simp] theorem State.countRetired_agenda (s : State) (b i : Nat) : (s.countRetired b i).agenda = s.agenda := by
  unfold State.countRetired
  split <;> rfl

@[simp] theorem State.retireCur_agenda (s : State) : s.retireCur.agenda = s.agenda := State.countRetired_agenda ..

/-- The issuing fibre after its instruction retires (R95). -/
theorem State.curF_retireCur {s : State} {f : Fibre} (e : s.curF = some f) : s.retireCur.curF = some f.retire := by
  have hr : (s.modCur Fibre.retire).curF = some f.retire := by
    rw [State.modCur_eq_asFibre e, State.curF_asFibre e]
  unfold State.retireCur State.curF at *
  simpa using hr

/-! ### Bytes of a number (R4) -/

@[simp] theorem leBytes_length (n v : Nat) : (leBytes n v).length = n := by
  induction n generalizing v with
  | zero => rfl
  | succ n ih => simp [leBytes, ih]

theorem leBytes_getElem (n v k : Nat) (h : k < (leBytes n v).length) :
    (leBytes n v)[k] = BitVec.ofNat 8 (v / 2 ^ (8 * k)) := by
  induction n generalizing v k with
  | zero => simp at h
  | succ n ih =>
    cases k with
    | zero => simp [leBytes]
    | succ k =>
      have hp : 2 ^ (8 * (k + 1)) = 256 * 2 ^ (8 * k) := by rw [Nat.mul_succ, Nat.pow_add, Nat.mul_comm]
      simp [leBytes, ih, Nat.div_div_eq_div_mul, hp]

/-- The little-endian bytes of a word are its bytes (R4). -/
theorem leBytes_word (n : Nat) (v : Word) (k : Nat) (h : k < (leBytes n v.toNat).length) :
    (leBytes n v.toNat)[k] = v.extractLsb' (8 * k) 8 := by
  rw [leBytes_getElem]
  apply BitVec.eq_of_toNat_eq
  simp [Nat.shiftRight_eq_div_pow]

theorem leNat_memBytes_lt (m : List Host.Cell) (a n : Nat) : leNat (memBytes m a n) < 2 ^ (8 * n) := by
  induction n generalizing a with
  | zero => simp [memBytes, leNat]
  | succ n ih =>
    have hb := (memGet m a).isLt
    have hr := ih (a + 1)
    have hp : 2 ^ (8 * (n + 1)) = 256 * 2 ^ (8 * n) := by rw [Nat.mul_succ, Nat.pow_add, Nat.mul_comm]
    simp only [memBytes, leNat, hp]
    omega

/-! ### Local loads and stores (R140) -/

theorem szBytes_eq (z : Sz) : szBytes z = 2 ^ z.code.toNat := by cases z <;> rfl

theorem Sz.pow_code_le (z : Sz) : 2 ^ z.code.toNat ≤ 8 := by cases z <;> decide

/-- The value of a load (R140): a signed load of fewer than eight bytes extends the sign, any other the zeros. -/
theorem State.extend_read (s : State) (zx : Bool) (a : Nat) {n : Nat} (hn : n ≤ 8) :
    extend (!zx) n (leNat (s.read a n))
      = if zx = true ∨ n = 8 then s.valueAt a n else ((s.valueAt a n).setWidth (8 * n)).signExtend 64 := by
  unfold extend
  by_cases hz : zx = true ∨ n = 8
  · have hs : ¬((!zx && decide (n < 8)) = true) := by
      rcases hz with hz | hz <;> simp [hz]
    rw [if_neg hs, if_pos hz, State.read, Nat.mod_eq_of_lt (leNat_memBytes_lt ..)]
    rfl
  · have hs : (!zx && decide (n < 8)) = true := by
      rw [not_or] at hz
      simpa [hz.1] using lt_of_le_of_ne hn hz.2
    rw [if_pos hs, if_neg hz]
    rfl

theorem localCheck_ok {c : BayCtx} {a : Word} {n : Nat} (hq : a.toNat + n ≤ c.quota.scratch) (ha : a.toNat % n = 0) (k : Res) :
    localCheck c a n k = k := by
  simp [localCheck, localFits, hq, ha]

theorem localCheck_quota {c : BayCtx} {a : Word} {n : Nat} (hq : c.quota.scratch < a.toNat + n) (k : Res) :
    localCheck c a n k = .fault .quota a := by
  simp [localCheck, localFits, hq]

theorem localCheck_align {c : BayCtx} {a : Word} {n : Nat} (hq : a.toNat + n ≤ c.quota.scratch) (ha : a.toNat % n ≠ 0)
    (k : Res) : localCheck c a n k = .fault .align a := by
  simp [localCheck, localFits, hq, ha]

theorem execLdl_runs {s : State} {c : BayCtx} {f : Fibre} {d a : GReg} {q : BitVec 17} (h : s.Issues [d, a] c f) (z : Sz)
    (zx : Bool) :
    exec (.ldl d a z zx q) s = .next (s.finish f (localCheck c (effAddr (f.reg a) q) (szBytes z)
      (.done (s.bankLoad f c.asid (spadKey c.asid s.cur.bay (effAddr (f.reg a) q).toNat) (effAddr (f.reg a) q) (szBytes z)
        (!zx) d)))) := by
  show execLdl d a z zx q s = _
  exact issue_runs h.ctx h.fibre h.full rfl h.frame

theorem execStl_runs {s : State} {c : BayCtx} {f : Fibre} {d a : GReg} {q : BitVec 17} (h : s.Issues [d, a] c f) (z : Sz) :
    exec (.stl d a z q) s = .next (s.finish f (localCheck c (effAddr (f.reg a) q) (szBytes z)
      (.done (s.write (spadKey c.asid s.cur.bay (effAddr (f.reg a) q).toNat) (leBytes (szBytes z) (f.reg d).toNat))))) := by
  show execStl d a z q s = _
  exact issue_runs h.ctx h.fibre h.full rfl h.frame

/-- A load without an uncorrectable error retires with its register empty and its value on the way (R89, R140). -/
theorem State.bankLoad_retires {s : State} {f : Fibre} {key n : Nat} (e : s.curF = some f) (hb : s.bad key n = none) (asid : Nat)
    (ea : Word) (signed : Bool) (d : GReg) :
    (s.bankLoad f asid key ea n signed d).retireCur.curF
        = some ({ f.setEmpty d with locals := f.locals + 1 } : Fibre).retire ∧
      (s.bankLoad f asid key ea n signed d).retireCur.agenda
        = s.agenda ++ [s.newItem (.loadDataReturn f.uid d (extend signed n (leNat (s.read key n))) 0)] ∧
      SameMemory s (s.bankLoad f asid key ea n signed d).retireCur := by
  unfold State.bankLoad
  rw [hb]
  refine ⟨State.curF_retireCur ?_, ?_, fun b => ?_⟩
  · exact State.curF_modU_self e _
  · rw [State.retireCur_agenda]
    rfl
  · rw [State.retireCur_mem]
    rfl

/-- The value of a local load arrives and fills its register (R89). -/
theorem loadDataReturn_fills {s : State} {b i k u : Nat} {d : GReg} {g : Fibre} {v : Word}
    (he : s.ev = .loadDataReturn u d v 0) (hg : s.fib b i k = some g) (hu : g.uid = u) :
    ∃ t, exec .loadDataReturn s = .next t ∧ t.fib b i k = some { g.setReg d v with locals := g.locals - 1 } ∧
      SameMemory s t := by
  refine ⟨s.modU u fun f => { f.setReg d v with locals := f.locals - 1 }, ?_, ?_, fun _ => rfl⟩
  · show execLoadDataReturn s = _
    simp [execLoadDataReturn, he]
  · rw [State.fib_modU, hg]
    exact congrArg some (onU_of_uid hu _)

/-- A store leaves its bytes, little-endian, and every other byte as it was (R4, R140). -/
theorem State.write_retires {s : State} {f : Fibre} (e : s.curF = some f) (key n : Nat) (v : Word) :
    (s.write key (leBytes n v.toNat)).retireCur.curF = some f.retire ∧
      (s.write key (leBytes n v.toNat)).retireCur.agenda = s.agenda ∧
      (∀ k, k < n → memGet (s.write key (leBytes n v.toNat)).retireCur.mem (key + k) = v.extractLsb' (8 * k) 8) ∧
      SameMemoryBut key n s (s.write key (leBytes n v.toNat)).retireCur := by
  refine ⟨State.curF_retireCur e, State.retireCur_agenda _, fun k hk => ?_, fun b hb => ?_⟩
  · rw [State.retireCur_mem, State.write_mem, memGet_memPuts_in _ _ _ _ (by simpa using hk), leBytes_word]
  · rw [State.retireCur_mem, State.write_mem, memGet_memPuts_out _ _ _ _ (by simpa using hb)]

/-- Settles O21: after the checks, the load is the bank's read on its way and the store the bank's write; the reads after
writes of memory give the bytes. -/
theorem localLoadsAndStores : Obligations.LocalLoadsAndStores := by
  unfold Obligations.LocalLoadsAndStores
  refine ⟨fun s c f d a z zx q => ⟨fun h => ?_, fun b i k u g v => loadDataReturn_fills⟩, fun s c f d a z q h => ?_⟩
  · rw [execLdl_runs h, szBytes_eq]
    refine ⟨fun hq ha hb => ?_, fun hq => ?_, fun hq ha => ?_⟩
    · rw [effAddr, localCheck_ok hq ha, ← State.extend_read s zx _ (Sz.pow_code_le z)]
      exact ⟨_, rfl, State.bankLoad_retires h.fibre hb ..⟩
    · rw [effAddr, localCheck_quota hq, finish_fault]
    · rw [effAddr, localCheck_align hq ha, finish_fault]
  · rw [execStl_runs h, szBytes_eq]
    refine ⟨fun hq ha => ?_, fun hq => ?_, fun hq ha => ?_⟩
    · rw [effAddr, localCheck_ok hq ha]
      exact ⟨_, rfl, State.write_retires h.fibre ..⟩
    · rw [effAddr, localCheck_quota hq, finish_fault]
    · rw [effAddr, localCheck_align hq ha, finish_fault]

end Sys2Proof.Machine
end

section
/-!
SUPPORT. What leaves memory alone: one lemma for each operation of the state that writes no byte.  `simp` works without
implicit definitional steps here: the kernel would otherwise evaluate the states that it compares.
-/
namespace Sys2Proof.Machine

/-- A fold of changes that leave memory alone leaves it alone. -/
@[simp] theorem foldl_mem {α : Type} {f : State → α → State} (hf : ∀ t x, (f t x).mem = t.mem) (l : List α) (s : State) :
    (l.foldl f s).mem = s.mem := by
  induction l generalizing s with
  | nil => rfl
  | cons x r ih => rw [List.foldl_cons, ih, hf]

/-- What a save image takes of a change that leaves memory alone leaves it alone (R425). -/
@[simp] theorem State.viaImage_mem {s t : State} (b asid : Nat) (h : t.mem = s.mem) :
    (s.viaImage t b asid).1.mem = s.mem := by
  have e := State.viaPages_mem s t b asid []
  rw [h, ite_self] at e
  exact e

@[simp] theorem State.imaged_mem {s t : State} (b asid : Nat) (h : t.mem = s.mem) : (s.imaged t b asid).mem = s.mem :=
  State.viaImage_mem b asid h

@[simp] theorem State.vecNext_mem (s : State) (b i v : Nat) : (s.vecNext b i v).mem = s.mem := by
  unfold State.vecNext
  (repeat' split) <;> simp -implicitDefEqProofs

@[simp] theorem State.placeVec_mem (s : State) (b i v slot : Nat) (e : VEnt) :
    (s.placeVec b i v slot e).mem = s.mem := by
  unfold State.placeVec
  dsimp only
  (repeat' split) <;> simp -implicitDefEqProofs

@[simp] theorem State.emitAt_mem (s : State) (sw : Nat) (p : Packet) : (s.emitAt sw p).mem = s.mem := by
  unfold State.emitAt
  split <;> simp -implicitDefEqProofs

@[simp] theorem State.emit_mem (s : State) (p : Packet) : (s.emit p).mem = s.mem := by
  simp -implicitDefEqProofs [State.emit]

@[simp] theorem State.control_mem (s : State) (dst opc : Nat) (w : Who) (addr o0 o1 o2 : Word) :
    (s.control dst opc w addr o0 o1 o2).mem = s.mem := by simp -implicitDefEqProofs [State.control]

@[simp] theorem State.sendRefuse_mem (s : State) (p : Packet) (reason : Nat) (a : Word) :
    (s.sendRefuse p reason a).mem = s.mem := by simp -implicitDefEqProofs [State.sendRefuse]

@[simp] theorem State.stirHeld_mem (s : State) (c : Nat) : (s.stirHeld c).mem = s.mem := by
  unfold State.stirHeld
  exact foldl_mem (fun t q => by split <;> simp -implicitDefEqProofs) _ _

@[simp] theorem State.fetchReceiver_mem (s : State) (c : Nat) : (s.fetchReceiver c).mem = s.mem := by
  unfold State.fetchReceiver
  split <;> simp -implicitDefEqProofs

@[simp] theorem State.sendAck_mem (s : State) (p : Packet) : (s.sendAck p).mem = s.mem := by
  simp -implicitDefEqProofs [State.sendAck]

@[simp] theorem State.sendAnswer_mem (s : State) (p : Packet) (x2 : WinSt) : (s.sendAnswer p x2).mem = s.mem := by
  unfold State.sendAnswer
  split <;> simp -implicitDefEqProofs

@[simp] theorem State.modReceiver_mem (s : State) (c : Nat) (f : Receiver → Receiver) :
    (s.modReceiver c f).mem = s.mem := by simp -implicitDefEqProofs [State.modReceiver]

@[simp] theorem State.answerPkt_mem (s : State) (p : Packet) (w : WinSt) : (s.answerPkt p w).mem = s.mem := by
  simp -implicitDefEqProofs [State.answerPkt]

@[simp] theorem State.logEvent_mem (s : State) (code v : Nat) : (s.logEvent code v).mem = s.mem := by
  simp -implicitDefEqProofs [State.logEvent]

@[simp] theorem State.malformed_mem (s : State) (p : Packet) : (s.malformed p).mem = s.mem := by
  unfold State.malformed
  dsimp only
  (repeat' split) <;> simp -implicitDefEqProofs

@[simp] theorem State.modSender_mem (s : State) (t : Nat) (f : Sender → Sender) : (s.modSender t f).mem = s.mem := by
  simp -implicitDefEqProofs [State.modSender]

@[simp] theorem State.noteAsked_mem (s : State) (p : Packet) : (s.noteAsked p).mem = s.mem := by
  unfold State.noteAsked
  split <;> simp -implicitDefEqProofs

@[simp] theorem State.modAct_mem (s : State) (b asid : Nat) (q : BitVec 32) (f : FabAct → FabAct) :
    (s.modAct b asid q f).mem = s.mem := by
  unfold State.modAct
  split <;> simp -implicitDefEqProofs

@[simp] theorem State.sendNow_mem (s : State) (t : Nat) (x : Sent) : (s.sendNow t x).mem = s.mem := by
  unfold State.sendNow
  dsimp only
  (repeat' split) <;> simp -implicitDefEqProofs

@[simp] theorem State.drain_mem (s : State) (t : Nat) (l : List Sent) : (s.drain t l).mem = s.mem := by
  induction l generalizing s with
  | nil => simp -implicitDefEqProofs [State.drain]
  | cons x r ih =>
    unfold State.drain
    split <;> simp -implicitDefEqProofs [ih]

@[simp] theorem State.drainOn_mem (s : State) (t : Nat) : (s.drainOn t).mem = s.mem := by
  unfold State.drainOn
  dsimp only
  split <;> simp -implicitDefEqProofs

@[simp] theorem State.modQueue_mem (s : State) (q : Nat) (f : HQueue → HQueue) : (s.modQueue q f).mem = s.mem := by
  simp -implicitDefEqProofs [State.modQueue]

@[simp] theorem State.tallyKey_mem (s : State) (key : Nat) (k : Tally) : (s.tallyKey key k).mem = s.mem := by
  unfold State.tallyKey
  split <;> simp -implicitDefEqProofs

@[simp] theorem State.modEnt_mem (s : State) (b i e : Nat) (q : BitVec 32) (f : FEnt → FEnt) :
    (s.modEnt b i e q f).mem = s.mem := by simp -implicitDefEqProofs [State.modEnt]

@[simp] theorem State.addLive_mem (s : State) (asid n : Nat) : (s.addLive asid n).mem = s.mem := by
  simp -implicitDefEqProofs [State.addLive]

@[simp] theorem State.mayReadRest_mem (s : State) (b asid : Nat) : (s.mayReadRest b asid).1.mem = s.mem := by
  unfold State.mayReadRest
  split
  · rfl
  · exact State.readPages_mem ..

@[simp] theorem State.mayCist_mem (s : State) (asid u : Nat) : (s.mayCist asid u).1.mem = s.mem := by
  unfold State.mayCist
  split <;> simp -implicitDefEqProofs

@[simp] theorem State.setCist_mem (s : State) (asid u k : Nat) (e : Cist) : (s.setCist asid u k e).mem = s.mem := by
  unfold State.setCist
  (repeat' split) <;> simp -implicitDefEqProofs

@[simp] theorem State.tryPhase_mem (s : State) (b i n : Nat) : (s.tryPhase b i n).mem = s.mem := by
  unfold State.tryPhase
  dsimp only
  (repeat' split) <;> simp -implicitDefEqProofs

@[simp] theorem State.arriveRaw_mem (s : State) (b i n : Nat) : (s.arriveRaw b i n).mem = s.mem := by
  simp -implicitDefEqProofs [State.arriveRaw]

@[simp] theorem State.toBacklog_mem (s : State) (asid : Nat) (p : PFault) : (s.toBacklog asid p).mem = s.mem := by
  unfold State.toBacklog
  (repeat' split) <;> simp -implicitDefEqProofs

@[simp] theorem State.countSpawn_mem (s : State) (asid : Nat) : (s.countSpawn asid).mem = s.mem := by
  simp -implicitDefEqProofs [State.countSpawn]

@[simp] theorem State.occupy_mem (s : State) (b i k : Nat) (f : Fibre) : (s.occupy b i k f).mem = s.mem := by
  simp -implicitDefEqProofs [State.occupy]

@[simp] theorem State.markPend_mem (s : State) (p : PFault) (f : FEnt → FEnt) : (s.markPend p f).mem = s.mem := by
  unfold State.markPend
  (repeat' split) <;> simp -implicitDefEqProofs

@[simp] theorem State.startFaultFibre_mem (s : State) (asid b i k : Nat) (fentry : Word) (q : PFault) :
    (s.startFaultFibre asid b i k fentry q).mem = s.mem := by simp -implicitDefEqProofs [State.startFaultFibre]

@[simp] theorem State.giveFault_mem (s : State) (asid : Nat) (q : PFault) : (s.giveFault asid q).mem = s.mem := by
  unfold State.giveFault
  (repeat' split) <;> simp -implicitDefEqProofs

@[simp] theorem State.toFaultFibre_mem (s : State) (asid : Nat) (p : PFault) : (s.toFaultFibre asid p).mem = s.mem := by
  unfold State.toFaultFibre
  dsimp only
  (repeat' split) <;> simp -implicitDefEqProofs

@[simp] theorem State.sendWord_mem (s : State) (b i : Nat) (d : Dir) (w : Word) : (s.sendWord b i d w).mem = s.mem := by
  unfold State.sendWord
  split <;> simp -implicitDefEqProofs

@[simp] theorem State.takeWord_mem (s : State) (b i : Nat) (d : Dir) : (s.takeWord b i d).mem = s.mem := by
  unfold State.takeWord
  split <;> simp -implicitDefEqProofs

@[simp] theorem State.serveGut_mem (s : State) (b i : Nat) (d : Dir) (n : Nat) : (s.serveGut b i d n).mem = s.mem := by
  induction n generalizing s with
  | zero => rfl
  | succ n ih =>
    unfold State.serveGut
    dsimp only
    (repeat' split) <;> simp -implicitDefEqProofs [ih]

@[simp] theorem State.gutters_mem (s : State) (b i : Nat) (d : Dir) : (s.gutters b i d).mem = s.mem := by
  unfold State.gutters
  (repeat' split) <;> simp -implicitDefEqProofs

@[simp] theorem State.abandon_mem (s : State) (p : Cur) (f : Fibre) : (s.abandon p f).mem = s.mem := by
  unfold State.abandon
  split <;> simp -implicitDefEqProofs

@[simp] theorem State.reserve_mem (s : State) (b i : Nat) : (s.reserve b i).mem = s.mem := by
  unfold State.reserve
  (repeat' split) <;> simp -implicitDefEqProofs

@[simp] theorem State.sendSpawnAck_mem (s : State) (b asid sender : Nat) :
    (s.sendSpawnAck b asid sender).mem = s.mem := by simp -implicitDefEqProofs [State.sendSpawnAck]

@[simp] theorem State.congest_mem (s : State) (b i : Nat) : (s.congest b i).mem = s.mem := by
  unfold State.congest
  dsimp only
  (repeat' split) <;> simp -implicitDefEqProofs

@[simp] theorem State.abandonRec_mem (s : State) (b i u : Nat) : (s.abandonRec b i u).mem = s.mem := by
  unfold State.abandonRec
  split <;> simp -implicitDefEqProofs

@[simp] theorem State.leaveWaits_mem (s t : State) : (s.leaveWaits t).mem = s.mem := by
  unfold State.leaveWaits
  dsimp only
  rw [foldl_mem fun x p => ?_, foldl_mem fun x p => ?_]
  all_goals (repeat' split) <;> simp -implicitDefEqProofs

@[simp] theorem State.cistReport_mem (s : State) (asid u k reason : Nat) : (s.cistReport asid u k reason).mem = s.mem := by
  simp -implicitDefEqProofs [State.cistReport]

@[simp] theorem State.cistArrive_mem (s : State) (asid u k : Nat) (e : Cist) : (s.cistArrive asid u k e).1.mem = s.mem := by
  have hr := State.mayReadRest_mem s e.tbay asid
  unfold State.cistArrive
  dsimp only
  split
  · rename_i t ht
    rwa [ht] at hr
  · rename_i t ht
    rw [ht] at hr
    rw [← hr]
    dsimp only
    (repeat' split) <;> simp -implicitDefEqProofs

@[simp] theorem State.tlbFill_mem (s : State) (st asid va : Nat) (leaf : Word) (p : Nat) :
    (s.tlbFill st asid va leaf p).mem = s.mem := by simp -implicitDefEqProofs [State.tlbFill]

@[simp] theorem State.wake_mem (s : State) (b i u : Nat) : (s.wake b i u).mem = s.mem := by
  unfold State.wake
  (repeat' split) <;> simp -implicitDefEqProofs

@[simp] theorem State.serve_mem (s : State) (b i n : Nat) : (s.serve b i n).mem = s.mem := by
  unfold State.serve
  split <;> simp -implicitDefEqProofs

@[simp] theorem State.postSem_mem (s : State) (b i n cnt : Nat) : (s.postSem b i n cnt).mem = s.mem := by
  unfold State.postSem
  dsimp only
  (repeat' split) <;> simp -implicitDefEqProofs

@[simp] theorem State.tryPost_mem (s : State) (b asid n cnt : Nat) : (s.tryPost b asid n cnt).1.mem = s.mem := by
  unfold State.tryPost
  split <;> simp -implicitDefEqProofs

@[simp] theorem State.postTo_mem (s : State) (b asid n cnt : Nat) : (s.postTo b asid n cnt).mem = s.mem := by
  simp -implicitDefEqProofs [State.postTo]

@[simp] theorem State.phaseAt_mem (s : State) (asid n b : Nat) : (s.phaseAt asid n b).mem = s.mem := by
  unfold State.phaseAt
  split <;> simp -implicitDefEqProofs

@[simp] theorem State.vacate_mem (s : State) (b i k : Nat) : (s.vacate b i k).mem = s.mem := by
  unfold State.vacate
  dsimp only
  (repeat' split) <;> simp -implicitDefEqProofs

@[simp] theorem State.mayRead_mem (s : State) (b asid off n : Nat) : (s.mayRead b asid off n).1.mem = s.mem := by
  unfold State.mayRead
  split
  · rfl
  · exact State.readPages_mem ..

@[simp] theorem State.pagesOk_mem (s : State) (n : Nat) (l : List Chunk) : (s.pagesOk n l).2.mem = s.mem := by
  induction l generalizing s n with
  | nil => rfl
  | cons c r ih =>
    unfold State.pagesOk
    split
    · exact ih ..
    · rename_i b _
      have hr := State.mayRead_mem s b c.owner c.va c.n
      split <;> simp_all -implicitDefEqProofs

@[simp] theorem State.overfill_mem (s : State) (asid u k : Nat) : (s.overfill asid u k).mem = s.mem := by
  unfold State.overfill
  dsimp only
  split <;> simp -implicitDefEqProofs

@[simp] theorem State.sendSeq_mem (s : State) (t : Nat) (x : Sent) : (s.sendSeq t x).mem = s.mem := by
  unfold State.sendSeq
  dsimp only
  (repeat' split) <;> simp -implicitDefEqProofs

@[simp] theorem State.cdoneFor_mem (s : State) (w : Who) (tag : Word) (ok failed reason low : Nat) :
    (s.cdoneFor w tag ok failed reason low).mem = s.mem := by simp -implicitDefEqProofs [State.cdoneFor]

@[simp] theorem State.sendCdone_mem (s : State) (p : Packet) (tag : Word) (ok failed reason low : Nat) :
    (s.sendCdone p tag ok failed reason low).mem = s.mem := by simp -implicitDefEqProofs [State.sendCdone]

@[simp] theorem State.sendCdata_mem (s : State) (p : Packet) (chip : Nat) (tag : Word) (k : Nat) (a : Word) (off : Nat)
    (d : List Byte) : (s.sendCdata p chip tag k a off d).mem = s.mem := by
  induction k generalizing s a off d with
  | zero => rfl
  | succ k ih =>
    unfold State.sendCdata
    dsimp only
    split <;> simp -implicitDefEqProofs [ih]

@[simp] theorem State.replyAs_mem (s : State) (own : Own) (p : Packet) (chip opc : Nat) (addr o0 o1 o2 : Word) (d : List Byte) :
    (s.replyAs own p chip opc addr o0 o1 o2 d).mem = s.mem := by simp -implicitDefEqProofs [State.replyAs]

@[simp] theorem State.reply_mem (s : State) (p : Packet) (opc : Nat) (addr o0 o1 o2 : Word) (d : List Byte) :
    (s.reply p opc addr o0 o1 o2 d).mem = s.mem := by simp -implicitDefEqProofs [State.reply]

@[simp] theorem State.tallySaved_mem (s : State) (b asid off n : Nat) (k : Tally) :
    (s.tallySaved b asid off n k).mem = s.mem := by
  unfold State.tallySaved
  split <;> simp -implicitDefEqProofs

@[simp] theorem State.tallyChunk_mem (s : State) (c : Chunk) (k : Tally) : (s.tallyChunk c k).mem = s.mem := by
  unfold State.tallyChunk
  split <;> simp -implicitDefEqProofs

@[simp] theorem State.dropAct_mem (s : State) (b asid : Nat) (q : BitVec 32) : (s.dropAct b asid q).mem = s.mem := by
  unfold State.dropAct
  split <;> simp -implicitDefEqProofs

@[simp] theorem State.fabOver_mem (s : State) (b asid : Nat) (q : BitVec 32) (unacked : Nat) :
    (s.fabOver b asid q unacked).mem = s.mem := by
  unfold State.fabOver
  split <;> simp -implicitDefEqProofs

@[simp] theorem State.remoteFail_mem (s : State) (own : Own) (asid reason chip opc : Nat) (seq addr : Word) :
    (s.remoteFail own asid reason chip opc seq addr).mem = s.mem := by
  unfold State.remoteFail
  dsimp only
  (repeat' split) <;> simp -implicitDefEqProofs

@[simp] theorem State.subLive_mem (s : State) (asid n : Nat) : (s.subLive asid n).mem = s.mem := by
  simp -implicitDefEqProofs [State.subLive]

@[simp] theorem State.completeCmd_mem (s : State) (b asid e : Nat) (m : Cmd) (cnt : Nat) :
    (s.completeCmd b asid e m cnt).mem = s.mem := by
  unfold State.completeCmd
  dsimp only
  (repeat' split) <;> simp -implicitDefEqProofs

@[simp] theorem State.fabDone_mem (s : State) (b asid : Nat) (a : FabAct) : (s.fabDone b asid a).mem = s.mem := by
  unfold State.fabDone
  split <;> simp -implicitDefEqProofs

@[simp] theorem State.onCdone_mem (s : State) (p : Packet) : (s.onCdone p).mem = s.mem := by
  unfold State.onCdone
  dsimp only
  (repeat' split) <;> simp -implicitDefEqProofs

@[simp] theorem State.deliver_mem (s : State) (asid oBay oSlot : Nat) (p : PFault) :
    (s.deliver asid oBay oSlot p).mem = s.mem := by
  unfold State.deliver
  dsimp only
  (repeat' split) <;> simp -implicitDefEqProofs

@[simp] theorem State.faultPost_mem (s : State) (asid oBay oSlot sem cnt : Nat) (p : PFault) :
    (s.faultPost asid oBay oSlot sem cnt p).mem = s.mem := by
  simp -implicitDefEqProofs [State.faultPost]

@[simp] theorem State.failCmd_mem (s : State) (b asid e : Nat) (m : Cmd) (c : Cause) (v aux : Word) (cnt : Nat) :
    (s.failCmd b asid e m c v aux cnt).mem = s.mem := by
  unfold State.failCmd
  dsimp only
  (repeat' split) <;> simp -implicitDefEqProofs

@[simp] theorem State.fabFail_mem (s : State) (b asid : Nat) (m : Cmd) (c : Cause) (v : Word) :
    (s.fabFail b asid m c v).mem = s.mem := by
  unfold State.fabFail
  split <;> simp -implicitDefEqProofs

@[simp] theorem State.answer_mem (s : State) (a b : Nat) (ev : Ev) : (s.answer a b ev).mem = s.mem := by
  simp -implicitDefEqProofs [State.answer]

@[simp] theorem State.gotLoad_mem (s : State) (u rid v : Nat) : (s.gotLoad u rid v).mem = s.mem := by
  unfold State.gotLoad
  split <;> simp -implicitDefEqProofs

@[simp] theorem State.hostCopyGot_mem (s : State) (q : BitVec 32) (f : CopyAct → CopyAct) :
    (s.hostCopyGot q f).mem = s.mem := by
  unfold State.hostCopyGot
  dsimp only
  (repeat' split) <;> simp -implicitDefEqProofs

@[simp] theorem State.modCopy_mem (s : State) (b i q : Nat) (f : CopyAct → CopyAct) :
    (s.modCopy b i q f).mem = s.mem := by simp -implicitDefEqProofs [State.modCopy]

@[simp] theorem State.gotCopy_mem (s : State) (b asid : Nat) (q : BitVec 32) (pos n : Nat) (d : List Byte) :
    (s.gotCopy b asid q pos n d).mem = s.mem := by
  unfold State.gotCopy
  dsimp only
  (repeat' split) <;> simp -implicitDefEqProofs

@[simp] theorem State.sendCstop_mem (s : State) (p : Packet) (reason : Nat) : (s.sendCstop p reason).mem = s.mem := by
  simp -implicitDefEqProofs [State.sendCstop]

@[simp] theorem State.consSignal_mem (s : State) (p : Packet) : (s.consSignal p).1.mem = s.mem := by
  have hp := State.tryPost_mem s (bits p.o0 62 52) p.asid (bits p.o0 51 42) 1
  unfold State.consSignal
  (repeat' split) <;> simp_all -implicitDefEqProofs

@[simp] theorem State.consReport_mem (s : State) (p : Packet) (placed reason : Nat) :
    (s.consReport p placed reason).mem = s.mem := by
  unfold State.consReport
  dsimp only
  split <;> simp -implicitDefEqProofs

@[simp] theorem State.releaseMark_mem (s : State) (o : MemOrd) : (s.releaseMark o).mem = s.mem := by
  unfold State.releaseMark
  split <;> simp -implicitDefEqProofs

@[simp] theorem State.awaitNewest_mem (s : State) : s.awaitNewest.mem = s.mem := by
  simp -implicitDefEqProofs [State.awaitNewest]

@[simp] theorem State.localFault_mem (s : State) (u : Nat) (pc ea : Word) (c : Cause) (dest : Option GReg) :
    (s.localFault u pc ea c dest).mem = s.mem := by simp -implicitDefEqProofs [State.localFault]

@[simp] theorem State.localReturn_mem (s : State) (u : Nat) (d : GReg) (v : Word) :
    (s.localReturn u d v).mem = s.mem := by simp -implicitDefEqProofs [State.localReturn]

@[simp] theorem State.takeEntry_mem (s : State) (a : Access) : (s.takeEntry a).mem = s.mem := by
  simp -implicitDefEqProofs [State.takeEntry]

@[simp] theorem State.enterRing_mem (s : State) (f : Fibre) (a : Access) : (s.enterRing f a).mem = s.mem := by
  unfold State.enterRing
  split <;> simp -implicitDefEqProofs

@[simp] theorem State.clearMact_mem (s : State) (b i : Nat) : (s.clearMact b i).mem = s.mem := by
  simp -implicitDefEqProofs [State.clearMact]

@[simp] theorem State.vecLeave_mem (s : State) (l : List VEnt) : (s.vecLeave l).mem = s.mem := by
  induction l generalizing s with
  | nil => rfl
  | cons e r ih =>
    unfold State.vecLeave
    split <;> simp -implicitDefEqProofs [ih]

@[simp] theorem State.dropRdv_mem (s : State) (b i : Nat) (l : List VEnt) : (s.dropRdv b i l).mem = s.mem := by
  induction l generalizing s with
  | nil => rfl
  | cons e r ih =>
    unfold State.dropRdv
    split <;> simp -implicitDefEqProofs [ih]

@[simp] theorem State.unlock_mem (s : State) : s.unlock.mem = s.mem := by
  unfold State.unlock
  split <;> simp -implicitDefEqProofs

@[simp] theorem State.ackSpawn_mem (s : State) (b i sender : Nat) : (s.ackSpawn b i sender).mem = s.mem := by
  unfold State.ackSpawn
  (repeat' split) <;> simp -implicitDefEqProofs

@[simp] theorem State.abandonCopies_mem (s : State) (b i asid : Nat) (l : List CopyAct) :
    (s.abandonCopies b i asid l).mem = s.mem := by
  unfold State.abandonCopies
  exact foldl_mem (fun t a => by dsimp only; split <;> simp -implicitDefEqProofs) _ _

@[simp] theorem State.stopBay_mem (s : State) (b : Nat) : (s.stopBay b).mem = s.mem := by
  unfold State.stopBay
  split <;> simp -implicitDefEqProofs

@[simp] theorem State.planEntry_mem (s : State) (e : PlanEntry) : (s.planEntry e).mem = s.mem := by
  unfold State.planEntry
  dsimp only
  split
  · simp -implicitDefEqProofs
  · split
    · rfl
    · exact foldl_mem (fun t b => by split <;> simp -implicitDefEqProofs) _ _

@[simp] theorem State.unpark_mem (s : State) (b i : Nat) : (s.unpark b i).mem = s.mem := by
  unfold State.unpark
  split <;> simp -implicitDefEqProofs

@[simp] theorem State.activate_mem (s : State) (b i : Nat) : (s.activate b i).mem = s.mem := by
  unfold State.activate
  dsimp only
  (repeat' split) <;> simp -implicitDefEqProofs

@[simp] theorem State.joinRestored_mem (s : State) (asid : Nat) : (s.joinRestored asid).mem = s.mem := by
  unfold State.joinRestored
  split
  · rfl
  · exact foldl_mem (fun t p => by (repeat' split) <;> simp -implicitDefEqProofs) _ _

@[simp] theorem State.postFronts_mem (s : State) (lane : Nat) (l : List Ev) : (s.postFronts lane l).mem = s.mem := by
  simp -implicitDefEqProofs [State.postFronts]

@[simp] theorem State.beginSave_mem (s : State) (e : PlanEntry) (b asid : Nat) :
    (s.beginSave e b asid).mem = s.mem := by
  unfold State.beginSave
  split <;> simp -implicitDefEqProofs

@[simp] theorem State.planStep_mem (s : State) (e : PlanEntry) (b : Nat) (go : Bool) :
    (s.planStep e b go).mem = s.mem := by
  unfold State.planStep
  dsimp only
  (repeat' split) <;> simp -implicitDefEqProofs

@[simp] theorem State.sendCist_mem (s : State) (h : Word) (e : Ev) : (s.sendCist h e).mem = s.mem := by
  simp -implicitDefEqProofs [State.sendCist]

@[simp] theorem State.cistFault_mem (s : State) (m : CistMsg) (reason : Nat) : (s.cistFault m reason).mem = s.mem := by
  simp -implicitDefEqProofs [State.cistFault]

@[simp] theorem State.fenceBay_mem (s : State) (b origin what : Nat) : (s.fenceBay b origin what).mem = s.mem := by
  simp -implicitDefEqProofs [State.fenceBay, foldl_mem]

@[simp] theorem State.answerWith_mem (s : State) (n : Nat) : (s.answerWith n).mem = s.mem := by
  simp -implicitDefEqProofs [State.answerWith]

@[simp] theorem State.spend_mem (s : State) : s.spend.mem = s.mem := by simp -implicitDefEqProofs [State.spend]

@[simp] theorem State.refuseMail_mem (s : State) : s.refuseMail.mem = s.mem := by
  simp -implicitDefEqProofs [State.refuseMail]

@[simp] theorem State.modPort_mem (s : State) (k : Nat) (f : FPort → FPort) : (s.modPort k f).mem = s.mem := by
  simp -implicitDefEqProofs [State.modPort]

@[simp] theorem State.train_mem (s : State) (k : Nat) : (s.train k).mem = s.mem := by
  unfold State.train
  dsimp only
  (repeat' split) <;> simp -implicitDefEqProofs

@[simp] theorem State.reinject_mem (s : State) (k : Nat) (l : List (Nat × Packet)) : (s.reinject k l).mem = s.mem :=
  foldl_mem (fun _ _ => State.postFree_mem ..) _ _

@[simp] theorem State.release_mem (s : State) : s.release.mem = s.mem :=
  foldl_mem (fun _ _ => State.postFree_mem ..) _ { s with held := [] }

@[simp] theorem State.linkLost_mem (s : State) (k : Nat) (st : PortSt) : (s.linkLost k st).mem = s.mem := by
  unfold State.linkLost
  dsimp only
  split
  · rw [foldl_mem fun _ _ => State.postFree_mem ..]; simp -implicitDefEqProofs
  · simp -implicitDefEqProofs

@[simp] theorem State.replaced_mem (s : State) : s.replaced.mem = s.mem := by
  unfold State.replaced
  split
  · exact foldl_mem (fun _ _ => State.endCtx_mem ..) _ _
  · rfl

@[simp] theorem State.awaitPhase_mem (s : State) (n code u : Nat) : (s.awaitPhase n code u).mem = s.mem := by
  simp -implicitDefEqProofs [State.awaitPhase]

@[simp] theorem State.resetAll_mem (s : State) : s.resetAll.mem = s.mem := by
  simp -implicitDefEqProofs [State.resetAll]

@[simp] theorem State.startFault_mem (s : State) (asid : Nat) : (s.startFault asid).mem = s.mem := by
  unfold State.startFault
  (repeat' split) <;> simp -implicitDefEqProofs

@[simp] theorem State.fillFault_mem (s : State) (asid : Nat) : (s.fillFault asid).mem = s.mem := by
  unfold State.fillFault
  split <;> simp -implicitDefEqProofs

@[simp] theorem State.copyAsk_mem (s : State) (b asid : Nat) (q : BitVec 32) (l : List (Nat × Nat × Nat × Nat)) :
    (s.copyAsk b asid q l).mem = s.mem := by
  induction l generalizing s with
  | nil => rfl
  | cons x r ih => simp -implicitDefEqProofs [State.copyAsk, ih]

@[simp] theorem State.copyPut_mem (s : State) (b asid : Nat) (q : BitVec 32) (l : List (Nat × Nat × List Byte)) :
    (s.copyPut b asid q l).mem = s.mem := by
  induction l generalizing s with
  | nil => rfl
  | cons x r ih => simp -implicitDefEqProofs [State.copyPut, ih]

@[simp] theorem State.modHost_mem (s : State) (h : HostPkt) (a : CopyAct) : (s.modHost h a).mem = s.mem := by
  simp -implicitDefEqProofs [State.modHost]

@[simp] theorem State.givenGroups_mem (s : State) : s.givenGroups.mem = s.mem := by
  unfold State.givenGroups
  exact foldl_mem (fun t x => by split <;> rfl) _ _

@[simp] theorem State.timeTree_mem (s : State) : s.timeTree.mem = s.mem := by
  simp -implicitDefEqProofs [State.timeTree]

@[simp] theorem State.bringUp_mem (s : State) : s.bringUp.mem = s.mem := by
  simp -implicitDefEqProofs [State.bringUp]

@[simp] theorem State.openFront_mem (s : State) : s.openFront.mem = s.mem := by
  unfold State.openFront
  split <;> simp -implicitDefEqProofs

@[simp] theorem State.yieldCur_mem (s : State) (u : Nat) : (s.yieldCur u).mem = s.mem := by
  simp -implicitDefEqProofs [State.yieldCur]

@[simp] theorem State.dropCopy_mem (s : State) (b i q : Nat) : (s.dropCopy b i q).mem = s.mem := by
  simp -implicitDefEqProofs [State.dropCopy]

@[simp] theorem State.refusedRecord_mem (s : State) (h : HostPkt) (c : Option Ctx) (status cond : Nat) :
    (s.refusedRecord h c status cond).2.mem = s.mem := by simp -implicitDefEqProofs [State.refusedRecord]

@[simp] theorem State.cistAnswer_mem (s : State) (m : CistMsg) : (s.cistAnswer m).mem = s.mem := by
  simp -implicitDefEqProofs [State.cistAnswer]

@[simp] theorem State.icFill_mem (s : State) (b key : Nat) (v : BitVec 512) : (s.icFill b key v).mem = s.mem := by
  simp -implicitDefEqProofs [State.icFill]

@[simp] theorem fetchFaults_mem (b i : Nat) (line : Word) (c : Cause) (l : List Nat) (s : State) :
    (fetchFaults b i line c l s).mem = s.mem := by
  induction l generalizing s with
  | nil => rfl
  | cons k r ih =>
    unfold fetchFaults
    (repeat' split) <;> simp -implicitDefEqProofs [ih]

@[simp] theorem State.newTok_mem (s : State) (t : Tok) : (s.newTok t).1.mem = s.mem := by
  simp -implicitDefEqProofs [State.newTok]

@[simp] theorem State.cmdSend_mem (s : State) (b asid : Nat) (m : Cmd) (chip : Nat) (lines : List Nat) (p : Packet) :
    (s.cmdSend b asid m chip lines p).mem = s.mem := by simp -implicitDefEqProofs [State.cmdSend]

@[simp] theorem State.stageSend_mem (s : State) (b i asid : Nat) (a : FabAct) (g : Staged) :
    (s.stageSend b i asid a g).mem = s.mem := by simp -implicitDefEqProofs [State.stageSend]

@[simp] theorem State.fabCheck_mem (s : State) (b asid : Nat) (q : BitVec 32) : (s.fabCheck b asid q).mem = s.mem := by
  unfold State.fabCheck
  (repeat' split) <;> simp -implicitDefEqProofs

@[simp] theorem State.maybePlaced_mem (s : State) (l : List Sent) : (s.maybePlaced l).1.mem = s.mem := by
  have h : ∀ y : State × Nat, (l.foldl (fun y x => (y.1.spend, y.2 + if y.1.freeNat % 2 = 0 then x.pkt.count else 0)) y).1.mem
      = y.1.mem := by
    induction l with
    | nil => exact fun _ => rfl
    | cons x r ih => exact fun y => (ih _).trans (State.spend_mem _)
  exact h (s, 0)

@[simp] theorem State.ackedPlaced_mem (s : State) (o : OutCons) : (s.ackedPlaced o).1.mem = s.mem := by
  unfold State.ackedPlaced
  split <;> simp -implicitDefEqProofs

@[simp] theorem State.consTimeout_mem (s : State) (t : Nat) (lost : List Sent) (x : Sent) (tag : Word) :
    (s.consTimeout t lost x tag).mem = s.mem := by
  unfold State.consTimeout
  split <;> simp -implicitDefEqProofs

@[simp] theorem State.endAwaiting_mem (s : State) (t : Nat) (lost : List Sent) : (s.endAwaiting t lost).mem = s.mem := by
  unfold State.endAwaiting
  exact foldl_mem (fun _ _ => State.endCtx_mem ..) _ _

@[simp] theorem State.groupsLost_mem (s : State) (t : Nat) : (s.groupsLost t).mem = s.mem := by
  unfold State.groupsLost
  exact foldl_mem (fun x g => by split <;> simp -implicitDefEqProofs) _ _

@[simp] theorem State.dropToks_mem (s : State) (t : Nat) : (s.dropToks t).mem = s.mem := by
  simp -implicitDefEqProofs [State.dropToks]

@[simp] theorem State.tearDown_mem (s : State) (t : Nat) : (s.tearDown t).mem = s.mem := by
  unfold State.tearDown
  dsimp only
  rw [State.logEvent_mem, State.groupsLost_mem, foldl_mem fun x k => by split <;> simp -implicitDefEqProofs]
  simp -implicitDefEqProofs

@[simp] theorem State.onResync_mem (s : State) (p : Packet) : (s.onResync p).mem = s.mem := by
  unfold State.onResync
  split <;> simp -implicitDefEqProofs

@[simp] theorem State.sendPost_mem (s : State) (b asid : Nat) (m : Cmd) (cnt : Nat) :
    (s.sendPost b asid m cnt).mem = s.mem := by
  unfold State.sendPost
  split <;> simp -implicitDefEqProofs

@[simp] theorem State.matPost_mem (s : State) (b asid : Nat) (m : Cmd) : (s.matPost b asid m).mem = s.mem := by
  simp -implicitDefEqProofs [State.matPost]

@[simp] theorem State.switchTo_mem (s : State) (b i : Nat) : (s.switchTo b i).mem = s.mem := by
  unfold State.switchTo
  dsimp only
  (repeat' split) <;> simp -implicitDefEqProofs

@[simp] theorem State.takeTurn_mem (s : State) (b : Nat) : (s.takeTurn b).mem = s.mem := by
  unfold State.takeTurn
  dsimp only
  (repeat' split) <;> simp -implicitDefEqProofs

@[simp] theorem State.turns_mem (s : State) (part : BitVec 26) : (s.turns part).mem = s.mem := by
  unfold State.turns
  dsimp only
  rw [foldl_mem fun t b => by split <;> simp -implicitDefEqProofs, foldl_mem fun _ _ => State.takeTurn_mem ..]

@[simp] theorem State.departed_mem (s : State) (p : Packet) : (s.departed p).mem = s.mem := by
  unfold State.departed
  (repeat' split) <;> simp -implicitDefEqProofs

@[simp] theorem State.holdPacket_mem (s : State) (p : Packet) (h : Hop) : (s.holdPacket p h).mem = s.mem := by
  simp -implicitDefEqProofs [State.holdPacket]

@[simp] theorem State.taken_mem (s : State) (p : Packet) (h : Hop) : (s.taken p h).mem = s.mem := by
  unfold State.taken
  split <;> simp -implicitDefEqProofs

@[simp] theorem State.linkNews_mem (s : State) (k cls : Nat) : (s.linkNews k cls).mem = s.mem := by
  simp -implicitDefEqProofs [State.linkNews]

@[simp] theorem State.forwardOn_mem (s : State) (k : Nat) (p : Packet) (h : Hop) (det : Bool) :
    (s.forwardOn k p h det).mem = s.mem := by
  unfold State.forwardOn
  dsimp only
  (repeat' split) <;> simp -implicitDefEqProofs

@[simp] theorem State.passUp_mem (s : State) (e : Group) (asid g : Nat) (x : Gather) :
    (s.passUp e asid g x).mem = s.mem := by
  unfold State.passUp
  split <;> simp -implicitDefEqProofs

@[simp] theorem State.gathered_mem (s : State) (e : Group) (asid g : Nat) (x : Gather) :
    (s.gathered e asid g x).mem = s.mem := by
  unfold State.gathered
  split <;> simp -implicitDefEqProofs

@[simp] theorem State.regather_mem (s : State) (asid g : Nat) (moved : Bool) (l : List Gather) :
    (s.regather asid g moved l).mem = s.mem := by
  induction l generalizing s with
  | nil => rfl
  | cons x r ih =>
    unfold State.regather
    rw [ih]
    split <;> simp -implicitDefEqProofs

@[simp] theorem State.modOut_mem (s : State) (chip asid : Nat) (tag : Word) (f : OutCons → OutCons) :
    (s.modOut chip asid tag f).mem = s.mem := by
  unfold State.modOut
  dsimp only
  split <;> simp -implicitDefEqProofs

@[simp] theorem State.dropSent_mem (s : State) (t : Nat) (gone : BitVec 32 → Bool) :
    (s.dropSent t gone).1.mem = s.mem := by simp -implicitDefEqProofs [State.dropSent]

@[simp] theorem State.holdMrcmd_mem (s : State) (code : Nat) (m : MrMsg) : (s.holdMrcmd code m).mem = s.mem := by
  simp -implicitDefEqProofs [State.holdMrcmd]

@[simp] theorem State.remoteAccess_mem (s : State) (u : Nat) (a : Access) (chip woff : Nat) :
    (s.remoteAccess u a chip woff).mem = s.mem := by
  unfold State.remoteAccess
  dsimp only
  (repeat' split) <;> simp -implicitDefEqProofs

@[simp] theorem State.cistArm_mem (s : State) (asid : Nat) (h : Word) (desc : List Word) :
    (s.cistArm asid h desc).1.mem = s.mem := by
  unfold State.cistArm
  dsimp only
  split <;> simp -implicitDefEqProofs

@[simp] theorem State.cmdAcked_mem (s : State) (b asid : Nat) (q : BitVec 32) (t : Nat) (p : Packet) :
    (s.cmdAcked b asid q t p).mem = s.mem := by
  unfold State.cmdAcked
  dsimp only
  split <;> simp -implicitDefEqProofs

@[simp] theorem State.packetAcked_mem (s : State) (t : Nat) (x : Sent) : (s.packetAcked t x).mem = s.mem := by
  unfold State.packetAcked
  dsimp only
  (repeat' split) <;> simp -implicitDefEqProofs

@[simp] theorem State.onAck_mem (s : State) (p : Packet) : (s.onAck p).mem = s.mem := by
  simp -implicitDefEqProofs [State.onAck]

@[simp] theorem State.startOn_mem (s : State) (asid b : Nat) : (s.startOn asid b).mem = s.mem := by
  unfold State.startOn
  (repeat' split) <;> simp -implicitDefEqProofs

@[simp] theorem State.placeFibres_mem (s : State) (asid : Nat) (r : LaunchReq) (b : Nat) :
    (s.placeFibres asid r b).mem = s.mem := by
  unfold State.placeFibres
  split <;> simp -implicitDefEqProofs

@[simp] theorem State.matchCredit_mem (s : State) (x asid : Nat) (d : Dir) : (s.matchCredit x asid d).mem = s.mem := by
  unfold State.matchCredit
  split <;> simp -implicitDefEqProofs

@[simp] theorem State.freeEntry_mem (s : State) (u rid : Nat) (f : Fibre → Fibre) :
    (s.freeEntry u rid f).mem = s.mem := by simp -implicitDefEqProofs [State.freeEntry]

@[simp] theorem State.openGroups_mem (s : State) (asid g : Nat) (l : List Box) : (s.openGroups asid g l).mem = s.mem := by
  induction l generalizing s g with
  | nil => rfl
  | cons x r ih =>
    unfold State.openGroups
    split <;> simp -implicitDefEqProofs [ih]

@[simp] theorem State.winWrite_mem (s : State) (w : WinReq) (n : Nat) : (s.winWrite w n).mem = s.mem := by
  unfold State.winWrite
  split <;> simp -implicitDefEqProofs

@[simp] theorem State.serveBind_mem (s : State) (b i : Nat) : (s.serveBind b i).mem = s.mem := by
  unfold State.serveBind
  (repeat' split) <;> simp -implicitDefEqProofs

@[simp] theorem State.freeVec_mem (s : State) (b i v : Nat) : (s.freeVec b i v).mem = s.mem := by
  simp -implicitDefEqProofs [State.freeVec]

@[simp] theorem State.exitFibre_mem (s : State) (b i k asid : Nat) (f : Fibre) :
    (s.exitFibre b i k asid f).mem = s.mem := by
  unfold State.exitFibre
  dsimp only
  rw [State.leaveWaits_mem, foldl_mem fun _ _ => State.toFaultFibre_mem .., State.subLive_mem]
  split <;> simp -implicitDefEqProofs

@[simp] theorem State.stopCons_mem (s : State) (chip asid : Nat) (tag : Word) :
    (s.stopCons chip asid tag).mem = s.mem := by simp -implicitDefEqProofs [State.stopCons]

@[simp] theorem State.linkBack_mem (s : State) (k : Nat) : (s.linkBack k).mem = s.mem := by
  simp -implicitDefEqProofs [State.linkBack]

@[simp] theorem State.groupAck_mem (s : State) (g : Nat) (p : Packet) : (s.groupAck g p).mem = s.mem := by
  unfold State.groupAck
  dsimp only
  (repeat' split) <;> simp -implicitDefEqProofs

@[simp] theorem State.copySegDone_mem (s : State) (b i : Nat) (a : CopyAct) : (s.copySegDone b i a).mem = s.mem := by
  unfold State.copySegDone
  dsimp only
  (repeat' split) <;> simp -implicitDefEqProofs

@[simp] theorem State.countBeat_mem (s : State) (b asid : Nat) (a x : CopyAct) :
    (s.countBeat b asid a x).mem = s.mem := by
  unfold State.countBeat
  split <;> simp -implicitDefEqProofs

@[simp] theorem State.scrubControl_mem (s : State) (b what : Nat) (found : ErrFind) :
    (s.scrubControl b what found).mem = s.mem := by
  unfold State.scrubControl
  (repeat' split) <;> simp -implicitDefEqProofs

@[simp] theorem State.scrubLine_mem (s : State) (b key : Nat) (found : ErrFind) :
    (s.scrubLine b key found).mem = s.mem := by
  unfold State.scrubLine
  split <;> simp -implicitDefEqProofs

@[simp] theorem State.moveKey_mem (s : State) (b i j : Nat) : (s.moveKey b i j).mem = s.mem := by
  unfold State.moveKey
  split <;> simp -implicitDefEqProofs

@[simp] theorem State.tileAcks_mem (s : State) (b i q n : Nat) : (s.tileAcks b i q n).mem = s.mem := by
  induction n generalizing s with
  | zero => rfl
  | succ n ih =>
    unfold State.tileAcks
    (repeat' split) <;> simp -implicitDefEqProofs [ih]

@[simp] theorem State.modHome_mem (s : State) (u : Nat) (f : Fibre → Fibre) : (s.modHome u f).mem = s.mem := by
  unfold State.modHome
  split <;> simp -implicitDefEqProofs

@[simp] theorem State.refill_mem (s : State) (p : Cur) : (s.refill p).mem = s.mem := by
  unfold State.refill
  (repeat' split) <;> simp -implicitDefEqProofs

@[simp] theorem writeSys_mem (s : State) (n : Nat) (v : Word) : (writeSys s n v).mem = s.mem := by
  unfold writeSys
  (repeat' split) <;> simp -implicitDefEqProofs

@[simp] theorem State.parkItem_mem (s : State) (b i : Nat) (t : Item) : (s.parkItem b i t).mem = s.mem := by
  unfold State.parkItem
  split <;> simp -implicitDefEqProofs

end Sys2Proof.Machine
end

section
/-!
SUPPORT. What writes memory keeps it canonical: records for the host, bytes that become zero, the cellar, cisterns and
barriers, windows.
-/
namespace Sys2Proof.Machine

/-- A fold of changes that keep the canonical form keeps it. -/
theorem foldl_Inv {α : Type} {f : State → α → State} (hf : ∀ t x, t.Inv → (f t x).Inv) (l : List α) {s : State} (h : s.Inv) :
    (l.foldl f s).Inv := by
  induction l generalizing s with
  | nil => exact h
  | cons x r ih => exact ih (hf s x h)

/-! The laws of memory as rules for `simp`, with the canonical state first -/

@[simp] theorem State.imaged_Inv' {s t : State} (hs : s.Inv) (ht : t.Inv) (b asid : Nat) : (s.imaged t b asid).Inv :=
  State.imaged_Inv b asid hs ht

@[simp] theorem memPuts_wf' {m : List Host.Cell} (h : Memory.wf m = true) (l : List Byte) (a : Nat) :
    Memory.wf (memPuts m a l) = true :=
  memPuts_wf l m a h

@[simp] theorem State.writeDs_Inv' {s : State} (h : s.Inv) (l : List Word) (a : Nat) : (s.writeDs a l).Inv :=
  State.writeDs_Inv l s a h

/-! ### Records of errors, and the reports to the host (R431, R449) -/

@[simp] theorem State.errWrite_Inv {s : State} (h : s.Inv) (ws : List Word) : (s.errWrite ws).Inv := by
  unfold State.errWrite
  exact foldl_Inv (fun t j ht => State.writeDs_Inv _ t _ ht) _ h

@[simp] theorem State.errPush_Inv {s : State} (h : s.Inv) (kind : Nat) (ws : List Word) : (s.errPush kind ws).Inv := by
  unfold State.errPush
  split
  · exact State.errWrite_Inv h ws
  · split <;> exact h

@[simp] theorem State.memError_Inv {s : State} (h : s.Inv) (key asid : Nat) : (s.memError key asid).Inv := by
  simp [State.memError, State.Inv, h]

@[simp] theorem State.vecError_Inv {s : State} (h : s.Inv) (bay asid v r : Nat) : (s.vecError bay asid v r).Inv :=
  State.errPush_Inv h ..

@[simp] theorem State.reportNow_Inv {s : State} (h : s.Inv) (p : HostPkt) (dw0 : Nat) (rec : List Word) :
    (s.reportNow p dw0 rec).Inv := by
  unfold State.reportNow
  dsimp only
  have h1 : (if rec = [] then s else s.writeDs (compKey (s.blkD p 0x48).toNat) rec).Inv := by
    split
    · exact h
    · exact State.writeDs_Inv' h ..
  generalize (if rec = [] then s else s.writeDs (compKey (s.blkD p 0x48).toNat) rec) = s1 at h1
  have h2 := State.writeDs_Inv' h1 [toW dw0] (compKey p.blk)
  split
  · exact h2
  · exact State.writeDs_Inv' h2 ..

@[simp] theorem State.complete_Inv {s : State} (h : s.Inv) (p : HostPkt) (status result : Nat) :
    (s.complete p status result).Inv :=
  State.reportNow_Inv h ..

@[simp] theorem State.completeLaunch_Inv {s : State} (h : s.Inv) (p : HostPkt) (status result : Nat) (rec : List Word) :
    (s.completeLaunch p status result rec).Inv := by
  unfold State.completeLaunch
  dsimp only
  split
  · exact h
  · exact State.reportNow_Inv h ..

@[simp] theorem State.flushErr_Inv {s : State} (h : s.Inv) (n : Nat) : (s.flushErr n).Inv := by
  induction n generalizing s with
  | zero => exact h
  | succ n ih =>
    unfold State.flushErr
    split
    · exact foldl_Inv (fun t x ht => State.reportNow_Inv ht ..) _ h
    · split
      · exact ih (State.errWrite_Inv h _)
      · exact h

@[simp] theorem State.flush_Inv {s : State} (h : s.Inv) : s.flush.Inv :=
  State.flushErr_Inv h _

@[simp] theorem State.closeLaunch_Inv {s : State} (h : s.Inv) (asid status : Nat) : (s.closeLaunch asid status).Inv := by
  unfold State.closeLaunch
  (repeat' split) <;> simp [State.Inv, h]

@[simp] theorem State.copyEnd_Inv {s : State} (h : s.Inv) (p : HostPkt) (status result : Nat) :
    (s.copyEnd p status result).Inv := by
  simp [State.copyEnd, State.Inv, h]

@[simp] theorem State.dropCopies_Inv {s : State} (h : s.Inv) (ctxid : BitVec 32) : (s.dropCopies ctxid).Inv :=
  foldl_Inv (fun _ _ ht => State.complete_Inv ht ..) _ h

@[simp] theorem State.refuseTyped_Inv {s : State} (h : s.Inv) (p : HostPkt) (type : Nat) (x : Bad) :
    (s.refuseTyped p type x).Inv := by
  unfold State.refuseTyped
  dsimp only
  split <;> simp [State.Inv, h]

@[simp] theorem State.takePacket_Inv {s : State} (h : s.Inv) (q : Nat) (u : HQueue) : (s.takePacket q u).Inv := by
  simp [State.takePacket, State.Inv, h]

/-- A packet that the front end begins with leaves memory canonical, whatever its answer (R438, R439, R447). -/
theorem State.beginPacket_Inv {s : State} (h : s.Inv) (q : Nat) (u : HQueue) : ∀ t ∈ s.beginPacket q u, t.Inv := by
  unfold State.beginPacket
  dsimp only
  (repeat' split) <;> simp [State.Inv, h]

theorem State.serveQueue_Inv {s : State} (h : s.Inv) (q : Nat) (u : HQueue) : ∀ t ∈ s.serveQueue q u, t.Inv := by
  unfold State.serveQueue
  dsimp only
  split
  · simp
  · exact State.beginPacket_Inv h q u

@[simp] theorem State.farArm_Inv {s : State} (h : s.Inv) (p : HostPkt) (c : Ctx) (a : Word) (e : Cist) :
    (s.farArm p c a e).Inv := by
  unfold State.farArm
  dsimp only
  split <;> exact State.complete_Inv h ..

@[simp] theorem State.farSignal_Inv {s : State} (h : s.Inv) (p : HostPkt) (chip : Nat) : (s.farSignal p chip).Inv :=
  State.complete_Inv h ..

/-! ### Bytes that become zero (R128, R455, R463) -/

@[simp] theorem State.zeroUnits_Inv {s : State} (h : s.Inv) (asid : Nat) (bay : Option Nat) : (s.zeroUnits asid bay).Inv :=
  filter_wf _ _ h

@[simp] theorem State.releaseCtx_Inv {s : State} (h : s.Inv) (asid : Nat) : (s.releaseCtx asid).Inv :=
  filter_wf _ _ h

@[simp] theorem State.wipeBay_Inv {s : State} (h : s.Inv) (b : Nat) (fenced : Bool) : (s.wipeBay b fenced).Inv :=
  filter_wf _ _ h

/-! ### Translation (R130 to R137) -/

theorem State.translateAt_Inv {s : State} (h : s.Inv) (st asid : Nat) (va : Word) (n : Need) :
    (s.translateAt st asid va n).2.Inv := by
  unfold State.translateAt
  dsimp only
  (repeat' split) <;> simp [State.Inv, h]

/-! ### The cellar (R203 to R209) -/

theorem State.cellarAccess_Inv {s : State} (h : s.Inv) (b asid rec : Nat) (n : Need) :
    (s.cellarAccess b asid rec n).1.Inv := by
  unfold State.cellarAccess
  split
  · exact h
  · rename_i c _
    have ht := State.translateAt_Inv h (homeStation b) asid (c.cellarVa + toW ((b * 2 ^ c.capK + rec) * 512)) n
    (repeat' split) <;> simp_all [State.Inv]

theorem State.cellarOr_Inv {s : State} (h : s.Inv) (b asid rec : Nat) (n : Need) {k : State → State}
    (hk : ∀ t, t.Inv → (k t).Inv) : (s.cellarOr b asid rec n k).Inv := by
  have hc := State.cellarAccess_Inv h b asid rec n
  unfold State.cellarOr
  split
  · rename_i t e
    rw [e] at hc
    exact hk t hc
  · rename_i t e
    rw [e] at hc
    simpa [State.Inv] using hc

/-- A request that is placed, in a slot or as a record, leaves memory canonical (R174). -/
theorem State.place_Inv {s t : State} (h : s.Inv) {b i : Nat} {r : CRec} {k : Option Nat} (e : s.place b i r = some (t, k)) :
    t.Inv := by
  unfold State.place at e
  dsimp only at e
  split at e
  · cases e
  · split at e
    · cases e
      split <;> simp [State.Inv, h]
    · split at e
      · cases e
        refine State.cellarOr_Inv h _ _ _ _ fun u hu => ?_
        split <;> simpa [State.Inv] using hu
      · cases e

@[simp] theorem State.placeOrHold_Inv {s : State} (h : s.Inv) (b i : Nat) (x : Held) : (s.placeOrHold b i x).Inv := by
  unfold State.placeOrHold
  split
  · exact h
  · split
    · split
      · rename_i t _ e
        simpa [State.Inv] using State.place_Inv h e
      · exact h
    · exact h

@[simp] theorem State.placeHeld_Inv {s : State} (h : s.Inv) (b i : Nat) (l : List Held) : (s.placeHeld b i l).Inv := by
  induction l generalizing s with
  | nil => exact h
  | cons x r ih =>
    unfold State.placeHeld
    split
    · rename_i t _ e
      exact ih (by simpa [State.Inv] using State.place_Inv h e)
    · exact h

/-! ### Cisterns and barriers (R223 to R233, R386 to R404) -/

theorem State.signalWord_Inv {s : State} (h : s.Inv) (asid u : Nat) (e : Cist) : (s.signalWord asid u e).1.Inv := by
  have hp := fun b off key d => State.putSaved_Inv b asid off key d h
  have ht := State.translateAt_Inv h (4 * (u - 2048)) asid (e.dw 3) .write
  unfold State.signalWord
  dsimp only
  (repeat' split) <;> simp_all [State.Inv]

theorem State.cistSpawn_Inv {s : State} (h : s.Inv) (asid u k : Nat) (e : Cist) : (s.cistSpawn asid u k e).1.Inv := by
  unfold State.cistSpawn
  dsimp only
  split
  · simp [State.Inv, h]
  · split
    · simp [State.Inv, h]
    · split
      · simp [State.Inv, h]
      · split
        · rename_i hp
          exact State.place_Inv h hp
        · simp [State.Inv, h]

theorem State.perform_Inv {s : State} (h : s.Inv) (asid u k : Nat) (e : Cist) : (s.perform asid u k e).1.Inv := by
  have hw := State.signalWord_Inv h asid u e
  unfold State.perform
  split
  · split <;> simp [State.Inv, h]
  · split
    · simp [State.Inv, h]
    · split
      · exact State.cistSpawn_Inv h ..
      · (repeat' split) <;> simp_all [State.Inv]

@[simp] theorem State.cistAct_Inv {s : State} (h : s.Inv) (asid u k : Nat) : (s.cistAct asid u k).Inv := by
  unfold State.cistAct
  dsimp only
  have h1 : ((if u < 2048 then s else s.tally (4 * (u - 2048)) .actions 1).pulse asid).Inv := by
    split <;> simp [State.Inv, h]
  generalize (if u < 2048 then s else s.tally (4 * (u - 2048)) .actions 1).pulse asid = s1 at h1
  have hp := State.perform_Inv h1 asid u k (s.cist asid u k)
  (repeat' split) <;> simp_all [State.Inv]

@[simp] theorem State.cistFire_Inv {s : State} (h : s.Inv) (asid u k n : Nat) : (s.cistFire asid u k n).Inv := by
  induction n generalizing s with
  | zero => exact h
  | succ n ih =>
    unfold State.cistFire
    dsimp only
    split
    · apply ih
      split <;> simp [State.Inv, h]
    · exact h

@[simp] theorem State.arrive_Inv {s : State} (h : s.Inv) (asid u k n : Nat) : (s.arrive asid u k n).Inv := by
  have hm := State.Inv_of_mem h (State.mayCist_mem s asid u)
  unfold State.arrive
  split
  · exact h
  · split
    · rename_i t e
      rwa [e] at hm
    · rename_i t e
      rw [e] at hm
      have hm : t.Inv := hm
      dsimp only
      (repeat' split) <;> simp [State.Inv, hm]

@[simp] theorem State.countLocal_Inv {s : State} (h : s.Inv) (asid b off n : Nat) : (s.countLocal asid b off n).Inv := by
  unfold State.countLocal
  split
  · exact foldl_Inv (fun t p ht => State.arrive_Inv ht ..) _ h
  · exact h

@[simp] theorem State.countDie_Inv {s : State} (h : s.Inv) (asid die va n : Nat) : (s.countDie asid die va n).Inv :=
  foldl_Inv (fun _ _ ht => State.arrive_Inv ht ..) _ h

@[simp] theorem State.cistRetry_Inv {s : State} (h : s.Inv) (asid u k : Nat) (l : List (List Word × Nat)) :
    (s.cistRetry asid u k l).Inv := by
  induction l generalizing s with
  | nil => exact h
  | cons x r ih =>
    have hp := State.perform_Inv h asid u k { Cist.init with desc := x.1, fires := x.2 }
    unfold State.cistRetry
    split
    · rename_i t e
      rwa [e] at hp
    · rename_i t e
      rw [e] at hp
      exact ih (by simpa [State.Inv] using hp)

@[simp] theorem State.retryArrivals_Inv {s : State} (h : s.Inv) (b i n : Nat) (l : List ArrWait) :
    (s.retryArrivals b i n l).Inv := by
  induction l generalizing s with
  | nil => exact h
  | cons a r ih =>
    unfold State.retryArrivals
    split
    · exact h
    · rename_i c _
      apply ih
      split
      · simp [State.Inv, h]
      · simp [State.Inv, h]
      · rename_i u k
        have hm := State.Inv_of_mem h (State.mayCist_mem s c.asid u)
        split <;> simp_all [State.Inv]

@[simp] theorem State.wakeAt_Inv {s : State} (h : s.Inv) (asid n b : Nat) : (s.wakeAt asid n b).Inv := by
  unfold State.wakeAt
  dsimp only
  split
  · exact h
  · split
    · exact h
    · exact State.retryArrivals_Inv (State.Inv_of_mem h (by simp)) ..

@[simp] theorem State.completePhase_Inv {s : State} (h : s.Inv) (asid n : Nat) (x : Chan) :
    (s.completePhase asid n x).Inv := by
  have hp : ((rectBays x.rect).foldl (fun t b => t.phaseAt asid n b) s).Inv :=
    foldl_Inv (fun t b ht => by simpa [State.Inv] using ht) _ h
  exact foldl_Inv (fun t b ht => State.wakeAt_Inv ht ..) _ hp

@[simp] theorem State.groupDown_Inv {s : State} (h : s.Inv) (asid g : Nat) (phase serial : BitVec 16) :
    (s.groupDown asid g phase serial).Inv := by
  unfold State.groupDown
  dsimp only
  generalize hs : List.foldl _ _ _ = s1
  have h1 : s1.Inv := hs ▸ foldl_Inv (fun t c ht => by simpa [State.Inv] using ht) _ h
  split
  · exact h1
  · split
    · simp [State.Inv, h1]
    · exact h1

@[simp] theorem State.groupFull_Inv {s : State} (h : s.Inv) (asid g : Nat) (e : Group) (phase serial : BitVec 16) :
    (s.groupFull asid g e phase serial).Inv := by
  unfold State.groupFull
  dsimp only
  split <;> simp [State.Inv, h]

@[simp] theorem State.settle_Inv {s : State} (h : s.Inv) (asid g n : Nat) : (s.settle asid g n).Inv := by
  induction n generalizing s with
  | zero => exact h
  | succ n ih =>
    unfold State.settle
    dsimp only
    split
    · exact h
    · split
      · exact h
      · split
        · exact h
        · exact ih (State.groupFull_Inv h ..)

@[simp] theorem State.groupUp_Inv {s : State} (h : s.Inv) (p : Packet) : (s.groupUp p).Inv := by
  unfold State.groupUp
  dsimp only
  (repeat' split) <;> simp [State.Inv, h]

@[simp] theorem State.replant_Inv {s : State} (h : s.Inv) (asid g : Nat) (e e' : Group) : (s.replant asid g e e').Inv := by
  simp [State.replant, State.Inv, h]

@[simp] theorem State.dropLost_Inv {s : State} (h : s.Inv) (asid g m : Nat) (e : Group) : (s.dropLost asid g m e).Inv := by
  unfold State.dropLost
  dsimp only
  (repeat' split) <;> simp [State.Inv, h]

/-! ### Windows (R358 to R361) -/

theorem State.winChunk_Inv {s : State} (h : s.Inv) (e : Win) (need : Need) (q n : Nat) : (s.winChunk e need q n).2.Inv := by
  unfold State.winChunk
  dsimp only
  split
  · have ht := State.translateAt_Inv h (s.winStation e.owner) e.owner
      (toW ((s.window (e.spanf + q / 2 ^ 30)).base.toNat + q % 2 ^ 30)) need
    (repeat' split) <;> simp_all [State.Inv]
  · (repeat' split) <;> exact h

theorem State.winChunks_Inv {s : State} (h : s.Inv) (e : Win) (need : Need) (k q a n : Nat) :
    (s.winChunks e need k q a n).2.Inv := by
  induction k generalizing s q a n with
  | zero => exact h
  | succ k ih =>
    have hc := State.winChunk_Inv h e need q n
    unfold State.winChunks
    split
    · exact h
    · split
      · rename_i ht
        rwa [ht] at hc
      · rename_i c t ht
        rw [ht] at hc
        have hr := ih (show t.Inv from hc) (q + c.n) (a + c.n) (n - c.n)
        split
        · rename_i hl
          rwa [hl] at hr
        · exact hr

theorem State.winAdmission_Inv {s : State} (h : s.Inv) (w : Who) (x : Right) (a : Word) (n : Nat) :
    (s.winAdmission w x a n).2.Inv := by
  unfold State.winAdmission
  split
  · exact h
  · rename_i e p _
    have hc := State.winChunks_Inv h e x.need (n / 2048 + 4) p 0 n
    split
    · rename_i ht
      rwa [ht] at hc
    · rename_i l t ht
      rw [ht] at hc
      have hp := State.Inv_of_mem (show t.Inv from hc) (State.pagesOk_mem t 0 l)
      split <;> simp_all [State.Inv]

@[simp] theorem State.countChunk_Inv {s : State} (h : s.Inv) (c : Chunk) : (s.countChunk c).Inv := by
  unfold State.countChunk
  (repeat' split) <;> simp [State.Inv, h]

@[simp] theorem State.placeChunk_Inv {s t : State} (hs : s.Inv) (ht : t.Inv) (count : Bool) (c : Chunk) :
    (s.placeChunk t count c).Inv := by
  unfold State.placeChunk
  dsimp only
  split
  · rename_i b _
    have hv := State.viaPages_Inv b c.owner (pagesOf c.va c.n) hs ht
    split
    · rename_i hu
      rw [hu] at hv
      split
      · exact State.countChunk_Inv hv c
      · exact hv
    · rename_i hu
      rwa [hu] at hv
  · split <;> simp [State.Inv, ht]

@[simp] theorem State.writeChunks_Inv {s : State} (h : s.Inv) (count : Bool) (l : List Chunk) (d : List Byte) :
    (s.writeChunks count l d).Inv := by
  induction l generalizing s d with
  | nil => exact h
  | cons c r ih => exact ih (State.placeChunk_Inv h (by simp [State.Inv, h]) ..) _

theorem State.readChunks_Inv {s : State} (h : s.Inv) (n : Nat) (l : List Chunk) : (s.readChunks n l).2.Inv := by
  induction l generalizing s n with
  | nil => exact h
  | cons c r ih =>
    unfold State.readChunks
    split
    · exact State.memError_Inv h ..
    · have hr := ih (show (s.tallyKey c.key .reads).Inv by simpa [State.Inv] using h) (n + c.n)
      split
      · rename_i hl
        rwa [hl] at hr
      · exact hr

@[simp] theorem State.atomicAt_Inv {s : State} (h : s.Inv) (key n : Nat) (fn : AtFn) (b e : Word) :
    (s.atomicAt key n fn b e).1.Inv := by
  unfold State.atomicAt
  dsimp only
  split
  · exact State.write_Inv _ _ _ h
  · exact h

end Sys2Proof.Machine
end

section
/-!
SUPPORT. Canonical memory under the accesses of a fibre and the command ports.
-/
namespace Sys2Proof.Machine

/-! ### What a body's result and an outcome leave -/

/-- The memory that a body's result leaves is canonical. -/
abbrev Res.Inv (s : State) (r : Res) : Prop := Memory.wf (r.mem s) = true

/-- The state that an outcome answers, where it answers one, has canonical memory. -/
def outInv (o : Out) : Prop := ∀ t, o = .next t → t.Inv

@[simp] theorem outInv_next {t : State} : outInv (.next t) ↔ t.Inv :=
  ⟨fun h => h t rfl, fun h _ e => by cases e; exact h⟩

@[simp] theorem Res.mem_done (s t : State) : (Res.done t).mem s = t.mem := rfl
@[simp] theorem Res.mem_jumped (s t : State) : (Res.jumped t).mem s = t.mem := rfl
@[simp] theorem Res.mem_stay (s t : State) : (Res.stay t).mem s = t.mem := rfl
@[simp] theorem Res.mem_enter (s t : State) (c : Cause) (v r : Word) : (Res.enter t c v r).mem s = t.mem := rfl
@[simp] theorem Res.mem_block (s : State) (n : Nat) : (Res.block n).mem s = s.mem := rfl
@[simp] theorem Res.mem_fault (s : State) (c : Cause) (v : Word) : (Res.fault c v).mem s = s.mem := rfl
@[simp] theorem Res.mem_deferred (s : State) : Res.deferred.mem s = s.mem := rfl

theorem Res.inv_done (s : State) {t : State} (h : t.Inv) : (Res.done t).Inv s := h
theorem Res.inv_stay (s : State) {t : State} (h : t.Inv) : (Res.stay t).Inv s := h
theorem Res.inv_enter (s : State) {t : State} (h : t.Inv) (c : Cause) (v r : Word) : (Res.enter t c v r).Inv s := h

/-- An instruction word keeps memory canonical where its body does (R51). -/
theorem issue_Inv {s : State} (h : s.Inv) {i : Instr} {e : BayCtx → Fibre → Option (Cause × Word)}
    {k : BayCtx → Fibre → State → Res} (hk : ∀ c f, (k c f s).Inv s) : outInv (issue i e k s) := by
  intro t ht
  rcases issue_mem ht with hm | ⟨c, f, _, _, hm⟩
  · exact State.Inv_of_mem h hm
  · show Memory.wf t.mem = true
    rw [hm]
    exact hk c f

/-! ### The checks before a body's effect -/

theorem localCheck_Inv {s : State} (h : s.Inv) {k : Res} (hk : k.Inv s) (c : BayCtx) (ea : Word) (n : Nat) :
    (localCheck c ea n k).Inv s := by
  unfold localCheck
  split
  · exact h
  · split
    · exact h
    · exact hk

theorem globalCheck_Inv {s : State} (h : s.Inv) {k : Res} (hk : k.Inv s) (f : Fibre) (ea : Word) (n : Nat) :
    (globalCheck f ea n k).Inv s := by
  unfold globalCheck
  split
  · exact h
  · split
    · exact h
    · split
      · exact h
      · exact hk

theorem descCheck_Inv {s : State} (h : s.Inv) {k : Res} (hk : k.Inv s) (c : BayCtx) (a : Word) :
    (descCheck c a k).Inv s := by
  unfold descCheck
  split
  · exact h
  · split
    · exact h
    · exact hk

theorem gutterCheck_Inv {s : State} (h : s.Inv) {k : Res} (hk : k.Inv s) (c : BayCtx) (bay : Nat) :
    (gutterCheck s c bay k).Inv s := by
  unfold gutterCheck
  split
  · exact hk
  · exact h

theorem handleCheck_Inv {s : State} (h : s.Inv) {k : Res} (hk : k.Inv s) (c : BayCtx) (a : Word) :
    (handleCheck s c a k).Inv s := by
  unfold handleCheck
  split
  · exact hk
  · exact h

theorem withRelease_Inv {s : State} (h : s.Inv) {k : State → Res} (hk : ∀ t, t.Inv → (k t).Inv s) (r : MemOrd) (p : Scope)
    (f : Fibre) : (withRelease r p f s k).Inv s := by
  unfold withRelease
  split
  · exact h
  · exact hk _ (State.Inv_of_mem h (State.releaseMark_mem ..))

/-! ### Accesses (R125 to R151) -/

@[simp] theorem State.bankLoad_Inv {s : State} (h : s.Inv) (f : Fibre) (asid key : Nat) (ea : Word) (n : Nat) (signed : Bool)
    (d : GReg) : (s.bankLoad f asid key ea n signed d).Inv := by
  unfold State.bankLoad
  split <;> simp [State.Inv, h]

/-- The bank's atomic keeps memory canonical (R141, R142).  The key stands as an unknown: a kernel that evaluates the
poison at `spadKey` would count through the bits of the key. -/
@[simp] theorem State.bankAtomic_Inv {s : State} (h : s.Inv) (f : Fibre) (asid bay off : Nat) (ea : Word) (n : Nat) (fn : AtFn)
    (b e : Word) (d : Option GReg) : (s.bankAtomic f asid bay off ea n fn b e d).Inv := by
  obtain ⟨g, hg⟩ : ∃ g, g = State.bankAtomic := ⟨_, rfl⟩
  obtain ⟨key, hkey⟩ : ∃ key, key = spadKey := ⟨_, rfl⟩
  rw [← hg]
  delta State.bankAtomic at hg
  rw [← hkey] at hg
  clear hkey
  subst hg
  dsimp only
  split
  · simp [State.Inv, h]
  · have ha := State.atomicAt_Inv h (key asid bay off) n fn b e
    split
    · simpa [State.Inv] using ha
    · exact State.countLocal_Inv ha ..

@[simp] theorem State.apertureAt_Inv {s : State} (h : s.Inv) (u rid : Nat) : (s.apertureAt u rid).Inv := by
  unfold State.apertureAt
  split
  · exact h
  · rename_i a _
    have hr := State.Inv_of_mem h (State.mayRead_mem s (apBay a.ea) a.asid (apOff a.ea) a.size)
    dsimp only
    split
    · simp [State.Inv, h]
    · rename_i key _
      split
      · split
        · rename_i e
          rw [e] at hr
          simpa [State.Inv] using hr
        · rename_i t e
          rw [e] at hr
          have hr : t.Inv := hr
          split <;> simp [State.Inv, hr]
      · have hp := State.putSaved_Inv (apBay a.ea) a.asid (apOff a.ea) key (leBytes a.size a.data.toNat) h
        split <;> simp_all [State.Inv]
      · rename_i fn ret _
        split
        · rename_i e
          rw [e] at hr
          simpa [State.Inv] using hr
        · rename_i t e
          rw [e] at hr
          have hr : t.Inv := hr
          split
          · simp [State.Inv, hr]
          · have ha := State.atomicAt_Inv hr key a.size fn a.data a.exp
            have hv := State.viaPages_Inv (apBay a.ea) a.asid (pagesOf (apOff a.ea) a.size) hr
              (State.Inv_of_mem ha (State.tallySaved_mem _ (apBay a.ea) a.asid (apOff a.ea) a.size .atomics))
            (repeat' split) <;> simp_all [State.Inv]

@[simp] theorem State.drainBank_Inv {s : State} (h : s.Inv) (u lane : Nat) : (s.drainBank u lane).Inv := by
  unfold State.drainBank
  refine foldl_Inv (fun t x ht => ?_) _ h
  split
  · exact State.apertureAt_Inv (show State.Inv { t with agenda := t.agenda.erase x } from ht) ..
  · exact ht

@[simp] theorem State.globalIssue_Inv {s : State} (h : s.Inv) (c : BayCtx) (f : Fibre) (ea : Word) (n : Nat) (kind : AKind)
    (dest : Option GReg) (data exp : Word) : (s.globalIssue c f ea n kind dest data exp).Inv := by
  unfold State.globalIssue
  dsimp only
  split <;> simp [State.Inv, h]

@[simp] theorem State.accessPhys_Inv {s : State} (h : s.Inv) (u : Nat) (a : Access) (pa : Nat) :
    (s.accessPhys u a pa).Inv := by
  unfold State.accessPhys
  (repeat' split) <;> simp [State.Inv, h]

@[simp] theorem State.accessTo_Inv {s : State} (h : s.Inv) (u : Nat) (a : Access) (r : Except Cause Place) :
    (s.accessTo u a r).Inv := by
  unfold State.accessTo
  split <;> simp [State.Inv, h]

/-! ### Command ports (R13 to R18) -/

/-- An accepted command leaves memory alone (R14, R15). -/
theorem State.accept_mem {s t : State} {b i e : Nat} {m : Cmd} {q : BitVec 32} (h : s.accept b i e m = .ok (t, q)) :
    t.mem = s.mem := by
  have ha : ∀ r ∈ (s.accept b i e m).toOption, r.1.mem = s.mem := by
    unfold State.accept
    dsimp only
    (repeat' split) <;> simp [Except.toOption]
  exact ha (t, q) (by rw [h]; rfl)

/-- A command at its port keeps memory canonical (R14, R15).  What accepts the command stands as an unknown, for the same
reason. -/
theorem submit_Inv {s : State} (h : s.Inv) (e : Nat) (m : Cmd) (d : Option GReg) (c : BayCtx) :
    (submit e m d c s).Inv s := by
  have ha : ∀ t q, s.accept s.cur.bay s.cur.idx e m = .ok (t, q) → t.mem = s.mem := fun _ _ => State.accept_mem
  obtain ⟨g, hg⟩ : ∃ g, g = submit := ⟨_, rfl⟩
  obtain ⟨accept, hacc⟩ : ∃ accept, accept = State.accept := ⟨_, rfl⟩
  rw [← hg]
  delta submit at hg
  obtain ⟨key, hkey⟩ : ∃ key, key = spadKey := ⟨_, rfl⟩
  rw [← hacc, ← hkey] at hg
  rw [← hacc] at ha
  clear hacc hkey
  subst hg
  dsimp only
  split
  · split
    · rename_i t q ht
      have hm := ha t q ht
      split <;> simp [Res.Inv, hm, h]
    · simp [Res.Inv, State.memError_Inv h]
  · split <;> simp [Res.Inv, h]

/-- One step of a structural recursion on a list. -/
theorem brecOn_cons {α β : Type} (F : ∀ l : List α, List.below (motive := fun _ => β) l → β) (x : α) (r : List α) :
    ∃ z, List.brecOn (motive := fun _ => β) (x :: r) F = F (x :: r) ⟨List.brecOn (motive := fun _ => β) r F, z⟩ :=
  ⟨_, rfl⟩

/-- The waiters that find room keep memory canonical (R15).  The recursion is taken apart by hand, with the key of the
scratchpad an unknown, since the equations of the function would evaluate that key. -/
@[simp] theorem State.acceptWaiters_Inv {s : State} (h : s.Inv) (b i e : Nat) (l : List Cmd) :
    (s.acceptWaiters b i e l).Inv := by
  obtain ⟨g, hg⟩ : ∃ g, g = State.acceptWaiters := ⟨_, rfl⟩
  obtain ⟨F, hF⟩ : ∃ F, F = State.acceptWaiters._f := ⟨_, rfl⟩
  obtain ⟨key, hkey⟩ : ∃ key, key = spadKey := ⟨_, rfl⟩
  rw [← hg]
  delta State.acceptWaiters at hg
  rw [← hF] at hg
  subst hg
  delta State.acceptWaiters._f at hF
  rw [← hkey] at hF
  clear hkey
  beta_reduce
  induction l generalizing s with
  | nil =>
    subst hF
    exact h
  | cons m r ih =>
    obtain ⟨z, hz⟩ := brecOn_cons (F b i e) m r
    rw [congrFun hz s]
    clear hz
    generalize List.brecOn (motive := fun _ => State → State) r (F b i e) = rest at ih ⊢
    subst hF
    dsimp only
    split
    · exact h
    · split
      · exact h
      · split
        · rename_i t _ ht
          have hm := State.accept_mem ht
          exact ih (State.Inv_of_mem h (by split <;> simp [hm]))
        · split <;> exact ih (by simp [State.Inv, h])

/-- The engine that takes its next command leaves memory canonical (R14, R15). -/
theorem State.takeCmd_Inv {s t : State} (h : s.Inv) {b i e : Nat} {m : Cmd} (ht : s.takeCmd b i e = some (m, t)) :
    t.Inv := by
  have ha : ∀ r ∈ s.takeCmd b i e, r.2.Inv := by
    unfold State.takeCmd
    dsimp only
    (repeat' split) <;> simp [State.Inv, h]
  exact ha (m, t) ht

/-- A spawn on the fibre's own bay keeps memory canonical (R176). -/
theorem spawnHere_Inv {s : State} (h : s.Inv) (d : GReg) (entry arg : Word) (c : BayCtx) (f : Fibre) :
    (spawnHere d entry arg c f s).Inv s := by
  unfold spawnHere
  dsimp only
  split
  · exact h
  · split
    · exact h
    · refine withRelease_Inv h (fun t ht => ?_) _ _ _
      split
      · exact h
      · rename_i e
        simpa [Res.Inv] using State.place_Inv ht e
      · rename_i e
        simpa [Res.Inv] using State.place_Inv ht e

end Sys2Proof.Machine
end

section
/-!
SUPPORT. Canonical memory under the requests of the fabric and under the engines.
-/
namespace Sys2Proof.Machine

/-! ### Requests of class 0 at their target (R356 to R378) -/

/-- The state that performing a packet comes to, whatever the answer. -/
@[simp] def Perf.state : Perf → State
  | .ack t => t
  | .refuse t _ _ => t
  | .later t => t

theorem State.servePut_Inv {s : State} (h : s.Inv) (p : Packet) (count : Bool) (d : List Byte) :
    (s.servePut p count d).state.Inv := by
  have hw := State.winAdmission_Inv h (requester p) .write p.addr d.length
  unfold State.servePut
  split <;> rename_i e <;> rw [e] at hw
  · exact hw
  · exact State.writeChunks_Inv hw ..

theorem State.serveGet_Inv {s : State} (h : s.Inv) (p : Packet) : (s.serveGet p).state.Inv := by
  have hw := State.winAdmission_Inv h (requester p) .read p.addr p.count
  unfold State.serveGet
  split <;> rename_i e <;> rw [e] at hw
  · exact hw
  · rename_i l t
    have hr := State.readChunks_Inv (show t.Inv from hw) 0 l
    split <;> rename_i e <;> rw [e] at hr
    · exact hr
    · exact State.Inv_of_mem hr (by simp)

theorem State.serveAmo_Inv {s : State} (h : s.Inv) (p : Packet) : (s.serveAmo p).state.Inv := by
  unfold State.serveAmo
  dsimp only
  generalize (if p.o0.getLsbD 37 then 8 else 4) = n
  have hw := State.winAdmission_Inv h (requester p) .atomic p.addr n
  split <;> rename_i e <;> rw [e] at hw
  · exact hw
  · rename_i l t
    have hw : t.Inv := hw
    split
    · exact hw
    · rename_i c r
      split
      · exact State.memError_Inv (show (t.mark ..).Inv from hw) ..
      · have ha := State.atomicAt_Inv hw c.key n (atOfCode (bits p.o0 36 32 % 16)) p.o1 p.o2
        have ha := State.Inv_of_mem ha (State.tallyChunk_mem _ c .atomics)
        have hp := fun count => State.placeChunk_Inv hw ha count c
        split
        · exact State.Inv_of_mem (hp false) (State.reply_mem ..)
        · exact hp true

theorem State.serveSig_Inv {s : State} (h : s.Inv) (p : Packet) : (s.serveSig p).state.Inv := by
  have ht := State.Inv_of_mem h (State.tryPost_mem s (bits p.addr 41 31) p.asid (bits p.addr 30 21) (bits p.o0 23 0))
  unfold State.serveSig
  dsimp only
  split
  · exact h
  · split <;> rename_i e <;> rw [e] at ht <;> exact ht

theorem State.serveSpawn_Inv {s : State} (h : s.Inv) (p : Packet) : (s.serveSpawn p).state.Inv := by
  unfold State.serveSpawn
  dsimp only
  split
  · exact h
  · split
    · exact h
    · split
      · rename_i e
        exact State.place_Inv h e
      · exact h

theorem State.serveCrq_Inv {s : State} (h : s.Inv) (p : Packet) : (s.serveCrq p).state.Inv := by
  have hw := State.winAdmission_Inv h (requester p) .read p.addr (bits p.o1 23 0 + 1)
  unfold State.serveCrq
  dsimp only
  split <;> rename_i e <;> rw [e] at hw
  · exact State.Inv_of_mem hw (by simp)
  · rename_i l t
    have hr := State.readChunks_Inv (show t.Inv from hw) 0 l
    split <;> rename_i e <;> rw [e] at hr
    · exact State.Inv_of_mem hr (by simp)
    · exact foldl_Inv (fun u c hu => State.Inv_of_mem hu (State.sendCdata_mem ..)) _ hr

theorem State.serveCdata_Inv {s : State} (h : s.Inv) (p : Packet) : (s.serveCdata p).state.Inv := by
  have hw := State.winAdmission_Inv h (requester p) .consign p.addr p.count
  unfold State.serveCdata
  dsimp only
  split
  · exact State.Inv_of_mem h (by simp)
  · split <;> rename_i e <;> rw [e] at hw
    · exact State.Inv_of_mem hw (by simp)
    · have hc := State.writeChunks_Inv hw true
      split
      · exact hc ..
      · refine State.Inv_of_mem (hc ..) ((State.consReport_mem ..).trans ((State.consSignal_mem ..).trans rfl))

/-! ### The engines' writes (R274 to R285, R365) -/

theorem State.sideWrite_Inv {s : State} (h : s.Inv) (b asid : Nat) (lk : Bool) (n : Nat) (a : Word) (d : List Byte) :
    (s.sideWrite b asid lk n a d).2.Inv := by
  induction n generalizing s a d with
  | zero => exact h
  | succ n ih =>
    unfold State.sideWrite
    dsimp only
    split
    · exact h
    · split
      · exact ih (by simp [State.Inv, h]) ..
      · split
        · exact h
        · split
          · split
            · rename_i key _
              have hp := State.putSaved_Inv (apBay a) asid (apOff a) key (d.take (8 - a.toNat % 8)) h
              split <;> rename_i e <;> rw [e] at hp
              · exact ih hp ..
              · exact hp
            · exact h
          · have ht := State.translateAt_Inv h (homeStation b) asid a .write
            split <;> rename_i e <;> rw [e] at ht
            · rename_i t
              have ht : t.Inv := ht
              split
              · exact ih (by simp [State.Inv, ht]) ..
              · exact ht
            · exact ht
            · exact ht

theorem State.gotPiece_Inv {s : State} (h : s.Inv) (b asid : Nat) (q : BitVec 32) (off n : Nat) (d : List Byte) :
    (s.gotPiece b asid q off n d).Inv := by
  unfold State.gotPiece
  split
  · exact h
  · rename_i a _
    dsimp only
    have hw : (if a.past then (none, s)
        else s.sideWrite b asid a.cmd.lk (n + 2) (a.cmd.d 1 + toW off) (d.take n)).2.Inv := by
      split
      · exact h
      · exact State.sideWrite_Inv h ..
    split <;> rename_i e <;> rw [e] at hw
    · exact State.Inv_of_mem hw (State.fabFail_mem ..)
    · rename_i t
      have ht : (if a.cmd.lk || a.past then t else s.imaged t b asid).Inv := by
        split
        · exact hw
        · exact State.imaged_Inv' h hw ..
      generalize (if a.cmd.lk || a.past then t else s.imaged t b asid) = u at ht
      (repeat' split) <;> simp [State.Inv, h, ht]

theorem State.gotRamo_Inv {s : State} (h : s.Inv) (b asid : Nat) (q : BitVec 32) (old : Word) :
    (s.gotRamo b asid q old).Inv := by
  unfold State.gotRamo
  split
  · exact h
  · dsimp only
    split <;> simp [State.Inv, h]

theorem State.onToken_Inv {s : State} (h : s.Inv) (tok : Nat) (d : List Byte) : (s.onToken tok d).Inv := by
  unfold State.onToken
  dsimp only
  split
  · exact State.gotPiece_Inv (show State.Inv { s with toks := tdel s.toks tok } from h) ..
  · exact State.gotRamo_Inv (show State.Inv { s with toks := tdel s.toks tok } from h) ..
  · exact State.Inv_of_mem h (by simp)
  · exact State.Inv_of_mem h (by simp)
  · exact h

/-! ### Arrival of a sequenced packet (R353 to R357) -/

theorem State.performPkt_Inv {s : State} (h : s.Inv) (p : Packet) : (s.performPkt p).state.Inv := by
  unfold State.performPkt
  split
  · exact State.servePut_Inv h ..
  · exact State.servePut_Inv h ..
  · exact State.servePut_Inv h ..
  · exact State.serveGet_Inv h p
  · exact State.serveGet_Inv h p
  · exact State.serveAmo_Inv h p
  · exact State.serveAmo_Inv h p
  · exact State.serveSig_Inv h p
  · exact State.serveSpawn_Inv h p
  · exact State.serveCrq_Inv h p
  · exact State.serveCdata_Inv h p
  · exact State.onToken_Inv h ..
  · exact State.onToken_Inv h ..
  · exact State.Inv_of_mem h (State.onCdone_mem ..)
  · exact h

@[simp] theorem State.performNow_Inv {s : State} (h : s.Inv) (p : Packet) : (s.performNow p).Inv := by
  have hp := State.performPkt_Inv h p
  unfold State.performNow
  split <;> rename_i e <;> rw [e] at hp <;> simp only [Perf.state] at hp
  · split <;> exact State.Inv_of_mem hp (by simp)
  · exact State.Inv_of_mem hp (by simp)
  · split <;> exact State.Inv_of_mem hp (by simp)

theorem State.arriving_Inv {s : State} (h : s.Inv) {k : State → State} (hk : ∀ t, t.Inv → (k t).Inv) (p : Packet) :
    (s.arriving p k).Inv := by
  unfold State.arriving
  split
  · exact h
  · split
    · exact State.Inv_of_mem h (State.malformed_mem ..)
    · apply hk
      split <;> exact h

@[simp] theorem State.receiveSeq_Inv {s : State} (h : s.Inv) (p : Packet) : (s.receiveSeq p).Inv := by
  refine State.arriving_Inv h (fun t ht => ?_) p
  dsimp only
  split
  · exact State.Inv_of_mem ht (State.fetchReceiver_mem ..)
  · split
    · exact State.Inv_of_mem ht (by simp)
    · exact ht
    · exact ht
    · have hm := State.Inv_of_mem ht (State.modReceiver_mem t p.src
        fun x => { x with win := tset x.win p.seq.toNat (.held p) })
      split
      · exact State.performNow_Inv hm p
      · exact hm

/-! ### The copy engine (R274 to R287) -/

theorem State.readByte_Inv {s : State} (h : s.Inv) (asid key : Nat) : (s.readByte asid key).2.Inv := by
  unfold State.readByte
  split
  · exact State.memError_Inv h ..
  · exact h

theorem State.savedByte_Inv {s : State} (h : s.Inv) (asid b off key : Nat) : (s.savedByte asid b off key).2.Inv := by
  have hm := State.Inv_of_mem h (State.mayRead_mem s b asid off 1)
  unfold State.savedByte
  split <;> rename_i e <;> rw [e] at hm
  · exact State.readByte_Inv hm ..
  · exact hm

theorem State.globalByte_Inv {s : State} (h : s.Inv) (b asid : Nat) (a : Word) : (s.globalByte b asid a).2.Inv := by
  have ht := State.translateAt_Inv h (homeStation b) asid a .read
  unfold State.globalByte
  split
  · exact h
  · split
    · split
      · exact State.savedByte_Inv h ..
      · exact h
    · split <;> rename_i e <;> rw [e] at ht
      · split
        · exact State.readByte_Inv (State.Inv_of_mem ht (State.tallyKey_mem ..)) ..
        · exact ht
      · split <;> exact ht
      · exact ht

theorem State.copyRead_Inv {s : State} (h : s.Inv) (b asid : Nat) (m : Cmd) (p : Nat) :
    (s.copyRead b asid m p).1.2.Inv := by
  unfold State.copyRead
  dsimp only
  split
  · exact State.readByte_Inv h ..
  · split
    · exact State.globalByte_Inv h ..
    · split
      · exact State.savedByte_Inv h ..
      · split
        · exact State.readByte_Inv h ..
        · exact h

theorem State.copyFetch_Inv {s : State} (h : s.Inv) (b asid : Nat) (m : Cmd) (p : Nat) (buf : Tab Byte)
    (l : List (Nat × Nat × Nat × Nat)) (n : Nat) : (s.copyFetch b asid m p buf l n).2.Inv := by
  induction n generalizing s p buf l with
  | zero => exact h
  | succ n ih =>
    have hr := State.copyRead_Inv h b asid m p
    unfold State.copyFetch
    split <;> rename_i e <;> rw [e] at hr
    · exact hr
    · exact ih hr ..
    · exact ih hr ..

theorem State.globalPiece_Inv {s : State} (h : s.Inv) (b asid : Nat) (a : Word) (d : List Byte)
    (out : List (Nat × Nat × List Byte)) : (s.globalPiece b asid a d out).2.Inv := by
  unfold State.globalPiece
  split
  · exact h
  · split
    · split
      · rename_i key _
        have hp := State.putSaved_Inv (apBay a) asid (apOff a) key d h
        split <;> rename_i e <;> rw [e] at hp
        · exact State.countLocal_Inv hp ..
        · exact hp
      · exact h
    · have ht := State.translateAt_Inv h (homeStation b) asid a .write
      split <;> rename_i e <;> rw [e] at ht
      · rename_i t
        have ht : t.Inv := ht
        split
        · rename_i key _
          have hw : ((t.write key d).tallyKey key .writes).Inv := by simp [State.Inv, ht]
          dsimp only
          split
          · exact State.countDie_Inv hw ..
          · exact hw
        · exact ht
      · split <;> exact ht
      · exact ht

@[simp] theorem State.localPiece_Inv {s : State} (h : s.Inv) (asid kind bay : Nat) (a : Word) (d : List Byte) :
    (s.localPiece asid kind bay a d).Inv := by
  unfold State.localPiece
  dsimp only
  have hp := State.putSaved_Inv bay asid ((if kind = 3 then s.wbufStart bay asid else 0) + a.toNat)
    (if kind = 3 then wbufKey asid bay a.toNat else spadKey asid bay a.toNat) d h
  split <;> rename_i e <;> rw [e] at hp
  · split
    · exact hp
    · exact State.countLocal_Inv hp ..
  · exact hp

theorem State.copyWrite_Inv {s : State} (h : s.Inv) (b asid : Nat) (m : Cmd) (p : Nat) (d : List Byte)
    (out : List (Nat × Nat × List Byte)) : (s.copyWrite b asid m p d out).2.Inv := by
  unfold State.copyWrite
  dsimp only
  split
  · exact State.globalPiece_Inv h ..
  · exact State.localPiece_Inv h ..

theorem State.copyPieces_Inv {s : State} (h : s.Inv) (b asid : Nat) (m : Cmd) (rbuf : Tab Byte) (p stop : Nat)
    (out : List (Nat × Nat × List Byte)) (n : Nat) : (s.copyPieces b asid m rbuf p stop out n).2.Inv := by
  induction n generalizing s p out with
  | zero => exact h
  | succ n ih =>
    have hw := State.copyWrite_Inv h b asid m p (bytesFrom rbuf p (m.pieceLen p stop)) out
    unfold State.copyPieces
    split
    · exact h
    · dsimp only
      split <;> rename_i e <;> rw [e] at hw
      · exact hw
      · exact ih hw ..

/-- The state that a turn of a copy command comes to, whatever else it tells. -/
@[simp] def Turn.state : Turn → State
  | .fault _ _ t => t
  | .again _ t => t
  | .rest _ t => t
  | .done _ t => t

theorem State.castBeat_Inv {s : State} (h : s.Inv) (b i : Nat) (a : CopyAct) (stop : Nat) :
    (s.castBeat b i a stop).state.Inv := by
  unfold State.castBeat
  dsimp only
  split <;> simp only [Turn.state] <;> exact foldl_Inv (fun _ _ ht => by simpa [State.Inv] using ht) _ h

theorem State.copyTurn_Inv {s : State} (h : s.Inv) (b i asid : Nat) (a : CopyAct) : (s.copyTurn b i asid a).state.Inv := by
  unfold State.copyTurn
  dsimp only
  split
  · exact h
  · split
    · have hf := State.copyFetch_Inv h b asid a.cmd a.rpos a.rbuf [] (min 128 (a.stop - a.rpos))
      split <;> rename_i e <;> rw [e] at hf
      · exact hf
      · split <;> exact State.Inv_of_mem hf (State.copyAsk_mem ..)
    · split
      · exact h
      · split
        · exact State.castBeat_Inv h ..
        · have hp := State.copyPieces_Inv h b asid a.cmd a.rbuf a.wpos a.beatEnd [] 128
          split <;> rename_i e <;> rw [e] at hp
          · exact hp
          · (repeat' split) <;> exact State.Inv_of_mem hp (State.copyPut_mem ..)

@[simp] theorem State.castWritten_Inv {s : State} (h : s.Inv) (b i q member pos kind : Nat) (ps : List (Word × List Byte)) :
    (s.castWritten b i q member pos kind ps).Inv := by
  unfold State.castWritten
  split
  · exact h
  · rename_i c _
    have hf : (ps.foldl (fun t x => t.localPiece c.asid kind member x.1 x.2) s).Inv :=
      foldl_Inv (fun t x ht => State.localPiece_Inv ht ..) _ h
    dsimp only
    split
    · exact State.Inv_of_mem hf (by simp)
    · exact hf

@[simp] theorem State.hostTurn_Inv {s : State} (h : s.Inv) (p : HostPkt) (asid : Nat) (a : CopyAct) :
    (s.hostTurn p asid a).Inv := by
  have ht := State.copyTurn_Inv h hostBay 0 asid a
  unfold State.hostTurn
  split
  · split
    · exact State.copyEnd_Inv h ..
    · exact h
  · split <;> rename_i e <;> rw [e] at ht <;> simp only [Turn.state] at ht
    · split
      · exact State.copyEnd_Inv ht ..
      · exact State.Inv_of_mem ht (by simp)
    · exact State.Inv_of_mem ht (by simp)
    · exact State.Inv_of_mem ht (by simp)
    · split
      · exact State.Inv_of_mem ht (by simp)
      · exact State.copyEnd_Inv ht ..

/-! ### The fabric engine's packets (R365 to R374) -/

theorem State.sideByte_Inv {s : State} (h : s.Inv) (b asid : Nat) (lk : Bool) (a : Word) :
    (s.sideByte b asid lk a).2.Inv := by
  unfold State.sideByte
  have hb : (if lk then s.globalByte b asid a else s.readByte asid (spadKey asid b a.toNat)).2.Inv := by
    split
    · exact State.globalByte_Inv h ..
    · exact State.readByte_Inv h ..
  split <;> rename_i e <;> rw [e] at hb <;> exact hb

theorem State.sideRead_Inv {s : State} (h : s.Inv) (b asid : Nat) (lk : Bool) (a : Word) (n : Nat) :
    (s.sideRead b asid lk a n).2.Inv := by
  induction n generalizing s a with
  | zero => exact h
  | succ n ih =>
    have hb := State.sideByte_Inv h b asid lk a
    unfold State.sideRead
    split <;> rename_i e <;> rw [e] at hb
    · exact hb
    · have hr := ih hb (a + 1)
      dsimp only at hr
      split
      · rename_i e
        rwa [e] at hr
      · exact hr

theorem State.makePkt_Inv {s : State} (h : s.Inv) (b asid : Nat) (a : FabAct) : (s.makePkt b asid a).2.Inv := by
  unfold State.makePkt
  dsimp only
  split
  · exact h
  · split
    · have hr := State.sideRead_Inv h b asid a.cmd.lk (a.cmd.d 1 + toW a.next) a.step
      split <;> rename_i e <;> rw [e] at hr <;> exact hr
    · exact State.Inv_of_mem h (State.newTok_mem ..)
    · exact h
    · exact h
    · split
      · exact State.Inv_of_mem h (State.newTok_mem ..)
      · exact h
    · exact h
    · exact h
    · exact h

@[simp] theorem State.fabStage_Inv {s : State} (h : s.Inv) (b i q : Nat) : (s.fabStage b i q).Inv := by
  unfold State.fabStage
  split
  · exact h
  · rename_i c _
    split
    · exact h
    · rename_i a _
      have hp := State.makePkt_Inv h b c.asid a
      split
      · exact h
      · split
        · (repeat' split) <;> exact State.Inv_of_mem h (by simp)
        · split
          · exact h
          · split
            · exact h
            · split <;> rename_i e <;> rw [e] at hp <;> exact State.Inv_of_mem hp (by simp)

/-! ### The vector engine (R245 to R266) -/

@[simp] theorem State.vecRefill_Inv {s : State} (h : s.Inv) (b i v : Nat) : (s.vecRefill b i v).Inv := by
  unfold State.vecRefill
  split
  · exact h
  · split
    · split
      · split
        · dsimp only
          split <;> exact State.Inv_of_mem h (by simp)
        · exact h
      · exact h
    · exact State.acceptWaiters_Inv h ..

@[simp] theorem State.vecFault_Inv {s : State} (h : s.Inv) (b i v : Nat) (c : BayCtx) (e : VEnt) (hval : Word) :
    (s.vecFault b i v c e hval).Inv := by
  unfold State.vecFault
  dsimp only
  generalize hs : State.pulse _ _ = s4
  have h4 : s4.Inv := State.Inv_of_mem h (by rw [← hs]; simp)
  split
  · exact State.acceptWaiters_Inv (State.vecRefill_Inv h4 ..) ..
  · exact State.vecRefill_Inv h4 ..

@[simp] theorem State.vecPop_Inv {s : State} (h : s.Inv) (b i v : Nat) (e : VEnt) (r : List VEnt) :
    (s.vecPop b i v e r).Inv := by
  unfold State.vecPop
  dsimp only
  apply State.vecRefill_Inv
  split <;> exact State.Inv_of_mem h (by simp)

@[simp] theorem State.vecGet_Inv {s : State} (h : s.Inv) (b i v : Nat) (c : BayCtx) (e : VEnt) (r : List VEnt) (u : Nat)
    (gb : GReg) : (s.vecGet b i v c e r u gb).Inv := by
  unfold State.vecGet
  split
  · split
    · exact State.vecFault_Inv (State.vecError_Inv h ..) ..
    · dsimp only
      refine State.Inv_of_mem (State.vecPop_Inv ?_ b i v e r) (State.retireU_mem ..)
      exact State.Inv_of_mem h (by simp)
  · exact h

@[simp] theorem State.vecStorePair_Inv {s : State} (h : s.Inv) (c : BayCtx) (b v : Nat) (i : Instr) (d : VReg) (k : KReg)
    (x y : Word) (j : Nat) : (s.vecStorePair c b v i d k x y j).Inv := by
  unfold State.vecStorePair
  dsimp only
  split
  · exact State.write_Inv _ _ _ h
  · split
    · exact State.write_Inv _ _ _ h
    · split
      · exact State.write_Inv _ _ _ h
      · exact h

@[simp] theorem State.vecStore_Inv {s : State} (h : s.Inv) (c : BayCtx) (b v : Nat) (i : Instr) (d : VReg) (k : KReg)
    (x y : Word) : (s.vecStore c b v i d k x y).Inv :=
  foldl_Inv (fun _ _ ht => State.vecStorePair_Inv ht ..) _ h

/-- The state that an attempt leaves, whether it succeeds or not. -/
def Except.both {α : Type} : Except α α → α
  | .ok t => t
  | .error t => t

theorem State.vecRun_Inv {s : State} (h : s.Inv) (b i v : Nat) (c : BayCtx) (op : Instr) (x y : Word) :
    (Except.both (s.vecRun b i v c op x y)).Inv := by
  have hl : ∀ d k, (Except.both (match s.vecLoad c b v op d k x y with
      | .ok z => Except.ok (s.modC b i fun q => q.modV v fun _ => z)
      | .error key => Except.error (s.memError key c.asid))).Inv := fun d k => by
    split
    · exact State.Inv_of_mem h (State.modC_mem ..)
    · exact State.memError_Inv h ..
  unfold State.vecRun
  split
  · exact State.vecError_Inv h ..
  · dsimp only
    split
    · exact hl ..
    · exact hl ..
    · exact hl ..
    · exact State.vecStore_Inv h ..
    · exact State.vecStore_Inv h ..
    · exact State.Inv_of_mem h (State.modC_mem ..)

@[simp] theorem State.vecStep_Inv {s : State} (h : s.Inv) (b i v : Nat) (c : BayCtx) (e : VEnt) (r : List VEnt) :
    (s.vecStep b i v c e r).Inv := by
  unfold State.vecStep
  dsimp only
  split
  · exact h
  · rename_i n _
    have hr := State.vecRun_Inv h b i v c (stepIns (c.vctx v).iter e.sd e.sa e.sb n.op)
      (stepX (c.vctx v).iter e.sd n.op n.x) n.y
    split <;> rename_i t ht <;> rw [ht] at hr
    · exact State.vecFault_Inv hr ..
    · have hr : ((t.bump b c.asid 9 1).pulse c.asid).Inv := hr
      split
      · exact State.Inv_of_mem hr (by simp)
      · split
        · exact State.Inv_of_mem hr (by simp)
        · exact State.vecPop_Inv hr ..

/-! ### The matrix engine (R298 to R320) -/

@[simp] theorem State.matFail_Inv {s : State} (h : s.Inv) (b i : Nat) (c : BayCtx) (m : Cmd) (e : MatErr) :
    (s.matFail b i c m e).Inv := by
  obtain ⟨cause, v, key⟩ := e
  unfold State.matFail
  cases key with
  | none =>
    dsimp only
    split <;> simp [State.Inv, h]
  | some key =>
    have hk := State.memError_Inv h key c.asid
    dsimp only
    split <;> simpa [State.Inv] using hk

@[simp] theorem State.setTile_Inv {s : State} (h : s.Inv) (asid b t : Nat) (l : List Nat) : (s.setTile asid b t l).Inv :=
  State.write_Inv _ _ _ h

@[simp] theorem State.passOn_Inv {s : State} (h : s.Inv) (b i : Nat) (c : BayCtx) (t : Nat) (p : PassFmt) (o : Operands) :
    (s.passOn b i c t p o).Inv := by
  unfold State.passOn
  dsimp only
  split
  · split
    · exact State.Inv_of_mem (State.setTile_Inv h ..) (State.modC_mem ..)
    · exact State.setTile_Inv h ..
  · exact State.setTile_Inv h ..

/-- What an attempt that succeeds leaves keeps the canonical form. -/
def exceptInv {ε : Type} (r : Except ε State) : Prop := ∀ t, r = .ok t → t.Inv

theorem exceptInv_ok {ε : Type} {t : State} (h : t.Inv) : exceptInv (.ok t : Except ε State) :=
  fun _ e => by cases e; exact h

theorem exceptInv_error {ε : Type} (e : ε) : exceptInv (.error e : Except ε State) :=
  fun _ h => by cases h

theorem exceptInv_bind {ε α : Type} (r : Except ε α) {k : α → Except ε State} (hk : ∀ x, exceptInv (k x)) :
    exceptInv (r >>= k) := by
  cases r with
  | error e => exact exceptInv_error e
  | ok x => exact hk x

theorem State.matRun_Inv {s : State} (h : s.Inv) (b i : Nat) (c : BayCtx) (m : Cmd) : exceptInv (s.matRun b i c m) := by
  unfold State.matRun
  split
  · exact exceptInv_bind _ fun _ => exceptInv_ok (State.passOn_Inv h ..)
  · exact exceptInv_ok (State.Inv_of_mem (State.setTile_Inv h ..) (State.modC_mem ..))
  · dsimp only
    refine exceptInv_bind _ fun body => ?_
    split
    · exact exceptInv_error _
    · exact exceptInv_ok (State.write_Inv _ _ _ h)
  · exact exceptInv_bind _ fun _ => exceptInv_ok (State.write_Inv _ _ _ h)
  · exact exceptInv_bind _ fun img => exceptInv_ok (State.Inv_of_mem (State.write_Inv _ _ _ h) (State.modC_mem ..))
  · exact exceptInv_ok h

theorem State.rdvRun_Inv {s : State} (h : s.Inv) (b i : Nat) (c : BayCtx) (m : Cmd) : exceptInv (s.rdvRun b i c m) := by
  unfold State.rdvRun
  dsimp only
  split
  · exact exceptInv_bind _ fun _ => exceptInv_ok (State.Inv_of_mem h (State.modC_mem ..))
  · exact exceptInv_ok (State.write_Inv _ _ _ h)
  · exact exceptInv_ok h

/-! ### Contexts, launches and scrubs (R425, R447, R459) -/

@[simp] theorem State.createOn_Inv {s : State} (h : s.Inv) (asid base : Nat) (q : Quota) (image : List Byte) (b : Nat) :
    (s.createOn asid base q image b).Inv := by
  unfold State.createOn
  split
  · exact h
  · dsimp only
    refine foldl_Inv (fun t d ht => ?_) _ (State.write_Inv _ _ _ ?_)
    · have h0 := State.Inv_of_mem ht (State.matchCredit_mem t b asid d)
      have h1 := fun x => State.imaged_Inv' h0 (State.Inv_of_mem h0 (State.matchCredit_mem _ x asid d)) x asid
      split
      · exact State.Inv_of_mem (h1 _) (State.gutters_mem ..)
      · exact h1 _
    · exact State.zeroUnits_Inv
        (show State.Inv { s with agenda := s.agenda.filter fun t => evPlace t.ev != some (b, 4 + asid) } from h) ..

theorem State.readImage_Inv {s : State} (h : s.Inv) (b asid : Nat) (a : Word) (n : Nat) :
    (s.readImage b asid a n).2.Inv := by
  induction n generalizing s a with
  | zero => exact h
  | succ n ih =>
    have hb := State.globalByte_Inv h b asid a
    unfold State.readImage
    split <;> rename_i e <;> rw [e] at hb
    · exact hb
    · rename_i x t
      have hr : ∀ u : State, u.mem = t.mem → (u.readImage b asid (a + 1) n).2.Inv :=
        fun u hu => ih (State.Inv_of_mem (show t.Inv from hb) hu) _
      cases x <;> dsimp only
      · have hr := hr t rfl
        split
        · rename_i e
          rwa [e] at hr
        · exact hr
      · have hr := hr t.spend rfl
        split
        · rename_i e
          rwa [e] at hr
        · exact hr

@[simp] theorem State.startLaunch_Inv {s : State} (h : s.Inv) (p : HostPkt) (c : Ctx) (r : LaunchReq) (base : Nat)
    (k : Option Contract) (image : List Byte) : (s.startLaunch p c r base k image).Inv := by
  unfold State.startLaunch
  dsimp only
  generalize (if s.inBox c.pkgs s.chip.toNat then launchBays r.rect else []) = bays
  generalize hs : List.foldl (fun (t : State) b => t.createOn c.asid base r.quota image b) s _ = s1
  have h1 : s1.Inv := hs ▸ foldl_Inv (fun _ _ ht => State.createOn_Inv ht ..) _ h
  split <;> exact State.Inv_of_mem h1 (by simp)

theorem State.openAll_Inv {s : State} (h : s.Inv) (c : Ctx) (l : List WinReq) : exceptInv (s.openAll c l) := by
  induction l generalizing s with
  | nil => exact exceptInv_ok h
  | cons w r ih =>
    unfold State.openAll
    split
    · exact exceptInv_error _
    · exact ih (State.Inv_of_mem h (State.winWrite_mem ..))

theorem State.makeRoom_Inv {s t : State} (h : s.Inv) (e : s.makeRoom = some t) : t.Inv := by
  unfold State.makeRoom at e
  split at e
  · cases e
    exact h
  · obtain ⟨x, _, rfl⟩ := Option.map_eq_some_iff.1 e
    split <;> exact h

@[simp] theorem State.scrubbedBad_Inv {s : State} (h : s.Inv) (key : Nat) : (s.scrubbedBad key).Inv :=
  State.memError_Inv h ..

@[simp] theorem State.scrubMem_Inv {s : State} (h : s.Inv) (key : Nat) (found : ErrFind) : (s.scrubMem key found).Inv := by
  unfold State.scrubMem
  dsimp only
  split
  · exact h
  · split
    · exact h
    · split <;> exact State.Inv_of_mem h (by simp)
    · exact State.scrubbedBad_Inv (show (s.mark ..).Inv from h) _
    · split
      · exact State.scrubbedBad_Inv h _
      · generalize (_ && _) = tileBad
        split
        · exact State.scrubbedBad_Inv h _
        · exact h

@[simp] theorem State.scrubVec_Inv {s : State} (h : s.Inv) (b i v r : Nat) (found : ErrFind) :
    (s.scrubVec b i v r found).Inv := by
  unfold State.scrubVec
  dsimp only
  split
  · exact h
  · split
    · exact h
    · exact h
    · exact State.vecError_Inv (State.Inv_of_mem h (State.modC_mem ..)) ..
    · split
      · exact State.vecError_Inv h ..
      · exact h

@[simp] theorem State.serveRestored_Inv {s : State} (h : s.Inv) (b i : Nat) : (s.serveRestored b i).Inv := by
  unfold State.serveRestored
  split
  · exact h
  · rename_i c _
    dsimp only
    generalize hs : List.foldl _ (List.foldl _ s _) _ = s2
    have h2 : s2.Inv := hs ▸ foldl_Inv (fun t p ht => by split <;> simpa [State.Inv] using ht) _
      (foldl_Inv (fun t p ht => by simpa [State.Inv] using ht) _ h)
    have h3 : (((s2.placeHeld b i c.cellar.held).reserve b i).serveBind b i).Inv :=
      State.Inv_of_mem (State.placeHeld_Inv h2 b i c.cellar.held) (by simp)
    (repeat' split) <;> simpa [State.Inv] using h3

/-! ### Writes of the host and of management, and reset (R437, R463) -/

@[simp] theorem State.hostWrite_Inv {s : State} (h : s.Inv) (n a : Nat) (d : List Byte) :
    (State.hostWrite n s a d).Inv := by
  induction n generalizing s a d with
  | zero => exact h
  | succ n ih =>
    unfold State.hostWrite
    dsimp only
    split
    · exact h
    · apply ih
      split
      · exact State.write_Inv _ _ _ h
      · exact h

theorem State.mail_Inv {s k : State} (h : s.Inv) (hk : k.Inv) : (s.mail k).Inv := by
  unfold State.mail
  split
  · exact State.Inv_of_mem h (State.refuseMail_mem _)
  · exact hk

@[simp] theorem State.onRefuse_mem (s : State) (p : Packet) : (s.onRefuse p).mem = s.mem := by
  unfold State.onRefuse
  have hd := State.dropSent_mem s p.src (· == p.o1.setWidth 32)
  dsimp only
  generalize s.dropSent p.src (· == p.o1.setWidth 32) = y at hd
  obtain ⟨t, l⟩ := y
  replace hd : t.mem = s.mem := hd
  rw [State.drainOn_mem]
  cases l with
  | nil =>
    dsimp only
    generalize ((s.requestOf p.src (p.o1.setWidth 32)).getD (Own.none, 0)).1 = own
    split
    · simp [hd]
    · cases own <;> simp [hd, apply_ite State.mem]
  | cons x l =>
    dsimp only
    generalize x.own = own
    split
    · simp [hd]
    · cases own <;> simp [hd]

/-! ### The cycle's book and the clock (R92, R121) -/

@[simp] theorem State.cycleBook_mem (s : State) (b i : Nat) (c : BayCtx) (l : List (Nat × Fibre × Act)) (k : Option Nat) :
    (s.cycleBook b i c l k).mem = s.mem := by
  unfold State.cycleBook
  dsimp only
  generalize hs : List.foldl _ s _ = s1
  have h1 : s1.mem = s.mem := hs ▸ foldl_mem (fun _ _ => by rfl) _ _
  generalize (if l.isEmpty then 1 else 0) = stalled
  cases k <;> dsimp only <;> split <;> simp [h1]

@[simp] theorem State.tickTime_mem (s : State) : s.tickTime.mem = s.mem := by
  unfold State.tickTime
  dsimp only
  exact foldl_mem (fun _ _ => by rfl) _ _

end Sys2Proof.Machine
end

section
/-!
SUPPORT. Canonical memory under each instruction.
-/
namespace Sys2Proof.Machine

/-! ### The shapes that instructions share -/

theorem aluOp_Inv {s : State} (h : s.Inv) (i : Instr) (d : GReg) (v : Fibre → Word) : outInv (aluOp i d v s) :=
  issue_Inv h fun _ _ => State.Inv_of_mem h (State.modCur_mem ..)

theorem divOp_Inv {s : State} (h : s.Inv) (i : Instr) (d a b : GReg) (v : Word → Word → Word) :
    outInv (divOp i d a b v s) := by
  unfold divOp
  split
  · exact outInv_next.2 h
  · exact issue_Inv h fun _ _ => h

theorem branchOp_Inv {s : State} (h : s.Inv) (i : Instr) (a b : GReg) (o : BitVec 17) (cond : Word → Word → Bool) :
    outInv (branchOp i a b o cond s) :=
  issue_Inv h fun _ _ => by split <;> exact h

theorem fenceOp_Inv {s : State} (h : s.Inv) (i : Instr) (all : Bool) : outInv (fenceOp i all s) :=
  issue_Inv h fun _ _ => by (repeat' split) <;> simp [Res.Inv, h]

theorem loopOp_Inv {s : State} (h : s.Inv) (l : BitVec 2) (n : Word) (e : BitVec 10) (f : Fibre) :
    (loopOp l n e f s).Inv s := by
  unfold loopOp
  (repeat' split) <;> exact h

theorem flushRes_Inv {s : State} (h : s.Inv) (f : Fibre) (chip : Option Nat) : (flushRes f chip s).Inv s := by
  unfold flushRes
  (repeat' split) <;> simp [Res.Inv, h]

theorem State.sendMrcmd_Inv {s : State} (h : s.Inv) (f : Fibre) (m : MrMsg) : (s.sendMrcmd f m).Inv s := by
  unfold State.sendMrcmd
  (repeat' split) <;> simp [Res.Inv, h]

theorem vecPlace_Inv {s : State} (h : s.Inv) (v : Nat) (c : BayCtx) (f : Fibre) (e : VEnt) :
    (vecPlace v c f e s).Inv s := by
  unfold vecPlace
  split <;> simp [Res.Inv, h]

theorem vecIssue_Inv {s : State} (h : s.Inv) (i : Instr) (x y : Fibre → Word)
    (chk : BayCtx → Word → Word → Nat → Nat → Option (Cause × Word)) : outInv (vecIssue i x y chk s) :=
  issue_Inv h fun c f => by
    split
    · exact h
    · dsimp only
      split
      · split
        · exact h
        · exact vecPlace_Inv h ..
      · split
        · exact h
        · split
          · exact h
          · split
            · exact vecPlace_Inv h ..
            · exact h

theorem vecAsk_Inv {s : State} (h : s.Inv) (i : Instr) (x : Fibre → Word)
    (chk : BayCtx → Word → Word → Nat → Nat → Option (Cause × Word)) (kind : Nat → VKind) (code : Nat) :
    outInv (vecAsk i x chk kind code s) :=
  issue_Inv h fun c f => by
    split
    · exact h
    · split
      · exact h
      · dsimp only
        split <;> simp [Res.Inv, h]

theorem openFrame_Inv {s : State} (h : s.Inv) (i : Instr) (n : BitVec 4) (count : Fibre → Word) (st t u : BitVec 2) :
    outInv (openFrame i n count st t u s) :=
  issue_Inv h fun c f => by
    dsimp only
    (repeat' split) <;> exact h

theorem atomicOp_Inv {s : State} (h : s.Inv) (i : Instr) (fn : AtFn) (d : Option GReg) (a b : GReg) (g : Bool) (r : MemOrd)
    (p : Scope) (z : AtSz) : outInv (atomicOp i fn d a b g r p z s) :=
  issue_Inv h fun c f => by
    dsimp only
    split
    · exact localCheck_Inv h (withRelease_Inv h (fun t ht => Res.inv_done _ (State.bankAtomic_Inv ht ..)) ..) ..
    · refine globalCheck_Inv h (withRelease_Inv h (fun t ht => ?_) ..) ..
      have hg := State.globalIssue_Inv ht c f (f.reg a) (atBytes z) (.atomic fn d.isSome) d (f.reg b)
      split
      · exact State.Inv_of_mem (hg _) (State.awaitNewest_mem _)
      · exact hg _

theorem matIssue_Inv {s : State} (h : s.Inv) (op : Instr) (sem : BitVec 10) (x y : Fibre → Word) :
    outInv (matIssue op sem x y s) :=
  issue_Inv h fun c f => by
    split
    · exact h
    · exact submit_Inv h ..

theorem fabDesc_Inv {s : State} (h : s.Inv) (op : Instr) (a : GReg) (x : BitVec 10) (r : MemOrd) (p : Scope) :
    outInv (fabDesc op a x r p s) :=
  issue_Inv h fun _ _ => descCheck_Inv h (submit_Inv h ..) ..

theorem rdvIssue_Inv {s : State} (h : s.Inv) (op : Instr) : outInv (rdvIssue op s) :=
  issue_Inv h fun c f => by
    split
    · exact h
    · exact submit_Inv h ..

theorem planOp_Inv {s : State} (h : s.Inv) : outInv (planOp s) := by
  unfold planOp
  split <;> simp [State.Inv, h]

theorem State.atUnit_Inv {s : State} (h : s.Inv) (m : CistMsg) {k : State → State} (hk : ∀ t, t.Inv → (k t).Inv) :
    outInv (s.atUnit m k) := by
  have hm := State.Inv_of_mem h (State.mayCist_mem s m.asid (handleUnit m.handle))
  refine outInv_next.2 ?_
  split
  · exact h
  · split <;> rename_i e <;> rw [e] at hm
    · exact hk _ hm
    · exact hm

/-! ### Instructions with a body of their own -/

theorem execBaya_Inv {s : State} (h : s.Inv) (d a b : GReg) : outInv (execBaya d a b s) :=
  issue_Inv h fun c f => by
    (repeat' split) <;> simp [Res.Inv, h]

theorem execSread_Inv {s : State} (h : s.Inv) (b : GReg) (x : BitVec 10) : outInv (execSread b x s) :=
  issue_Inv h fun _ _ => by simp [Res.Inv, h]

theorem execCpy_Inv {s : State} (h : s.Inv) (a : GReg) (x : BitVec 10) (r : MemOrd) (p : Scope) :
    outInv (execCpy a x r p s) :=
  issue_Inv h fun _ _ => descCheck_Inv h (submit_Inv h ..) ..

theorem execFgo_Inv {s : State} (h : s.Inv) (a : GReg) : outInv (execFgo a s) :=
  issue_Inv h fun c f => by
    dsimp only
    (repeat' split) <;> simp [Res.Inv, h]

theorem execQfwd_Inv {s : State} (h : s.Inv) (d : GReg) (r : Dir) : outInv (execQfwd d r s) :=
  issue_Inv h fun c f => by
    refine gutterCheck_Inv h (gutterCheck_Inv h ?_ ..) ..
    dsimp only
    (repeat' split) <;> simp [Res.Inv, h]

theorem execRsig_Inv {s : State} (h : s.Inv) (a b : GReg) (x : BitVec 10) (r : MemOrd) (p : Scope) :
    outInv (execRsig a b x r p s) :=
  issue_Inv h fun c f => by
    dsimp only
    split
    · exact h
    · split
      · exact h
      · split
        · exact h
        · exact submit_Inv h ..

theorem execLoop_Inv {s : State} (h : s.Inv) (l : BitVec 2) (n e : BitVec 10) : outInv (execLoop l n e s) :=
  issue_Inv h fun _ _ => loopOp_Inv h ..

theorem execQpop_Inv {s : State} (h : s.Inv) (d : GReg) (r : Dir) : outInv (execQpop d r s) :=
  issue_Inv h fun c f => by
    refine gutterCheck_Inv h ?_ ..
    dsimp only
    (repeat' split) <;> simp [Res.Inv, h]

theorem execCread_Inv {s : State} (h : s.Inv) (a b : GReg) : outInv (execCread a b s) :=
  issue_Inv h fun _ _ => handleCheck_Inv h (by simp [Res.Inv, h]) ..

theorem execMgrant_Inv {s : State} (h : s.Inv) (a b : GReg) : outInv (execMgrant a b s) :=
  issue_Inv h fun c f => by
    dsimp only
    (repeat' split) <;> simp [Res.Inv, h]

theorem execBwait_Inv {s : State} (h : s.Inv) (x : BitVec 10) (r : MemOrd) (p : Scope) : outInv (execBwait x r p s) :=
  issue_Inv h fun c f => by
    dsimp only
    split
    · exact h
    · refine withRelease_Inv h (fun t ht => ?_) r p f
      (repeat' split) <;> simp [Res.Inv, ht]

theorem execBmask_Inv {s : State} (h : s.Inv) (a : GReg) (x : BitVec 10) : outInv (execBmask a x s) :=
  issue_Inv h fun c f => by
    dsimp only
    (repeat' split) <;> simp [Res.Inv, h]

theorem execLdl_Inv {s : State} (h : s.Inv) (d a : GReg) (z : Sz) (zx : Bool) (o : BitVec 17) :
    outInv (execLdl d a z zx o s) :=
  issue_Inv h fun _ _ => localCheck_Inv h (Res.inv_done _ (State.bankLoad_Inv h ..)) ..

theorem execCall_Inv {s : State} (h : s.Inv) (o : BitVec 26) : outInv (execCall o s) :=
  issue_Inv h fun _ _ => by simp [Res.Inv, h]

theorem execCpym_Inv {s : State} (h : s.Inv) (a : GReg) (x : BitVec 10) (r : MemOrd) (p : Scope) :
    outInv (execCpym a x r p s) :=
  issue_Inv h fun _ _ => descCheck_Inv h (submit_Inv h ..) ..

theorem execTime_Inv {s : State} (h : s.Inv) (d : GReg) : outInv (execTime d s) :=
  issue_Inv h fun _ _ => by simp [Res.Inv, h]

theorem execFspawnb_Inv {s : State} (h : s.Inv) (d a b : GReg) : outInv (execFspawnb d a b s) :=
  issue_Inv h fun c f => by
    dsimp only
    split
    · exact h
    · split
      · exact spawnHere_Inv h ..
      · split
        · exact h
        · split
          · exact h
          · exact withRelease_Inv h (fun t ht => by simp [Res.Inv, ht]) .rel .pkg f

theorem execFspawn_Inv {s : State} (h : s.Inv) (d a b : GReg) : outInv (execFspawn d a b s) :=
  issue_Inv h fun _ _ => spawnHere_Inv h ..

theorem execCadd_Inv {s : State} (h : s.Inv) (a b : GReg) (r : MemOrd) (p : Scope) : outInv (execCadd a b r p s) :=
  issue_Inv h fun c f => by
    refine handleCheck_Inv h ?_ ..
    split
    · exact h
    · exact withRelease_Inv h (fun t ht => by simp [Res.Inv, ht]) r p f

theorem execFyield_Inv {s : State} (h : s.Inv) : outInv (execFyield s) :=
  issue_Inv h fun _ _ => by simp [Res.Inv, h]

theorem execSpost_Inv {s : State} (h : s.Inv) (a : GReg) (x : BitVec 10) (r : MemOrd) (p : Scope) :
    outInv (execSpost a x r p s) :=
  issue_Inv h fun _ f => withRelease_Inv h (fun t ht => by simp [Res.Inv, ht]) r p f

theorem execLdg_Inv {s : State} (h : s.Inv) (d a : GReg) (z : Sz) (zx : Bool) (o : BitVec 17) :
    outInv (execLdg d a z zx o s) :=
  issue_Inv h fun _ _ => globalCheck_Inv h (Res.inv_done _ (State.globalIssue_Inv h ..)) ..

theorem execSwait_Inv {s : State} (h : s.Inv) (a : GReg) (x : BitVec 10) (r : MemOrd) (p : Scope) :
    outInv (execSwait a x r p s) :=
  issue_Inv h fun c f => by
    dsimp only
    split
    · exact h
    · refine withRelease_Inv h (fun t ht => ?_) r p f
      (repeat' split) <;> simp [Res.Inv, ht]

theorem execStry_Inv {s : State} (h : s.Inv) (a b : GReg) (x : BitVec 10) (r : MemOrd) (p : Scope) :
    outInv (execStry a b x r p s) :=
  issue_Inv h fun c f => by
    dsimp only
    split
    · exact h
    · refine withRelease_Inv h (fun t ht => ?_) r p f
      (repeat' split) <;> simp [Res.Inv, ht]

theorem execLoopReg_Inv {s : State} (h : s.Inv) (l : BitVec 2) (a : GReg) (e : BitVec 10) : outInv (execLoopReg l a e s) :=
  issue_Inv h fun _ _ => loopOp_Inv h ..

theorem execEvrd_Inv {s : State} (h : s.Inv) (d : GReg) (k : BitVec 3) : outInv (execEvrd d k s) :=
  issue_Inv h fun _ _ => by simp [Res.Inv, h]

theorem execCrdq_Inv {s : State} (h : s.Inv) (a b : GReg) : outInv (execCrdq a b s) :=
  issue_Inv h fun c f => by
    dsimp only
    (repeat' split) <;> simp [Res.Inv, h]

theorem execFpark_Inv {s : State} (h : s.Inv) : outInv (execFpark s) :=
  issue_Inv h fun c f => by
    (repeat' split)
    · exact h
    · exact h
    · exact h
    · exact h
    · exact Res.inv_stay _ (State.Inv_of_mem h (State.yieldCur_mem ..))
    · exact h
    · refine Res.inv_stay _ (State.cellarOr_Inv h _ _ _ _ fun t ht => ?_)
      exact State.Inv_of_mem ht (by simp)

theorem execNop_Inv {s : State} (h : s.Inv) : outInv (execNop s) :=
  issue_Inv h fun _ _ => by simp [Res.Inv, h]

theorem execCbudget_Inv {s : State} (h : s.Inv) (d : GReg) : outInv (execCbudget d s) :=
  issue_Inv h fun _ _ => by simp [Res.Inv, h]

theorem execLbrk_Inv {s : State} (h : s.Inv) (l : BitVec 2) : outInv (execLbrk l s) :=
  issue_Inv h fun c f => by
    (repeat' split) <;> simp [Res.Inv, h]

theorem execBayn_Inv {s : State} (h : s.Inv) (d a b : GReg) : outInv (execBayn d a b s) :=
  issue_Inv h fun c f => by
    (repeat' split) <;> simp [Res.Inv, h]

theorem execBarr_Inv {s : State} (h : s.Inv) (x : BitVec 10) (r : MemOrd) (p : Scope) : outInv (execBarr x r p s) :=
  issue_Inv h fun c f => by
    dsimp only
    split
    · exact h
    · refine withRelease_Inv h (fun t ht => ?_) r p f
      (repeat' split) <;> simp [Res.Inv, ht]

theorem execMrcmd_Inv {s : State} (h : s.Inv) (a b : GReg) (y : BitVec 10) : outInv (execMrcmd a b y s) := by
  obtain ⟨g, hg⟩ : ∃ g, g = execMrcmd := ⟨_, rfl⟩
  obtain ⟨key, hkey⟩ : ∃ key, key = spadKey := ⟨_, rfl⟩
  rw [← hg]
  delta execMrcmd at hg
  rw [← hkey] at hg
  clear hkey
  subst hg
  refine issue_Inv h fun c f => ?_
  dsimp only
  split
  · exact State.sendMrcmd_Inv h ..
  · split
    · exact h
    · split
      · exact h
      · split
        · exact h
        · split
          · exact Res.inv_enter _ (State.memError_Inv h ..) ..
          · split
            · exact h
            · exact State.sendMrcmd_Inv h ..

theorem execStg_Inv {s : State} (h : s.Inv) (d a : GReg) (z : Sz) (o : BitVec 17) : outInv (execStg d a z o s) :=
  issue_Inv h fun _ _ => globalCheck_Inv h (Res.inv_done _ (State.globalIssue_Inv h ..)) ..

theorem execQpush_Inv {s : State} (h : s.Inv) (a : GReg) (r : Dir) : outInv (execQpush a r s) :=
  issue_Inv h fun c f => by
    refine gutterCheck_Inv h ?_ ..
    dsimp only
    (repeat' split) <;> simp [Res.Inv, h]

theorem execBstat_Inv {s : State} (h : s.Inv) (b : GReg) (x : BitVec 10) : outInv (execBstat b x s) :=
  issue_Inv h fun _ _ => by simp [Res.Inv, h]

theorem execFlushc_Inv {s : State} (h : s.Inv) (a : GReg) (p : Scope) : outInv (execFlushc a p s) :=
  issue_Inv h fun c f => by
    dsimp only
    split
    · exact h
    · exact flushRes_Inv h ..

theorem execSysrd_Inv {s : State} (h : s.Inv) (d : GReg) (n : BitVec 14) : outInv (execSysrd d n s) :=
  issue_Inv h fun _ _ => by simp [Res.Inv, h]

theorem execVbind_Inv {s : State} (h : s.Inv) : outInv (execVbind s) :=
  issue_Inv h fun c f => by
    (repeat' split) <;> simp [Res.Inv, h]

theorem execIcinv_Inv {s : State} (h : s.Inv) (a : GReg) (l : BitVec 14) : outInv (execIcinv a l s) :=
  issue_Inv h fun _ _ => by simp [Res.Inv, h]

theorem execFid_Inv {s : State} (h : s.Inv) (d : GReg) : outInv (execFid d s) :=
  issue_Inv h fun _ _ => by simp [Res.Inv, h]

theorem execCallr_Inv {s : State} (h : s.Inv) (a : GReg) : outInv (execCallr a s) :=
  issue_Inv h fun c f => by
    (repeat' split) <;> simp [Res.Inv, h]

theorem execJr_Inv {s : State} (h : s.Inv) (a : GReg) : outInv (execJr a s) :=
  issue_Inv h fun c f => by
    (repeat' split) <;> simp [Res.Inv, h]

theorem execQpusht_Inv {s : State} (h : s.Inv) (d a : GReg) (r : Dir) : outInv (execQpusht d a r s) :=
  issue_Inv h fun c f => by
    refine gutterCheck_Inv h ?_ ..
    dsimp only
    (repeat' split) <;> simp [Res.Inv, h]

theorem execQpopt_Inv {s : State} (h : s.Inv) (d b : GReg) (r : Dir) : outInv (execQpopt d b r s) :=
  issue_Inv h fun c f => by
    refine gutterCheck_Inv h ?_ ..
    dsimp only
    (repeat' split) <;> simp [Res.Inv, h]

theorem execFexit_Inv {s : State} (h : s.Inv) : outInv (execFexit s) :=
  issue_Inv h fun c f => by
    (repeat' split) <;> simp [Res.Inv, h]

theorem execSinit_Inv {s : State} (h : s.Inv) (a : GReg) (x : BitVec 10) : outInv (execSinit a x s) :=
  issue_Inv h fun c f => by
    dsimp only
    (repeat' split) <;> simp [Res.Inv, h]

theorem execFlush_Inv {s : State} (h : s.Inv) (p : Scope) : outInv (execFlush p s) :=
  issue_Inv h fun _ f => flushRes_Inv h f none

theorem execBsync_Inv {s : State} (h : s.Inv) (x : BitVec 10) (r : MemOrd) (p : Scope) : outInv (execBsync x r p s) :=
  issue_Inv h fun c f => by
    dsimp only
    split
    · exact h
    · refine withRelease_Inv h (fun t ht => ?_) r p f
      (repeat' split) <;> simp [Res.Inv, ht]

theorem execCarm_Inv {s : State} (h : s.Inv) (a b : GReg) (x : BitVec 10) : outInv (execCarm a b x s) := by
  obtain ⟨g, hg⟩ : ∃ g, g = execCarm := ⟨_, rfl⟩
  obtain ⟨key, hkey⟩ : ∃ key, key = spadKey := ⟨_, rfl⟩
  rw [← hg]
  delta execCarm at hg
  rw [← hkey] at hg
  clear hkey
  subst hg
  refine issue_Inv h fun c f => handleCheck_Inv h ?_ ..
  split
  · exact h
  · split
    · exact h
    · dsimp only
      split
      · exact Res.inv_enter _ (State.memError_Inv h ..) ..
      · split
        · exact h
        · exact Res.inv_done _ (State.Inv_of_mem h (State.sendCist_mem ..))

theorem execStl_Inv {s : State} (h : s.Inv) (d a : GReg) (z : Sz) (o : BitVec 17) : outInv (execStl d a z o s) :=
  issue_Inv h fun _ _ => localCheck_Inv h (Res.inv_done _ (State.write_Inv _ _ _ h)) ..

theorem execHret_Inv {s : State} (h : s.Inv) : outInv (execHret s) :=
  issue_Inv h fun c f => by
    dsimp only
    (repeat' split) <;> simp [Res.Inv, h]

theorem execFctx_Inv {s : State} (h : s.Inv) (d : GReg) : outInv (execFctx d s) :=
  issue_Inv h fun _ _ => by simp [Res.Inv, h]

theorem execQstat_Inv {s : State} (h : s.Inv) (d : GReg) (r : Dir) : outInv (execQstat d r s) :=
  issue_Inv h fun _ _ => by simp [Res.Inv, h]

theorem execJmp_Inv {s : State} (h : s.Inv) (o : BitVec 26) : outInv (execJmp o s) :=
  issue_Inv h fun _ _ => by simp [Res.Inv, h]

theorem execCpyt_Inv {s : State} (h : s.Inv) (a b : GReg) (x : BitVec 10) (r : MemOrd) (p : Scope) :
    outInv (execCpyt a b x r p s) :=
  issue_Inv h fun _ _ => descCheck_Inv h (submit_Inv h ..) ..

theorem execEvsel_Inv {s : State} (h : s.Inv) (a : GReg) (k : BitVec 3) : outInv (execEvsel a k s) :=
  issue_Inv h fun _ _ => by simp [Res.Inv, h]

theorem execRputi_Inv {s : State} (h : s.Inv) (a b : GReg) (x : BitVec 10) (r : MemOrd) (p : Scope) :
    outInv (execRputi a b x r p s) :=
  issue_Inv h fun c f => by
    dsimp only
    split
    · exact h
    · split
      · exact h
      · exact submit_Inv h ..

theorem execCpyq_Inv {s : State} (h : s.Inv) (a b : GReg) : outInv (execCpyq a b s) :=
  issue_Inv h fun c f => by
    dsimp only
    (repeat' split) <;> simp [Res.Inv, h]

theorem execCdisarm_Inv {s : State} (h : s.Inv) (a b : GReg) : outInv (execCdisarm a b s) :=
  issue_Inv h fun _ _ => handleCheck_Inv h (by simp [Res.Inv, h]) ..

theorem execStrmq_Inv {s : State} (h : s.Inv) (d a : GReg) : outInv (execStrmq d a s) :=
  issue_Inv h fun c f => by
    dsimp only
    (repeat' split) <;> simp [Res.Inv, h]

theorem execTrap_Inv {s : State} (h : s.Inv) (i : BitVec 14) : outInv (execTrap i s) :=
  issue_Inv h fun c f => by
    (repeat' split) <;> simp [Res.Inv, h]

theorem execFpri_Inv {s : State} (h : s.Inv) (a : GReg) : outInv (execFpri a s) :=
  issue_Inv h fun c f => by
    (repeat' split) <;> simp [Res.Inv, h]

theorem execSyswr_Inv {s : State} (h : s.Inv) (a : GReg) (n : BitVec 14) : outInv (execSyswr a n s) :=
  issue_Inv h fun _ _ => by simp [Res.Inv, h]

end Sys2Proof.Machine
end

section
/-!
SUPPORT. Canonical memory under each event.
-/
namespace Sys2Proof.Machine

/-! ### Events -/

/-- The state of a pair that is known. -/
theorem State.Inv_of_fst {α : Type} {r : State × α} {t : State} {a : α} (h : r.1.Inv) (e : r = (t, a)) : t.Inv := by
  rw [e] at h
  exact h

theorem State.Inv_of_snd {α : Type} {r : α × State} {t : State} {a : α} (h : r.2.Inv) (e : r = (a, t)) : t.Inv := by
  rw [e] at h
  exact h

theorem execAckResynchronised_Inv {s : State} (h : s.Inv) : outInv (execAckResynchronised s) := by
  unfold execAckResynchronised
  split
  · refine outInv_next.2 (State.arriving_Inv h (fun t ht => ?_) _)
    dsimp only
    split
    · exact State.Inv_of_mem ht (by simp)
    · exact ht
  · exact outInv_next.2 h

theorem execHostAccess_Inv {s : State} (h : s.Inv) : outInv (execHostAccess s) := by
  unfold execHostAccess
  (repeat' split) <;> simp [State.Inv, h]

theorem execUpdateStartTimeout_Inv {s : State} (h : s.Inv) : outInv (execUpdateStartTimeout s) := by
  unfold execUpdateStartTimeout
  dsimp only
  (repeat' split) <;> simp [State.Inv, h]

theorem execContextDestroy_Inv {s : State} (h : s.Inv) : outInv (execContextDestroy s) := by
  unfold execContextDestroy
  (repeat' split) <;> simp [State.Inv, h]

theorem execBarrierPhaseComplete_Inv {s : State} (h : s.Inv) : outInv (execBarrierPhaseComplete s) := by
  unfold execBarrierPhaseComplete
  dsimp only
  (repeat' split) <;> simp [State.Inv, h]

theorem execFibreEviction_Inv {s : State} (h : s.Inv) : outInv (execFibreEviction s) := by
  unfold execFibreEviction
  split
  · split
    · split
      · refine outInv_next.2 (State.cellarOr_Inv h _ _ _ _ fun t ht => ?_)
        exact State.Inv_of_mem ht (by simp)
      · exact outInv_next.2 h
    · exact outInv_next.2 h
  · exact outInv_next.2 h

theorem execPld_Inv {s : State} (h : s.Inv) : outInv (execPld s) := by
  unfold execPld
  (repeat' split) <;> simp [State.Inv, h]

theorem execRendezvousTransfer_Inv {s : State} (h : s.Inv) : outInv (execRendezvousTransfer s) := by
  unfold execRendezvousTransfer
  split
  · split
    · exact outInv_next.2 h
    · split
      · exact outInv_next.2 h
      · dsimp only
        split
        · exact outInv_next.2 h
        · split
          · exact outInv_next.2 h
          · split
            · exact outInv_next.2 h
            · split
              · exact outInv_next.2 (State.vecFault_Inv (State.vecError_Inv h ..) ..)
              · split
                · refine outInv_next.2 (State.vecPop_Inv ?_ ..)
                  exact State.Inv_of_mem (State.matFail_Inv h ..) (State.clearMact_mem ..)
                · rename_i t e
                  have ht := State.rdvRun_Inv h _ _ _ _ t e
                  exact outInv_next.2 (State.vecPop_Inv (State.Inv_of_mem ht (by simp)) ..)
  · exact outInv_next.2 h

theorem execTsync_Inv {s : State} (h : s.Inv) : outInv (execTsync s) := by
  unfold execTsync
  split
  · refine outInv_next.2 (State.arriving_Inv h (fun t ht => ?_) _)
    split
    · exact State.Inv_of_mem ht (State.emit_mem ..)
    · split
      · exact ht
      · dsimp only
        (repeat' split) <;> exact State.Inv_of_mem ht (by simp)
  · exact outInv_next.2 h

theorem execSignal_Inv {s : State} (h : s.Inv) : outInv (execSignal s) := by
  unfold execSignal
  split
  · dsimp only
    split
    · simp [State.Inv, h]
    · split
      · simp [State.Inv, h]
      · split
        · simp [State.Inv, h]
        · split
          · split <;> simp [State.Inv, h]
          · split
            · simp [State.Inv, h]
            · split
              · split
                · simp [State.Inv, h]
                · split <;> rename_i e <;>
                    exact outInv_next.2 (State.complete_Inv (State.Inv_of_fst (State.Inv_of_mem h (State.tryPost_mem ..)) e) ..)
              · simp [State.Inv, h]
  · simp [State.Inv, h]

theorem execSpawn_Inv {s : State} (h : s.Inv) : outInv (execSpawn s) := by
  unfold execSpawn
  (repeat' split) <;> simp [State.Inv, h]

theorem execContextEnd_Inv {s : State} (h : s.Inv) : outInv (execContextEnd s) := by
  unfold execContextEnd
  split
  · split
    · exact outInv_next.2 h
    · split
      · exact outInv_next.2 h
      · dsimp only
        refine outInv_next.2 (State.Inv_of_mem (State.dropCopies_Inv (State.releaseCtx_Inv ?_ _) _) (State.modCtx_mem ..))
        exact State.closeLaunch_Inv (State.errPush_Inv h ..) ..
  · exact outInv_next.2 h

theorem execCellarRestore_Inv {s : State} (h : s.Inv) : outInv (execCellarRestore s) := by
  unfold execCellarRestore
  split
  · split
    · exact outInv_next.2 h
    · split
      · split
        · exact outInv_next.2 h
        · split
          · exact outInv_next.2 (State.Inv_of_mem h (by simp))
          · refine outInv_next.2 (State.cellarOr_Inv h _ _ _ _ fun t ht => ?_)
            dsimp only
            refine State.Inv_of_mem (State.placeHeld_Inv (State.Inv_of_mem ht ?_) ..) (State.reserve_mem ..)
            split <;> simp
      · exact outInv_next.2 h
  · exact outInv_next.2 h

theorem execCaddAtUnit_Inv {s : State} (h : s.Inv) : outInv (execCaddAtUnit s) := by
  unfold execCaddAtUnit
  split
  · refine State.atUnit_Inv h _ fun t ht => ?_
    dsimp only
    (repeat' split) <;> simp [State.Inv, ht]
  · exact outInv_next.2 h

theorem execControlStateError_Inv {s : State} (h : s.Inv) : outInv (execControlStateError s) := by
  unfold execControlStateError
  (repeat' split) <;> simp [State.Inv, h]

theorem execPortset_Inv {s : State} (h : s.Inv) : outInv (execPortset s) := by
  unfold execPortset
  split
  · refine outInv_next.2 (State.mail_Inv h ?_)
    (repeat' split) <;> exact State.Inv_of_mem h (by simp)
  · exact outInv_next.2 h

theorem execSwitchPlan_Inv {s : State} (h : s.Inv) : outInv (execSwitchPlan s) := by
  unfold execSwitchPlan
  split
  · dsimp only
    split
    · simp [State.Inv, h]
    · split
      · simp [State.Inv, h]
      · split
        · simp [State.Inv, h]
        · split
          · simp [State.Inv, h]
          · split
            · simp [State.Inv, h]
            · refine outInv_next.2 (State.complete_Inv ?_ ..)
              exact foldl_Inv (fun t e ht => by exact ht) _ h
  · simp [State.Inv, h]

theorem execMailboxFence_Inv {s : State} (h : s.Inv) : outInv (execMailboxFence s) := by
  unfold execMailboxFence
  split
  · refine outInv_next.2 (State.mail_Inv h ?_)
    split <;> exact State.Inv_of_mem h (by simp)
  · exact outInv_next.2 h

theorem execLaunchEnd_Inv {s : State} (h : s.Inv) : outInv (execLaunchEnd s) := by
  unfold execLaunchEnd
  (repeat' split) <;> simp [State.Inv, h]

theorem execReset_Inv {s : State} (h : s.Inv) : outInv (execReset s) := by
  unfold execReset
  (repeat' split) <;> simp [State.Inv, h]

theorem execCisternSpawnRetry_Inv {s : State} (h : s.Inv) : outInv (execCisternSpawnRetry s) := by
  unfold execCisternSpawnRetry
  split
  · dsimp only
    split
    · split
      · rename_i e
        have ht := State.place_Inv h e
        exact outInv_next.2 (State.cistRetry_Inv (State.Inv_of_mem ht (by simp)) ..)
      · exact outInv_next.2 h
    · exact outInv_next.2 (State.cistRetry_Inv (State.Inv_of_mem h (by simp)) ..)
  · exact outInv_next.2 h

theorem execApertureAccess_Inv {s : State} (h : s.Inv) : outInv (execApertureAccess s) := by
  unfold execApertureAccess
  (repeat' split) <;> simp [State.Inv, h]

theorem execPamo_Inv {s : State} (h : s.Inv) : outInv (execPamo s) := by
  unfold execPamo
  (repeat' split) <;> simp [State.Inv, h]

theorem execTimeLock_Inv {s : State} (h : s.Inv) : outInv (execTimeLock s) := by
  unfold execTimeLock
  (repeat' split) <;> simp [State.Inv, h]

theorem execFaultFibreStart_Inv {s : State} (h : s.Inv) : outInv (execFaultFibreStart s) := by
  unfold execFaultFibreStart
  dsimp only
  (repeat' split) <;> simp [State.Inv, h]

theorem execCisternAnswer_Inv {s : State} (h : s.Inv) : outInv (execCisternAnswer s) := by
  unfold execCisternAnswer
  (repeat' split) <;> simp [State.Inv, h]

theorem execAmor_Inv {s : State} (h : s.Inv) : outInv (execAmor s) := by
  unfold execAmor
  (repeat' split) <;> simp [State.Inv, h]

theorem execCdata_Inv {s : State} (h : s.Inv) : outInv (execCdata s) := by
  unfold execCdata
  (repeat' split) <;> simp [State.Inv, h]

theorem execCopy_Inv {s : State} (h : s.Inv) : outInv (execCopy s) := by
  unfold execCopy
  dsimp only
  (repeat' split) <;> simp [State.Inv, h]

theorem execStateCapture_Inv {s : State} (h : s.Inv) : outInv (execStateCapture s) := by
  unfold execStateCapture
  (repeat' split) <;> simp [State.Inv, h]

theorem execUpdateRestartComplete_Inv {s : State} (h : s.Inv) : outInv (execUpdateRestartComplete s) := by
  unfold execUpdateRestartComplete
  dsimp only
  (repeat' split) <;> simp [State.Inv, h]

theorem execCopyCommandComplete_Inv {s : State} (h : s.Inv) : outInv (execCopyCommandComplete s) := by
  unfold execCopyCommandComplete
  (repeat' split) <;> simp [State.Inv, h]

theorem execDbell_Inv {s : State} (h : s.Inv) : outInv (execDbell s) := by
  unfold execDbell
  split
  · split
    · exact outInv_next.2 h
    · split
      · exact outInv_next.2 h
      · split
        · exact outInv_next.2 h
        · split
          · exact outInv_next.2 h
          · split
            · exact outInv_next.2 h
            · rename_i t e
              have ht := State.serveQueue_Inv h _ _ t e
              exact outInv_next.2 ht
  · exact outInv_next.2 h

theorem execMeshPostArrival_Inv {s : State} (h : s.Inv) : outInv (execMeshPostArrival s) := by
  unfold execMeshPostArrival
  (repeat' split) <;> simp [State.Inv, h]

theorem execResidentSwitchComplete_Inv {s : State} (h : s.Inv) : outInv (execResidentSwitchComplete s) := by
  unfold execResidentSwitchComplete
  (repeat' split) <;> simp [State.Inv, h]

theorem execCreadAtUnit_Inv {s : State} (h : s.Inv) : outInv (execCreadAtUnit s) := by
  unfold execCreadAtUnit
  split
  · refine State.atUnit_Inv h _ fun t ht => ?_
    exact State.Inv_of_mem ht (State.cistAnswer_mem ..)
  · exact outInv_next.2 h

theorem execCopyCommandBegin_Inv {s : State} (h : s.Inv) : outInv (execCopyCommandBegin s) := by
  unfold execCopyCommandBegin
  split
  · split
    · exact outInv_next.2 h
    · generalize (_ || _) = waits
      split
      · exact outInv_next.2 h
      · split
        · exact outInv_next.2 h
        · rename_i e
          have ht := State.takeCmd_Inv h e
          dsimp only
          (repeat' split) <;> exact outInv_next.2 (State.Inv_of_mem ht (by simp))
  · exact outInv_next.2 h

theorem execInstructionLineFill_Inv {s : State} (h : s.Inv) : outInv (execInstructionLineFill s) := by
  unfold execInstructionLineFill
  split
  · split
    · exact outInv_next.2 h
    · split
      · exact outInv_next.2 h
      · split
        · exact outInv_next.2 h
        · rename_i b asid line _ _ _ _ _ _ _ _
          have ht := State.translateAt_Inv h (homeStation b) asid line .fetch
          dsimp only
          split <;> rename_i e <;> rw [e] at ht
          · split
            · split
              · exact outInv_next.2 (State.Inv_of_mem (State.memError_Inv ht ..) (fetchFaults_mem ..))
              · exact outInv_next.2 (State.Inv_of_mem ht (by simp))
            · exact outInv_next.2 (State.Inv_of_mem ht (fetchFaults_mem ..))
          · exact outInv_next.2 (State.Inv_of_mem ht (fetchFaults_mem ..))
          · exact outInv_next.2 (State.Inv_of_mem ht (fetchFaults_mem ..))
          · exact outInv_next.2 (State.Inv_of_mem ht (fetchFaults_mem ..))
  · exact outInv_next.2 h

theorem execFabricCommandBegin_Inv {s : State} (h : s.Inv) : outInv (execFabricCommandBegin s) := by
  unfold execFabricCommandBegin
  split
  · split
    · exact outInv_next.2 h
    · split
      · exact outInv_next.2 h
      · split
        · exact outInv_next.2 h
        · rename_i e
          have ht := State.takeCmd_Inv h e
          dsimp only
          (repeat' split) <;> exact outInv_next.2 (State.Inv_of_mem ht (by simp))
  · exact outInv_next.2 (State.fabStage_Inv h ..)
  · exact outInv_next.2 h

theorem execLinkPartnerArrival_Inv {s : State} (h : s.Inv) : outInv (execLinkPartnerArrival s) := by
  unfold execLinkPartnerArrival
  (repeat' split) <;> simp [State.Inv, h]

theorem execLcset_Inv {s : State} (h : s.Inv) : outInv (execLcset s) := by
  unfold execLcset
  split
  · refine outInv_next.2 (State.mail_Inv h ?_)
    (repeat' split) <;> exact State.Inv_of_mem h (by simp)
  · exact outInv_next.2 h

theorem execStreamTimeout_Inv {s : State} (h : s.Inv) : outInv (execStreamTimeout s) := by
  unfold execStreamTimeout
  dsimp only
  (repeat' split) <;> simp [State.Inv, h]

theorem execAckResynchronise_Inv {s : State} (h : s.Inv) : outInv (execAckResynchronise s) := by
  unfold execAckResynchronise
  split
  · refine outInv_next.2 (State.arriving_Inv h (fun t ht => ?_) _)
    exact State.Inv_of_mem ht (State.onResync_mem ..)
  · exact outInv_next.2 h

theorem execMatrixCommandComplete_Inv {s : State} (h : s.Inv) : outInv (execMatrixCommandComplete s) := by
  unfold execMatrixCommandComplete
  split
  · split
    · exact outInv_next.2 h
    · split
      · exact outInv_next.2 h
      · split
        · exact outInv_next.2 (State.Inv_of_mem (State.matFail_Inv h ..) (State.clearMact_mem ..))
        · exact outInv_next.2 h
        · rename_i b i _ _ c _ _ m _ _ _
          have hr := State.matRun_Inv h b i c m
          split
          · exact outInv_next.2 (State.Inv_of_mem (State.matFail_Inv h ..) (State.clearMact_mem ..))
          · rename_i t e
            exact outInv_next.2 (State.Inv_of_mem (hr t e) (by simp))
  · exact outInv_next.2 h

theorem execMrcmdArrival_Inv {s : State} (h : s.Inv) : outInv (execMrcmdArrival s) := by
  obtain ⟨g, hg⟩ : ∃ g, g = execMrcmdArrival := ⟨_, rfl⟩
  have ha : ∀ b i e m t q, s.accept b i e m = .ok (t, q) → t.mem = s.mem := fun _ _ _ _ _ _ => State.accept_mem
  obtain ⟨accept, hacc⟩ : ∃ accept, accept = State.accept := ⟨_, rfl⟩
  rw [← hg]
  delta execMrcmdArrival at hg
  rw [← hacc] at hg ha
  clear hacc
  subst hg
  dsimp only
  split
  · split
    · exact outInv_next.2 h
    · split
      · exact outInv_next.2 h
      · split
        · exact outInv_next.2 h
        · split
          · exact outInv_next.2 h
          · split
            · exact outInv_next.2 h
            · split
              · exact outInv_next.2 h
              · split
                · exact outInv_next.2 h
                · split
                  · split
                    · rename_i e
                      have hu := State.Inv_of_mem h (ha _ _ _ _ _ _ e)
                      exact outInv_next.2 hu
                    · exact outInv_next.2 h
                  · exact outInv_next.2 h
  · exact outInv_next.2 h

theorem execInvalidate_Inv {s : State} (h : s.Inv) : outInv (execInvalidate s) := by
  unfold execInvalidate
  dsimp only
  (repeat' split) <;> simp [State.Inv, h]

theorem execBestEffortQuantumExpiry_Inv {s : State} (h : s.Inv) : outInv (execBestEffortQuantumExpiry s) := by
  unfold execBestEffortQuantumExpiry
  (repeat' split) <;> simp [State.Inv, h]

theorem execContractPeriodStart_Inv {s : State} (h : s.Inv) : outInv (execContractPeriodStart s) := by
  unfold execContractPeriodStart
  dsimp only
  (repeat' split) <;> simp [State.Inv, h]

theorem execAmo_Inv {s : State} (h : s.Inv) : outInv (execAmo s) := by
  unfold execAmo
  (repeat' split) <;> simp [State.Inv, h]

theorem execCdisarmAtUnit_Inv {s : State} (h : s.Inv) : outInv (execCdisarmAtUnit s) := by
  unfold execCdisarmAtUnit
  split
  · refine State.atUnit_Inv h _ fun t ht => ?_
    dsimp only
    split <;> exact State.Inv_of_mem ht (by simp)
  · exact outInv_next.2 h

theorem execSpawnMessageArrival_Inv {s : State} (h : s.Inv) : outInv (execSpawnMessageArrival s) := by
  unfold execSpawnMessageArrival
  (repeat' split) <;> simp [State.Inv, h]

theorem execPacketForward_Inv {s : State} (h : s.Inv) : outInv (execPacketForward s) := by
  unfold execPacketForward
  dsimp only
  (repeat' split) <;> simp [State.Inv, h]

theorem execGutterWordArrival_Inv {s : State} (h : s.Inv) : outInv (execGutterWordArrival s) := by
  unfold execGutterWordArrival
  (repeat' split) <;> simp [State.Inv, h]

theorem execGroupTreeRebuild_Inv {s : State} (h : s.Inv) : outInv (execGroupTreeRebuild s) := by
  unfold execGroupTreeRebuild
  split
  · dsimp only
    split
    · exact outInv_next.2 h
    · exact outInv_next.2 (State.Inv_of_mem h (foldl_mem (fun _ _ => by rfl) ..))
  · split
    · exact outInv_next.2 h
    · refine outInv_next.2 ?_
      split
      · exact State.dropLost_Inv h ..
      · rename_i asid g m _ _ e _ _
        have hf : State.Inv { s with failed := (m, 8) :: s.failed } := h
        exact State.Inv_of_mem (State.dropLost_Inv hf ..) (State.release_mem _)
  · exact outInv_next.2 h

theorem execRefuse_Inv {s : State} (h : s.Inv) : outInv (execRefuse s) := by
  unfold execRefuse
  split
  · refine outInv_next.2 (State.arriving_Inv h (fun t ht => ?_) _)
    exact State.Inv_of_mem ht (State.onRefuse_mem ..)
  · exact outInv_next.2 h

theorem execCopyAccessFault_Inv {s : State} (h : s.Inv) : outInv (execCopyAccessFault s) := by
  unfold execCopyAccessFault
  (repeat' split) <;> simp [State.Inv, h]

theorem execWipeComplete_Inv {s : State} (h : s.Inv) : outInv (execWipeComplete s) := by
  unfold execWipeComplete
  split
  · dsimp only
    split
    · exact outInv_next.2 h
    · have hf := filter_wf s.mem (fun c => isCompKey c.1) h
      split
      · exact outInv_next.2 hf
      · exact outInv_next.2 (State.Inv_of_mem (show State.Inv { s with mem := s.mem.filter fun c => isCompKey c.1 } from hf)
          (State.openFront_mem _))
  · exact outInv_next.2 h

theorem execRetransmissionTimeout_Inv {s : State} (h : s.Inv) : outInv (execRetransmissionTimeout s) := by
  unfold execRetransmissionTimeout
  (repeat' split) <;> simp [State.Inv, h]

theorem execStreamStateFetchComplete_Inv {s : State} (h : s.Inv) : outInv (execStreamStateFetchComplete s) := by
  unfold execStreamStateFetchComplete
  split
  · split
    · exact outInv_next.2 h
    · rename_i e
      have ht := State.makeRoom_Inv h e
      dsimp only
      split <;> exact outInv_next.2 (State.Inv_of_mem ht (by simp))
  · exact outInv_next.2 h

theorem execMigrationArrival_Inv {s : State} (h : s.Inv) : outInv (execMigrationArrival s) := by
  unfold execMigrationArrival
  (repeat' split) <;> simp [State.Inv, h]

theorem execWatchdogFire_Inv {s : State} (h : s.Inv) : outInv (execWatchdogFire s) := by
  unfold execWatchdogFire
  (repeat' split) <;> simp [State.Inv, h]

theorem execWaitingCountThreshold_Inv {s : State} (h : s.Inv) : outInv (execWaitingCountThreshold s) := by
  unfold execWaitingCountThreshold
  (repeat' split) <;> simp [State.Inv, h]

theorem execGutterCreditReturn_Inv {s : State} (h : s.Inv) : outInv (execGutterCreditReturn s) := by
  unfold execGutterCreditReturn
  (repeat' split) <;> simp [State.Inv, h]

theorem execGetq_Inv {s : State} (h : s.Inv) : outInv (execGetq s) := by
  unfold execGetq
  (repeat' split) <;> simp [State.Inv, h]

theorem execPageWalkComplete_Inv {s : State} (h : s.Inv) : outInv (execPageWalkComplete s) := by
  unfold execPageWalkComplete
  split
  · split
    · exact outInv_next.2 h
    · rename_i a _
      exact outInv_next.2 (State.accessTo_Inv (State.translateAt_Inv h (homeStation a.bay) a.asid a.ea a.need) ..)
  · exact outInv_next.2 h

theorem execFlitReplay_Inv {s : State} (h : s.Inv) : outInv (execFlitReplay s) := by
  unfold execFlitReplay
  dsimp only
  (repeat' split) <;> simp [State.Inv, h]

theorem execTimeUnlock_Inv {s : State} (h : s.Inv) : outInv (execTimeUnlock s) := by
  unfold execTimeUnlock
  (repeat' split) <;> simp [State.Inv, h]

theorem execPortRetrain_Inv {s : State} (h : s.Inv) : outInv (execPortRetrain s) := by
  unfold execPortRetrain
  (repeat' split) <;> simp [State.Inv, h]

theorem execCarmAtUnit_Inv {s : State} (h : s.Inv) : outInv (execCarmAtUnit s) := by
  unfold execCarmAtUnit
  split
  · refine State.atUnit_Inv h _ fun t ht => ?_
    rename_i m _
    have ha := State.Inv_of_mem ht (State.cistArm_mem t m.asid m.handle m.desc)
    split <;> rename_i e <;> rw [e] at ha <;> exact State.Inv_of_mem ha (by simp)
  · exact outInv_next.2 h

theorem execAckAnswer_Inv {s : State} (h : s.Inv) : outInv (execAckAnswer s) := by
  unfold execAckAnswer
  split
  · refine outInv_next.2 (State.arriving_Inv h (fun t ht => ?_) _)
    exact State.Inv_of_mem ht (State.onAck_mem ..)
  · exact outInv_next.2 h

theorem execLaunch_Inv {s : State} (h : s.Inv) : outInv (execLaunch s) := by
  unfold execLaunch
  split
  · dsimp only
    split
    · simp [State.Inv, h]
    · split
      · simp [State.Inv, h]
      · split
        · exact outInv_next.2 h
        · split
          · simp [State.Inv, h]
          · split
            · simp [State.Inv, h]
            · split
              · simp [State.Inv, h]
              · split
                · simp [State.Inv, h]
                · split <;> rename_i e
                  · exact outInv_next.2 (State.refuseTyped_Inv (State.Inv_of_snd (State.readImage_Inv h ..) e) ..)
                  · exact outInv_next.2 (State.startLaunch_Inv (State.Inv_of_snd (State.readImage_Inv h ..) e) ..)
  · simp [State.Inv, h]

theorem execAtomicAtUnit_Inv {s : State} (h : s.Inv) : outInv (execAtomicAtUnit s) := by
  unfold execAtomicAtUnit
  dsimp only
  (repeat' split) <;> simp [State.Inv, h]

theorem execIllegalWord_Inv {s : State} (h : s.Inv) : outInv (execIllegalWord s) := by
  unfold execIllegalWord
  (repeat' split) <;> simp [State.Inv, h]

theorem execAccessFaultRecorded_Inv {s : State} (h : s.Inv) : outInv (execAccessFaultRecorded s) := by
  unfold execAccessFaultRecorded
  dsimp only
  (repeat' split) <;> simp [State.Inv, h]

theorem execGlobalAccessAtStation_Inv {s : State} (h : s.Inv) : outInv (execGlobalAccessAtStation s) := by
  unfold execGlobalAccessAtStation
  split
  · split
    · exact outInv_next.2 h
    · rename_i a _
      split
      · exact outInv_next.2 (State.accessTo_Inv (State.translateAt_Inv h (homeStation a.bay) a.asid a.ea a.need) ..)
      · exact outInv_next.2 h
  · exact outInv_next.2 h

theorem execReadmit_Inv {s : State} (h : s.Inv) : outInv (execReadmit s) := by
  unfold execReadmit
  split
  · refine outInv_next.2 (State.mail_Inv h ?_)
    split
    · exact State.Inv_of_mem h (by simp)
    · split
      · exact State.Inv_of_mem (State.wipeBay_Inv h ..) (State.answerWith_mem ..)
      · exact State.Inv_of_mem h (by simp)
  · exact outInv_next.2 h

theorem execMatrixCommandBegin_Inv {s : State} (h : s.Inv) : outInv (execMatrixCommandBegin s) := by
  unfold execMatrixCommandBegin
  split
  · split
    · exact outInv_next.2 h
    · dsimp only
      split
      · exact outInv_next.2 h
      · split
        · exact outInv_next.2 h
        · rename_i m t e
          have ht := State.takeCmd_Inv h e
          split
          · (repeat' split) <;> exact outInv_next.2 (State.Inv_of_mem ht (by simp))
          · split
            · refine outInv_next.2 (State.Inv_of_mem (State.matFail_Inv ?_ ..) (State.clearMact_mem ..))
              exact State.Inv_of_mem ht (State.modC_mem ..)
            · exact outInv_next.2 (State.Inv_of_mem ht (by simp))
  · exact outInv_next.2 h

theorem execPuti_Inv {s : State} (h : s.Inv) : outInv (execPuti s) := by
  unfold execPuti
  (repeat' split) <;> simp [State.Inv, h]

theorem execContextCreate_Inv {s : State} (h : s.Inv) : outInv (execContextCreate s) := by
  unfold execContextCreate
  split
  · dsimp only
    split
    · simp [State.Inv, h]
    · split
      · simp [State.Inv, h]
      · split
        · simp [State.Inv, h]
        · rename_i p _ _ _ _ _
          have ho := State.openAll_Inv h (s.newCtx p) (s.createTables p).2.2
          split
          · simp [State.Inv, h]
          · rename_i t e
            have ht := ho t e
            split
            · simp [State.Inv, h]
            · exact outInv_next.2 (State.complete_Inv (State.Inv_of_mem ht (by simp)) ..)
  · simp [State.Inv, h]

theorem execWindowOpen_Inv {s : State} (h : s.Inv) : outInv (execWindowOpen s) := by
  unfold execWindowOpen
  dsimp only
  (repeat' split) <;> simp [State.Inv, h]

theorem execPowerThrottle_Inv {s : State} (h : s.Inv) : outInv (execPowerThrottle s) := by
  unfold execPowerThrottle
  (repeat' split) <;> simp [State.Inv, h]

theorem execPut_Inv {s : State} (h : s.Inv) : outInv (execPut s) := by
  unfold execPut
  (repeat' split) <;> simp [State.Inv, h]

theorem execDivideComplete_Inv {s : State} (h : s.Inv) : outInv (execDivideComplete s) := by
  unfold execDivideComplete
  (repeat' split) <;> simp [State.Inv, h]

theorem execCstop_Inv {s : State} (h : s.Inv) : outInv (execCstop s) := by
  unfold execCstop
  split
  · refine outInv_next.2 (State.arriving_Inv h (fun t ht => ?_) _)
    exact State.Inv_of_mem ht (State.stopCons_mem ..)
  · exact outInv_next.2 h

theorem execAccessAccepted_Inv {s : State} (h : s.Inv) : outInv (execAccessAccepted s) := by
  unfold execAccessAccepted
  (repeat' split) <;> simp [State.Inv, h]

theorem execCdone_Inv {s : State} (h : s.Inv) : outInv (execCdone s) := by
  unfold execCdone
  (repeat' split) <;> simp [State.Inv, h]

theorem execPortTrained_Inv {s : State} (h : s.Inv) : outInv (execPortTrained s) := by
  unfold execPortTrained
  (repeat' split) <;> simp [State.Inv, h]

theorem execGack_Inv {s : State} (h : s.Inv) : outInv (execGack s) := by
  unfold execGack
  split
  · refine outInv_next.2 (State.arriving_Inv h (fun t ht => ?_) _)
    exact State.Inv_of_mem ht (State.groupAck_mem ..)
  · exact outInv_next.2 h

theorem execCopySegmentWritten_Inv {s : State} (h : s.Inv) : outInv (execCopySegmentWritten s) := by
  unfold execCopySegmentWritten
  split
  · split
    · rename_i b i q _ _ _ c a _ _
      split
      · exact outInv_next.2 h
      · have ht := State.copyTurn_Inv h b i c.asid a
        dsimp only
        split <;> rename_i e <;> rw [e] at ht <;> exact outInv_next.2 (State.Inv_of_mem ht (by simp))
    · exact outInv_next.2 h
  · exact outInv_next.2 h

theorem execJunctionShutdown_Inv {s : State} (h : s.Inv) : outInv (execJunctionShutdown s) := by
  unfold execJunctionShutdown
  (repeat' split) <;> simp [State.Inv, h]

theorem execCrq_Inv {s : State} (h : s.Inv) : outInv (execCrq s) := by
  unfold execCrq
  (repeat' split) <;> simp [State.Inv, h]

theorem execIcinvDone_Inv {s : State} (h : s.Inv) : outInv (execIcinvDone s) := by
  unfold execIcinvDone
  dsimp only
  (repeat' split) <;> simp [State.Inv, h]

theorem execRegisterWrite_Inv {s : State} (h : s.Inv) : outInv (execRegisterWrite s) := by
  unfold execRegisterWrite
  (repeat' split) <;> simp [State.Inv, h]

theorem execPst_Inv {s : State} (h : s.Inv) : outInv (execPst s) := by
  unfold execPst
  (repeat' split) <;> simp [State.Inv, h]

theorem execGetr_Inv {s : State} (h : s.Inv) : outInv (execGetr s) := by
  unfold execGetr
  (repeat' split) <;> simp [State.Inv, h]

theorem execPatrolScrub_Inv {s : State} (h : s.Inv) : outInv (execPatrolScrub s) := by
  unfold execPatrolScrub
  (repeat' split) <;> simp [State.Inv, h]

theorem execAttest_Inv {s : State} (h : s.Inv) : outInv (execAttest s) := by
  unfold execAttest
  (repeat' split) <;> simp [State.Inv, h]

theorem execErrheadWrite_Inv {s : State} (h : s.Inv) : outInv (execErrheadWrite s) := by
  unfold execErrheadWrite
  (repeat' split) <;> simp [State.Inv, h]

theorem execRestoreComplete_Inv {s : State} (h : s.Inv) : outInv (execRestoreComplete s) := by
  unfold execRestoreComplete
  split
  · dsimp only
    split
    · simp [State.Inv, h]
    · generalize (_ && _) = live
      split
      · split
        · exact outInv_next.2 (State.Inv_of_mem h (by simp))
        · refine outInv_next.2 (State.Inv_of_mem ?_ (State.joinRestored_mem ..))
          refine State.Inv_of_mem (State.serveRestored_Inv ?_ ..) (State.modBay_mem ..)
          exact State.Inv_of_mem h (by simp)
      · simp [State.Inv, h]
  · simp [State.Inv, h]

theorem execBdown_Inv {s : State} (h : s.Inv) : outInv (execBdown s) := by
  unfold execBdown
  split
  · refine outInv_next.2 (State.arriving_Inv h (fun t ht => ?_) _)
    split
    · dsimp only
      split
      · exact State.groupDown_Inv ht ..
      · exact ht
    · exact ht
  · exact outInv_next.2 h

theorem execUpdate_Inv {s : State} (h : s.Inv) : outInv (execUpdate s) := by
  unfold execUpdate
  dsimp only
  (repeat' split) <;> simp [State.Inv, h]

theorem execFyieldDelayExpiry_Inv {s : State} (h : s.Inv) : outInv (execFyieldDelayExpiry s) := by
  unfold execFyieldDelayExpiry
  (repeat' split) <;> simp [State.Inv, h]

theorem execSig_Inv {s : State} (h : s.Inv) : outInv (execSig s) := by
  unfold execSig
  (repeat' split) <;> simp [State.Inv, h]

theorem execBup_Inv {s : State} (h : s.Inv) : outInv (execBup s) := by
  unfold execBup
  split
  · refine outInv_next.2 (State.arriving_Inv h (fun t ht => ?_) _)
    exact State.groupUp_Inv ht _
  · exact outInv_next.2 h

theorem execCisternArm_Inv {s : State} (h : s.Inv) : outInv (execCisternArm s) := by
  unfold execCisternArm
  split
  · dsimp only
    split
    · simp [State.Inv, h]
    · split
      · simp [State.Inv, h]
      · rename_i p _ _ _ c _
        have hm := State.Inv_of_mem h (State.mayCist_mem s c.asid (handleUnit (s.blkD p 0x20)))
        generalize (_ && _) = far
        generalize (!(ite (far = true) _ _)) = unknown
        split
        · simp [State.Inv, h]
        · split
          · simp [State.Inv, h]
          · split
            · simp [State.Inv, h]
            · split <;> rename_i e <;> rw [e] at hm
              · exact outInv_next.2 (State.complete_Inv hm ..)
              · refine outInv_next.2 ?_
                split <;> exact State.complete_Inv (State.Inv_of_mem hm (by simp)) ..
  · simp [State.Inv, h]

theorem execLoadDataReturn_Inv {s : State} (h : s.Inv) : outInv (execLoadDataReturn s) := by
  unfold execLoadDataReturn
  (repeat' split) <;> simp [State.Inv, h]

theorem execPortDown_Inv {s : State} (h : s.Inv) : outInv (execPortDown s) := by
  unfold execPortDown
  (repeat' split) <;> simp [State.Inv, h]

theorem execSaveComplete_Inv {s : State} (h : s.Inv) : outInv (execSaveComplete s) := by
  unfold execSaveComplete
  dsimp only
  (repeat' split) <;> simp [State.Inv, h]

theorem execCpymTileAck_Inv {s : State} (h : s.Inv) : outInv (execCpymTileAck s) := by
  unfold execCpymTileAck
  dsimp only
  (repeat' split) <;> simp [State.Inv, h]

theorem execMrcmdAckArrival_Inv {s : State} (h : s.Inv) : outInv (execMrcmdAckArrival s) := by
  unfold execMrcmdAckArrival
  dsimp only
  (repeat' split) <;> simp [State.Inv, h]

theorem execHeldPacketPerform_Inv {s : State} (h : s.Inv) : outInv (execHeldPacketPerform s) := by
  unfold execHeldPacketPerform
  dsimp only
  (repeat' split) <;> simp [State.Inv, h]

theorem execCtrrd_Inv {s : State} (h : s.Inv) : outInv (execCtrrd s) := by
  unfold execCtrrd
  split
  · refine outInv_next.2 (State.mail_Inv h ?_)
    (repeat' split) <;> exact State.Inv_of_mem h (by simp)
  · exact outInv_next.2 h

theorem execPendingFaultTaken_Inv {s : State} (h : s.Inv) : outInv (execPendingFaultTaken s) := by
  unfold execPendingFaultTaken
  dsimp only
  (repeat' split) <;> simp [State.Inv, h]

theorem execTsyncInterval_Inv {s : State} (h : s.Inv) : outInv (execTsyncInterval s) := by
  unfold execTsyncInterval
  dsimp only
  (repeat' split) <;> simp [State.Inv, h]

theorem execSpawnAckArrival_Inv {s : State} (h : s.Inv) : outInv (execSpawnAckArrival s) := by
  unfold execSpawnAckArrival
  (repeat' split) <;> simp [State.Inv, h]

theorem execVectorEntryExecute_Inv {s : State} (h : s.Inv) : outInv (execVectorEntryExecute s) := by
  unfold execVectorEntryExecute
  (repeat' split) <;> simp [State.Inv, h]

end Sys2Proof.Machine
end

section
/-!
PROOF. Every step keeps memory canonical (O2).
-/
namespace Sys2Proof.Machine

/-! ### Every instruction and every event -/

/-- What any instruction or event answers keeps memory canonical. -/
theorem exec_Inv {s : State} (h : s.Inv) (i : Instr) : outInv (exec i s) := by
  cases i with
  | add | sub | and | or | xor | andn | sll | srl | sra | rol | slt | sltu | seq | min | max | minu | maxu | slli
  | srli | srai | sel | addw | subw | addi | andi | ori | xori | slti | sltiu | limm | lshi | mul | mulh | mulhu | mulw
  | popc | clz | ctz | bswap | bext | bins | sext | zext | addpc | lea | lcnt =>
    exact aluOp_Inv h _ _ _
  | div | divu | rem | remu =>
    exact divOp_Inv h _ _ _ _ _
  | beq a b o => exact (branchOp_Inv h _ _ _ _ _ : outInv (execBeq a b o s))
  | bne a b o => exact (branchOp_Inv h _ _ _ _ _ : outInv (execBne a b o s))
  | blt a b o => exact (branchOp_Inv h _ _ _ _ _ : outInv (execBlt a b o s))
  | bge a b o => exact (branchOp_Inv h _ _ _ _ _ : outInv (execBge a b o s))
  | bltu a b o => exact (branchOp_Inv h _ _ _ _ _ : outInv (execBltu a b o s))
  | bgeu a b o => exact (branchOp_Inv h _ _ _ _ _ : outInv (execBgeu a b o s))
  | bbc a b o => exact (branchOp_Inv h _ _ _ _ _ : outInv (execBbc a b o s))
  | bbs a b o => exact (branchOp_Inv h _ _ _ _ _ : outInv (execBbs a b o s))
  | vrep | vrepReg =>
    exact openFrame_Inv h _ _ _ _ _ _
  | aadd | aand | aor | axor | amin | amax | aminu | amaxu | aswap | acas =>
    exact atomicOp_Inv h _ _ _ _ _ _ _ _ _
  | stadd a b g r p y => exact (atomicOp_Inv h _ _ _ _ _ _ _ _ _ : outInv (execStadd a b g r p y s))
  | stand a b g r p y => exact (atomicOp_Inv h _ _ _ _ _ _ _ _ _ : outInv (execStand a b g r p y s))
  | stor a b g r p y => exact (atomicOp_Inv h _ _ _ _ _ _ _ _ _ : outInv (execStor a b g r p y s))
  | stxor a b g r p y => exact (atomicOp_Inv h _ _ _ _ _ _ _ _ _ : outInv (execStxor a b g r p y s))
  | stmin a b g r p y => exact (atomicOp_Inv h _ _ _ _ _ _ _ _ _ : outInv (execStmin a b g r p y s))
  | stmax a b g r p y => exact (atomicOp_Inv h _ _ _ _ _ _ _ _ _ : outInv (execStmax a b g r p y s))
  | stminu a b g r p y => exact (atomicOp_Inv h _ _ _ _ _ _ _ _ _ : outInv (execStminu a b g r p y s))
  | stmaxu a b g r p y => exact (atomicOp_Inv h _ _ _ _ _ _ _ _ _ : outInv (execStmaxu a b g r p y s))
  | fence | fencea =>
    exact fenceOp_Inv h _ _
  | vfree  => exact (vecAsk_Inv h _ _ _ _ _ : outInv (execVfree  s))
  | vdrain  => exact (vecAsk_Inv h _ _ _ _ _ : outInv (execVdrain  s))
  | vsplat d b t k => exact (vecIssue_Inv h _ _ _ _ : outInv (execVsplat d b t k s))
  | vins d imm b t => exact (vecIssue_Inv h _ _ _ _ : outInv (execVins d imm b t s))
  | vget imm a b t => exact (vecAsk_Inv h _ _ _ _ _ : outInv (execVget imm a b t s))
  | vld d a k o => exact (vecIssue_Inv h _ _ _ _ : outInv (execVld d a k o s))
  | vlds d a b k o => exact (vecIssue_Inv h _ _ _ _ : outInv (execVlds d a b k o s))
  | vldb d a k o => exact (vecIssue_Inv h _ _ _ _ : outInv (execVldb d a k o s))
  | vst d a k o => exact (vecIssue_Inv h _ _ _ _ : outInv (execVst d a k o s))
  | vsts d a b k o => exact (vecIssue_Inv h _ _ _ _ : outInv (execVsts d a b k o s))
  | vadd d a b t k => exact (vecIssue_Inv h _ _ _ _ : outInv (execVadd d a b t k s))
  | vsub d a b t k => exact (vecIssue_Inv h _ _ _ _ : outInv (execVsub d a b t k s))
  | vmul d a b t k => exact (vecIssue_Inv h _ _ _ _ : outInv (execVmul d a b t k s))
  | vfma d a b t k => exact (vecIssue_Inv h _ _ _ _ : outInv (execVfma d a b t k s))
  | vfms d a b t k => exact (vecIssue_Inv h _ _ _ _ : outInv (execVfms d a b t k s))
  | vmin d a b t k => exact (vecIssue_Inv h _ _ _ _ : outInv (execVmin d a b t k s))
  | vmax d a b t k => exact (vecIssue_Inv h _ _ _ _ : outInv (execVmax d a b t k s))
  | vabs d a t k => exact (vecIssue_Inv h _ _ _ _ : outInv (execVabs d a t k s))
  | vneg d a t k => exact (vecIssue_Inv h _ _ _ _ : outInv (execVneg d a t k s))
  | vrsq d a k => exact (vecIssue_Inv h _ _ _ _ : outInv (execVrsq d a k s))
  | vrcp d a k => exact (vecIssue_Inv h _ _ _ _ : outInv (execVrcp d a k s))
  | vexp2 d a k => exact (vecIssue_Inv h _ _ _ _ : outInv (execVexp2 d a k s))
  | vlog2 d a k => exact (vecIssue_Inv h _ _ _ _ : outInv (execVlog2 d a k s))
  | vsqrt d a k => exact (vecIssue_Inv h _ _ _ _ : outInv (execVsqrt d a k s))
  | vdiv d a b k => exact (vecIssue_Inv h _ _ _ _ : outInv (execVdiv d a b k s))
  | vadds d a b t k => exact (vecIssue_Inv h _ _ _ _ : outInv (execVadds d a b t k s))
  | vmuls d a b t k => exact (vecIssue_Inv h _ _ _ _ : outInv (execVmuls d a b t k s))
  | vfmas d a b t k => exact (vecIssue_Inv h _ _ _ _ : outInv (execVfmas d a b t k s))
  | viadd d a b t k => exact (vecIssue_Inv h _ _ _ _ : outInv (execViadd d a b t k s))
  | visub d a b t k => exact (vecIssue_Inv h _ _ _ _ : outInv (execVisub d a b t k s))
  | vimul d a b t k => exact (vecIssue_Inv h _ _ _ _ : outInv (execVimul d a b t k s))
  | vimin d a b t k => exact (vecIssue_Inv h _ _ _ _ : outInv (execVimin d a b t k s))
  | vimax d a b t k => exact (vecIssue_Inv h _ _ _ _ : outInv (execVimax d a b t k s))
  | viminu d a b t k => exact (vecIssue_Inv h _ _ _ _ : outInv (execViminu d a b t k s))
  | vimaxu d a b t k => exact (vecIssue_Inv h _ _ _ _ : outInv (execVimaxu d a b t k s))
  | vand d a b t k => exact (vecIssue_Inv h _ _ _ _ : outInv (execVand d a b t k s))
  | vor d a b t k => exact (vecIssue_Inv h _ _ _ _ : outInv (execVor d a b t k s))
  | vxor d a b t k => exact (vecIssue_Inv h _ _ _ _ : outInv (execVxor d a b t k s))
  | vshl d a b t k => exact (vecIssue_Inv h _ _ _ _ : outInv (execVshl d a b t k s))
  | vshr d a b t k => exact (vecIssue_Inv h _ _ _ _ : outInv (execVshr d a b t k s))
  | vsar d a b t k => exact (vecIssue_Inv h _ _ _ _ : outInv (execVsar d a b t k s))
  | viadds d a b t k => exact (vecIssue_Inv h _ _ _ _ : outInv (execViadds d a b t k s))
  | vidx d t k => exact (vecIssue_Inv h _ _ _ _ : outInv (execVidx d t k s))
  | vcmpeq d a b t k => exact (vecIssue_Inv h _ _ _ _ : outInv (execVcmpeq d a b t k s))
  | vcmplt d a b t k => exact (vecIssue_Inv h _ _ _ _ : outInv (execVcmplt d a b t k s))
  | vcmple d a b t k => exact (vecIssue_Inv h _ _ _ _ : outInv (execVcmple d a b t k s))
  | vsel d a b t k => exact (vecIssue_Inv h _ _ _ _ : outInv (execVsel d a b t k s))
  | vrsum d a t k => exact (vecIssue_Inv h _ _ _ _ : outInv (execVrsum d a t k s))
  | vrmax d a t k => exact (vecIssue_Inv h _ _ _ _ : outInv (execVrmax d a t k s))
  | vrmin d a t k => exact (vecIssue_Inv h _ _ _ _ : outInv (execVrmin d a t k s))
  | vshuf d a b t k => exact (vecIssue_Inv h _ _ _ _ : outInv (execVshuf d a b t k s))
  | vbcast d a b t k => exact (vecIssue_Inv h _ _ _ _ : outInv (execVbcast d a b t k s))
  | vrot d a b t k => exact (vecIssue_Inv h _ _ _ _ : outInv (execVrot d a b t k s))
  | kand d a b => exact (vecIssue_Inv h _ _ _ _ : outInv (execKand d a b s))
  | kor d a b => exact (vecIssue_Inv h _ _ _ _ : outInv (execKor d a b s))
  | knot d a => exact (vecIssue_Inv h _ _ _ _ : outInv (execKnot d a s))
  | vcvt d a m y t k => exact (vecIssue_Inv h _ _ _ _ : outInv (execVcvt d a m y t k s))
  | vcvtsr d a b k => exact (vecIssue_Inv h _ _ _ _ : outInv (execVcvtsr d a b k s))
  | vrng d b k => exact (vecIssue_Inv h _ _ _ _ : outInv (execVrng d b k s))
  | vpack d a b t => exact (vecIssue_Inv h _ _ _ _ : outInv (execVpack d a b t s))
  | vunpk d a q t => exact (vecIssue_Inv h _ _ _ _ : outInv (execVunpk d a q t s))
  | vcvtn4 d a m t k => exact (vecIssue_Inv h _ _ _ _ : outInv (execVcvtn4 d a m t k s))
  | vcvtw4 d a t k => exact (vecIssue_Inv h _ _ _ _ : outInv (execVcvtw4 d a t k s))
  | mpass | mzero | mldw | mrd | mwr =>
    exact matIssue_Inv h _ _ _ _
  | vtld | vtst =>
    exact rdvIssue_Inv h _
  | rput | rget | ramo | rspawn | crd | crdg =>
    exact fabDesc_Inv h _ _ _ _ _
  | planEntryActivate | planEntryRestore | planEntrySave =>
    exact planOp_Inv h
  | bayn => exact execBayn_Inv h _ _ _
  | baya => exact execBaya_Inv h _ _ _
  | jmp => exact execJmp_Inv h _
  | call => exact execCall_Inv h _
  | jr => exact execJr_Inv h _
  | callr => exact execCallr_Inv h _
  | loop => exact execLoop_Inv h _ _ _
  | loopReg => exact execLoopReg_Inv h _ _ _
  | lbrk => exact execLbrk_Inv h _
  | nop => exact execNop_Inv h
  | trap => exact execTrap_Inv h _
  | hret => exact execHret_Inv h
  | sysrd => exact execSysrd_Inv h _ _
  | syswr => exact execSyswr_Inv h _ _
  | evsel => exact execEvsel_Inv h _ _
  | evrd => exact execEvrd_Inv h _ _
  | time => exact execTime_Inv h _
  | icinv => exact execIcinv_Inv h _ _
  | fspawn => exact execFspawn_Inv h _ _ _
  | fspawnb => exact execFspawnb_Inv h _ _ _
  | fexit => exact execFexit_Inv h
  | fid => exact execFid_Inv h _
  | fpri => exact execFpri_Inv h _
  | fyield => exact execFyield_Inv h
  | fgo => exact execFgo_Inv h _
  | fpark => exact execFpark_Inv h
  | fctx => exact execFctx_Inv h _
  | cbudget => exact execCbudget_Inv h _
  | spost => exact execSpost_Inv h _ _ _ _
  | swait => exact execSwait_Inv h _ _ _ _
  | stry => exact execStry_Inv h _ _ _ _ _
  | sread => exact execSread_Inv h _ _
  | sinit => exact execSinit_Inv h _ _
  | barr => exact execBarr_Inv h _ _ _
  | bwait => exact execBwait_Inv h _ _ _
  | bsync => exact execBsync_Inv h _ _ _
  | bmask => exact execBmask_Inv h _ _
  | bstat => exact execBstat_Inv h _ _
  | qpush => exact execQpush_Inv h _ _
  | qpop => exact execQpop_Inv h _ _
  | qpusht => exact execQpusht_Inv h _ _ _
  | qpopt => exact execQpopt_Inv h _ _ _
  | qfwd => exact execQfwd_Inv h _ _
  | qstat => exact execQstat_Inv h _ _
  | ldl => exact execLdl_Inv h _ _ _ _ _
  | stl => exact execStl_Inv h _ _ _ _
  | ldg => exact execLdg_Inv h _ _ _ _ _
  | stg => exact execStg_Inv h _ _ _ _
  | vbind => exact execVbind_Inv h
  | cpy => exact execCpy_Inv h _ _ _ _
  | cpym => exact execCpym_Inv h _ _ _ _
  | cpyt => exact execCpyt_Inv h _ _ _ _ _
  | cpyq => exact execCpyq_Inv h _ _
  | mrcmd => exact execMrcmd_Inv h _ _ _
  | mgrant => exact execMgrant_Inv h _ _
  | rputi => exact execRputi_Inv h _ _ _ _ _
  | rsig => exact execRsig_Inv h _ _ _ _ _
  | crdq => exact execCrdq_Inv h _ _
  | flush => exact execFlush_Inv h _
  | flushc => exact execFlushc_Inv h _ _
  | strmq => exact execStrmq_Inv h _ _
  | carm => exact execCarm_Inv h _ _ _
  | cadd => exact execCadd_Inv h _ _ _ _
  | cread => exact execCread_Inv h _ _
  | cdisarm => exact execCdisarm_Inv h _ _
  | icinvDone => exact execIcinvDone_Inv h
  | loadDataReturn => exact execLoadDataReturn_Inv h
  | divideComplete => exact execDivideComplete_Inv h
  | accessAccepted => exact execAccessAccepted_Inv h
  | accessFaultRecorded => exact execAccessFaultRecorded_Inv h
  | globalAccessAtStation => exact execGlobalAccessAtStation_Inv h
  | pageWalkComplete => exact execPageWalkComplete_Inv h
  | atomicAtUnit => exact execAtomicAtUnit_Inv h
  | apertureAccess => exact execApertureAccess_Inv h
  | instructionLineFill => exact execInstructionLineFill_Inv h
  | pendingFaultTaken => exact execPendingFaultTaken_Inv h
  | faultFibreStart => exact execFaultFibreStart_Inv h
  | spawnMessageArrival => exact execSpawnMessageArrival_Inv h
  | spawnAckArrival => exact execSpawnAckArrival_Inv h
  | migrationArrival => exact execMigrationArrival_Inv h
  | fibreEviction => exact execFibreEviction_Inv h
  | cellarRestore => exact execCellarRestore_Inv h
  | fyieldDelayExpiry => exact execFyieldDelayExpiry_Inv h
  | waitingCountThreshold => exact execWaitingCountThreshold_Inv h
  | stateCapture => exact execStateCapture_Inv h
  | residentSwitchComplete => exact execResidentSwitchComplete_Inv h
  | saveComplete => exact execSaveComplete_Inv h
  | restoreComplete => exact execRestoreComplete_Inv h
  | contractPeriodStart => exact execContractPeriodStart_Inv h
  | bestEffortQuantumExpiry => exact execBestEffortQuantumExpiry_Inv h
  | barrierPhaseComplete => exact execBarrierPhaseComplete_Inv h
  | gutterWordArrival => exact execGutterWordArrival_Inv h
  | gutterCreditReturn => exact execGutterCreditReturn_Inv h
  | vectorEntryExecute => exact execVectorEntryExecute_Inv h
  | copyCommandBegin => exact execCopyCommandBegin_Inv h
  | copySegmentWritten => exact execCopySegmentWritten_Inv h
  | copyAccessFault => exact execCopyAccessFault_Inv h
  | copyCommandComplete => exact execCopyCommandComplete_Inv h
  | cpymTileAck => exact execCpymTileAck_Inv h
  | matrixCommandBegin => exact execMatrixCommandBegin_Inv h
  | matrixCommandComplete => exact execMatrixCommandComplete_Inv h
  | rendezvousTransfer => exact execRendezvousTransfer_Inv h
  | mrcmdArrival => exact execMrcmdArrival_Inv h
  | mrcmdAckArrival => exact execMrcmdAckArrival_Inv h
  | meshPostArrival => exact execMeshPostArrival_Inv h
  | fabricCommandBegin => exact execFabricCommandBegin_Inv h
  | put => exact execPut_Inv h
  | puti => exact execPuti_Inv h
  | getq => exact execGetq_Inv h
  | getr => exact execGetr_Inv h
  | sig => exact execSig_Inv h
  | amo => exact execAmo_Inv h
  | amor => exact execAmor_Inv h
  | spawn => exact execSpawn_Inv h
  | pld => exact execPld_Inv h
  | pst => exact execPst_Inv h
  | pamo => exact execPamo_Inv h
  | crq => exact execCrq_Inv h
  | cdata => exact execCdata_Inv h
  | cdone => exact execCdone_Inv h
  | cstop => exact execCstop_Inv h
  | ackAnswer => exact execAckAnswer_Inv h
  | ackResynchronise => exact execAckResynchronise_Inv h
  | ackResynchronised => exact execAckResynchronised_Inv h
  | refuse => exact execRefuse_Inv h
  | bup => exact execBup_Inv h
  | bdown => exact execBdown_Inv h
  | gack => exact execGack_Inv h
  | tsync => exact execTsync_Inv h
  | tsyncInterval => exact execTsyncInterval_Inv h
  | timeLock => exact execTimeLock_Inv h
  | timeUnlock => exact execTimeUnlock_Inv h
  | heldPacketPerform => exact execHeldPacketPerform_Inv h
  | retransmissionTimeout => exact execRetransmissionTimeout_Inv h
  | streamTimeout => exact execStreamTimeout_Inv h
  | streamStateFetchComplete => exact execStreamStateFetchComplete_Inv h
  | packetForward => exact execPacketForward_Inv h
  | flitReplay => exact execFlitReplay_Inv h
  | portRetrain => exact execPortRetrain_Inv h
  | portTrained => exact execPortTrained_Inv h
  | portDown => exact execPortDown_Inv h
  | carmAtUnit => exact execCarmAtUnit_Inv h
  | caddAtUnit => exact execCaddAtUnit_Inv h
  | creadAtUnit => exact execCreadAtUnit_Inv h
  | cdisarmAtUnit => exact execCdisarmAtUnit_Inv h
  | cisternAnswer => exact execCisternAnswer_Inv h
  | cisternSpawnRetry => exact execCisternSpawnRetry_Inv h
  | watchdogFire => exact execWatchdogFire_Inv h
  | contextEnd => exact execContextEnd_Inv h
  | launchEnd => exact execLaunchEnd_Inv h
  | dbell => exact execDbell_Inv h
  | contextCreate => exact execContextCreate_Inv h
  | contextDestroy => exact execContextDestroy_Inv h
  | launch => exact execLaunch_Inv h
  | windowOpen => exact execWindowOpen_Inv h
  | cisternArm => exact execCisternArm_Inv h
  | signal => exact execSignal_Inv h
  | copy => exact execCopy_Inv h
  | switchPlan => exact execSwitchPlan_Inv h
  | invalidate => exact execInvalidate_Inv h
  | errheadWrite => exact execErrheadWrite_Inv h
  | registerWrite => exact execRegisterWrite_Inv h
  | hostAccess => exact execHostAccess_Inv h
  | attest => exact execAttest_Inv h
  | lcset => exact execLcset_Inv h
  | update => exact execUpdate_Inv h
  | updateStartTimeout => exact execUpdateStartTimeout_Inv h
  | mailboxFence => exact execMailboxFence_Inv h
  | readmit => exact execReadmit_Inv h
  | portset => exact execPortset_Inv h
  | ctrrd => exact execCtrrd_Inv h
  | reset => exact execReset_Inv h
  | wipeComplete => exact execWipeComplete_Inv h
  | controlStateError => exact execControlStateError_Inv h
  | patrolScrub => exact execPatrolScrub_Inv h
  | powerThrottle => exact execPowerThrottle_Inv h
  | junctionShutdown => exact execJunctionShutdown_Inv h
  | illegalWord => exact execIllegalWord_Inv h
  | groupTreeRebuild => exact execGroupTreeRebuild_Inv h
  | updateRestartComplete => exact execUpdateRestartComplete_Inv h
  | linkPartnerArrival => exact execLinkPartnerArrival_Inv h

/-! ### A step (R92) -/

/-- A clock cycle of a bay: its book, and the instruction of the fibre that issues. -/
theorem bayCycle_Inv {s : State} (h : s.Inv) (b i : Nat) : outInv (bayCycle s b i) := by
  unfold bayCycle
  split
  · exact outInv_next.2 h
  · dsimp only
    split
    · exact outInv_next.2 (State.Inv_of_mem h (State.cycleBook_mem ..))
    · split <;> exact exec_Inv (State.Inv_of_mem h (by simp)) _

/-- What a step chooses: a bay's cycle, or an event in flight. -/
theorem perform_Inv {s : State} (h : s.Inv) (c : Option Choice) : outInv (perform s c) := by
  unfold perform
  split
  · exact outInv_next.2 h
  · exact bayCycle_Inv h _ _
  · split
    · dsimp only
      split
      · exact outInv_next.2 (State.Inv_of_mem h (State.parkItem_mem ..))
      · exact exec_Inv (by exact h) _
    · exact outInv_next.2 h

/-- Settles O2: the clock leaves memory alone, and so does every choice but for what the instruction or event at hand writes,
which by `exec_Inv` is canonical. -/
theorem stepKeepsInvariant : Obligations.StepKeepsInvariant := by
  unfold Obligations.StepKeepsInvariant
  intro s t h e
  exact perform_Inv (State.Inv_of_mem h (State.tickTime_mem s)) _ t e

end Sys2Proof.Machine
end

section
/-!
SUPPORT and PROOF. The constants and the addresses of bays (O10).
-/
namespace Sys2Proof.Machine

/-- An instruction that names an empty register, not marked faulted, leaves the state as it was (R90). -/
theorem issue_waits {s : State} {i : Instr} {e : BayCtx → Fibre → Option (Cause × Word)}
    {k : BayCtx → Fibre → State → Res} {c : BayCtx} {f : Fibre} (hc : s.curC = some c) (hf : s.curF = some f)
    (he : (namedRegs i).any f.isEmpty = true) (hn : (namedRegs i).any f.isFaulted = false) :
    issue i e k s = .next s := by
  simp [issue, hc, hf, he, hn]

/-- A body that writes register d retires with it (R95). -/
theorem finish_setReg {s : State} {f : Fibre} (e : s.curF = some f) (d : GReg) (v : Word) :
    s.finish f (.done (s.modCur fun x => x.setReg d v)) = s.result f d v := by
  rw [State.modCur_eq_asFibre e, finish_done_asFibre]
  rfl

theorem execBayn_runs {s : State} {c : BayCtx} {f : Fibre} {d a b : GReg} (h : s.Issues [d, a, b] c f) :
    exec (.bayn d a b) s = .next (s.finish f (
      if 63 < f.reg a then .fault .range (f.reg a)
      else if 23 < f.reg b then .fault .range (f.reg b)
      else .done (s.modCur fun x => x.setReg d (toW (bayOf (f.reg a).toNat (f.reg b).toNat))))) := by
  show execBayn d a b s = _
  exact issue_runs h.ctx h.fibre h.full rfl h.frame

theorem execBaya_runs {s : State} {c : BayCtx} {f : Fibre} {d a b : GReg} (h : s.Issues [d, a, b] c f) :
    exec (.baya d a b) s = .next (s.finish f (
      if 0x200000 ≤ f.reg a then .fault .range (f.reg a)
      else if 1536 ≤ f.reg b then .fault .range (f.reg b)
      else .done (s.modCur fun x => x.setReg d (0x00FE000000000000 + f.reg b * 0x200000 + f.reg a)))) := by
  show execBaya d a b s = _
  exact issue_runs h.ctx h.fibre h.full rfl h.frame

/-- The bay number of coordinates inside the mesh, computed on words (R9, R103). -/
theorem toW_bayOf {x y : Word} (hx : x ≤ 63) (hy : y ≤ 23) :
    toW (bayOf x.toNat y.toNat) = (y / 12 * 4 + x / 16) * 192 + y % 12 * 16 + x % 16 := by
  have hx : x.toNat ≤ 63 := hx
  have hy : y.toNat ≤ 23 := hy
  apply BitVec.eq_of_toNat_eq
  simp only [bayOf, BitVec.toNat_ofNat, BitVec.toNat_add, BitVec.toNat_mul, BitVec.toNat_udiv, BitVec.toNat_umod,
    BitVec.reduceToNat]
  omega

/-- Settles O10: the constants and LEA write one register; BAYN and BAYA split along the checks of R103. -/
theorem constantAndAddressResults : Obligations.ConstantAndAddressResults := by
  unfold Obligations.ConstantAndAddressResults
  refine ⟨fun s c f d m n => ⟨⟨rfl, rfl, rfl⟩, fun h => ⟨aluOp_runs h, aluOp_runs h, aluOp_runs h⟩, fun hc hf he hn => ?_⟩,
    fun s c f d a b q h => ?_⟩
  · show aluOp (.lshi d m) d _ s = _
    exact issue_waits hc hf (by simp [namedRegs, he]) (by simp [namedRegs, hn])
  · rw [execBayn_runs h, execBaya_runs h]
    refine ⟨aluOp_runs h, fun hx hy => ?_, fun hx => ?_, fun hx hy => ?_, fun hx hy => ?_, fun hx => ?_, fun hx hy => ?_⟩
    · rw [if_neg (BitVec.not_lt.2 hx), if_neg (BitVec.not_lt.2 hy), finish_setReg h.fibre, toW_bayOf hx hy]
    · rw [if_pos hx, finish_fault]
    · rw [if_neg (BitVec.not_lt.2 hx), if_pos hy, finish_fault]
    · rw [if_neg (BitVec.not_le.2 hx), if_neg (BitVec.not_le.2 hy), finish_setReg h.fibre]
    · rw [if_pos hx, finish_fault]
    · rw [if_neg (BitVec.not_le.2 hx), if_pos hy, finish_fault]

end Sys2Proof.Machine
end

section
/-!
SUPPORT. Commands at their ports (R13 to R18): what a port that takes a command, and a fibre that waits behind one, make of
the state; the faults of a descriptor form at issue (R270, R364).
-/
namespace Sys2Proof.Machine

/-! ### Ports and rings of a context after a change -/

@[simp] theorem BayCtx.portOf_modPort (c : BayCtx) (e : Nat) (h : Port → Port) : (c.modPort e h).portOf e = h (c.portOf e) := by
  unfold BayCtx.modPort BayCtx.portOf
  split
  · rfl
  · split <;> rfl

@[simp] theorem BayCtx.portOf_modRing (c : BayCtx) (e n : Nat) (h : FRing → FRing) : (c.modRing n h).portOf e = c.portOf e := by
  unfold BayCtx.modRing
  (repeat' split) <;> rfl

@[simp] theorem BayCtx.ringOf_modPort (c : BayCtx) (e n : Nat) (h : Port → Port) : (c.modPort n h).ringOf e = c.ringOf e := by
  unfold BayCtx.modPort
  (repeat' split) <;> rfl

@[simp] theorem BayCtx.ringOf_modRing (c : BayCtx) (e : Nat) (h : FRing → FRing) : (c.modRing e h).ringOf e = h (c.ringOf e) := by
  unfold BayCtx.modRing BayCtx.ringOf
  split
  · rfl
  · split
    · rfl
    · split <;> rfl

@[simp] theorem BayCtx.slots_modPort (c : BayCtx) (e : Nat) (h : Port → Port) : (c.modPort e h).slots = c.slots := by
  unfold BayCtx.modPort
  (repeat' split) <;> rfl

@[simp] theorem BayCtx.slots_modRing (c : BayCtx) (e : Nat) (h : FRing → FRing) : (c.modRing e h).slots = c.slots := by
  unfold BayCtx.modRing
  (repeat' split) <;> rfl

@[simp] theorem BayCtx.portOf_modSlot (c : BayCtx) (e k : Nat) (h : Slot → Slot) : (c.modSlot k h).portOf e = c.portOf e := rfl
@[simp] theorem BayCtx.ringOf_modSlot (c : BayCtx) (e k : Nat) (h : Slot → Slot) : (c.modSlot k h).ringOf e = c.ringOf e := rfl

@[simp] theorem FRing.accept_seq (r : FRing) (tag : Word) : (r.accept tag).seq = nextSeq r.seq := rfl

@[simp] theorem FRing.modEnt_seq (r : FRing) (q : BitVec 32) (h : FEnt → FEnt) : (r.modEnt q h).seq = r.seq := by
  unfold FRing.modEnt
  split <;> rfl

/-! ### What counts and reads leave alone -/

/-- The event counters of a bay are no part of a context's state there (R119). -/
@[simp] theorem State.bctx_bump (s : State) (a asid : Nat) (code : BitVec 16) (n b i : Nat) :
    (s.bump a asid code n).bctx b i = s.bctx b i := by
  unfold State.bump State.bctx
  by_cases e : b = a
  · rw [e, State.bay_modBay_self]
    split <;> rfl
  · rw [State.bay_modBay_ne _ _ e]

@[simp] theorem State.countRetired_bctx (s : State) (a j b i : Nat) : (s.countRetired a j).bctx b i = s.bctx b i := by
  unfold State.countRetired
  split
  · rw [State.bctx_bump]
    rfl
  · rfl

/-- The issuing context after its fibre's instruction retires (R95). -/
theorem State.curC_retireCur {s : State} {c : BayCtx} (e : s.curC = some c) :
    s.retireCur.curC = some (c.modSlot s.cur.slot fun x => { x with fib := x.fib.map Fibre.retire }) := by
  have hr := State.curC_modCur e Fibre.retire
  unfold State.retireCur State.curC at *
  simpa using hr

theorem State.bad_of_clean {s : State} (h : s.poison = []) (a n : Nat) : s.bad a n = none := by
  simp [State.bad, h]

/-! ### The command at the port -/

/-- From s to t the port of engine e took the command m, in its place in the context's state on the bay; the fibres of the slots
are as they were (R14, R19). -/
structure State.Takes (s : State) (b i e : Nat) (c : BayCtx) (m : Cmd) (t : State) : Prop where
  ents : (t.bctx b i).map (fun y => (y.portOf e).ents) = some ((c.portOf e).ents ++ [m])
  seq : (t.bctx b i).map (fun y => (y.ringOf e).seq) = some (nextSeq (c.ringOf e).seq)
  slots : (t.bctx b i).map BayCtx.slots = some c.slots
  begins : t.agenda = s.agenda ++ [⟨laneEng b i e, beginEv e b i⟩]
  cur : t.cur = s.cur
  mem : t.mem = s.mem

/-- The command enters, is counted, and its engine begins it in its turn (R14, R19). -/
theorem State.takes_post {s : State} {b i e : Nat} {c : BayCtx} (hc : s.bctx b i = some c) (m : Cmd) (tag : Word) :
    s.Takes b i e c m ((((s.modC b i fun y => (y.modRing e fun r => r.accept tag).modPort e fun p =>
      { p with ents := p.ents ++ [m] }).bump b c.asid 6 1).pulse c.asid).post (laneEng b i e) (beginEv e b i)) := by
  have hd : ∀ u : State, ((u.pulse c.asid).post (laneEng b i e) (beginEv e b i)).bctx b i = u.bctx b i := fun _ => rfl
  refine ⟨?_, ?_, ?_, rfl, rfl, rfl⟩ <;> simp [hd, State.bctx_modC_self, hc]

/-- A change of ring entries leaves an accepted command where it is (R20). -/
theorem State.Takes.modEnt {s t : State} {b i e : Nat} {c : BayCtx} {m : Cmd} (h : s.Takes b i e c m t) (q : BitVec 32)
    (k : FEnt → FEnt) : s.Takes b i e c m (t.modEnt b i e q k) := by
  obtain ⟨hents, hseq, hslots, hbegins, hcur, hmem⟩ := h
  have hctx : (t.modEnt b i e q k).bctx b i = (t.bctx b i).map _ := State.bctx_modC_self ..
  refine ⟨?_, ?_, ?_, hbegins, hcur, hmem⟩ <;> rw [hctx, Option.map_map]
  · simpa only [Function.comp_def, BayCtx.portOf_modRing]
  · simpa only [Function.comp_def, BayCtx.ringOf_modRing, FRing.modEnt_seq]
  · simpa only [Function.comp_def, BayCtx.slots_modRing]

/-- So does a change of the context's live count (R184). -/
theorem State.Takes.addLive {s t : State} {b i e : Nat} {c : BayCtx} {m : Cmd} (h : s.Takes b i e c m t) (asid n : Nat) :
    s.Takes b i e c m (t.addLive asid n) :=
  ⟨h.ents, h.seq, h.slots, h.begins, h.cur, h.mem⟩

/-- Acceptance of a command that no vector queue takes with the port, where no byte has an uncorrectable error (R14, R19, R20,
R270). -/
theorem State.accept_takes {s : State} {b i e : Nat} {c : BayCtx} {m : Cmd} (hc : s.bctx b i = some c) (hp : s.poison = [])
    (hm : m.isRdv = false) :
    ∃ t, s.accept b i e m = .ok (t, nextSeq (c.ringOf e).seq) ∧ s.Takes b i e c { m with
        seq := nextSeq (c.ringOf e).seq
        tag := mkTag e i m.oBay m.oSlot (nextSeq (c.ringOf e).seq)
        desc := if m.reads then s.readDs (spadKey c.asid b m.x.toNat) 8 else m.desc } t := by
  have hb : ∀ a, (if m.reads then s.bad a 64 else none) = none := fun a => by rw [State.bad_of_clean hp, ite_self]
  unfold State.accept
  simp only [hc, hb, hm]
  rw [if_neg Bool.false_ne_true]
  generalize (if m.reads then s.readDs (spadKey c.asid b m.x.toNat) 8 else m.desc) = desc
  refine ⟨_, rfl, ?_⟩
  have htakes := State.takes_post (e := e) hc
    { m with
        seq := nextSeq (c.ringOf e).seq
        tag := mkTag e i m.oBay m.oSlot (nextSeq (c.ringOf e).seq)
        desc := desc } (mkTag e i m.oBay m.oSlot (nextSeq (c.ringOf e).seq))
  split
  · split
    · exact (htakes.modEnt ..).addLive ..
    · exact htakes.addLive ..
  · split
    · exact htakes.modEnt ..
    · exact htakes

/-- The fibres of a context's slots are those of its bay state. -/
theorem State.fib_of_slots {t : State} {b i : Nat} {c : BayCtx} (h : (t.bctx b i).map BayCtx.slots = some c.slots) (k : Nat) :
    t.fib b i k = (c.slot k).fib := by
  obtain ⟨d, hd, hs⟩ := Option.map_eq_some_iff.1 h
  simp [State.fib, hd, BayCtx.slot, hs]

theorem State.fib_of_bctx {s : State} {b i : Nat} {c : BayCtx} (h : s.bctx b i = some c) (k : Nat) :
    s.fib b i k = (c.slot k).fib :=
  State.fib_of_slots (congrArg _ h) k

/-! ### The issuing fibre's command -/

/-- What the issuing fibre becomes after its command is accepted (R14, R18). -/
theorem State.Accepts.modCur {s t : State} {c : BayCtx} {e : Nat} {m : Cmd} {g : Fibre} (h : s.Accepts c e m g t)
    (k : Fibre → Fibre) : s.Accepts c e m (k g) (t.modCur k) := by
  obtain ⟨hfibre, hentry, hseq, hbegins, hmem⟩ := h
  obtain ⟨d, hd, hents⟩ := Option.map_eq_some_iff.1 hentry
  rw [hd] at hseq
  refine ⟨?_, ?_, ?_, hbegins, hmem⟩
  · rw [State.modCur_eq_asFibre hfibre, State.curF_asFibre hfibre]
  · rw [State.curC_modCur hd]
    exact congrArg some hents
  · rw [State.curC_modCur hd]
    exact hseq

theorem State.Accepts.retireCur {s t : State} {c : BayCtx} {e : Nat} {m : Cmd} {g : Fibre} (h : s.Accepts c e m g t) :
    s.Accepts c e m g.retire t.retireCur := by
  obtain ⟨hfibre, hentry, hseq, hbegins, hmem⟩ := h
  obtain ⟨d, hd, hents⟩ := Option.map_eq_some_iff.1 hentry
  rw [hd] at hseq
  refine ⟨State.curF_retireCur hfibre, ?_, ?_, ?_, fun a => ?_⟩
  · rw [State.curC_retireCur hd]
    exact congrArg some hents
  · rw [State.curC_retireCur hd]
    exact hseq
  · rw [State.retireCur_agenda, hbegins]
  · rw [State.retireCur_mem, hmem]

/-- The issuing fibre's command is accepted (R14). -/
theorem State.accept_accepts {s : State} {e : Nat} {c : BayCtx} {f : Fibre} {m : Cmd} (hc : s.curC = some c)
    (hf : s.curF = some f) (hp : s.poison = []) (hm : m.isRdv = false) :
    ∃ t, s.accept s.cur.bay s.cur.idx e m = .ok (t, nextSeq (c.ringOf e).seq) ∧ s.Accepts c e m f t := by
  obtain ⟨t, ht, hents, hseq, hslots, hbegins, hcur, hmem⟩ := State.accept_takes (e := e) hc hp hm
  refine ⟨t, ht, ?_, ?_, ?_, hbegins, fun a => by rw [hmem]⟩
  · rw [State.curF, hcur, State.fib_of_slots hslots, ← State.fib_of_bctx hc]
    exact hf
  · rw [State.curC, hcur, hents]
    rfl
  · rw [State.curC, hcur, hseq]

/-- A port with a free entry that nobody waits for has room for a command that no vector queue takes with it (R14). -/
theorem cmdRoom_iff {c : BayCtx} {e : Nat} {m : Cmd} (hm : m.isRdv = false) :
    c.cmdRoom e m = true ∧ (c.portOf e).wq = [] ↔ c.portFree e := by
  simp [BayCtx.cmdRoom, hm]

/-- A command at a free port is accepted (R14). -/
theorem submit_accepts {s : State} {e : Nat} {c : BayCtx} {f : Fibre} {m : Cmd} (hc : s.curC = some c)
    (hf : s.curF = some f) (hp : s.poison = []) (hm : m.isRdv = false) (h : c.portFree e) :
    ∃ t, submit e m none c s = .done t ∧ s.Accepts c e m f t := by
  obtain ⟨t, ht, haccepts⟩ := State.accept_accepts hc hf hp hm
  refine ⟨t, ?_, haccepts⟩
  unfold submit
  simp only [ht]
  rw [if_pos ((cmdRoom_iff hm).2 h)]

/-- The T form of a command at a free port gives its register the sequence number (R18). -/
theorem submit_tells {s : State} {e : Nat} {c : BayCtx} {f : Fibre} {m : Cmd} (hc : s.curC = some c)
    (hf : s.curF = some f) (hp : s.poison = []) (hm : m.isRdv = false) (h : c.portFree e) (d : GReg) :
    ∃ t, submit e m (some d) c s = .done t ∧ s.Accepts c e m (f.setReg d ((nextSeq (c.ringOf e).seq).setWidth 64)) t := by
  obtain ⟨t, ht, haccepts⟩ := State.accept_accepts hc hf hp hm
  refine ⟨_, ?_, haccepts.modCur fun x => x.setReg d ((nextSeq (c.ringOf e).seq).setWidth 64)⟩
  unfold submit
  simp only [ht]
  rw [if_pos ((cmdRoom_iff hm).2 h)]

/-- The T form of a command that finds no room gives its register 0 (R18). -/
theorem submit_refuses {s : State} {e : Nat} {c : BayCtx} {m : Cmd} (hm : m.isRdv = false) (h : ¬c.portFree e) (d : GReg) :
    submit e m (some d) c s = .done (s.modCur fun x => x.setReg d 0) := by
  unfold submit
  dsimp only
  rw [if_neg (mt (cmdRoom_iff hm).1 h)]

/-- The issuing fibre takes its place behind a port (R15, R239). -/
theorem State.queues_modPort {s : State} {c : BayCtx} {f : Fibre} (hc : s.curC = some c) (hf : s.curF = some f) (e : Nat)
    (m : Cmd) :
    s.Queues c f e m ((s.modCurC fun y => y.modPort e fun x => { x with wq := x.wq ++ [m] }).modCur fun x =>
      x.block (.queued (0x11 + e)) (s.bay s.cur.bay).cycle) := by
  obtain ⟨t, htdef⟩ : ∃ t, t = s.modCurC fun y => y.modPort e fun x => { x with wq := x.wq ++ [m] } := ⟨_, rfl⟩
  have ht : t.curC = some (c.modPort e fun x => { x with wq := x.wq ++ [m] }) := by
    rw [htdef]
    exact (State.bctx_modC_self ..).trans (congrArg _ hc)
  have htf : t.curF = some f := by
    have hslots : (t.bctx t.cur.bay t.cur.idx).map BayCtx.slots = some c.slots := by
      rw [show t.bctx t.cur.bay t.cur.idx = _ from ht, Option.map_some, BayCtx.slots_modPort]
    have hcur : t.cur = s.cur := by rw [htdef]; rfl
    rw [State.curF, State.fib_of_slots hslots, hcur, ← State.fib_of_bctx hc]
    exact hf
  rw [← htdef]
  refine ⟨?_, ?_, ?_, by rw [htdef]; rfl, fun a => by rw [htdef]; rfl⟩
  · rw [State.modCur_eq_asFibre htf, State.curF_asFibre htf]
  · rw [State.curC_modCur ht]
    simp
  · rw [State.curC_modCur ht]
    simp

/-- A command that finds no room waits behind its port (R15, R239). -/
theorem submit_waits {s : State} {e : Nat} {c : BayCtx} {m : Cmd} (hm : m.isRdv = false) (h : ¬c.portFree e) :
    submit e m none c s = .stay ((s.modCurC fun y => y.modPort e fun x => { x with wq := x.wq ++ [m] }).modCur fun x =>
      x.block (.queued (0x11 + e)) (s.bay s.cur.bay).cycle) := by
  unfold submit
  dsimp only
  rw [if_neg (mt (cmdRoom_iff hm).1 h)]

/-- An instruction whose body brings a command to its port: it is accepted, or its fibre waits (R14, R15). -/
theorem State.submits_of_exec {s : State} {e : Nat} {c : BayCtx} {f : Fibre} {i : Instr} {m : Cmd} (hc : s.curC = some c)
    (hf : s.curF = some f) (hp : s.poison = []) (hm : m.isRdv = false)
    (hx : exec i s = .next (s.finish f (submit e m none c s))) : s.Submits c f e i m := by
  refine ⟨fun h => ?_, fun h => ?_⟩
  · obtain ⟨t, ht, haccepts⟩ := submit_accepts hc hf hp hm h
    exact ⟨t.retireCur, by rw [hx, ht]; rfl, haccepts.retireCur⟩
  · exact ⟨_, by rw [hx, submit_waits hm h]; rfl, State.queues_modPort hc hf e m⟩

/-- A descriptor form checks its semaphore, then the alignment and the quota of its descriptor, and then does what its
instruction says (R31, R270, R364). -/
theorem State.descForm_of_issue {s : State} {c : BayCtx} {f : Fibre} {i : Instr} {n : BitVec 10} {v : Fibre → Word}
    {k : BayCtx → Fibre → State → Res} {ok : Prop} (h : s.Issues (namedRegs i) c f)
    (hx : exec i s = issue i (semEarly n) (fun c f s => descCheck c (v f) (k c f s)) s)
    (hok : exec i s = .next (s.finish f (k c f s)) → ok) : s.DescForm c f i (v f) n ok := by
  refine ⟨fun hn => ?_, fun hn => ?_⟩
  · rw [hx]
    exact issue_early h.ctx h.fibre h.full (if_pos hn)
  · have hbody : exec i s = .next (s.finish f (descCheck c (v f) (k c f s))) := by
      rw [hx]
      exact issue_runs h.ctx h.fibre h.full (if_neg (Nat.not_le.2 hn)) h.frame
    rw [hbody] at hok ⊢
    unfold descCheck at hok ⊢
    refine ⟨fun ha => ?_, fun ha hq => ?_, fun ha hq => hok ?_⟩
    · rw [if_pos ha, finish_fault]
    · rw [if_neg (not_not.2 ha), if_pos hq, finish_fault]
    · rw [if_neg (not_not.2 ha), if_neg (Nat.not_lt.2 hq)]

end Sys2Proof.Machine
end

section
/-!
PROOF. CPY, CPYM, CPYT and CPYQ (O46).
-/
namespace Sys2Proof.Machine

/-- CPYQ on a good number writes the state word of the entry, or 0 (R291). -/
def copyWord (c : BayCtx) (q : Word) : Word :=
  match (if q = 0 then none else c.cring.entry (q.setWidth 32)) with
  | some e => toW (e.st * 2 ^ 62 + (if e.flt then 2 ^ 61 else 0) + e.segs % 2 ^ 28)
  | none => 0

theorem execCpyq_runs {s : State} {c : BayCtx} {f : Fibre} {a b : GReg} (h : s.Issues [a, b] c f) :
    exec (.cpyq a b) s = .next (if 2 ^ 32 ≤ (f.reg a).toNat then s.raise f .range (f.reg a)
      else s.result f b (copyWord c (f.reg a))) := by
  have hbody : exec (.cpyq a b) s = .next (s.finish f (if 2 ^ 32 ≤ (f.reg a).toNat then .fault .range (f.reg a)
      else .done (s.modCur fun g => g.setReg b (copyWord c (f.reg a))))) := by
    show execCpyq a b s = _
    exact issue_runs h.ctx h.fibre h.full rfl h.frame
  rw [hbody, apply_ite (s.finish f), finish_fault, finish_setReg h.fibre]

theorem copyWord_none {c : BayCtx} {q : Word} (h : q = 0 ∨ c.cring.entry (q.setWidth 32) = none) : copyWord c q = 0 := by
  have : (if q = 0 then none else c.cring.entry (q.setWidth 32)) = none := by
    rcases h with h | h <;> simp [h]
  unfold copyWord
  rw [this]

theorem copyWord_some {c : BayCtx} {q : Word} {e : FEnt} (hq : q ≠ 0) (h : c.cring.entry (q.setWidth 32) = some e) :
    copyWord c q = toW (e.st * 2 ^ 62 + (if e.flt then 2 ^ 61 else 0) + e.segs % 2 ^ 28) := by
  unfold copyWord
  rw [if_neg hq, h]

/-- The fields of a CPYQ word (R291). -/
theorem copyState_fields {st : Nat} (hst : st < 4) (flt : Bool) (segs : Nat) :
    let w := toW (st * 2 ^ 62 + (if flt then 2 ^ 61 else 0) + segs % 2 ^ 28)
    (w.extractLsb' 62 2).toNat = st ∧ w.getLsbD 61 = flt ∧ w.extractLsb' 28 33 = 0 ∧
      w.extractLsb' 0 28 = BitVec.ofNat 28 segs := by
  have hflt : (if flt then 2 ^ 61 else 0) = flt.toNat * 2 ^ 61 := by cases flt <;> rfl
  have hbit := flt.toNat_le
  have hsegs := Nat.mod_lt segs (show 0 < 2 ^ 28 by decide)
  rw [hflt]
  refine ⟨?_, ?_, BitVec.eq_of_toNat_eq ?_, BitVec.eq_of_toNat_eq ?_⟩
  · rw [BitVec.extractLsb'_toNat, BitVec.toNat_ofNat, Nat.shiftRight_eq_div_pow]
    omega
  · rw [BitVec.getLsbD_ofNat, Nat.testBit_eq_decide_div_mod_eq]
    cases flt <;> simp <;> omega
  · rw [BitVec.extractLsb'_toNat, BitVec.toNat_ofNat, Nat.shiftRight_eq_div_pow]
    show _ = 0
    omega
  · rw [BitVec.extractLsb'_toNat, BitVec.toNat_ofNat, BitVec.toNat_ofNat, Nat.shiftRight_eq_div_pow]
    omega

/-- CPY, CPYM and CPYT are descriptor forms that bring one command to the copy port (R269, R270). -/
theorem copyForm_of_exec {s : State} {c : BayCtx} {f : Fibre} {i : Instr} {a : GReg} {x : BitVec 10} {r : MemOrd} {p : Scope}
    {d : Option GReg} {ok : Prop} (h : s.Issues (namedRegs i) c f)
    (hx : exec i s = issue i (semEarly x) (fun c f s =>
      descCheck c (f.reg a) (submit 2 (s.mkCmd c f i (f.reg a) 0 x.toNat r p) d c s)) s)
    (hok : exec i s = .next (s.finish f (submit 2 (s.mkCmd c f i (f.reg a) 0 x.toNat r p) d c s)) → ok) :
    s.DescForm c f i (f.reg a) x ok :=
  State.descForm_of_issue (v := fun f => f.reg a) h hx hok

/-- Settles O46: the three descriptor forms share the checks and the port; CPYQ reads the fields of its word. -/
theorem copyInstructions : Obligations.CopyInstructions := by
  unfold Obligations.CopyInstructions
  refine fun s c f a b x r p => ⟨fun h hp => ⟨?_, ?_⟩, fun h hp => ?_, fun h => ?_⟩
  · exact copyForm_of_exec h rfl (State.submits_of_exec h.ctx h.fibre hp rfl)
  · exact copyForm_of_exec h rfl (State.submits_of_exec h.ctx h.fibre hp rfl)
  · refine copyForm_of_exec (d := some b) h rfl fun hx => ⟨fun hfree => ?_, fun hfull => ?_⟩
    · obtain ⟨t, ht, haccepts⟩ := submit_tells (m := s.mkCmd c f (.cpyt a b x r p) (f.reg a) 0 x.toNat r p) h.ctx h.fibre hp rfl
        hfree b
      exact ⟨t.retireCur, by rw [hx, ht]; rfl, haccepts.retireCur⟩
    · rw [hx, submit_refuses rfl hfull, finish_setReg h.fibre]
  · rw [execCpyq_runs h]
    refine ⟨fun hv => ?_, fun hv hnone => ?_, fun e hv hne he hst => ?_⟩
    · rw [if_pos hv]
    · rw [if_neg (Nat.not_le.2 hv), copyWord_none hnone]
    · rw [if_neg (Nat.not_le.2 hv), copyWord_some hne he]
      exact ⟨_, rfl, copyState_fields hst e.flt e.segs⟩

end Sys2Proof.Machine
end

section
/-!
PROOF. A refutation of the statement about accesses at memory (O27): it holds the bytes at the atomic unit for an access of
any size, and a word has eight.
-/
namespace Sys2Proof.Machine

/-- An ACAS of sixteen bytes that expects 1.  No instruction issues one, since the sizes of R140 and R141 end at eight, but the
statement speaks of every access in a ring. -/
def wideCas : Access :=
  { rid := 1, asid := 0, bay := 0, pc := 0, ea := 0, size := 16, kind := .atomic .cas true, dest := none, data := 0, exp := 1 }

/-- A fibre on its way has the access in its ring, which is at the unit of the bytes from 0 on; of these, byte 8 is 1. -/
def wideCasState : State :=
  { State.reset with
    mem := [(8, 1)]
    mig := [(1, { Fibre.start 1 0 0 0 with ring := [wideCas] })]
    ev := .atomicAtUnit 1 1 0 }

/-- The word at 0 is 0 and not the 1 expected, so that nothing is written (R141). -/
theorem wideCasState_writes_nothing {t : State} (h : exec .atomicAtUnit wideCasState = .next t) : t.mem = wideCasState.mem := by
  cases h
  rfl

/-- Refutes O27: an ACAS that finds another value than the one it expects leaves memory as it was, and the statement wants each
of its bytes to be that of the old value as a word, which has no byte 8; for an access of sixteen bytes byte 8 would have to
become 0. -/
theorem not_accessAtMemory : ¬ Obligations.AccessAtMemory := by
  unfold Obligations.AccessAtMemory
  intro h
  obtain ⟨_, _, hunit, _⟩ := h wideCasState 1 1 wideCas rfl
  obtain ⟨t, ht, _, hbytes, _⟩ := hunit .cas true 0 0 rfl rfl rfl rfl nofun
  have hbyte := hbytes 8 (by decide)
  rw [wideCasState_writes_nothing ht] at hbyte
  exact absurd hbyte (by decide)

end Sys2Proof.Machine
end

section
/-!
SUPPORT and PROOF. The decoder and the encoder, written from the same tables, agree on every word (O1, O6).
-/
namespace Sys2Proof

/-! ### Fields of a word (R41) -/

/-- A word laid out from its most significant part and the rest. -/
theorem append_eq_iff {n m : Nat} {w : BitVec (n + m)} {hi : BitVec n} {lo : BitVec m} :
    hi ++ lo = w ↔ w.extractLsb' m n = hi ∧ w.extractLsb' 0 m = lo := by
  constructor
  · rintro rfl
    exact ⟨BitVec.extractLsb'_append_eq_left, BitVec.extractLsb'_append_eq_right⟩
  · rintro ⟨rfl, rfl⟩
    exact BitVec.extractLsb'_append_extractLsb'

/-- A field that is cut in two. -/
theorem extract_eq_append_iff {N n m k : Nat} {w : BitVec N} {hi : BitVec n} {lo : BitVec m} :
    w.extractLsb' k (n + m) = hi ++ lo ↔ w.extractLsb' (k + m) n = hi ∧ w.extractLsb' k m = lo := by
  rw [← BitVec.extractLsb'_append_extractLsb'_eq_extractLsb' rfl, eq_comm, append_eq_iff, BitVec.extractLsb'_append_eq_left,
    BitVec.extractLsb'_append_eq_right]

/-- A field that holds a given number. -/
theorem eq_ofNat_iff {n k : Nat} {x : BitVec n} : x = BitVec.ofNat n k ↔ x.toNat = k % 2 ^ n := by
  rw [← BitVec.toNat_inj, BitVec.toNat_ofNat]

/-! ### Codes of the operands (R7, R42, R48, R55, R236) -/

theorem Scope.ofCode_eq_some_iff {c : BitVec 3} {p : Scope} : Scope.ofCode c = some p ↔ p.code = c := by
  revert c
  cases p <;> decide

theorem FenceKind.ofCode_eq_some_iff {c : BitVec 2} {k : FenceKind} : FenceKind.ofCode c = some k ↔ k.code = c := by
  revert c
  cases k <;> decide

/-- An operand is read back from its code. -/
theorem ofCode_code :
    (∀ p : Scope, Scope.ofCode p.code = some p) ∧ (∀ k : FenceKind, FenceKind.ofCode k.code = some k) ∧
    (∀ r : MemOrd, MemOrd.ofCode r.code = r) ∧ (∀ t : Ty, Ty.ofCode t.code = t) ∧ (∀ m : Rm, Rm.ofCode m.code = m) ∧
    (∀ r : Dir, Dir.ofCode r.code = r) ∧ (∀ s : Sz, Sz.ofCode s.code = s) ∧ (∀ s : AtSz, AtSz.ofCode s.code = s) ∧
    (∀ z : Bool, (BitVec.ofBool z == 1#1) = z) := by
  refine ⟨?_, ?_, ?_, ?_, ?_, ?_, ?_, ?_, ?_⟩ <;> intro x <;> cases x <;> rfl

/-- Where every value of a field is a code, each is the code of what is read from it. -/
theorem code_ofCode :
    (∀ c, (MemOrd.ofCode c).code = c) ∧ (∀ c, (Ty.ofCode c).code = c) ∧ (∀ c, (Rm.ofCode c).code = c) ∧
    (∀ c, (Dir.ofCode c).code = c) ∧ (∀ c, (Sz.ofCode c).code = c) ∧ (∀ c, (AtSz.ofCode c).code = c) ∧
    (∀ c : BitVec 1, BitVec.ofBool (c == 1#1) = c) := by
  decide

/-! ### From a word to the encoded word of its instruction -/

/-- The instruction that is answered, if one is, has w for its encoded word. -/
def EncodedBy (w : BitVec 32) (r : Except Reject Instr) : Prop := ∀ i, r = .ok i → encode i = some w

theorem encodedBy_ok {w : BitVec 32} {i : Instr} : EncodedBy w (.ok i) ↔ encode i = some w := by
  simp [EncodedBy]

theorem encodedBy_error {w : BitVec 32} {e : Reject} : EncodedBy w (.error e) ↔ True := by
  simp [EncodedBy]

theorem encodedBy_need {w : BitVec 32} {b : Bool} {i : Instr} :
    EncodedBy w (need b i) ↔ (b = true → encode i = some w) := by
  cases b <;> simp [need, encodedBy_ok, encodedBy_error]

theorem encodedBy_elim {α : Type} {w : BitVec 32} {o : Option α} {e : Reject} {k : α → Except Reject Instr} :
    EncodedBy w (o.elim (.error e) k) ↔ ∀ p, o = some p → EncodedBy w (k p) := by
  cases o <;> simp [encodedBy_error]

/-- Each row of the tables: the fields that select it, those that it wants zero and those that it reads make up the word of its
instruction. -/
theorem encodedBy_decodeFields (w : BitVec 32) : EncodedBy w (decodeFields w) := by
  simp only [decodeFields, decodeMajor01, decodeMajor0A, decodeMajor0B, decodeMajor0D, decodeMajor10, decodeMajor13,
    decodeMajor14, decodeMajor15, decodeMajor16, decodeMajor18, decodeMajor19, decodeMajor1A, decodeMajor1B, decodeMajor24,
    decodeMajor25, decodeMajor28, decodeMajor2C, decodeMajor2D, decodeMajor2E, decodeMajor30, decodeMajor34, decodeMajor35,
    decodeMajor36, decodeMajor37, decodeMajor38, decodeMajor39, decodeMajor3A, decodeMajor3C, decodeMajor3E]
  -- one goal for each row, with what its major and function number are
  repeat' split
  -- what each row asks of the rest of the word
  all_goals
    simp only [encodedBy_ok, encodedBy_error, encodedBy_need, encodedBy_elim, Scope.ofCode_eq_some_iff,
      FenceKind.ofCode_eq_some_iff, Bool.and_eq_true, beq_iff_eq, BitVec.ofNat_eq_ofNat]
  -- field by field, the encoded word is w
  all_goals
    intros
    refine congrArg some (append_eq_iff.2 ?_)
    simp only [↓extract_eq_append_iff, Nat.reduceAdd, eq_ofNat_iff, Nat.reducePow, Nat.reduceMod,
      code_ofCode, and_self, *]

/-! ### From an instruction to what its encoded word decodes to -/

theorem need_true (i : Instr) : need true i = .ok i := rfl

/-- The encoded word of an instruction has the fields of the instruction's row, and its major and function number lead the
decoder to that row. -/
theorem decodeFields_of_encode {i : Instr} {w : BitVec 32} (h : encode i = some w) : decodeFields w = .ok i := by
  cases i
  case icinvDone | loadDataReturn | divideComplete | accessAccepted | accessFaultRecorded | globalAccessAtStation |
    pageWalkComplete | atomicAtUnit | apertureAccess | instructionLineFill | pendingFaultTaken | faultFibreStart |
    spawnMessageArrival | spawnAckArrival | migrationArrival | fibreEviction | cellarRestore | fyieldDelayExpiry |
    waitingCountThreshold | planEntryActivate | planEntryRestore | planEntrySave | stateCapture | residentSwitchComplete |
    saveComplete | restoreComplete | contractPeriodStart | bestEffortQuantumExpiry | barrierPhaseComplete | gutterWordArrival
    | gutterCreditReturn | vectorEntryExecute | copyCommandBegin | copySegmentWritten | copyAccessFault | copyCommandComplete
    | cpymTileAck | matrixCommandBegin | matrixCommandComplete | rendezvousTransfer | mrcmdArrival | mrcmdAckArrival |
    meshPostArrival | fabricCommandBegin | put | puti | getq | getr | sig | amo | amor | spawn | pld | pst | pamo | crq |
    cdata | cdone | cstop | ackAnswer | ackResynchronise | ackResynchronised | refuse | bup | bdown | gack | tsync |
    tsyncInterval | timeLock | timeUnlock | heldPacketPerform | retransmissionTimeout | streamTimeout |
    streamStateFetchComplete | packetForward | flitReplay | portRetrain | portTrained | portDown | carmAtUnit | caddAtUnit |
    creadAtUnit | cdisarmAtUnit | cisternAnswer | cisternSpawnRetry | watchdogFire | contextEnd | launchEnd | dbell |
    contextCreate | contextDestroy | launch | windowOpen | cisternArm | signal | copy | switchPlan | invalidate | errheadWrite
    | registerWrite | hostAccess | attest | lcset | update | updateStartTimeout | mailboxFence | readmit | portset | ctrrd |
    reset | wipeComplete | controlStateError | patrolScrub | powerThrottle | junctionShutdown | illegalWord | groupTreeRebuild
    | updateRestartComplete | linkPartnerArrival => exact nomatch h
  -- the fields of w, and the row of its major
  all_goals
    replace h := append_eq_iff.1 (Option.some.inj h)
    simp only [↓extract_eq_append_iff, Nat.reduceAdd, and_assoc] at h
    obtain ⟨hmajor, hrest⟩ := h
    rw [decodeFields, hmajor]
  case' add | sub | and | or | xor | andn | sll | srl | sra | rol | slt | sltu | seq | min | max | minu | maxu | slli | srli |
    srai | sel | addw | subw =>
    change decodeMajor01 w = _
    rw [decodeMajor01]
  case' mul | mulh | mulhu | mulw | div | divu | rem | remu =>
    change decodeMajor0A w = _
    rw [decodeMajor0A]
  case' popc | clz | ctz | bswap | bext | bins | sext | zext =>
    change decodeMajor0B w = _
    rw [decodeMajor0B]
  case' lea | bayn | baya =>
    change decodeMajor0D w = _
    rw [decodeMajor0D]
  case' beq | bne | blt | bge | bltu | bgeu | bbc | bbs =>
    change decodeMajor10 w = _
    rw [decodeMajor10]
  case' jr | callr =>
    change decodeMajor13 w = _
    rw [decodeMajor13]
  case' loop | loopReg =>
    change decodeMajor14 w = _
    rw [decodeMajor14]
  case' lbrk | lcnt =>
    change decodeMajor15 w = _
    rw [decodeMajor15]
  case' vrep | vrepReg =>
    change decodeMajor16 w = _
    rw [decodeMajor16]
  case' fspawn | fspawnb | fexit | fid | fpri | fyield | fgo | fpark | fctx | cbudget =>
    change decodeMajor18 w = _
    rw [decodeMajor18]
  case' spost | swait | stry | sread | sinit =>
    change decodeMajor19 w = _
    rw [decodeMajor19]
  case' barr | bwait | bsync | bmask | bstat =>
    change decodeMajor1A w = _
    rw [decodeMajor1A]
  case' qpush | qpop | qpusht | qpopt | qfwd | qstat =>
    change decodeMajor1B w = _
    rw [decodeMajor1B]
  case' aadd | aand | aor | axor | amin | amax | aminu | amaxu | aswap | acas | stadd | stand | stor | stxor | stmin | stmax |
    stminu | stmaxu =>
    change decodeMajor24 w = _
    rw [decodeMajor24]
  case' fence | fencea =>
    change decodeMajor25 w = _
    rw [decodeMajor25]
  case' cpy | cpym | cpyt | cpyq =>
    change decodeMajor28 w = _
    rw [decodeMajor28]
  case' rput | rputi | rget | rsig | ramo | rspawn =>
    change decodeMajor2C w = _
    rw [decodeMajor2C]
  case' crd | crdg | crdq =>
    change decodeMajor2D w = _
    rw [decodeMajor2D]
  case' flush | flushc | strmq =>
    change decodeMajor2E w = _
    rw [decodeMajor2E]
  case' carm | cadd | cread | cdisarm =>
    change decodeMajor30 w = _
    rw [decodeMajor30]
  case' vadd | vsub | vmul | vfma | vfms | vmin | vmax | vabs | vneg | vrsq | vrcp | vexp2 | vlog2 | vsqrt | vdiv | vadds |
    vmuls | vfmas =>
    change decodeMajor34 w = _
    rw [decodeMajor34]
  case' viadd | visub | vimul | vimin | vimax | viminu | vimaxu | vand | vor | vxor | vshl | vshr | vsar | viadds | vidx =>
    change decodeMajor35 w = _
    rw [decodeMajor35]
  case' vcmpeq | vcmplt | vcmple | vsel | vrsum | vrmax | vrmin | vshuf | vbcast | vrot | kand | kor | knot =>
    change decodeMajor36 w = _
    rw [decodeMajor36]
  case' vcvt | vcvtsr | vrng | vpack | vunpk | vcvtn4 | vcvtw4 =>
    change decodeMajor37 w = _
    rw [decodeMajor37]
  case' vld | vlds | vldb =>
    change decodeMajor38 w = _
    rw [decodeMajor38]
  case' vst | vsts =>
    change decodeMajor39 w = _
    rw [decodeMajor39]
  case' vbind | vfree | vdrain | vsplat | vins | vget =>
    change decodeMajor3A w = _
    rw [decodeMajor3A]
  case' mzero | mldw | mrd | mwr | mrcmd | mgrant | vtld | vtst =>
    change decodeMajor3C w = _
    rw [decodeMajor3C]
  case' nop | trap | hret | sysrd | syswr | evsel | evrd | time | icinv =>
    change decodeMajor3E w = _
    rw [decodeMajor3E]
  -- the fields choose the row of the function number, pass its checks and are read back
  all_goals
    simp only [hrest, ofCode_code, need_true, Option.elim_some, BitVec.reduceToNat, BitVec.ofNat_eq_ofNat, BEq.rfl, Bool.and_self]

/-- A word decodes to an instruction exactly where it is the encoded word of the instruction and this is well formed (R50). -/
theorem decode_eq_ok_iff {w : BitVec 32} {i : Instr} : decode w = .ok i ↔ encode i = some w ∧ i.wf = true := by
  have hfields : decodeFields w = .ok i ↔ encode i = some w := ⟨encodedBy_decodeFields w i, decodeFields_of_encode⟩
  rw [← hfields, decode]
  cases decodeFields w with
  | error e => simp
  | ok j =>
    dsimp only
    by_cases hwf : j.wf = true
    · rw [if_pos hwf, iff_self_and]
      exact fun e => Except.ok.inj e ▸ hwf
    · rw [if_neg hwf]
      exact iff_of_false nofun fun ⟨e, hi⟩ => hwf (Except.ok.inj e ▸ hi)

/-- Settles O1: both halves are the two directions of `decode_eq_ok_iff`. -/
theorem roundTrip : Obligations.RoundTrip := by
  unfold Obligations.RoundTrip
  exact ⟨fun _ _ hwf henc => decode_eq_ok_iff.2 ⟨henc, hwf⟩, fun _ _ h => (decode_eq_ok_iff.1 h).symm⟩

/-- Settles O6: the words that stand for an instruction are the encoded words of well-formed ones; the four others end in the
refusals that R50 lists. -/
theorem decodeWords : Obligations.DecodeWords := by
  unfold Obligations.DecodeWords
  refine ⟨?_, ?_, ?_, ?_, ?_, ?_, ?_, ?_, ?_, ?_, ?_, ?_, ?_, ?_, ?_, ?_, rfl, rfl, rfl, rfl⟩
  all_goals exact decode_eq_ok_iff.2 ⟨rfl, rfl⟩

end Sys2Proof
end

section
/-!
SUPPORT and PROOF. What a step runs: the choice of a bay's cycle, and an event that comes next (O5).
-/
namespace Sys2Proof.Machine

/-! ### The choice among the ready fibres (R93, R191) -/

/-- The better of two ready fibres is one of them. -/
theorem better_eq_or (q last : Nat) (cong : Bool) (x y : Nat × Fibre × Act) :
    better q last cong x y = x ∨ better q last cong x y = y := by
  unfold better
  dsimp only
  repeat' split
  all_goals simp

/-- The fibre chosen is one of the ready ones. -/
theorem choose_mem {q last : Nat} {cong : Bool} {l : List (Nat × Fibre × Act)} {p : Nat × Fibre × Act}
    (h : choose q last cong l = some p) : p ∈ l := by
  induction l generalizing p with
  | nil => cases h
  | cons x r ih =>
    unfold choose at h
    split at h
    case h_1 y hy =>
      cases h
      rcases better_eq_or q last cong x y with e | e <;> rw [e]
      · exact List.mem_cons_self
      · exact List.mem_cons_of_mem x (ih hy)
    case h_2 =>
      cases h
      exact List.mem_cons_self

/-- A fibre stands in the list with the act for which it is ready. -/
theorem State.ready_of_mem_readyList {s : State} {b i : Nat} {c : BayCtx} {l : Tab Slot} {k : Nat} {f : Fibre} {a : Act}
    (h : (k, f, a) ∈ s.readyList b i c l) : s.ready { bay := b, idx := i, slot := k } c.asid f = some a := by
  induction l with
  | nil => cases h
  | cons x r ih =>
    unfold State.readyList at h
    split at h
    case h_1 g _ =>
      split at h
      case h_1 a' hready =>
        rcases List.mem_cons.1 h with e | hmem
        · cases e
          exact hready
        · exact ih hmem
      case h_2 => exact ih h
    case h_2 => exact ih h

/-- A ready fibre takes its pending fault, or does what the word at its PC asks for. -/
theorem State.fault_or_nextAct_of_ready {s : State} {p : Cur} {asid : Nat} {f : Fibre} {a : Act}
    (h : s.ready p asid f = some a) : a = .fault ∨ s.nextAct p.bay asid f = some a := by
  unfold State.ready at h
  -- each branch answers nothing, the pending fault, or the act of the word at PC
  repeat' split at h
  all_goals simp_all

/-- The act of the fibre chosen is its pending fault, or what the word at its PC asks for. -/
theorem State.fault_or_nextAct_of_choose {s : State} {b i q last : Nat} {cong : Bool} {c : BayCtx} {l : Tab Slot} {k : Nat}
    {f : Fibre} {a : Act} (h : choose q last cong (s.readyList b i c l) = some (k, f, a)) :
    a = .fault ∨ s.nextAct b c.asid f = some a :=
  State.fault_or_nextAct_of_ready (State.ready_of_mem_readyList (choose_mem h))

theorem State.nextAct_of_decode_ok {s : State} {b asid : Nat} {f : Fibre} {w : BitVec 32} {i : Instr}
    (hw : s.fetch b asid f.pc = some w) (h : decode w = .ok i) : s.nextAct b asid f = some (.run i) := by
  simp [State.nextAct, hw, h]

theorem State.nextAct_of_decode_error {s : State} {b asid : Nat} {f : Fibre} {w : BitVec 32} {e : Reject}
    (hw : s.fetch b asid f.pc = some w) (h : decode w = .error e) : s.nextAct b asid f = some (.illegal w) := by
  simp [State.nextAct, hw, h]

/-! ### A bay's cycle (R92) -/

/-- What the chosen fibre's act comes to, in the state after the cycle's bookkeeping. -/
def Act.out (t : State) (b i k : Nat) : Act → Out
  | .run x => exec x t
  | .illegal w => exec .illegalWord { t with ev := .illegalWord w }
  | .fault => exec .pendingFaultTaken { t with ev := .pendingFaultTaken b i k }

/-- A cycle in which a fibre is chosen is its act, this fibre issuing. -/
theorem bayCycle_of_choose {s : State} {b i k : Nat} {c : BayCtx} {f : Fibre} {a : Act} (hc : s.bctx b i = some c)
    (h : choose c.quota.slots c.lastSlot c.cellar.cong (s.readyList b i c c.slots) = some (k, f, a)) :
    bayCycle s b i =
      a.out { s.cycleBook b i c (s.readyList b i c c.slots) (some k) with cur := { bay := b, idx := i, slot := k } } b i k := by
  cases a <;> simp only [bayCycle, hc, h, Act.out]

/-! ### An event that comes next (R421) -/

theorem perform_event_of_not_parked {s : State} {n : Nat} {x : Item} (hx : s.agenda[n]? = some x) (h : s.parksAt x = none) :
    perform s (some (.event n)) = exec x.ev.instr { s with agenda := s.agenda.eraseIdx n, ev := x.ev, lane := x.lane } := by
  simp [perform, hx, h]

theorem perform_event_of_parked {s : State} {n p j : Nat} {x : Item} (hx : s.agenda[n]? = some x)
    (h : s.parksAt x = some (p, j)) :
    perform s (some (.event n)) = .next (({ s with agenda := s.agenda.eraseIdx n } : State).parkItem p j x) := by
  simp [perform, hx, h]

/-- A context that is resident on a bay is not saved off it. -/
theorem State.saved_of_resident {s : State} {b j asid : Nat} (hj : j < 4) (h : s.keyOf b asid = some j) :
    s.saved b asid = none := by
  simp [State.saved, h, hj]

/-- An item parked for a resident context joins what is parked for it, and nothing else changes: no image is touched. -/
theorem State.parkItem_of_resident {s : State} {p j : Nat} {y : BayCtx} (x : Item) (hj : j < 4) (hy : s.bctx p j = some y)
    (hkey : s.keyOf p y.asid = some j) : s.parkItem p j x = s.modC p j fun z => { z with park := z.park ++ [x] } := by
  simp only [State.parkItem, hy, State.imaged, State.viaImage,
    State.viaPages_resident _ _ _ (State.saved_of_resident hj hkey)]

/-- Settles O5: the act of the fibre chosen is its pending fault or what the word at its PC decodes to, and the cycle runs that
act; an event runs, or is parked where a saved image, the only thing that parking may touch beside the list, is absent. -/
theorem stepRunsDecoded : Obligations.StepRunsDecoded := by
  unfold Obligations.StepRunsDecoded
  intro s b i c k f a w u l t
  refine ⟨fun hpick hc hchoose => ?_, fun n x hpick hx => ⟨fun hpark => ?_, fun p j hpark => ?_⟩⟩
  · have hstep : step s = a.out t b i k := by
      rw [← bayCycle_of_choose hc hchoose]
      exact congrArg (perform u) hpick
    refine ⟨fun ha => ?_, fun ha hw => ⟨fun y hy => ?_, fun e he => ?_⟩⟩
    · rw [hstep, ha]
      rfl
    · have hact := (State.fault_or_nextAct_of_choose hchoose).resolve_left ha
      cases (State.nextAct_of_decode_ok hw hy).symm.trans hact
      exact hstep
    · have hact := (State.fault_or_nextAct_of_choose hchoose).resolve_left ha
      cases (State.nextAct_of_decode_error hw he).symm.trans hact
      exact hstep
  · exact (congrArg (perform u) hpick).trans (perform_event_of_not_parked hx hpark)
  · exact ⟨_, (congrArg (perform u) hpick).trans (perform_event_of_parked hx hpark), State.parkItem_mem .., fun y hj hy hkey =>
      State.parkItem_of_resident x hj hy hkey⟩

end Sys2Proof.Machine
end

section
/-!
SUPPORT. The magnitudes of codes, and what the rounding of R71 and R72 makes of a magnitude, with its flag NX (R77).
-/
namespace Sys2Proof.Machine

/-! ### Magnitudes of codes (R63, R65) -/

/-- A code written as a multiple of the unit of its exponent: `s` exponents above the subnormals, n units. -/
theorem Fmt.mag_mul_add (F : Fmt) {s n : Nat} (hs : s = 0 ∨ 2 ^ F.f ≤ n) (hn : n ≤ 2 ^ (F.f + 1)) :
    F.mag (s * 2 ^ F.f + n) = n * 2 ^ ((s : Int) + 1 - F.bias - F.f) := by
  have hp : 0 < 2 ^ F.f := by positivity
  unfold Fmt.mag
  rcases Nat.lt_trichotomy n (2 ^ F.f) with h | h | h
  · obtain rfl : s = 0 := by omega
    simp [Nat.div_eq_of_lt h]
  · have hd : (s * 2 ^ F.f + n) / 2 ^ F.f = s + 1 := by rw [h, ← Nat.succ_mul, Nat.mul_div_cancel _ hp]
    have hm : (s * 2 ^ F.f + n) % 2 ^ F.f = 0 := by rw [h, ← Nat.succ_mul, Nat.mul_mod_left]
    rw [hd, hm, if_neg (by omega), zero_add, h]
    push_cast
    ring_nf
  · rcases Nat.lt_or_ge n (2 ^ (F.f + 1)) with h2 | h2
    · obtain ⟨r, rfl⟩ := Nat.exists_eq_add_of_lt h
      have hr : r + 1 < 2 ^ F.f := by rw [pow_succ] at h2; omega
      have hc : s * 2 ^ F.f + (2 ^ F.f + r + 1) = (r + 1) + 2 ^ F.f * (s + 1) := by ring
      rw [hc, Nat.add_mul_div_left _ _ hp, Nat.add_mul_mod_self_left, Nat.div_eq_of_lt hr, Nat.mod_eq_of_lt hr,
        if_neg (by omega)]
      push_cast
      ring_nf
    · obtain rfl : n = 2 ^ (F.f + 1) := le_antisymm hn h2
      have hc : s * 2 ^ F.f + 2 ^ (F.f + 1) = 2 ^ F.f * (s + 2) := by ring
      rw [hc, Nat.mul_div_cancel_left _ hp, Nat.mul_mod_right, if_neg (by omega), zero_add]
      have he : ((s + 2 : Nat) : Int) - F.bias - F.f = 1 + ((s : Int) + 1 - F.bias - F.f) := by push_cast; ring
      rw [he, zpow_add₀ two_ne_zero, zpow_one]
      push_cast
      ring

/-- Every code is a number of units of its exponent. -/
theorem Fmt.exists_mul_add (F : Fmt) (c : Nat) :
    ∃ s n, c = s * 2 ^ F.f + n ∧ (s = 0 ∨ 2 ^ F.f ≤ n) ∧ n < 2 ^ (F.f + 1) := by
  have hp : 0 < 2 ^ F.f := by positivity
  have hd := Nat.div_add_mod c (2 ^ F.f)
  have hm := Nat.mod_lt c hp
  rcases h : c / 2 ^ F.f with _ | s
  · exact ⟨0, c % 2 ^ F.f, by rw [h] at hd; omega, .inl rfl, by rw [pow_succ]; omega⟩
  · refine ⟨s, c % 2 ^ F.f + 2 ^ F.f, ?_, .inr (by omega), by rw [pow_succ]; omega⟩
    have he : 2 ^ F.f * (s + 1) = s * 2 ^ F.f + 2 ^ F.f := by ring
    rw [h] at hd
    omega

theorem Fmt.mag_lt_succ (F : Fmt) (c : Nat) : F.mag c < F.mag (c + 1) := by
  obtain ⟨s, n, rfl, hs, hn⟩ := F.exists_mul_add c
  rw [add_assoc, F.mag_mul_add hs hn.le, F.mag_mul_add (by omega) hn]
  push_cast
  have : (0 : ℚ) < 2 ^ ((s : Int) + 1 - F.bias - F.f) := by positivity
  linarith

theorem Fmt.mag_strictMono (F : Fmt) : StrictMono F.mag := strictMono_nat_of_lt_succ F.mag_lt_succ

@[simp] theorem Fmt.mag_zero (F : Fmt) : F.mag 0 = 0 := by simp [Fmt.mag]

theorem Fmt.mag_nonneg (F : Fmt) (c : Nat) : 0 ≤ F.mag c := F.mag_zero ▸ F.mag_strictMono.monotone (Nat.zero_le c)


/-! ### Rounding between two codes (R71) -/

/-- Whether the magnitude q, between lo and hi, goes to hi; odd tells of the code of lo. -/
def MovesUp (rm : Rm) (neg odd : Bool) (q lo hi : ℚ) : Prop :=
  match rm with
  | .rne => lo + hi < 2 * q ∨ lo + hi = 2 * q ∧ odd = true
  | .rz => False
  | .rd => neg = true ∧ lo < q
  | .ru => neg = false ∧ lo < q

theorem not_movesUp_of_eq {rm : Rm} {neg odd : Bool} {q hi : ℚ} (h : q < hi) : ¬MovesUp rm neg odd q q hi := by
  cases rm <;> simp [MovesUp]
  refine ⟨by linarith, fun e => absurd e ?_⟩
  linarith

/-- The rest against half a unit is the place of the magnitude between the two multiples of the unit. -/
theorem roundsUp_iff {rm : Rm} {neg odd rest : Bool} {rem half : Nat} {q lo w : ℚ} (hw : 0 < w) (hhalf : 0 < half)
    (h1 : lo + rem * w ≤ q) (h2 : q < lo + (rem + 1) * w) (h3 : rest = false ↔ q = lo + rem * w) :
    roundsUp rm neg odd rem half rest = true ↔ MovesUp rm neg odd q lo (lo + 2 * half * w) := by
  have hlo : (rem ≠ 0 ∨ rest = true) ↔ lo < q := by
    rcases Nat.eq_zero_or_pos rem with rfl | hr
    · have h1' : lo ≤ q := by simpa using h1
      have h3' : rest = false ↔ q = lo := by simpa using h3
      rw [lt_iff_le_and_ne, ← Bool.not_eq_false, h3']
      simp [h1', eq_comm]
    · have : (0 : ℚ) < rem * w := by positivity
      simp only [hr.ne', ne_eq, not_false_eq_true, true_or, true_iff]
      linarith
  cases rm with
  | rz => simp [roundsUp, MovesUp]
  | rd => simpa [roundsUp, MovesUp] using fun _ => hlo
  | ru => simpa [roundsUp, MovesUp] using fun _ => hlo
  | rne =>
    simp only [roundsUp, MovesUp, Bool.or_eq_true, decide_eq_true_eq, Bool.and_eq_true, beq_iff_eq, bne_iff_ne]
    rcases Nat.lt_trichotomy rem half with h | rfl | h
    · have hh : ((rem : ℚ) + 1) * w ≤ half * w := by gcongr; exact_mod_cast h
      simp only [h.not_gt, h.ne, false_and, or_self, false_iff, not_or, not_lt, not_and]
      exact ⟨by linarith, fun e => absurd e (by linarith)⟩
    · simp only [lt_irrefl, false_or, true_and, hhalf.ne', ne_eq, not_false_eq_true]
      rw [← Bool.not_eq_false, h3]
      constructor
      · rintro (h | h)
        · have := lt_of_le_of_ne h1 (Ne.symm h)
          exact .inl (by linarith)
        · rcases h1.lt_or_eq with h1 | h1
          · exact .inl (by linarith)
          · exact .inr ⟨by linarith, h⟩
      · rintro (h | ⟨-, h⟩)
        · exact .inl fun e => absurd h (by linarith)
        · exact .inr h
    · have hh : ((half : ℚ) + 1) * w ≤ rem * w := by gcongr; exact_mod_cast h
      simp only [h, true_or, true_iff]
      exact .inl (by linarith)

/-- A magnitude of m units of 2^e and a rest, cut at the unit 2^u: the multiple below it, where it goes, and whether it is one. -/
theorem roundsUp_units {rm : Rm} {neg rest : Bool} {m : Nat} {e u : Int} {q : ℚ} (h1 : (m : ℚ) * 2 ^ e ≤ q)
    (h2 : q < (m + 1 : ℚ) * 2 ^ e) (h3 : rest = false ↔ q = (m : ℚ) * 2 ^ e) (hrest : rest = true → e < u) :
    let sh := (u - e).toNat
    let n := if u ≤ e then m * 2 ^ (e - u).toNat else m / 2 ^ sh
    let rem := if u ≤ e then 0 else m % 2 ^ sh
    let half := if u ≤ e then 0 else 2 ^ (sh - 1)
    (n : ℚ) * 2 ^ u ≤ q ∧ q < (n + 1 : ℚ) * 2 ^ u ∧
      (∀ odd, roundsUp rm neg odd rem half rest = true ↔ MovesUp rm neg odd q (n * 2 ^ u) ((n + 1 : ℚ) * 2 ^ u)) ∧
      ((rem != 0 || rest) = false ↔ q = n * 2 ^ u) := by
  intro sh n rem half
  have hu : (0 : ℚ) < 2 ^ u := by positivity
  have he : (0 : ℚ) < 2 ^ e := by positivity
  rcases le_or_gt u e with hle | hlt
  · obtain rfl : rest = false := by
      rw [← Bool.not_eq_true]
      exact fun h => absurd (hrest h) (not_lt.2 hle)
    have hq : q = n * 2 ^ u := by
      have hk : ((e - u).toNat : Int) + u = e := by omega
      rw [h3.1 rfl, ← hk, zpow_add₀ two_ne_zero, zpow_natCast, ← mul_assoc]
      simp [n, hle]
    have hlt : (n : ℚ) * 2 ^ u < (n + 1) * 2 ^ u := by linarith
    refine ⟨hq.ge, hq ▸ hlt, fun odd => ?_, by simp [rem, hle, hq]⟩
    have hstay : roundsUp rm neg odd rem half false = false := by cases rm <;> simp [roundsUp, rem, half, hle]
    rw [hstay, hq]
    simp [not_movesUp_of_eq hlt]
  · obtain ⟨d, hd⟩ : ∃ d : Nat, u = e + (d + 1) := ⟨(u - e).toNat - 1, by omega⟩
    have hsh : sh = d + 1 := by omega
    have hn : n = m / 2 ^ sh := if_neg hlt.not_ge
    have hr : rem = m % 2 ^ sh := if_neg hlt.not_ge
    have hh : half = 2 ^ d := by simp [half, hlt.not_ge, hsh]
    have hm : (m : ℚ) = n * 2 ^ (d + 1) + rem := by
      have := Nat.div_add_mod m (2 ^ sh)
      rw [← hn, ← hr, hsh] at this
      rw [← this]
      push_cast
      ring
    have h2u : (2 : ℚ) ^ u = 2 ^ (d + 1) * 2 ^ e := by
      rw [hd, zpow_add₀ two_ne_zero, mul_comm]
      norm_cast
    have hhi : (n + 1 : ℚ) * 2 ^ u = n * 2 ^ u + 2 * half * 2 ^ e := by rw [hh, h2u]; push_cast; ring
    have hlo : (n : ℚ) * 2 ^ u + rem * 2 ^ e = m * 2 ^ e := by rw [hm, h2u]; ring
    have hup : ((n : ℚ) * 2 ^ u + (rem + 1) * 2 ^ e) = (m + 1) * 2 ^ e := by rw [add_mul, ← add_assoc, hlo]; ring
    have hrem : (rem : ℚ) + 1 ≤ 2 * half := by
      have : rem < 2 ^ sh := hr ▸ Nat.mod_lt _ (by positivity)
      rw [hsh, pow_succ] at this
      rw [hh]
      exact_mod_cast (by omega : rem + 1 ≤ 2 * 2 ^ d)
    have hle : (n : ℚ) * 2 ^ u ≤ q := le_trans (by rw [← hlo]; simp; positivity) h1
    refine ⟨hle, ?_, fun odd => ?_, ?_⟩
    · calc q < n * 2 ^ u + (rem + 1) * 2 ^ e := by rw [hup]; exact h2
        _ ≤ n * 2 ^ u + 2 * half * 2 ^ e := by gcongr
        _ = (n + 1) * 2 ^ u := hhi.symm
    · rw [hhi]
      exact roundsUp_iff he (by rw [hh]; positivity) (hlo ▸ h1) (hup ▸ h2) (by rw [hlo]; exact h3)
    · rcases Nat.eq_zero_or_pos rem with h0 | h0
      · rw [h0] at hlo
        simp only [h0, bne_self_eq_false, Bool.false_or, h3, ← hlo]
        simp
      · have : (0 : ℚ) < rem * 2 ^ e := by positivity
        simp only [Bool.or_eq_false_iff, bne_eq_false_iff_eq, h0.ne', false_and, false_iff]
        intro hq
        linarith

/-- Code c is what rounding makes of the magnitude q, which stands at code k or between it and the next (R71, R72). -/
structure Fmt.Rounds (F : Fmt) (rm : Rm) (neg : Bool) (q : ℚ) (r : Nat × BitVec 32) (k c : Nat) : Prop where
  le : F.mag k ≤ q
  lt : q < F.mag (k + 1)
  moves : MovesUp rm neg (k % 2 == 1) q (F.mag k) (F.mag (k + 1)) ∧ c = k + 1 ∨
    ¬MovesUp rm neg (k % 2 == 1) q (F.mag k) (F.mag (k + 1)) ∧ c = k
  code : r.1 = F.signed neg (if F.maxFin < c then F.overflow rm neg else c)
  exact_iff : r.2 &&& fNX = 0 ↔ c ≤ F.maxFin ∧ q = F.mag k

/-- Rounding finds the code at or below the magnitude and goes to the next one where its mode says so (R71). -/
theorem Fmt.round_rounds {F : Fmt} (hf : 1 ≤ F.f) {rm : Rm} {neg rest : Bool} {m : Nat} {e : Int} {q : ℚ}
    (h1 : (m : ℚ) * 2 ^ e ≤ q) (h2 : q < (m + 1 : ℚ) * 2 ^ e) (h3 : rest = false ↔ q = (m : ℚ) * 2 ^ e)
    (h4 : rest = true → 2 ^ (F.f + 1) ≤ m) : ∃ k c, F.Rounds rm neg q (F.round rm neg m e rest) k c := by
  by_cases h0 : m = 0 ∧ rest = false
  · obtain ⟨rfl, rfl⟩ := h0
    have hq : q = F.mag 0 := by simpa using h3.1 rfl
    have hlt : q < F.mag (0 + 1) := hq ▸ F.mag_lt_succ 0
    refine ⟨0, 0, hq.ge, hlt, .inr ⟨?_, rfl⟩, ?_, ?_⟩
    · rw [← hq]
      exact not_movesUp_of_eq hlt
    · simp [Fmt.round]
    · simp [Fmt.round, hq]
  · have hm : m ≠ 0 := by
      rintro rfl
      have := h4 (by simpa using h0)
      simp at this
    have hl1 : 2 ^ m.log2 ≤ m := Nat.log2_self_le hm
    have hl2 : m < 2 ^ (m.log2 + 1) := Nat.lt_log2_self
    unfold Fmt.round
    rw [if_neg h0]
    extract_lets emin lg u sh n rem half inexact n' code
    have hu : e < u ∨ rest = false := by
      cases hr : rest with
      | false => exact .inr rfl
      | true =>
        have := (Nat.pow_lt_pow_iff_right (a := 2) (by omega)).1 (lt_of_le_of_lt (h4 hr) hl2)
        omega
    obtain ⟨hle, hlt, hmoves, hexact⟩ := roundsUp_units (rm := rm) (neg := neg) h1 h2 h3 (u := u)
      (fun h => hu.resolve_right (by simp [h]))
    change (n : ℚ) * 2 ^ u ≤ q at hle
    change q < (n + 1 : ℚ) * 2 ^ u at hlt
    obtain ⟨s, hs⟩ : ∃ s : Nat, u = (s : Int) + 1 - F.bias - F.f := ⟨(u - (emin - F.f)).toNat, by omega⟩
    have h2u : (0 : ℚ) < 2 ^ u := by positivity
    have hn : n < 2 ^ (F.f + 1) := by
      have : (n : ℚ) * 2 ^ u < 2 ^ (F.f + 1) * 2 ^ u := calc
        (n : ℚ) * 2 ^ u ≤ q := hle
        _ < (m + 1) * 2 ^ e := h2
        _ ≤ 2 ^ (m.log2 + 1) * 2 ^ e := by gcongr; exact_mod_cast hl2
        _ = 2 ^ (lg + 1) := by rw [← zpow_natCast, ← zpow_add₀ two_ne_zero]; congr 1; push_cast; omega
        _ ≤ 2 ^ (u + (F.f + 1)) := zpow_le_zpow_right₀ one_le_two (by omega)
        _ = 2 ^ (F.f + 1) * 2 ^ u := by rw [zpow_add₀ two_ne_zero, mul_comm]; norm_cast
      exact_mod_cast lt_of_mul_lt_mul_right this h2u.le
    have hsub : s = 0 ∨ 2 ^ F.f ≤ n := by
      rcases lt_or_ge lg emin with h | h
      · exact .inl (by omega)
      · have : (2 : ℚ) ^ F.f * 2 ^ u < (n + 1) * 2 ^ u := calc
          (2 : ℚ) ^ F.f * 2 ^ u = 2 ^ lg := by rw [← zpow_natCast, ← zpow_add₀ two_ne_zero]; congr 1; omega
          _ = 2 ^ m.log2 * 2 ^ e := by rw [← zpow_natCast, ← zpow_add₀ two_ne_zero]; congr 1; omega
          _ ≤ m * 2 ^ e := by gcongr; exact_mod_cast hl1
          _ ≤ q := h1
          _ < (n + 1) * 2 ^ u := hlt
        exact .inr (Nat.lt_succ_iff.1 (by exact_mod_cast lt_of_mul_lt_mul_right this h2u.le))
    have hk : F.mag (s * 2 ^ F.f + n) = n * 2 ^ u := by rw [hs]; exact F.mag_mul_add hsub hn.le
    have hk1 : F.mag (s * 2 ^ F.f + n + 1) = (n + 1) * 2 ^ u := by
      rw [hs, add_assoc, F.mag_mul_add (by omega) hn]
      push_cast
      rfl
    have hodd : (s * 2 ^ F.f + n) % 2 = n % 2 := by
      obtain ⟨g, hg⟩ : ∃ g, F.f = g + 1 := ⟨F.f - 1, by omega⟩
      rw [hg, pow_succ, ← mul_assoc]
      omega
    have hcode : code = if roundsUp rm neg (n % 2 == 1) rem half rest then s * 2 ^ F.f + n + 1 else s * 2 ^ F.f + n := by
      have : (u - (emin - F.f)).toNat = s := by omega
      simp only [code, n', this]
      split <;> rfl
    refine ⟨s * 2 ^ F.f + n, code, hk ▸ hle, hk1 ▸ hlt, ?_, ?_, ?_⟩
    · rw [hk, hk1, hodd, ← hmoves, hcode]
      cases roundsUp rm neg (n % 2 == 1) rem half rest <;> simp
    · split <;> rfl
    · rw [hk, ← hexact]
      split
      next h =>
        exact iff_of_false (show ¬((fOF ||| fNX) &&& fNX = 0) by decide) fun hc => absurd hc.1 (by omega)
      next h =>
        simp only [not_lt.1 h, true_and]
        change _ ↔ inexact = false
        cases inexact <;> cases decide (lg < emin) <;> decide

/-! ### What the result of a rounding is (R71, R72, R77) -/

theorem Fmt.maxFin_le_top (F : Fmt) : F.maxFin ≤ F.top := by
  unfold Fmt.top
  split
  · simp [Fmt.maxFin, *]
  · exact le_rfl

theorem Fmt.top_le_succ_maxFin (F : Fmt) : F.top ≤ F.maxFin + 1 := by
  unfold Fmt.top
  split
  · simp [Fmt.maxFin, *]
    omega
  · exact Nat.le_succ _

theorem Fmt.ite_top (F : Fmt) (c : Nat) : (if F.maxFin < c then F.top else c) = min c F.top := by
  have h1 := F.maxFin_le_top
  have h2 := F.top_le_succ_maxFin
  split <;> omega

theorem Fmt.ite_maxFin (F : Fmt) (c : Nat) : (if F.maxFin < c then F.maxFin else c) = min c F.maxFin := by
  split <;> omega

theorem Fmt.overflow_rne (F : Fmt) (neg : Bool) : F.overflow .rne neg = F.top := by
  unfold Fmt.overflow Fmt.top
  rfl

theorem Fmt.overflow_rz (F : Fmt) (neg : Bool) : F.overflow .rz neg = F.maxFin := by
  unfold Fmt.overflow
  split <;> rfl

theorem Fmt.overflow_rd (F : Fmt) (neg : Bool) : F.overflow .rd neg = if neg then F.top else F.maxFin := by
  unfold Fmt.overflow Fmt.top
  cases neg <;> split <;> rfl

theorem Fmt.overflow_ru (F : Fmt) (neg : Bool) : F.overflow .ru neg = if neg then F.maxFin else F.top := by
  unfold Fmt.overflow Fmt.top
  cases neg <;> split <;> rfl

/-- Code c is the largest finite one whose magnitude is not above q. -/
def Fmt.Down (F : Fmt) (q : ℚ) (c : Nat) : Prop := c ≤ F.maxFin ∧ F.mag c ≤ q ∧ (c = F.maxFin ∨ q < F.mag (c + 1))

/-- Code c is the least one whose magnitude is not below q, or the last. -/
def Fmt.Up (F : Fmt) (q : ℚ) (c : Nat) : Prop :=
  c ≤ F.top ∧ (c = F.top ∨ q ≤ F.mag c) ∧ (c = 0 ∨ F.mag (c - 1) < q)

/-- r is the code with its sign to which the magnitude q goes under a rounding mode (R71, R72). -/
def Fmt.Rounded (F : Fmt) (rm : Rm) (neg : Bool) (q : ℚ) (r : Nat) : Prop :=
  ∃ c, r = F.signed neg c ∧
    match rm with
    | .rne => F.Nearest q c
    | .rz => F.Down q c
    | .rd => if neg then F.Up q c else F.Down q c
    | .ru => if neg then F.Down q c else F.Up q c

section
variable {F : Fmt} {q : ℚ} {k c : Nat} (hle : F.mag k ≤ q) (hlt : q < F.mag (k + 1))
include hle hlt

theorem Fmt.down_min : F.Down q (min k F.maxFin) := by
  refine ⟨min_le_right .., (F.mag_strictMono.monotone (min_le_left ..)).trans hle, ?_⟩
  rcases le_total F.maxFin k with h | h
  · exact .inl (min_eq_right h)
  · rw [min_eq_left h]
    exact .inr hlt

theorem Fmt.up_min (h : F.mag k < q ∧ c = k + 1 ∨ F.mag k = q ∧ c = k) : F.Up q (min c F.top) := by
  have hbelow : ∀ d, d ≤ c → d = 0 ∨ F.mag (d - 1) < q := by
    rintro (_ | d) hd
    · exact .inl rfl
    · rcases h with ⟨h, rfl⟩ | ⟨h, rfl⟩
      · exact .inr ((F.mag_strictMono.monotone (by omega)).trans_lt h)
      · exact .inr (h ▸ F.mag_strictMono (by omega))
  refine ⟨min_le_right .., ?_, hbelow _ (min_le_left ..)⟩
  rcases le_total c F.top with ht | ht
  · rw [min_eq_left ht]
    rcases h with ⟨-, rfl⟩ | ⟨h, rfl⟩
    · exact .inr hlt.le
    · exact .inr h.ge
  · exact .inl (min_eq_right ht)

/-- A code that is not above the last one and at least as near as both neighbours of q is nearest. -/
theorem Fmt.nearest_min
    (h : MovesUp .rne false (k % 2 == 1) q (F.mag k) (F.mag (k + 1)) ∧ c = k + 1 ∨
      ¬MovesUp .rne false (k % 2 == 1) q (F.mag k) (F.mag (k + 1)) ∧ c = k) : F.Nearest q (min c F.top) := by
  have hmono := F.mag_strictMono
  refine ⟨min_le_right .., fun y hy => ?_⟩
  simp only [MovesUp, beq_iff_eq] at h
  rcases lt_or_ge F.top c with ht | ht
  · rw [min_eq_right ht.le]
    have hk : F.mag F.top ≤ q := (hmono.monotone (by omega)).trans hle
    have hy' : F.mag y ≤ F.mag F.top := hmono.monotone hy
    rw [abs_of_nonneg (sub_nonneg.2 hk), abs_of_nonneg (sub_nonneg.2 (hy'.trans hk))]
    exact ⟨by linarith, fun he hne => absurd (hmono.injective (by linarith)) hne⟩
  · rw [min_eq_left ht]
    rcases Nat.lt_or_ge k y with hky | hky
    · have hy' : F.mag (k + 1) ≤ F.mag y := hmono.monotone hky
      rw [abs_of_nonpos (by linarith : q - F.mag y ≤ 0)]
      rcases h with ⟨h, rfl⟩ | ⟨h, rfl⟩
      · rw [abs_of_nonpos (by linarith)]
        exact ⟨by linarith, fun he hne => absurd (hmono.injective (by linarith)) hne⟩
      · rw [abs_of_nonneg (by linarith)]
        rw [not_or, not_lt, not_and] at h
        refine ⟨by linarith [h.1], fun he _ => ?_⟩
        have := h.2 (by linarith [h.1])
        omega
    · have hy' : F.mag y ≤ F.mag k := hmono.monotone hky
      rw [abs_of_nonneg (by linarith : 0 ≤ q - F.mag y)]
      rcases h with ⟨h, rfl⟩ | ⟨h, rfl⟩
      · rw [abs_of_nonpos (by linarith)]
        refine ⟨by rcases h with h | h <;> linarith, fun he _ => ?_⟩
        rcases h with h | ⟨-, h⟩
        · linarith
        · omega
      · rw [abs_of_nonneg (by linarith)]
        exact ⟨by linarith, fun he hne => absurd (hmono.injective (by linarith)) hne⟩

end

/-- The result of a rounding is the code that its mode asks for (R71, R72). -/
theorem Fmt.Rounds.rounded {F : Fmt} {rm : Rm} {neg : Bool} {q : ℚ} {r : Nat × BitVec 32} {k c : Nat}
    (h : F.Rounds rm neg q r k c) : F.Rounded rm neg q r.1 := by
  obtain ⟨hle, hlt, hmoves, hcode, -⟩ := h
  have hrest : F.mag k < q ∨ F.mag k = q := hle.lt_or_eq
  refine ⟨_, hcode, ?_⟩
  cases rm with
  | rne => rw [F.overflow_rne, F.ite_top]; exact F.nearest_min hle hlt hmoves
  | rz =>
    have hck : c = k := by simpa [MovesUp] using hmoves
    rw [F.overflow_rz, F.ite_maxFin, hck]
    exact F.down_min hle hlt
  | rd =>
    rw [F.overflow_rd]
    cases neg
    · have hck : c = k := by simpa [MovesUp] using hmoves
      simpa [F.ite_maxFin, hck] using F.down_min hle hlt
    · simpa [F.ite_top] using F.up_min hle hlt (c := c) (by simpa [MovesUp, hle.ge_iff_eq] using hmoves)
  | ru =>
    rw [F.overflow_ru]
    cases neg
    · simpa [F.ite_top] using F.up_min hle hlt (c := c) (by simpa [MovesUp, hle.ge_iff_eq] using hmoves)
    · have hck : c = k := by simpa [MovesUp] using hmoves
      simpa [F.ite_maxFin, hck] using F.down_min hle hlt

/-- NX is set where the result is not the magnitude itself (R77). -/
theorem Fmt.Rounds.inexact_iff {F : Fmt} {rm : Rm} {neg : Bool} {q : ℚ} {r : Nat × BitVec 32} {k c : Nat}
    (h : F.Rounds rm neg q r k c) :
    r.2 &&& fNX = 0 ↔ ∃ d ≤ F.maxFin, r.1 = F.signed neg d ∧ F.mag d = q := by
  obtain ⟨hle, hlt, hmoves, hcode, hexact⟩ := h
  have hstay : q = F.mag k → c = k := by
    rintro rfl
    rcases hmoves with ⟨h, -⟩ | ⟨-, h⟩
    · exact absurd h (not_movesUp_of_eq hlt)
    · exact h
  rw [hexact]
  constructor
  · rintro ⟨hc, hq⟩
    exact ⟨c, hc, by rw [hcode, if_neg hc.not_gt], by rw [hstay hq, hq]⟩
  · rintro ⟨d, hd, -, rfl⟩
    have h1 := F.mag_strictMono.le_iff_le.1 hle
    have h2 := F.mag_strictMono.lt_iff_lt.1 hlt
    obtain rfl : d = k := by omega
    exact ⟨hstay rfl ▸ hd, rfl⟩

end Sys2Proof.Machine
end

section
/-!
SUPPORT. The values of codes, exact arithmetic (R68, R69), the quotient and the root (R256), and the conversions to integers (R75,
R76).
-/
namespace Sys2Proof.Machine

/-! ### Values of codes (R63, R65) -/

/-- A finite value is its code's magnitude with its code's sign. -/
theorem Fmt.value_num {F : Fmt} {x m : Nat} {neg : Bool} {e : Int} (h : F.value x = .num neg m e) :
    neg = (x / 2 ^ F.sbit % 2 == 1) ∧ (m : ℚ) * 2 ^ e = F.mag (x % 2 ^ F.sbit) ∧ m < 2 ^ (F.f + 1) ∧
      (F.ieee = true → x % 2 ^ F.sbit < F.inf) := by
  unfold Fmt.value at h
  extract_lets s c E at h
  have hp : 0 < 2 ^ F.f := by positivity
  split at h
  · cases h
  · rename_i hi
    split at h
    · cases h
    · rename_i hj
      have hfin : F.ieee = true → c < F.inf := fun hf => by simp [hf] at hi hj; omega
      split at h
      · cases h
      · split at h
        · rename_i h0
          obtain ⟨rfl, rfl, rfl⟩ := FV.num.inj h
          refine ⟨rfl, ?_, ?_, hfin⟩
          · unfold Fmt.mag
            rw [if_pos h0]
          · rw [pow_succ]
            have := (Nat.div_eq_zero_iff.1 h0).resolve_left hp.ne'
            omega
        · rename_i h0
          obtain ⟨rfl, rfl, rfl⟩ := FV.num.inj h
          refine ⟨rfl, ?_, ?_, hfin⟩
          · unfold Fmt.mag
            rw [if_neg h0]
          · rw [pow_succ]
            have := Nat.mod_lt c hp
            omega

theorem Fmt.value_eq_num {F : Fmt} {x : Nat} (h1 : F.ieee = true → x % 2 ^ F.sbit < F.inf)
    (h2 : F.ieee = false → F.nanTop = true → x % 2 ^ F.sbit ≠ 2 ^ F.sbit - 1) :
    ∃ m e, F.value x = .num (x / 2 ^ F.sbit % 2 == 1) m e := by
  unfold Fmt.value
  extract_lets s c E
  rw [if_neg (by simp; intro h; have := h1 h; omega), if_neg (by simp; intro h; have := h1 h; omega),
    if_neg (by simp; exact h2)]
  split
  · exact ⟨_, _, rfl⟩
  · exact ⟨_, _, rfl⟩

theorem Fmt.signed_div_mod {F : Fmt} {neg : Bool} {c : Nat} (h : c < 2 ^ F.sbit) :
    F.signed neg c / 2 ^ F.sbit % 2 = neg.toNat ∧ F.signed neg c % 2 ^ F.sbit = c := by
  have hp : 0 < 2 ^ F.sbit := by positivity
  cases neg
  · simp [Fmt.signed, Nat.div_eq_of_lt h, Nat.mod_eq_of_lt h]
  · simp [Fmt.signed, Nat.add_div_right _ hp, Nat.div_eq_of_lt h, Nat.mod_eq_of_lt h]

/-- The formats have exponent and fraction bits. -/
structure Fmt.Wide (F : Fmt) : Prop where
  w : 1 ≤ F.w
  f : 1 ≤ F.f

theorem Fmt.inf_lt (F : Fmt) : F.inf < 2 ^ F.sbit := by
  unfold Fmt.inf Fmt.sbit
  rw [pow_add]
  have : 0 < 2 ^ F.w := by positivity
  gcongr
  omega

/-- A finite code stands for its magnitude, with its sign. -/
theorem Fmt.value_signed {F : Fmt} (hF : F.Wide) (neg : Bool) {c : Nat} (hc : c ≤ F.maxFin) :
    ∃ m e, F.value (F.signed neg c) = .num neg m e ∧ (m : ℚ) * 2 ^ e = F.mag c := by
  have hi := F.inf_lt
  have hpos : 0 < F.inf := by
    have : 2 ^ 1 ≤ 2 ^ F.w := Nat.pow_le_pow_right (by omega) hF.w
    exact Nat.mul_pos (by omega) (by positivity)
  have h2 : 2 ^ 1 ≤ 2 ^ F.sbit := Nat.pow_le_pow_right (by omega) (le_add_right hF.w)
  have hlt : c < 2 ^ F.sbit := by
    unfold Fmt.maxFin at hc
    split at hc <;> [skip; split at hc] <;> omega
  obtain ⟨hs, hm⟩ := F.signed_div_mod (neg := neg) hlt
  obtain ⟨m, e, hv⟩ := F.value_eq_num (x := F.signed neg c) (fun h => by simp [Fmt.maxFin, h] at hc; omega)
    (fun h h' => by simp [Fmt.maxFin, h, h'] at hc; omega)
  have hneg : (neg.toNat == 1) = neg := by cases neg <;> rfl
  rw [hs, hneg] at hv
  have hq := (Fmt.value_num hv).2.1
  rw [hm] at hq
  exact ⟨m, e, hv, hq⟩

/-! ### Exact arithmetic (R68, R69) -/

theorem FV.rat_num (neg : Bool) (m : Nat) (e : Int) : (FV.num neg m e).rat = sgn neg m * 2 ^ e := by
  cases neg <;> simp [FV.rat, sgn]

theorem FV.rat_neg (x : FV) : x.neg.rat = -x.rat := by
  cases x with
  | nan => simp [FV.neg, FV.rat]
  | inf n => simp [FV.neg, FV.rat]
  | num n m e => cases n <;> simp [FV.neg, FV.rat]

theorem FV.rat_mul_num (a b : Bool) (m n : Nat) (e d : Int) :
    ((FV.num a m e).mul (.num b n d)).rat = (FV.num a m e).rat * (FV.num b n d).rat := by
  simp only [FV.mul, FV.rat, zpow_add₀ (two_ne_zero (α := ℚ))]
  cases a <;> cases b <;> simp <;> ring

/-- The sum of two finite values, as one: the sign is that of the exact sum, or what R69 gives a zero. -/
theorem FV.add_num (a b : Bool) (m n : Nat) (e d : Int) :
    ∃ neg l k, (FV.num a m e).add (.num b n d) = .num neg l k ∧
      (FV.num neg l k).rat = (FV.num a m e).rat + (FV.num b n d).rat ∧ (l = 0 → neg = (a && b)) := by
  simp only [FV.add]
  set k := min e d with hk
  set t := sgn a m * 2 ^ (e - k).toNat + sgn b n * 2 ^ (d - k).toNat with ht
  have hscale : ∀ {x : Int}, k ≤ x → (2 : ℚ) ^ x = 2 ^ (x - k).toNat * 2 ^ k := fun {x} h => by
    rw [← zpow_natCast, ← zpow_add₀ two_ne_zero]
    congr 1
    omega
  have hsum : (t : ℚ) * 2 ^ k = (FV.num a m e).rat + (FV.num b n d).rat := by
    rw [FV.rat_num, FV.rat_num, hscale (min_le_left e d), hscale (min_le_right e d), ht]
    push_cast
    ring
  split
  · rename_i h0
    exact ⟨_, _, _, rfl, by rw [← hsum, h0]; simp [FV.rat], fun _ => rfl⟩
  · rename_i h0
    refine ⟨_, _, _, rfl, ?_, fun h => absurd (Int.natAbs_eq_zero.1 h) h0⟩
    have habs : sgn (decide (t < 0)) t.natAbs = t := by
      by_cases h : t < 0
      · rw [decide_eq_true h, sgn, if_pos rfl]
        omega
      · rw [decide_eq_false h, sgn, if_neg Bool.false_ne_true]
        omega
    rw [FV.rat_num, habs, hsum]

/-! ### Quotient and root (R256) -/

theorem Fmt.div_num {F : Fmt} {x y m n : Nat} {a b : Bool} {e d : Int} (hx : F.value x = .num a m e) (hm : m ≠ 0)
    (hy : F.value y = .num b n d) (hn : n ≠ 0) :
    F.div x y = F.round .rne (a != b) (m * 2 ^ 64 / n) (e - d - 64) (decide (m * 2 ^ 64 % n ≠ 0)) := by
  unfold Fmt.div
  rw [hx, hy]
  exact (if_neg hn).trans (if_neg hm)

/-- The quotient of two numbers is the one of their integers with the rest left out (R256). -/
theorem Fmt.div_rounds {F : Fmt} (hf : 1 ≤ F.f) (hf' : F.f < 31) {x y m n : Nat} {a b : Bool} {e d : Int}
    (hx : F.value x = .num a m e) (hm : m ≠ 0) (hy : F.value y = .num b n d) (hn : n ≠ 0) :
    ∃ k c, F.Rounds .rne (a != b) ((m : ℚ) * 2 ^ e / (n * 2 ^ d)) (F.div x y) k c := by
  have hn0 : (0 : ℚ) < n := by positivity
  have h2 : (0 : ℚ) < 2 ^ (e - d - 64) := by positivity
  have hq : (m : ℚ) * 2 ^ e / (n * 2 ^ d) = ((m * 2 ^ 64 : Nat) : ℚ) / n * 2 ^ (e - d - 64) := by
    rw [zpow_sub₀ two_ne_zero, zpow_sub₀ two_ne_zero]
    push_cast
    field_simp
  have hdm : ((m * 2 ^ 64 : Nat) : ℚ) = n * (m * 2 ^ 64 / n : Nat) + (m * 2 ^ 64 % n : Nat) := by
    exact_mod_cast (Nat.div_add_mod _ _).symm
  have hr : ((m * 2 ^ 64 % n : Nat) : ℚ) < n := by exact_mod_cast Nat.mod_lt _ (Nat.pos_of_ne_zero hn)
  have hl : 2 ^ (F.f + 1) ≤ m * 2 ^ 64 / n := by
    rw [Nat.le_div_iff_mul_le (Nat.pos_of_ne_zero hn)]
    calc 2 ^ (F.f + 1) * n ≤ 2 ^ 32 * 2 ^ 32 :=
          Nat.mul_le_mul (Nat.pow_le_pow_right (by omega) (by omega))
            ((Fmt.value_num hy).2.2.1.le.trans (Nat.pow_le_pow_right (by omega) (by omega)))
      _ ≤ m * 2 ^ 64 := by omega
  rw [Fmt.div_num hx hm hy hn, hq, hdm, add_div, mul_div_cancel_left₀ _ hn0.ne']
  generalize m * 2 ^ 64 % n = r at *
  have hr0 : (r : ℚ) / n < 1 := (div_lt_one hn0).2 hr
  refine Fmt.round_rounds hf ?_ ?_ ?_ fun _ => hl
  · gcongr
    simp
    positivity
  · gcongr
  · rw [mul_left_inj' h2.ne']
    simp [hn]

/-- The digits of the root: the result is the integer square root, where the start is below and within 2^n of it. -/
theorem isqrt_spec {x n r : Nat} (h1 : r * r ≤ x) (h2 : x < (r + 2 ^ n) * (r + 2 ^ n)) :
    isqrt x n r * isqrt x n r ≤ x ∧ x < (isqrt x n r + 1) * (isqrt x n r + 1) := by
  induction n generalizing r with
  | zero => exact ⟨h1, h2⟩
  | succ n ih =>
    unfold isqrt
    split
    · rename_i h
      exact ih h (by rw [show r + 2 ^ n + 2 ^ n = r + 2 ^ (n + 1) by ring]; exact h2)
    · rename_i h
      exact ih h1 (not_le.1 h)

theorem Fmt.sqrt_num {F : Fmt} {x m : Nat} {e : Int} (hx : F.value x = .num false m e) (hm : m ≠ 0) :
    ∃ k : Nat, (k = 64 ∨ k = 65) ∧ (e - k) % 2 = 0 ∧ F.sqrt x = F.round .rne false (isqrt (m * 2 ^ k) 48 0) ((e - k) / 2)
      (decide (isqrt (m * 2 ^ k) 48 0 * isqrt (m * 2 ^ k) 48 0 ≠ m * 2 ^ k)) := by
  refine ⟨if e % 2 = 0 then 64 else 65, by split <;> simp, by split <;> omega, ?_⟩
  unfold Fmt.sqrt
  rw [hx]
  exact (if_neg hm).trans (if_neg Bool.false_ne_true)


theorem Fmt.Nearest.mid_le {F : Fmt} {q : ℚ} {c y : Nat} (h : F.Nearest q c) (hy : y < c) : (F.mag y + F.mag c) / 2 ≤ q := by
  have hlt := F.mag_strictMono hy
  have hn := (h.2 y (hy.le.trans h.1)).1
  by_contra! hq
  rw [abs_of_neg (by linarith : q - F.mag c < 0), le_abs] at hn
  rcases hn with hn | hn <;> linarith

theorem Fmt.Nearest.le_mid {F : Fmt} {q : ℚ} {c y : Nat} (h : F.Nearest q c) (hy : c < y) (ht : y ≤ F.top) :
    q ≤ (F.mag y + F.mag c) / 2 := by
  have hlt := F.mag_strictMono hy
  have hn := (h.2 y ht).1
  by_contra! hq
  rw [abs_of_pos (by linarith : 0 < q - F.mag c), le_abs] at hn
  rcases hn with hn | hn <;> linarith

/-- The code of a root is the nearest one for every magnitude of an interval that holds the root: the root itself, where it is a
multiple of the last digit, or all between two multiples (R256). -/
theorem Fmt.sqrt_nearest {F : Fmt} (hf : 1 ≤ F.f) (hf' : F.f < 31) {x m : Nat} {e : Int} (hx : F.value x = .num false m e)
    (hm : m ≠ 0) : ∃ lo hi : ℚ, 0 ≤ lo ∧ lo < hi ∧ lo ^ 2 ≤ m * 2 ^ e ∧ m * 2 ^ e < hi ^ 2 ∧
      (lo ^ 2 = m * 2 ^ e ∧ F.Nearest lo (F.sqrt x).1 ∨ ∀ q, lo < q → q < hi → F.Nearest q (F.sqrt x).1) := by
  obtain ⟨k, hk, hpar, hs⟩ := Fmt.sqrt_num hx hm
  have hm31 : m < 2 ^ 31 := (Fmt.value_num hx).2.2.1.trans_le (Nat.pow_le_pow_right (by omega) (by omega))
  have hk64 : 2 ^ 64 ≤ m * 2 ^ k := by rcases hk with rfl | rfl <;> omega
  obtain ⟨h1, h2⟩ := isqrt_spec (x := m * 2 ^ k) (n := 48) (r := 0) (by omega) (by rcases hk with rfl | rfl <;> omega)
  rw [hs]
  generalize isqrt (m * 2 ^ k) 48 0 = r at h1 h2 ⊢
  have hw : (0 : ℚ) < 2 ^ ((e - k) / 2) := by positivity
  have hw2 : ((2 : ℚ) ^ ((e - k) / 2)) ^ 2 * 2 ^ k = 2 ^ e := by
    rw [← zpow_natCast, ← zpow_mul, ← zpow_natCast, ← zpow_add₀ two_ne_zero]
    congr 1
    push_cast
    omega
  have hsq : ((m * 2 ^ k : Nat) : ℚ) * (2 ^ ((e - k) / 2)) ^ 2 = m * 2 ^ e := by
    rw [← hw2]
    push_cast
    ring
  have hr : 2 ^ (F.f + 1) ≤ r := by
    have h32 : 2 ^ 32 ≤ r := by nlinarith
    exact (Nat.pow_le_pow_right (by omega) (by omega)).trans h32
  have hnear : ∀ q : ℚ, (r : ℚ) * 2 ^ ((e - k) / 2) ≤ q → q < (r + 1) * 2 ^ ((e - k) / 2) →
      (r * r = m * 2 ^ k ↔ q = r * 2 ^ ((e - k) / 2)) →
      F.Nearest q (F.round .rne false r ((e - k) / 2) (decide (r * r ≠ m * 2 ^ k))).1 := by
    intro q hq1 hq2 hq3
    obtain ⟨_, _, h⟩ := Fmt.round_rounds (rm := .rne) (neg := false) hf hq1 hq2 (rest := decide (r * r ≠ m * 2 ^ k))
      (by simpa using hq3) fun _ => hr
    obtain ⟨c, hc, hn⟩ := h.rounded
    rw [hc]
    exact hn
  refine ⟨r * 2 ^ ((e - k) / 2), (r + 1) * 2 ^ ((e - k) / 2), by positivity, by linarith, ?_, ?_, ?_⟩
  · rw [← hsq, mul_pow, sq (r : ℚ)]
    gcongr
    exact_mod_cast h1
  · rw [← hsq, mul_pow, sq ((r : ℚ) + 1)]
    gcongr
    exact_mod_cast h2
  · by_cases hex : r * r = m * 2 ^ k
    · refine .inl ⟨?_, hnear _ le_rfl (by linarith) (iff_of_true hex rfl)⟩
      rw [← hsq, ← hex]
      push_cast
      ring
    · exact .inr fun q hq1 hq2 => hnear q hq1.le hq2 (iff_of_false hex hq1.ne')

/-- The code of a root is nearest to it: half-way to any other code is on that code's side of the root (R256). -/
theorem Fmt.sqrt_halfway {F : Fmt} (hf : 1 ≤ F.f) (hf' : F.f < 31) {x m : Nat} {e : Int} (hx : F.value x = .num false m e)
    (hm : m ≠ 0) : (F.sqrt x).1 ≤ F.top ∧ ∀ y ≤ F.top,
      (y < (F.sqrt x).1 → ((F.mag y + F.mag (F.sqrt x).1) / 2) ^ 2 ≤ m * 2 ^ e) ∧
      ((F.sqrt x).1 < y → m * 2 ^ e ≤ ((F.mag y + F.mag (F.sqrt x).1) / 2) ^ 2) := by
  obtain ⟨lo, hi, hlo, hlohi, hsq1, hsq2, h⟩ := Fmt.sqrt_nearest hf hf' hx hm
  generalize (F.sqrt x).1 = c at h ⊢
  have hpos : ∀ y, 0 ≤ (F.mag y + F.mag c) / 2 := fun y => by have := F.mag_nonneg y; have := F.mag_nonneg c; linarith
  rcases h with ⟨he, hn⟩ | hn
  · refine ⟨hn.1, fun y hy => ⟨fun hyc => ?_, fun hyc => ?_⟩⟩
    · exact (pow_le_pow_left₀ (hpos y) (hn.mid_le hyc) 2).trans hsq1
    · rw [← he]
      exact pow_le_pow_left₀ hlo (hn.le_mid hyc hy) 2
  · refine ⟨(hn ((lo + hi) / 2) (by linarith) (by linarith)).1, fun y hy => ⟨fun hyc => ?_, fun hyc => ?_⟩⟩
    · refine (pow_le_pow_left₀ (hpos y) (le_of_forall_gt_imp_ge_of_dense fun q hq => ?_) 2).trans hsq1
      rcases lt_or_ge q hi with hqh | hqh
      · exact (hn q hq hqh).mid_le hyc
      · exact ((hn ((lo + hi) / 2) (by linarith) (by linarith)).mid_le hyc).trans (by linarith)
    · refine hsq2.le.trans (pow_le_pow_left₀ (hlo.trans hlohi.le) (le_of_forall_lt_imp_le_of_dense fun q hq => ?_) 2)
      rcases lt_or_ge lo q with hql | hql
      · exact (hn q hql hq).le_mid hyc hy
      · exact le_trans (by linarith) ((hn ((lo + hi) / 2) (by linarith) (by linarith)).le_mid hyc hy)

/-! ### Conversions (R74 to R76) -/

theorem sint_eq_toInt {n : Nat} (hn : 0 < n) (x : Nat) : sint n x = (BitVec.ofNat n x).toInt := by
  have hp : 2 ^ n = 2 * 2 ^ (n - 1) := by rw [← pow_succ', Nat.sub_add_cancel hn]
  rw [BitVec.toInt_eq_toNat_cond, BitVec.toNat_ofNat, sint]
  congr 1
  exact propext ⟨fun h => by omega, fun h => by omega⟩

theorem wrap_eq_ofInt (n : Nat) (v : Int) : wrap n v = (BitVec.ofInt n v).toNat := by
  rw [BitVec.toNat_ofInt, wrap]

/-- The nearest value of n signed bits (R75, R76). -/
def limit (n : Nat) (v : Int) : Int := max (-(2 ^ (n - 1) : Int)) (min (2 ^ (n - 1) - 1) v)

theorem clampN_eq (n : Nat) (v : Int) : clampN n v = (limit n v, decide (limit n v ≠ v)) := by
  have hp : (0 : Int) < 2 ^ (n - 1) := by positivity
  unfold clampN limit
  push_cast
  split
  · rw [min_eq_right (by omega), max_eq_left (by omega)]
    simp
    omega
  · split
    · rw [min_eq_left (by omega), max_eq_right (by omega)]
      simp
      omega
    · rw [min_eq_right (by omega), max_eq_right (by omega)]
      simp

/-- Integer v is what the exact number q becomes under a rounding mode (R71, R75). -/
def RoundsInt (rm : Rm) (q : ℚ) (v : Int) : Prop :=
  match rm with
  | .rne => |q - v| ≤ 1 / 2 ∧ (|q - v| = 1 / 2 → v % 2 = 0)
  | .rz => v = if q < 0 then ⌈q⌉ else ⌊q⌋
  | .rd => v = ⌊q⌋
  | .ru => v = ⌈q⌉

theorem abs_signed_sub (neg : Bool) (q : ℚ) (n : Nat) : |(if neg then -q else q) - (sgn neg n : Int)| = |q - n| := by
  cases neg
  · simp [sgn]
  · rw [← abs_neg]
    simp [sgn]
    ring_nf

/-- A magnitude between two integers goes where its mode says, with its sign (R71). -/
theorem roundsInt_of_movesUp {rm : Rm} {neg : Bool} {q : ℚ} {n n' : Nat} (hle : (n : ℚ) ≤ q) (hlt : q < n + 1)
    (h : MovesUp rm neg (n % 2 == 1) q n (n + 1) ∧ n' = n + 1 ∨ ¬MovesUp rm neg (n % 2 == 1) q n (n + 1) ∧ n' = n) :
    RoundsInt rm (if neg then -q else q) (sgn neg n') := by
  have hq : 0 ≤ q := le_trans (Nat.cast_nonneg n) hle
  have hfloor : ⌊q⌋ = n := Int.floor_eq_iff.2 ⟨by simpa using hle, by simpa using hlt⟩
  have hceil : (n : ℚ) < q ∧ n' = n + 1 ∨ q ≤ n ∧ n' = n → ⌈q⌉ = n' := by
    rintro (⟨h1, rfl⟩ | ⟨h1, rfl⟩) <;> rw [Int.ceil_eq_iff] <;> push_cast <;> constructor <;> linarith
  cases rm with
  | rne =>
    simp only [MovesUp, beq_iff_eq] at h
    have hpar : (sgn neg n') % 2 = 0 ↔ n' % 2 = 0 := by cases neg <;> simp [sgn] <;> omega
    unfold RoundsInt
    rw [abs_signed_sub, hpar]
    rcases h with ⟨h, rfl⟩ | ⟨h, rfl⟩
    · push_cast
      rw [abs_of_neg (by linarith)]
      refine ⟨by rcases h with h | h <;> linarith, fun he => ?_⟩
      rcases h with h | ⟨-, h⟩
      · linarith
      · omega
    · rw [not_or, not_lt, not_and] at h
      rw [abs_of_nonneg (by linarith)]
      refine ⟨by linarith [h.1], fun he => ?_⟩
      have := h.2 (by linarith)
      omega
  | rz =>
    obtain rfl : n' = n := by simpa [MovesUp] using h
    cases neg
    · simp [RoundsInt, sgn, hfloor, hq.not_gt]
    · rcases hq.lt_or_eq with hq | rfl
      · simp [RoundsInt, sgn, hfloor, hq, Int.ceil_neg]
      · simp [RoundsInt, sgn] at hfloor ⊢
        omega
  | rd =>
    cases neg
    · obtain rfl : n' = n := by simpa [MovesUp] using h
      simp [RoundsInt, sgn, hfloor]
    · simp [RoundsInt, sgn, Int.floor_neg, hceil (by simpa [MovesUp] using h)]
  | ru =>
    cases neg
    · simp [RoundsInt, sgn, hceil (by simpa [MovesUp] using h)]
    · obtain rfl : n' = n := by simpa [MovesUp] using h
      simp [RoundsInt, sgn, Int.ceil_neg, hfloor]

/-- A finite value as an integer: rounded under the mode, and then the nearest of the range (R75). -/
theorem toInteger_num (n : Nat) (rm : Rm) (neg : Bool) (m : Nat) (e : Int) :
    ∃ v : Int, RoundsInt rm (FV.num neg m e).rat v ∧
      toInteger n rm (.num neg m e) = ((BitVec.ofInt n (limit n v)).toNat,
        if limit n v ≠ v then fIV else if (FV.num neg m e).rat = v then 0 else fNX) := by
  have hlt : (m : ℚ) * 2 ^ e < (m + 1) * 2 ^ e := by gcongr; linarith
  obtain ⟨hle, hlt, hmoves, hexact⟩ := roundsUp_units (rm := rm) (neg := neg) (u := 0) le_rfl hlt (rest := false)
    (iff_of_true rfl rfl) (fun h => absurd h Bool.false_ne_true)
  simp only [zero_sub, sub_zero, zpow_zero, mul_one, Bool.or_false, bne_eq_false_iff_eq] at hle hlt hmoves hexact
  have hrat : (FV.num neg m e).rat = if neg then -((m : ℚ) * 2 ^ e) else m * 2 ^ e := by cases neg <;> simp [FV.rat]
  dsimp only [toInteger]
  generalize (if 0 ≤ e then 0 else 2 ^ ((-e).toNat - 1)) = half at *
  generalize (if 0 ≤ e then 0 else m % 2 ^ (-e).toNat) = rem at *
  generalize (if 0 ≤ e then m * 2 ^ e.toNat else m / 2 ^ (-e).toNat) = l at *
  have hmove : ∀ l', (if roundsUp rm neg (l % 2 == 1) rem half false = true then l + 1 else l) = l' →
      (MovesUp rm neg (l % 2 == 1) (m * 2 ^ e) l (l + 1) ∧ l' = l + 1 ∨
        ¬MovesUp rm neg (l % 2 == 1) (m * 2 ^ e) l (l + 1) ∧ l' = l) := by
    rintro _ rfl
    rw [← hmoves]
    split <;> simp [*]
  generalize (if roundsUp rm neg (l % 2 == 1) rem half false = true then l + 1 else l) = l' at *
  have hmove := hmove l' rfl
  have heq : (FV.num neg m e).rat = (sgn neg l' : Int) ↔ rem = 0 := by
    rw [hexact, hrat, ← sub_eq_zero, ← abs_eq_zero, abs_signed_sub, abs_eq_zero, sub_eq_zero]
    constructor
    · intro h
      rcases hmove with ⟨-, rfl⟩ | ⟨-, rfl⟩
      · rw [h] at hlt
        push_cast at hlt
        exact absurd hlt (lt_irrefl _)
      · exact h
    · intro h
      rw [h] at hmove
      rcases hmove with ⟨hm, -⟩ | ⟨-, rfl⟩
      · exact absurd hm (not_movesUp_of_eq (by linarith))
      · exact h
  refine ⟨sgn neg l', hrat ▸ roundsInt_of_movesUp hle hlt hmove, ?_⟩
  simp only [clampN_eq, wrap_eq_ofInt, decide_eq_true_eq, heq]
  rw [flagIf]
  congr 2
  by_cases h : rem = 0 <;> simp [h]

end Sys2Proof.Machine
end

section
/-!
PROOF. Rounding, exact arithmetic and conversion of numbers (O45).
-/
namespace Sys2Proof.Machine

theorem Fmt.wide_of_mem {F : Fmt} (h : F ∈ [fp32, bf16, fp16, e5m2, e4m3, e2m1]) : F.Wide := by
  simp only [List.mem_cons, List.not_mem_nil, or_false] at h
  rcases h with rfl | rfl | rfl | rfl | rfl | rfl <;> constructor <;> decide

/-- A root has a finite code: the largest number is above the root of any (R256). -/
theorem fp32_sqrt_lt_inf {x m : Nat} {e : Int} (hx : fp32.value x = .num false m e) (hm : m ≠ 0) :
    (fp32.sqrt x).1 < fp32.inf := by
  obtain ⟨hle, hnear⟩ := Fmt.sqrt_halfway (by decide) (by decide) hx hm
  obtain ⟨-, hmag, -, hfin⟩ := Fmt.value_num hx
  refine lt_of_le_of_ne hle fun hc => ?_
  rw [hc] at hnear
  have hroot := (hnear fp32.maxFin (by decide)).1 (by decide)
  have hval : (m : ℚ) * 2 ^ e ≤ fp32.mag fp32.maxFin := by
    rw [hmag]
    exact fp32.mag_strictMono.monotone (Nat.le_sub_one_of_lt (hfin rfl))
  have hmid : fp32.mag fp32.maxFin ≤ (fp32.mag fp32.maxFin + fp32.mag fp32.inf) / 2 := by
    have : fp32.mag fp32.maxFin < fp32.mag fp32.inf := fp32.mag_strictMono (by decide)
    linarith
  have hbig : 1 < fp32.mag fp32.maxFin := by norm_num [Fmt.mag, fp32, Fmt.maxFin, Fmt.inf]
  nlinarith

theorem tyW_pos (t : Ty) : 0 < 8 * tyW t := by cases t <;> decide

theorem convert_float_float {rm : Rm} {t u : Ty} {F G : Fmt} (hu : tyFmt u = some F) (ht : tyFmt t = some G) (x : Nat) :
    convert rm u t x = G.result rm (F.value x) := by
  unfold convert
  rw [hu, ht]

theorem convert_int_float {rm : Rm} {t u : Ty} {G : Fmt} (hu : tyFmt u = none) (ht : tyFmt t = some G) (x : Nat) :
    convert rm u t x = G.round rm (decide ((BitVec.ofNat (8 * tyW u) x).toInt < 0))
      (BitVec.ofNat (8 * tyW u) x).toInt.natAbs 0 false := by
  unfold convert
  rw [hu, ht, ← sint_eq_toInt (tyW_pos u)]

theorem convert_int_int {rm : Rm} {t u : Ty} (hu : tyFmt u = none) (ht : tyFmt t = none) (x : Nat) :
    convert rm u t x = let v := (BitVec.ofNat (8 * tyW u) x).toInt
      ((BitVec.ofInt (8 * tyW t) (limit (8 * tyW t) v)).toNat, if limit (8 * tyW t) v = v then 0 else fSAT) := by
  unfold convert
  rw [hu, ht, ← sint_eq_toInt (tyW_pos u)]
  simp only [clampN_eq, wrap_eq_ofInt, flagIf, decide_eq_true_eq, ne_eq, ite_not]

theorem convert_float_int {rm : Rm} {t u : Ty} {F : Fmt} (hu : tyFmt u = some F) (ht : tyFmt t = none) (x : Nat) :
    convert rm u t x = toInteger (8 * tyW t) rm (F.value x) := by
  unfold convert
  rw [hu, ht]

/-- Settles O45: rounding brackets the magnitude between two neighbouring codes, and the mode picks one of them. -/
theorem roundingRule : Obligations.RoundingRule := by
  unfold Obligations.RoundingRule
  refine ⟨?_, ?_, ?_, ?_, ?_⟩
  · intro F hF rm neg m e rest q h1 h2 h3 h4
    obtain ⟨k, c, h⟩ := Fmt.round_rounds (rm := rm) (neg := neg) (Fmt.wide_of_mem hF).f h1 h2 h3 h4
    exact ⟨h.rounded, h.inexact_iff⟩
  · intro F hF rm x
    exact ⟨fun _ _ _ _ => rfl, fun neg c hc => Fmt.value_signed (Fmt.wide_of_mem hF) neg hc⟩
  · intro a b m n e d
    obtain ⟨neg, l, k, hadd, hrat, -⟩ := FV.add_num a b m n e d
    exact ⟨FV.rat_neg _, by rw [hadd, hrat], FV.rat_mul_num .., by simp [hadd], by simp [FV.mul]⟩
  · intro x y a b m n e d hx hm
    refine ⟨fun hy hn => ?_, ?_⟩
    · obtain ⟨k, c, h⟩ := Fmt.div_rounds (by decide) (by decide) hx hm hy hn
      exact h.rounded
    · rintro rfl
      exact ⟨_, fp32_sqrt_lt_inf hx hm, rfl, (Fmt.sqrt_halfway (by decide) (by decide) hx hm).2⟩
  · intro rm t u F G x
    refine ⟨fun hu ht => convert_float_float hu ht x, fun hu ht => convert_int_float hu ht x,
      fun hu ht => convert_int_int hu ht x, fun hu ht => ?_⟩
    rw [convert_float_int hu ht]
    refine ⟨fun h => by rw [h]; rfl, fun neg h => ?_, fun neg m e h => ?_⟩
    · rw [h, toInteger, wrap_eq_ofInt]
      push_cast
      rfl
    · rw [h]
      exact toInteger_num ..

end Sys2Proof.Machine
end

section
/-!
SUPPORT. Lanes and masks of the vector registers after a write (R245, R246, R258), integer operations on bit vectors (R257).
-/
namespace Sys2Proof.Machine

/-! ### Lanes of a register (R245) -/

theorem tyW_dvd (t : Ty) : tyW t ∣ 256 := by cases t <;> decide

theorem tyN_le (t : Ty) : tyN t ≤ 256 := Nat.div_le_self ..

theorem vlane_eq (v : BitVec 2048) (w i : Nat) : vlane v w i = v.toNat / 2 ^ (8 * w * i) % 2 ^ (8 * w) := by
  rw [vlane, BitVec.extractLsb'_toNat, Nat.shiftRight_eq_div_pow]

theorem vlane_lt (v : BitVec 2048) (w i : Nat) : vlane v w i < 2 ^ (8 * w) := BitVec.isLt _

@[simp] theorem toNat_ofNat_vlane (v : BitVec 2048) (w i : Nat) : (BitVec.ofNat (8 * w) (vlane v w i)).toNat = vlane v w i := by
  rw [BitVec.toNat_ofNat, Nat.mod_eq_of_lt (vlane_lt ..)]

theorem ofLanes_lt (w : Nat) (l : List Nat) : ofLanes w l < 2 ^ (8 * w * l.length) := by
  induction l with
  | nil => simp [ofLanes]
  | cons x r ih =>
    have hx : x % 2 ^ (8 * w) < 2 ^ (8 * w) := Nat.mod_lt _ (by positivity)
    calc ofLanes w (x :: r) < 2 ^ (8 * w) * (ofLanes w r + 1) := by
          rw [ofLanes, mul_add, mul_one]
          omega
      _ ≤ 2 ^ (8 * w) * 2 ^ (8 * w * r.length) := Nat.mul_le_mul_left _ ih
      _ = 2 ^ (8 * w * (x :: r).length) := by rw [← pow_add, List.length_cons, Nat.mul_succ, Nat.add_comm]

theorem ofLanes_getElem (w : Nat) (l : List Nat) (j : Nat) (h : j < l.length) :
    ofLanes w l / 2 ^ (8 * w * j) % 2 ^ (8 * w) = l[j] % 2 ^ (8 * w) := by
  have hp : 0 < 2 ^ (8 * w) := by positivity
  induction l generalizing j with
  | nil => simp at h
  | cons x r ih =>
    cases j with
    | zero => simp [ofLanes]
    | succ j =>
      rw [ofLanes, Nat.mul_succ, Nat.add_comm (8 * w * j), pow_add, ← Nat.div_div_eq_div_mul, Nat.add_mul_div_left _ _ hp,
        Nat.div_eq_of_lt (Nat.mod_lt _ hp), zero_add]
      exact ih j (by simpa using h)

theorem toNat_ofNat_ofLanes {N w : Nat} {l : List Nat} (hl : 8 * w * l.length ≤ N) :
    (BitVec.ofNat N (ofLanes w l)).toNat = ofLanes w l := by
  rw [BitVec.toNat_ofNat, Nat.mod_eq_of_lt ((ofLanes_lt w l).trans_le (pow_le_pow_right₀ one_le_two hl))]

/-- A register made of lanes holds each of them, cut to its width. -/
theorem vlane_ofLanes {w : Nat} {l : List Nat} (hl : 8 * w * l.length ≤ 2048) (j : Nat) (h : j < l.length) :
    vlane (BitVec.ofNat 2048 (ofLanes w l)) w j = l[j] % 2 ^ (8 * w) := by
  rw [vlane_eq, toNat_ofNat_ofLanes hl, ofLanes_getElem]

/-! ### Registers, masks and flags after a write -/

@[simp] theorem VCtx.setV_vr_self (c : VCtx) (d : VReg) (x : BitVec 2048) : (c.setV d x).vr d = x := tget_tset_self ..

@[simp] theorem VCtx.setV_vr_ne (c : VCtx) {d r : VReg} (h : r ≠ d) (x : BitVec 2048) : (c.setV d x).vr r = c.vr r :=
  tget_tset_ne _ _ _ fun e => h (BitVec.eq_of_toNat_eq e)

@[simp] theorem VCtx.setK_kr_self (c : VCtx) (d : KReg) (x : BitVec 256) : (c.setK d x).kr d = x := tget_tset_self ..

@[simp] theorem VCtx.setK_kr_ne (c : VCtx) {d r : KReg} (h : r ≠ d) (x : BitVec 256) : (c.setK d x).kr r = c.kr r :=
  tget_tset_ne _ _ _ fun e => h (BitVec.eq_of_toNat_eq e)

/-- A context after flags are collected has the registers that it had. -/
@[simp] theorem VCtx.nstat_vr (c : VCtx) (x : BitVec 32) (r : VReg) : ({ c with nstat := x } : VCtx).vr r = c.vr r := rfl

/-- Setting flags is cumulative (R77). -/
theorem getLsbD_foldl_or {α : Type} (g : α → BitVec 32) (l : List α) (a : BitVec 32) (m : Nat) :
    (l.foldl (fun x r => x ||| g r) a).getLsbD m = true ↔ a.getLsbD m = true ∨ ∃ r ∈ l, (g r).getLsbD m = true := by
  induction l generalizing a with
  | nil => simp
  | cons x r ih => simp [ih, or_assoc]

section
variable (c : VCtx) (d : VReg) (w n : Nat) (k : KReg) (f : Nat → Nat × BitVec 32) (rest : Nat → Nat)

theorem VCtx.write_vr_ne {r : VReg} (h : r ≠ d) : (c.write d w n k f rest).vr r = c.vr r := c.setV_vr_ne h _

/-- What a write leaves in each lane: a selected one gets its result, another keeps its value (R246). -/
theorem VCtx.vlane_write (hw : w ∣ 256) (hn : n ≤ 256 / w) {j : Nat} (hj : j < 256 / w) :
    vlane ((c.write d w n k f rest).vr d) w j =
      if j < n then (if c.sel k j then (f j).1 % 2 ^ (8 * w) else vlane (c.vr d) w j) else rest j % 2 ^ (8 * w) := by
  have h256 : w * (256 / w) = 256 := Nat.mul_div_cancel' hw
  unfold VCtx.write
  dsimp only
  rw [VCtx.nstat_vr, VCtx.setV_vr_self, vlane_ofLanes]
  · rw [List.getElem_append]
    split
    · rename_i h
      simp only [List.length_map, List.length_range] at h
      simp only [List.getElem_map, List.getElem_range, if_pos h]
      split
      · rfl
      · exact Nat.mod_eq_of_lt (vlane_lt ..)
    · rename_i h
      simp only [List.length_map, List.length_range] at h
      simp only [List.getElem_map, List.getElem_range, if_neg h, List.length_map, List.length_range]
      rw [Nat.add_sub_cancel' (by omega)]
  · simp only [List.length_append, List.length_map, List.length_range]
    rw [Nat.add_sub_cancel' hn, mul_assoc, h256]
    norm_num
  · simp
    omega

/-- A write adds the flags of the selected lanes (R77). -/
theorem VCtx.write_nstat (m : Nat) :
    (c.write d w n k f rest).nstat.getLsbD m = true ↔
      c.nstat.getLsbD m = true ∨ ∃ j < n, c.sel k j = true ∧ (f j).2.getLsbD m = true := by
  unfold VCtx.write
  dsimp only
  rw [getLsbD_foldl_or]
  refine or_congr Iff.rfl ?_
  simp only [List.mem_map, List.mem_range, exists_exists_and_eq_and]
  refine exists_congr fun j => and_congr Iff.rfl ?_
  split <;> simp [*]

/-- A write clears no flag. -/
theorem VCtx.write_nstat_and : c.nstat &&& (c.write d w n k f rest).nstat = c.nstat := by
  refine BitVec.eq_of_getLsbD_eq fun m _ => ?_
  rw [BitVec.getLsbD_and, Bool.and_eq_left_iff_imp, VCtx.write_nstat]
  exact .inl

/-- A write without flags leaves NSTAT. -/
theorem VCtx.write_nstat_of_zero (h : ∀ j, (f j).2 = 0) : (c.write d w n k f rest).nstat = c.nstat := by
  refine BitVec.eq_of_getLsbD_eq fun m _ => ?_
  rw [Bool.eq_iff_iff, VCtx.write_nstat]
  simp [h]

end

/-! ### Writes without flags, and what the obligation says of a lane -/

/-- From z to u lane j of register d has become v, where it is selected, and otherwise kept its value; NSTAT, the other
registers and the masks are as they were (R246). -/
def VCtx.Puts (z u : VCtx) (d : VReg) (w j : Nat) (m : Bool) (v : BitVec (8 * w)) : Prop :=
  vlane (u.vr d) w j = (if m then v else BitVec.ofNat (8 * w) (vlane (z.vr d) w j)).toNat ∧
    u.nstat = z.nstat ∧ (∀ r, r ≠ d → u.vr r = z.vr r) ∧ ∀ m, u.kr m = z.kr m

theorem VCtx.plain_puts {z : VCtx} {d : VReg} {t : Ty} {k : KReg} {f : Nat → Nat} {j : Nat} {v : BitVec (8 * tyW t)}
    (hj : j < tyN t) (hf : f j % 2 ^ (8 * tyW t) = v.toNat) : z.Puts (z.plain d t k f) d (tyW t) j (z.sel k j) v := by
  refine ⟨?_, VCtx.write_nstat_of_zero _ _ _ _ _ _ _ fun _ => rfl, fun r hr => VCtx.write_vr_ne _ _ _ _ _ _ _ hr,
    fun m => rfl⟩
  have h := VCtx.vlane_write z d (tyW t) (tyN t) k (fun i => (f i, 0)) (fun _ => 0) (tyW_dvd t) le_rfl hj
  rw [if_pos hj, hf] at h
  rw [apply_ite BitVec.toNat, toNat_ofNat_vlane]
  exact h

theorem VCtx.plain_puts_of_eq {z : VCtx} {d : VReg} {t : Ty} {k : KReg} {f : Nat → Nat} {j : Nat} {v : BitVec (8 * tyW t)}
    (hj : j < tyN t) (hf : f j = v.toNat) : z.Puts (z.plain d t k f) d (tyW t) j (z.sel k j) v :=
  VCtx.plain_puts hj (by rw [hf, Nat.mod_eq_of_lt v.isLt])

theorem VCtx.sel_zero (z : VCtx) (j : Nat) : z.sel 0 j = true := rfl

/-! ### Compares and masks (R258) -/

theorem testBit_foldr_bits (bit : Nat → Bool) (l : List Nat) (j : Nat) :
    (l.foldr (fun i acc => 2 * acc + (if bit i then 1 else 0)) 0).testBit j = (l[j]?.map bit).getD false := by
  induction l generalizing j with
  | nil => simp
  | cons x r ih =>
    rw [List.foldr_cons]
    cases j with
    | zero =>
      rw [Nat.testBit_zero, List.getElem?_cons_zero]
      cases h : bit x <;> simp [h]
    | succ j =>
      rw [Nat.testBit_succ, List.getElem?_cons_succ, ← ih]
      congr 1
      split <;> omega

/-- What a compare leaves in its mask: bits of lanes that are not selected stay, bits above the lanes become 0 (R258). -/
theorem VCtx.cmp_getLsbD (z : VCtx) (g : CmpFn) (p : KReg) (a b : VReg) (t : Ty) (k : KReg) (j : Nat) :
    ((z.cmp g p a b t k).kr p).getLsbD j = (decide (j < tyN t) && if z.sel k j then
      cmpLane g t (vlane (z.vr a) (tyW t) j) (vlane (z.vr b) (tyW t) j) else (z.kr p).getLsbD j) := by
  have hN := tyN_le t
  unfold VCtx.cmp
  rw [VCtx.setK_kr_self, BitVec.getLsbD_ofNat, testBit_foldr_bits]
  rcases Nat.lt_or_ge j (tyN t) with h | h
  · simp [h, h.trans_le hN]
  · simp [Nat.not_lt.2 h]

/-- What the obligation says of one bit of a compare's mask. -/
theorem VCtx.cmp_bit {z : VCtx} {g : CmpFn} {p : KReg} {a b : VReg} {t : Ty} {k : KReg} {j : Nat} {v : Bool} (hj : j < tyN t)
    (hv : cmpLane g t (vlane (z.vr a) (tyW t) j) (vlane (z.vr b) (tyW t) j) = v) :
    let u := z.cmp g p a b t k
    (u.kr p).getLsbD j = (if z.sel k j then v else (z.kr p).getLsbD j) ∧ (∀ m, tyN t ≤ m → (u.kr p).getLsbD m = false) ∧
      (∀ m, m ≠ p → u.kr m = z.kr m) ∧ ∀ r, u.vr r = z.vr r := by
  refine ⟨?_, fun m hm => ?_, fun m hm => VCtx.setK_kr_ne _ hm _, fun r => rfl⟩
  · rw [VCtx.cmp_getLsbD, hv]
    simp [hj]
  · rw [VCtx.cmp_getLsbD]
    simp [Nat.not_lt.2 hm]

/-! ### Integer operations on bit vectors (R257) -/

section
variable {n : Nat} (A B : BitVec n)

theorem sint_toNat (hn : 0 < n) : sint n A.toNat = A.toInt := by rw [sint_eq_toInt hn, BitVec.ofNat_toNat, BitVec.setWidth_eq]

theorem iop_add (hn : 0 < n) : iop .add n A.toNat B.toNat = (A + B).toNat := by
  simp only [iop, sint_toNat _ hn, wrap_eq_ofInt, BitVec.ofInt_add, BitVec.ofInt_toInt]

theorem iop_sub (hn : 0 < n) : iop .sub n A.toNat B.toNat = (A - B).toNat := by
  simp only [iop, sint_toNat _ hn, wrap_eq_ofInt, sub_eq_add_neg, BitVec.ofInt_add, BitVec.ofInt_neg, BitVec.ofInt_toInt]

theorem iop_mul (hn : 0 < n) : iop .mul n A.toNat B.toNat = (A * B).toNat := by
  simp only [iop, sint_toNat _ hn, wrap_eq_ofInt, BitVec.ofInt_mul, BitVec.ofInt_toInt]

theorem iop_min (hn : 0 < n) : iop .min n A.toNat B.toNat = (if A.sle B then A else B).toNat := by
  simp only [iop, sint_toNat _ hn, BitVec.sle_iff_toInt_le]
  split <;> rfl

theorem iop_max (hn : 0 < n) : iop .max n A.toNat B.toNat = (if A.sle B then B else A).toNat := by
  simp only [iop, sint_toNat _ hn, BitVec.sle_iff_toInt_le]
  split <;> rfl

theorem iop_minu : iop .minu n A.toNat B.toNat = (if A.ule B then A else B).toNat := by
  simp only [iop, BitVec.ule_iff_toNat_le]
  split
  · exact Nat.min_eq_left ‹_›
  · exact Nat.min_eq_right (by omega)

theorem iop_maxu : iop .maxu n A.toNat B.toNat = (if A.ule B then B else A).toNat := by
  simp only [iop, BitVec.ule_iff_toNat_le]
  split
  · exact Nat.max_eq_right ‹_›
  · exact Nat.max_eq_left (by omega)

theorem iop_and : iop .and n A.toNat B.toNat = (A &&& B).toNat := rfl
theorem iop_or : iop .or n A.toNat B.toNat = (A ||| B).toNat := rfl
theorem iop_xor : iop .xor n A.toNat B.toNat = (A ^^^ B).toNat := rfl

theorem iop_shl : iop .shl n A.toNat B.toNat = (A <<< (B.toNat % n)).toNat := by
  rw [BitVec.toNat_shiftLeft, Nat.shiftLeft_eq]
  rfl

theorem iop_shr : iop .shr n A.toNat B.toNat = (A >>> (B.toNat % n)).toNat := by
  rw [BitVec.toNat_ushiftRight, Nat.shiftRight_eq_div_pow]
  rfl

theorem iop_sar (hn : 0 < n) : iop .sar n A.toNat B.toNat = (A.sshiftRight (B.toNat % n)).toNat := by
  have h : A.toInt / 2 ^ (B.toNat % n) = (A.sshiftRight (B.toNat % n)).toInt := by
    rw [BitVec.toInt_sshiftRight, Int.shiftRight_eq_div_pow]
    norm_cast
  simp only [iop, sint_toNat _ hn, wrap_eq_ofInt, h, BitVec.ofInt_toInt]

end

/-- A two-operand integer instruction writes its operation of the two lanes (R257). -/
theorem VCtx.iop_puts {z : VCtx} {g : IFn} {d a b : VReg} {t : Ty} {k : KReg} {j : Nat} {v : BitVec (8 * tyW t)}
    (hj : j < tyN t)
    (hv : iop g (8 * tyW t) (BitVec.ofNat (8 * tyW t) (vlane (z.vr a) (tyW t) j)).toNat
      (BitVec.ofNat (8 * tyW t) (vlane (z.vr b) (tyW t) j)).toNat = v.toNat) :
    z.Puts (z.plain d t k fun i => iop g (8 * tyW t) (vlane (z.vr a) (tyW t) i) (vlane (z.vr b) (tyW t) i)) d (tyW t) j
      (z.sel k j) v := by
  rw [toNat_ofNat_vlane, toNat_ofNat_vlane] at hv
  exact VCtx.plain_puts_of_eq hj hv

end Sys2Proof.Machine
end

section
/-!
SUPPORT. Sign, magnitude and order of encodings, NaN operands (R65, R68, R69), and the instructions on a lane.
-/
namespace Sys2Proof.Machine

/-! ### Sign and magnitude of an encoding (R65) -/

theorem Fmt.signed_eq (F : Fmt) (neg : Bool) (c : Nat) : F.signed neg c = 2 ^ F.sbit * neg.toNat + c := by
  cases neg <;> simp [Fmt.signed, add_comm]

section
variable {F : Fmt} {n : Nat} (hn : n = F.sbit + 1) (A B : BitVec n)
include hn

/-- The sign bit alone. -/
theorem getLsbD_top (i : Nat) : (BitVec.ofNat n (2 ^ (n - 1))).getLsbD i = decide (i = F.sbit) := by
  subst hn
  rw [BitVec.getLsbD_ofNat, Nat.add_sub_cancel, Nat.testBit_two_pow]
  by_cases h : i = F.sbit <;> simp [h, eq_comm]

theorem toNat_and_not_top : (A &&& ~~~(BitVec.ofNat n (2 ^ (n - 1)))).toNat = A.toNat % 2 ^ F.sbit := by
  refine Nat.eq_of_testBit_eq fun i => ?_
  rw [BitVec.testBit_toNat, BitVec.getLsbD_and, BitVec.getLsbD_not, getLsbD_top hn, Nat.testBit_mod_two_pow,
    BitVec.testBit_toNat]
  by_cases h : i < n
  · by_cases hi : i = F.sbit <;> simp [h, hi, show i < F.sbit ↔ i ≠ F.sbit by omega]
  · simp [BitVec.getLsbD_of_ge A i (by omega)]

theorem msb_eq : A.msb = (A.toNat / 2 ^ F.sbit % 2 == 1) := by
  subst hn
  have hlt := A.isLt
  rw [pow_succ] at hlt
  have hp : 0 < 2 ^ F.sbit := by positivity
  have h2 : A.toNat / 2 ^ F.sbit < 2 := (Nat.div_lt_iff_lt_mul hp).2 (by omega)
  rw [BitVec.msb_eq_decide, Nat.mod_eq_of_lt h2, Bool.eq_iff_iff, decide_eq_true_eq, beq_iff_eq, Nat.add_sub_cancel,
    ← Nat.one_le_div_iff hp]
  omega

theorem toNat_eq_signed : A.toNat = F.signed A.msb (A.toNat % 2 ^ F.sbit) := by
  have hlt : A.toNat < 2 ^ (F.sbit + 1) := hn ▸ A.isLt
  have hp : 0 < 2 ^ F.sbit := by positivity
  rw [pow_succ] at hlt
  have h2 : A.toNat / 2 ^ F.sbit < 2 := (Nat.div_lt_iff_lt_mul hp).2 (by omega)
  have hm : A.msb.toNat = A.toNat / 2 ^ F.sbit := by
    rw [msb_eq hn, Nat.mod_eq_of_lt h2]
    interval_cases A.toNat / 2 ^ F.sbit <;> rfl
  rw [F.signed_eq, hm, Nat.div_add_mod]

theorem toNat_xor_top : (A ^^^ BitVec.ofNat n (2 ^ (n - 1))).toNat = F.signed (!A.msb) (A.toNat % 2 ^ F.sbit) := by
  have hc : A.toNat % 2 ^ F.sbit < 2 ^ F.sbit := Nat.mod_lt _ (by positivity)
  have hA := toNat_eq_signed hn A
  refine Nat.eq_of_testBit_eq fun i => ?_
  rw [BitVec.testBit_toNat, BitVec.getLsbD_xor, getLsbD_top hn, ← BitVec.testBit_toNat]
  conv_lhs => rw [hA]
  rw [F.signed_eq, F.signed_eq, Nat.testBit_two_pow_mul_add _ hc, Nat.testBit_two_pow_mul_add _ hc]
  rcases Nat.lt_trichotomy i F.sbit with h | rfl | h
  · simp [h, h.ne]
  · cases A.msb <;> simp
  · obtain ⟨d, rfl⟩ := Nat.exists_eq_add_of_lt h
    have hd : F.sbit + d + 1 - F.sbit = d + 1 := by omega
    cases A.msb <;> simp [hd, h.not_gt, h.ne', Nat.testBit_succ]

end

/-! ### Floating-point lanes (R68, R69, R256) -/

theorem Fmt.value_isNan {F : Fmt} (hi : F.ieee = true) (x : Nat) : (F.value x).isNan = decide (F.inf < x % 2 ^ F.sbit) := by
  unfold Fmt.value
  extract_lets s c E
  by_cases h : F.inf < c
  · rw [if_pos (by simp [hi, h]), decide_eq_true h]
    rfl
  · rw [if_neg (by simp [h]), decide_eq_false h]
    split
    · rfl
    · rw [if_neg (by simp [hi])]
      split <;> rfl

theorem Fmt.isNan_iff (v : FV) : v.isNan = true ↔ v = .nan := by cases v <;> simp [FV.isNan]

section
variable {F : Fmt} {n : Nat} (hn : n = F.sbit + 1) (hi : F.ieee = true) (A B : BitVec n)

/-- The encoding is a NaN. -/
def NanBits (F : Fmt) (A : BitVec n) : Bool := (BitVec.ofNat n F.inf).ult (A &&& ~~~(BitVec.ofNat n (2 ^ (n - 1))))

/-- The encoding is +0 or −0. -/
def ZeroBits (A : BitVec n) : Bool := A &&& ~~~(BitVec.ofNat n (2 ^ (n - 1))) == 0

/-- The order of encodings, −0 below +0 (R69). -/
def LessBits (A B : BitVec n) : Bool := if A.msb != B.msb then A.msb else if A.msb then B.ult A else A.ult B

include hn

theorem zeroBits_eq : ZeroBits A = (A.toNat % 2 ^ F.sbit == 0) := by
  rw [ZeroBits, Bool.eq_iff_iff, beq_iff_eq, beq_iff_eq, ← toNat_and_not_top hn A]
  exact BitVec.toNat_inj.symm

theorem lessBits_eq : LessBits A B = decide (F.key A.toNat < F.key B.toNat) := by
  have hA := toNat_eq_signed hn A
  have hB := toNat_eq_signed hn B
  have ha : (A.toNat / 2 ^ F.sbit % 2 = 1) ↔ A.msb = true := by rw [msb_eq hn, beq_iff_eq]
  have hb : (B.toNat / 2 ^ F.sbit % 2 = 1) ↔ B.msb = true := by rw [msb_eq hn, beq_iff_eq]
  rw [Bool.eq_iff_iff, decide_eq_true_eq]
  simp only [LessBits, Fmt.key, ha, hb, BitVec.ult, F.signed_eq] at *
  generalize A.toNat % 2 ^ F.sbit = x at *
  generalize B.toNat % 2 ^ F.sbit = y at *
  cases hs : A.msb <;> cases ht : B.msb <;> simp [hs, ht] at * <;> omega

include hi

theorem nanBits_eq : NanBits F A = (F.value A.toNat).isNan := by
  have hinf : F.inf < 2 ^ n := F.inf_lt.trans (Nat.pow_lt_pow_right (by omega) (by omega))
  rw [NanBits, F.value_isNan hi, BitVec.ult, toNat_and_not_top hn, BitVec.toNat_ofNat, Nat.mod_eq_of_lt hinf]

theorem minmax_eq (isMax : Bool) (hnan : F.nan < 2 ^ n) : F.minmax isMax A.toNat B.toNat =
    (if NanBits F A || NanBits F B then BitVec.ofNat n F.nan
      else if isMax then (if LessBits A B then B else A) else if LessBits A B then A else B).toNat := by
  rw [Fmt.minmax, nanBits_eq hn hi, nanBits_eq hn hi, lessBits_eq hn]
  split
  · rw [BitVec.toNat_ofNat, Nat.mod_eq_of_lt hnan]
  · cases isMax <;> cases decide (F.key A.toNat < F.key B.toNat) <;> rfl

theorem eqv_eq : F.eqv A.toNat B.toNat = (!(NanBits F A || NanBits F B) && (A == B || ZeroBits A && ZeroBits B)) := by
  have h : (A.toNat == B.toNat) = (A == B) := by rw [Bool.eq_iff_iff, beq_iff_eq, beq_iff_eq, BitVec.toNat_inj]
  rw [Fmt.eqv, nanBits_eq hn hi, nanBits_eq hn hi, zeroBits_eq hn, zeroBits_eq hn, Bool.not_or, h]

theorem lt_eq : F.lt A.toNat B.toNat =
    (!(NanBits F A || NanBits F B) && LessBits A B && !(ZeroBits A && ZeroBits B)) := by
  rw [Fmt.lt, nanBits_eq hn hi, nanBits_eq hn hi, zeroBits_eq hn, zeroBits_eq hn, lessBits_eq hn, Bool.not_or]

end

/-! ### NaN operands (R68) -/

@[simp] theorem FV.add_nan (x : FV) : x.add .nan = .nan := by cases x <;> rfl
@[simp] theorem FV.nan_add (x : FV) : FV.nan.add x = .nan := by cases x <;> rfl
@[simp] theorem FV.mul_nan (x : FV) : x.mul .nan = .nan := by cases x <;> rfl
@[simp] theorem FV.nan_mul (x : FV) : FV.nan.mul x = .nan := by cases x <;> rfl
@[simp] theorem FV.neg_nan : FV.nan.neg = .nan := rfl

theorem FV.add_eq_nan {x y : FV} (h : x = .nan ∨ y = .nan) : x.add y = .nan := by
  rcases h with rfl | rfl
  · exact FV.nan_add y
  · exact FV.add_nan x

theorem FV.mul_eq_nan {x y : FV} (h : x = .nan ∨ y = .nan) : x.mul y = .nan := by
  rcases h with rfl | rfl
  · exact FV.nan_mul y
  · exact FV.mul_nan x

theorem fmtOf_eq {t : Ty} {F : Fmt} (h : tyFmt t = some F) : fmtOf t = F := by rw [fmtOf, h]; rfl

theorem fop2_nan {g : FV → FV → FV} {t : Ty} {F : Fmt} (ht : tyFmt t = some F) {x y : Nat}
    (h : g (F.value x) (F.value y) = .nan) : (fop2 g t x y).1 = F.nan := by
  simp only [fop2, fmtOf_eq ht, h]
  rfl

theorem fop3_nan {minus : Bool} {t : Ty} {F : Fmt} (ht : tyFmt t = some F) {x y : Nat} (z : Nat)
    (h : F.value x = .nan ∨ F.value y = .nan) : (fop3 minus t x y z).1 = F.nan := by
  have hmul := FV.mul_eq_nan h
  simp only [fop3, fmtOf_eq ht, hmul]
  cases minus <;> simp <;> rfl

theorem Fmt.div_nan {F : Fmt} {x y : Nat} (h : F.value x = .nan ∨ F.value y = .nan) : (F.div x y).1 = F.nan := by
  unfold Fmt.div
  rcases h with h | h
  · rw [h]
  · rw [h]
    cases F.value x <;> rfl

theorem Fmt.value_inf {F : Fmt} {x : Nat} {neg : Bool} (h : F.value x = .inf neg) : neg = (x / 2 ^ F.sbit % 2 == 1) := by
  unfold Fmt.value at h
  extract_lets s c E at h
  split at h
  · cases h
  · split at h
    · exact (FV.inf.inj h).symm
    · split at h
      · cases h
      · split at h <;> cases h

section
variable {F : Fmt} {n : Nat} (hn : n = F.sbit + 1) (hi : F.ieee = true) (A : BitVec n)
include hn hi

theorem value_nan_of_nanBits (h : NanBits F A = true) : F.value A.toNat = .nan := by
  rw [nanBits_eq hn hi] at h
  exact (Fmt.isNan_iff _).1 h

/-- VABS and VNEG (R69): the sign bit alone changes. -/
theorem fsign_eq {t : Ty} (ht : tyFmt t = some F) (hnan : F.nan < 2 ^ n) (isNeg : Bool) : fsign isNeg t A.toNat =
    (if NanBits F A then BitVec.ofNat n F.nan else if isNeg then A ^^^ BitVec.ofNat n (2 ^ (n - 1))
      else A &&& ~~~(BitVec.ofNat n (2 ^ (n - 1)))).toNat := by
  rw [fsign, fmtOf_eq ht, nanBits_eq hn hi]
  have hneg : (A.toNat / 2 ^ F.sbit % 2 == 0) = !A.msb := by
    rw [msb_eq hn]
    rcases Nat.mod_two_eq_zero_or_one (A.toNat / 2 ^ F.sbit) with h | h <;> rw [h] <;> rfl
  rw [hneg]
  split
  · rw [BitVec.toNat_ofNat, Nat.mod_eq_of_lt hnan]
  · cases isNeg
    · exact (toNat_and_not_top hn A).symm
    · exact (toNat_xor_top hn A).symm

/-- A root of a value below −0 is the canonical NaN (R256). -/
theorem sqrt_eq_nan (h : (NanBits F A || A.msb && A != BitVec.ofNat n (2 ^ (n - 1))) = true) : (F.sqrt A.toNat).1 = F.nan := by
  unfold Fmt.sqrt
  by_cases hA : NanBits F A = true
  · rw [value_nan_of_nanBits hn hi A hA]
  · obtain ⟨hs, hne⟩ : A.msb = true ∧ A ≠ BitVec.ofNat n (2 ^ (n - 1)) := by simpa [hA] using h
    cases hv : F.value A.toNat with
    | nan => rfl
    | inf neg =>
      obtain rfl : neg = true := by rw [Fmt.value_inf hv, ← msb_eq hn, hs]
      rfl
    | num neg m e =>
      obtain ⟨hneg, hmag, -⟩ := Fmt.value_num hv
      obtain rfl : neg = true := by rw [hneg, ← msb_eq hn, hs]
      have hm : m ≠ 0 := by
        rintro rfl
        have hc : A.toNat % 2 ^ F.sbit = 0 := F.mag_strictMono.injective (by rw [← hmag]; simp)
        have htop := toNat_eq_signed hn A
        rw [hs, hc] at htop
        refine hne (BitVec.eq_of_toNat_eq ?_)
        rw [htop, BitVec.toNat_ofNat, hn, Nat.add_sub_cancel, Nat.mod_eq_of_lt (Nat.pow_lt_pow_right (by omega) (by omega))]
        exact Nat.zero_add _
      dsimp only
      rw [if_neg hm, if_pos rfl]

end

/-! ### The instructions on a lane (R254, R256 to R259) -/

/-- The formats of the lanes that the vector engine computes with. -/
theorem laneFmt {t : Ty} (h : t = .f32 ∨ t = .bf16 ∨ t = .f16) :
    ∃ F, tyFmt t = some F ∧ F.ieee = true ∧ 8 * tyW t = F.sbit + 1 ∧ F.nan < 2 ^ (8 * tyW t) ∧
      (if t = .f32 then 0x7F800000 else if t = .bf16 then 0x7F80 else 0x7C00) = F.inf ∧
      (if t = .f32 then 0x7FC00000 else if t = .bf16 then 0x7FC0 else 0x7E00) = F.nan := by
  rcases h with rfl | rfl | rfl
  · exact ⟨fp32, by decide⟩
  · exact ⟨bf16, by decide⟩
  · exact ⟨fp16, by decide⟩

section
variable {z : VCtx} {d a b : VReg} {t : Ty} {k : KReg} {j : Nat} (hj : j < tyN t)
include hj

/-- What a selected lane gets, where flags may be set (R246). -/
theorem VCtx.vlane_lanes {f : Nat → Nat × BitVec 32} (hon : z.sel k j = true) :
    vlane ((z.lanes d t k f).vr d) (tyW t) j = (f j).1 % 2 ^ (8 * tyW t) := by
  have h := VCtx.vlane_write z d (tyW t) (tyN t) k f (fun _ => 0) (tyW_dvd t) le_rfl hj
  rw [if_pos hj, if_pos hon] at h
  exact h

theorem VCtx.vlane_lanes_nan {F : Fmt} {f : Nat → Nat × BitVec 32} (hon : z.sel k j = true) (hf : (f j).1 = F.nan) :
    vlane ((z.lanes d t k f).vr d) (tyW t) j = (BitVec.ofNat (8 * tyW t) F.nan).toNat := by
  rw [VCtx.vlane_lanes hj hon, hf, BitVec.toNat_ofNat]

/-- A lane that a lane of a register moves to (R259). -/
theorem VCtx.move_puts {g : Nat → Nat} {r : VReg} {l : Nat} (hg : g j = vlane (z.vr r) (tyW t) l) :
    z.Puts (z.plain d t k g) d (tyW t) j (z.sel k j) (BitVec.ofNat (8 * tyW t) (vlane (z.vr r) (tyW t) l)) := by
  exact VCtx.plain_puts_of_eq hj (by rw [hg, toNat_ofNat_vlane])

/-- A scalar's low bits in a lane (R254, R259). -/
theorem VCtx.scalar_puts {g : Nat → Nat} {x : Word} (hg : g j % 2 ^ (8 * tyW t) = x.toNat % 2 ^ (8 * tyW t)) :
    z.Puts (z.plain d t k g) d (tyW t) j (z.sel k j) (x.setWidth (8 * tyW t)) := by
  refine VCtx.plain_puts hj ?_
  rw [hg, BitVec.toNat_setWidth]

/-- VMIN and VMAX on a lane (R69). -/
theorem VCtx.minmax_puts {F : Fmt} (hF : tyFmt t = some F) (hi : F.ieee = true) (hn : 8 * tyW t = F.sbit + 1)
    (hnan : F.nan < 2 ^ (8 * tyW t)) (isMax : Bool) :
    let A := BitVec.ofNat (8 * tyW t) (vlane (z.vr a) (tyW t) j)
    let B := BitVec.ofNat (8 * tyW t) (vlane (z.vr b) (tyW t) j)
    z.Puts (z.plain d t k fun i => (fmtOf t).minmax isMax (vlane (z.vr a) (tyW t) i) (vlane (z.vr b) (tyW t) i)) d (tyW t) j
      (z.sel k j) (if NanBits F A || NanBits F B then BitVec.ofNat _ F.nan
        else if isMax then (if LessBits A B then B else A) else if LessBits A B then A else B) := by
  intro A B
  refine VCtx.plain_puts_of_eq hj ?_
  rw [← minmax_eq hn hi A B isMax hnan, toNat_ofNat_vlane, toNat_ofNat_vlane, fmtOf_eq hF]

/-- VABS and VNEG on a lane (R69). -/
theorem VCtx.fsign_puts {F : Fmt} (hF : tyFmt t = some F) (hi : F.ieee = true) (hn : 8 * tyW t = F.sbit + 1)
    (hnan : F.nan < 2 ^ (8 * tyW t)) (isNeg : Bool) :
    let A := BitVec.ofNat (8 * tyW t) (vlane (z.vr a) (tyW t) j)
    let top := BitVec.ofNat (8 * tyW t) (2 ^ (8 * tyW t - 1))
    z.Puts (z.plain d t k fun i => fsign isNeg t (vlane (z.vr a) (tyW t) i)) d (tyW t) j (z.sel k j)
      (if NanBits F A then BitVec.ofNat _ F.nan else if isNeg then A ^^^ top else A &&& ~~~top) := by
  intro A top
  refine VCtx.plain_puts_of_eq hj ?_
  rw [← fsign_eq hn hi A hF hnan isNeg, toNat_ofNat_vlane]

end

theorem cmpLane_int (g : CmpFn) {t : Ty} (ht : tyFmt t = none) (x y : Nat) :
    let A := BitVec.ofNat (8 * tyW t) x
    let B := BitVec.ofNat (8 * tyW t) y
    cmpLane g t x y = match g with
      | .eq => A == B
      | .lt => A.slt B
      | .le => A.sle B := by
  intro A B
  have hA : sint (8 * tyW t) x = A.toInt := sint_eq_toInt (tyW_pos t) x
  have hB : sint (8 * tyW t) y = B.toInt := sint_eq_toInt (tyW_pos t) y
  unfold cmpLane
  rw [ht]
  dsimp only
  rw [hA, hB]
  cases g with
  | eq => exact Bool.eq_iff_iff.2 (by rw [decide_eq_true_eq, beq_iff_eq, BitVec.toInt_inj])
  | lt => rfl
  | le => rfl

theorem cmpLane_float (g : CmpFn) {t : Ty} {F : Fmt} (hF : tyFmt t = some F) (hi : F.ieee = true) (hn : 8 * tyW t = F.sbit + 1)
    (u v : BitVec 2048) (j : Nat) :
    let A := BitVec.ofNat (8 * tyW t) (vlane u (tyW t) j)
    let B := BitVec.ofNat (8 * tyW t) (vlane v (tyW t) j)
    cmpLane g t (vlane u (tyW t) j) (vlane v (tyW t) j) = match g with
      | .eq => !(NanBits F A || NanBits F B) && (A == B || ZeroBits A && ZeroBits B)
      | .lt => !(NanBits F A || NanBits F B) && LessBits A B && !(ZeroBits A && ZeroBits B)
      | .le => !(NanBits F A || NanBits F B) && (LessBits A B || A == B || ZeroBits A && ZeroBits B) := by
  intro A B
  have heqv := eqv_eq hn hi A B
  have hlt := lt_eq hn hi A B
  rw [toNat_ofNat_vlane, toNat_ofNat_vlane] at heqv hlt
  unfold cmpLane
  rw [hF]
  cases g with
  | eq => exact heqv
  | lt => exact hlt
  | le =>
    dsimp only
    rw [heqv, hlt]
    generalize (NanBits F A || NanBits F B) = nan, LessBits A B = less, (A == B) = same, (ZeroBits A && ZeroBits B) = zeros
    revert nan less same zeros
    decide

section
variable {t : Ty} {F : Fmt} (hF : tyFmt t = some F) (hi : F.ieee = true) (hn : 8 * tyW t = F.sbit + 1)
include hi hn

theorem value_vlane_nan {v : BitVec 2048} {j : Nat} (h : NanBits F (BitVec.ofNat (8 * tyW t) (vlane v (tyW t) j)) = true) :
    F.value (vlane v (tyW t) j) = .nan := by
  have := value_nan_of_nanBits hn hi _ h
  rwa [toNat_ofNat_vlane] at this

theorem value_scalar_nan {x : Word} (h : NanBits F (x.setWidth (8 * tyW t)) = true) :
    F.value (x.toNat % 2 ^ (8 * tyW t)) = .nan := by
  have := value_nan_of_nanBits hn hi _ h
  rwa [BitVec.toNat_setWidth] at this

end

end Sys2Proof.Machine
end

section
/-!
PROOF. Lanes of the vector instructions (O43).
-/
namespace Sys2Proof.Machine

theorem tyFmt_of_isInt {t : Ty} (h : t.isInt = true) : tyFmt t = none := by
  revert h
  cases t <;> simp [Ty.isInt, tyFmt]

/-- Settles O43: each instruction writes its lanes by `VCtx.write`, whose lane is the operation on the bits. -/
theorem laneResults : Obligations.LaneResults := by
  unfold Obligations.LaneResults
  intro z d a b g h p q k t x y j w n at_ A B kept puts on bit
  refine ⟨fun hj => ⟨?_, ?_, ?_, ?_, fun hx => ⟨?_, ?_⟩⟩, fun ht hj => ?_, fun ht hj => ?_⟩
  · exact VCtx.scalar_puts hj (Nat.mod_mod _ _)
  · refine VCtx.plain_puts_of_eq (k := 0) hj ?_
    rw [apply_ite BitVec.toNat, toNat_ofNat_vlane, toNat_ofNat_vlane]
  · exact VCtx.move_puts hj (by rw [toNat_ofNat_vlane])
  · exact VCtx.move_puts hj (by rw [Nat.add_mod_mod])
  · exact VCtx.move_puts hj rfl
  · refine VCtx.plain_puts (k := 0) (v := if decide (j = x.toNat) then y.setWidth n else at_ d j) hj ?_
    dsimp only
    by_cases h : j = x.toNat
    · rw [if_pos h, if_pos (decide_eq_true h), BitVec.toNat_setWidth]
    · rw [if_neg h, if_neg (by simpa using h), toNat_ofNat_vlane, Nat.mod_eq_of_lt (vlane_lt ..)]
  · have hT := tyFmt_of_isInt ht
    have hp := tyW_pos t
    refine ⟨VCtx.iop_puts hj (iop_add A B hp), VCtx.iop_puts hj (iop_sub A B hp), VCtx.iop_puts hj (iop_mul A B hp),
      VCtx.iop_puts hj (iop_min A B hp), VCtx.iop_puts hj (iop_max A B hp), VCtx.iop_puts hj (iop_minu A B),
      VCtx.iop_puts hj (iop_maxu A B), VCtx.iop_puts hj (iop_and A B), VCtx.iop_puts hj (iop_or A B),
      VCtx.iop_puts hj (iop_xor A B), VCtx.iop_puts hj (iop_shl A B), VCtx.iop_puts hj (iop_shr A B),
      VCtx.iop_puts hj (iop_sar A B hp), ?_, ?_, VCtx.cmp_bit hj (cmpLane_int .eq hT ..),
      VCtx.cmp_bit hj (cmpLane_int .lt hT ..), VCtx.cmp_bit hj (cmpLane_int .le hT ..), ?_⟩
    · refine VCtx.plain_puts_of_eq hj ?_
      rw [← iop_add A _ hp, toNat_ofNat_vlane, BitVec.toNat_setWidth]
    · refine VCtx.plain_puts hj ?_
      rw [Nat.mod_mod, BitVec.toNat_ofNat]
    · have hm : ∀ v : BitVec 256, let u := z.setK p v
          u.kr p = v ∧ (∀ r, r ≠ p → u.kr r = z.kr r) ∧ ∀ r, u.vr r = z.vr r :=
        fun v => ⟨VCtx.setK_kr_self .., fun r hr => VCtx.setK_kr_ne _ hr _, fun r => rfl⟩
      exact ⟨hm _, hm _, hm _⟩
  · obtain ⟨F, hF, hi, hn, hnan, einf, enan⟩ := laneFmt ht
    rw [einf, enan]
    intro inf nan top X isNan zero less none gives
    have hcmp := fun g => VCtx.cmp_bit (z := z) (p := p) (k := k) hj (cmpLane_float g hF hi hn (z.vr a) (z.vr b) j)
    refine ⟨VCtx.fsign_puts hj hF hi hn hnan false, VCtx.fsign_puts hj hF hi hn hnan true,
      VCtx.minmax_puts hj hF hi hn hnan false, VCtx.minmax_puts hj hF hi hn hnan true, hcmp .eq, hcmp .lt, hcmp .le,
      fun hon => ⟨fun hnone => ?_, fun hnone => ?_, fun htf hneg => ?_⟩⟩
    · have hv := (Bool.or_eq_true _ _ ▸ hnone).imp (value_vlane_nan hi hn) (value_vlane_nan hi hn)
      have hlane := fun f hf => VCtx.vlane_lanes_nan (z := z) (d := d) (F := F) (f := f) hj hon hf
      refine ⟨hlane _ (fop2_nan hF (FV.add_eq_nan hv)),
        hlane _ (fop2_nan hF (FV.add_eq_nan (hv.imp_right (congrArg FV.neg)))), hlane _ (fop2_nan hF (FV.mul_eq_nan hv)),
        hlane _ (fop3_nan hF _ hv), hlane _ (fop3_nan hF _ hv), fun htf => ?_⟩
      subst htf
      cases hF
      exact hlane _ (Fmt.div_nan hv)
    · have hv := (Bool.or_eq_true _ _ ▸ hnone).imp (value_vlane_nan hi hn) (value_scalar_nan hi hn)
      have hlane := fun f hf => VCtx.vlane_lanes_nan (z := z) (d := d) (F := F) (f := f) hj hon hf
      exact ⟨hlane _ (fop2_nan hF (FV.add_eq_nan hv)), hlane _ (fop2_nan hF (FV.mul_eq_nan hv)), hlane _ (fop3_nan hF _ hv)⟩
    · subst htf
      cases hF
      refine ⟨VCtx.vlane_lanes_nan hj hon ?_, VCtx.write_nstat_and z d 4 64 k _ fun _ => 0⟩
      have := sqrt_eq_nan hn hi A hneg
      rwa [toNat_ofNat_vlane] at this

end Sys2Proof.Machine
end

section
/-!
SUPPORT. What an instruction does to its lanes and to NSTAT (R246, R77), the 4-bit elements, the bytes (R263, R264) and the tree of
R83.
-/
namespace Sys2Proof.Machine

/-! ### What an instruction does to the lanes of its destination (R246, R77) -/

/-- From z to o register d has n lanes of w bytes written, a selected one with its result and the rest kept, and the lanes above
them clear; NSTAT gains the flags of the selected lanes, and the other registers and the masks are as they were. -/
def VCtx.Does (z o : VCtx) (d : VReg) (k : KReg) (w n : Nat) (r : Nat → Nat × BitVec 32) : Prop :=
  ((∀ r, r ≠ d → o.vr r = z.vr r) ∧ ∀ m, o.kr m = z.kr m) ∧
  (∀ m, o.nstat.getLsbD m = true ↔ z.nstat.getLsbD m = true ∨ ∃ j < n, z.sel k j = true ∧ (r j).2.getLsbD m = true) ∧
  ∀ j < 256 / w, vlane (o.vr d) w j =
    if j < n then (if z.sel k j then (r j).1 % 2 ^ (8 * w) else vlane (z.vr d) w j) else 0

theorem VCtx.write_does (z : VCtx) (d : VReg) (k : KReg) {w n : Nat} (hw : w ∣ 256) (hn : n ≤ 256 / w)
    {f r : Nat → Nat × BitVec 32} (h : ∀ j, f j = r j) : z.Does (z.write d w n k f fun _ => 0) d k w n r := by
  obtain rfl : f = r := funext h
  refine ⟨⟨fun r hr => VCtx.write_vr_ne _ _ _ _ _ _ _ hr, fun m => rfl⟩, fun m => VCtx.write_nstat .., fun j hj => ?_⟩
  rw [VCtx.vlane_write _ _ _ _ _ _ _ hw hn hj, Nat.zero_mod]

theorem VCtx.lanes_does (z : VCtx) (d : VReg) (k : KReg) (t : Ty) {f r : Nat → Nat × BitVec 32} (h : ∀ j, f j = r j) :
    z.Does (z.lanes d t k f) d k (tyW t) (tyN t) r :=
  VCtx.write_does z d k (tyW_dvd t) le_rfl h

/-! ### Operations rounded once (R70, R77) -/

theorem Fmt.once_eq (F : Fmt) (ops : List FV) (v : FV) :
    F.once ops v = ((F.result .rne v).1, (F.result .rne v).2 ||| (if v = .nan ∧ FV.nan ∉ ops then fIV else 0)) := by
  have h : ops.any FV.isNan = true ↔ FV.nan ∈ ops := by
    rw [List.any_eq_true]
    exact ⟨fun ⟨x, hx, hn⟩ => (Fmt.isNan_iff x).1 hn ▸ hx, fun hx => ⟨_, hx, rfl⟩⟩
  have hiv : ivOf ops v = if v = .nan ∧ FV.nan ∉ ops then fIV else 0 := by
    unfold ivOf flagIf
    refine if_congr ?_ rfl rfl
    rw [Bool.and_eq_true, Fmt.isNan_iff, Bool.not_eq_true', ← Bool.not_eq_true, h]
  rw [← hiv]
  rfl

theorem fop2_eq {t : Ty} {F : Fmt} (ht : tyFmt t = some F) (g : FV → FV → FV) (x y : Nat) :
    fop2 g t x y = F.once [F.value x, F.value y] (g (F.value x) (F.value y)) := by rw [fop2, fmtOf_eq ht]

theorem fop3_eq {t : Ty} {F : Fmt} (ht : tyFmt t = some F) (minus : Bool) (x y z : Nat) :
    fop3 minus t x y z = F.once [F.value x, F.value y, F.value z] (if minus then (F.value z).add ((F.value x).mul (F.value y)).neg
      else ((F.value x).mul (F.value y)).add (F.value z)) := by rw [fop3, fmtOf_eq ht]

/-! ### Stochastic conversion and the mixing function (R73, R85) -/

theorem stochastic_fst {x r : Nat} (hx : x < 2 ^ 32) (hr : r < 2 ^ 16) :
    (stochastic x r).1 = let v := BitVec.ofNat 32 x
      let m := v.extractLsb' 0 31
      if (0x7F800000#31).ult m then 0x7FC0
        else (v.extractLsb' 31 1 ++ (m + (BitVec.ofNat 31 r)).extractLsb' 16 15).toNat := by
  extract_lets v m
  have hm : m.toNat = x % 2 ^ 31 := by
    simp only [m, v, BitVec.extractLsb'_toNat, BitVec.toNat_ofNat, Nat.shiftRight_zero]
    omega
  have hs : (v.extractLsb' 31 1).toNat = x / 2 ^ 31 % 2 := by
    simp only [v, BitVec.extractLsb'_toNat, BitVec.toNat_ofNat, Nat.shiftRight_eq_div_pow]
    omega
  have hup : ((m + BitVec.ofNat 31 r).extractLsb' 16 15).toNat = (x % 2 ^ 31 + r) / 2 ^ 16 % 2 ^ 15 := by
    simp only [BitVec.extractLsb'_toNat, BitVec.toNat_add, BitVec.toNat_ofNat, Nat.shiftRight_eq_div_pow, hm]
    omega
  have hnan : (fp32.value x).isNan = (0x7F800000#31).ult m := by
    rw [Fmt.value_isNan rfl, BitVec.ult, hm]
    rfl
  unfold stochastic
  rw [hnan]
  split
  · rfl
  · rw [BitVec.toNat_append, hs, hup, ← Nat.shiftLeft_add_eq_or_of_lt (Nat.mod_lt _ (by positivity)), Nat.shiftLeft_eq]

theorem toNat_xorshift (a : BitVec 32) (n : Nat) : (a ^^^ a >>> n).toNat = Nat.xor a.toNat (a.toNat / 2 ^ n) := by
  rw [BitVec.toNat_xor, BitVec.toNat_ushiftRight, Nat.shiftRight_eq_div_pow]
  rfl

theorem toNat_mul_ofNat (a : BitVec 32) {n : Nat} (h : n < 2 ^ 32) : (a * BitVec.ofNat 32 n).toNat = a.toNat * n % 2 ^ 32 := by
  rw [BitVec.toNat_mul, BitVec.toNat_ofNat, Nat.mod_eq_of_lt h]

theorem mix32_eq (x : Word) (j : Nat) :
    mix32 (x.toNat / 2 ^ 32) ((x.toNat + j) % 2 ^ 32) =
      let h0 := ((x.setWidth 32 + BitVec.ofNat 32 j) * 0x9E3779B1#32) ^^^ x.extractLsb' 32 32
      let h1 := (h0 ^^^ h0 >>> 15) * 0x2C1B3C6D#32
      let h2 := (h1 ^^^ h1 >>> 12) * 0x297A2D39#32
      (h2 ^^^ h2 >>> 15).toNat := by
  have hkey : (x.extractLsb' 32 32).toNat = x.toNat / 2 ^ 32 := by
    rw [BitVec.extractLsb'_toNat, Nat.shiftRight_eq_div_pow]
    omega
  have hc : (x.setWidth 32 + BitVec.ofNat 32 j).toNat = (x.toNat + j) % 2 ^ 32 := by
    rw [BitVec.toNat_add, BitVec.toNat_setWidth, BitVec.toNat_ofNat, ← Nat.add_mod]
  extract_lets h0 h1 h2
  have hh0 : h0.toNat = Nat.xor ((x.toNat + j) % 2 ^ 32 * 0x9E3779B1 % 2 ^ 32) (x.toNat / 2 ^ 32) := by
    rw [BitVec.toNat_xor, toNat_mul_ofNat _ (by norm_num), hkey, hc]
    rfl
  have hh1 : h1.toNat = Nat.xor h0.toNat (h0.toNat / 2 ^ 15) * 0x2C1B3C6D % 2 ^ 32 := by
    rw [toNat_mul_ofNat _ (by norm_num), toNat_xorshift]
  have hh2 : h2.toNat = Nat.xor h1.toNat (h1.toNat / 2 ^ 12) * 0x297A2D39 % 2 ^ 32 := by
    rw [toNat_mul_ofNat _ (by norm_num), toNat_xorshift]
  rw [toNat_xorshift, hh2, hh1, hh0]
  rfl

/-! ### Nibbles of a register (R264) -/

theorem ofNibs_lt (l : List Nat) : ofNibs l < 2 ^ (4 * l.length) := by
  induction l with
  | nil => simp [ofNibs]
  | cons x r ih =>
    rw [ofNibs, List.length_cons, Nat.mul_succ, pow_add]
    omega

theorem ofNibs_div (l : List Nat) (j : Nat) : ofNibs l / 2 ^ (4 * j) % 16 = l.getD j 0 % 16 := by
  induction l generalizing j with
  | nil => simp [ofNibs]
  | cons x r ih =>
    cases j with
    | zero =>
      simp [ofNibs]
    | succ j =>
      rw [ofNibs, Nat.mul_succ, Nat.add_comm (4 * j), pow_add, ← Nat.div_div_eq_div_mul, List.getD_cons_succ, ← ih]
      congr 2
      omega

theorem nib_ofNibs {l : List Nat} (hl : l.length ≤ 512) (e : Nat) : nib (BitVec.ofNat 2048 (ofNibs l)) e = l.getD e 0 % 16 := by
  have hlt : ∀ N, 4 * l.length ≤ N → (BitVec.ofNat N (ofNibs l)).toNat = ofNibs l := fun N hN => by
    rw [BitVec.toNat_ofNat, Nat.mod_eq_of_lt ((ofNibs_lt l).trans_le (pow_le_pow_right₀ one_le_two hN))]
  rw [nib, BitVec.extractLsb'_toNat, Nat.shiftRight_eq_div_pow, hlt _ (by omega)]
  exact ofNibs_div l e

theorem nib_lt (v : BitVec 2048) (e : Nat) : nib v e < 16 := BitVec.isLt _

/-- VCVTN4 writes the 4-bit elements of the lanes, and clears those above them (R264). -/
theorem VCtx.narrow4_does (z : VCtx) (d a : VReg) (rm : Rm) {t : Ty} {F : Fmt} (hF : tyFmt t = some F) (k : KReg) :
    let o := z.narrow4 d a rm t k
    let r := fun e => e2m1.result rm (F.value (vlane (z.vr a) (tyW t) e))
    ((∀ r, r ≠ d → o.vr r = z.vr r) ∧ ∀ m, o.kr m = z.kr m) ∧
    (∀ m, o.nstat.getLsbD m = true ↔ z.nstat.getLsbD m = true ∨ ∃ e < tyN t, z.sel k e = true ∧ (r e).2.getLsbD m = true) ∧
    ∀ e < 512, nib (o.vr d) e = if e < tyN t then (if z.sel k e then (r e).1 % 16 else nib (z.vr d) e) else 0 := by
  intro o r
  have hN := tyN_le t
  refine ⟨⟨fun q hq => z.setV_vr_ne hq _, fun m => rfl⟩, fun m => ?_, fun e he => ?_⟩
  · simp only [o, VCtx.narrow4]
    rw [getLsbD_foldl_or]
    refine or_congr Iff.rfl ?_
    simp only [List.mem_map, List.mem_range, exists_exists_and_eq_and]
    refine exists_congr fun j => and_congr Iff.rfl ?_
    rw [fmtOf_eq hF]
    split <;> simp [*, r]
  · simp only [o, VCtx.narrow4]
    rw [VCtx.nstat_vr, VCtx.setV_vr_self, nib_ofNibs (by simp; omega), fmtOf_eq hF]
    rcases Nat.lt_or_ge e (tyN t) with h | h
    · simp only [h, if_true, List.map_map, List.getD_eq_getElem?_getD, List.getElem?_map, List.getElem?_range h, Option.map_some,
        Option.getD_some, Function.comp]
      split
      · rfl
      · exact Nat.mod_eq_of_lt (nib_lt ..)
    · simp [Nat.not_lt.2 h]

/-! ### Bytes of a register (R263) -/

/-- Byte j of a number. -/
def byteOf (x j : Nat) : Nat := x / 2 ^ (8 * j) % 2 ^ 8

theorem byteOf_mod (x : Nat) {n j : Nat} : byteOf (x % 2 ^ (8 * n)) j = if j < n then byteOf x j else 0 := by
  unfold byteOf
  split
  · rename_i h
    refine Nat.eq_of_testBit_eq fun i => ?_
    simp only [Nat.testBit_mod_two_pow, Nat.testBit_div_two_pow]
    by_cases hi : i < 8
    · simp [hi, show i + 8 * j < 8 * n by omega]
    · simp [hi]
  · rename_i h
    have : x % 2 ^ (8 * n) < 2 ^ (8 * j) :=
      (Nat.mod_lt _ (by positivity)).trans_le (pow_le_pow_right₀ one_le_two (by omega))
    rw [Nat.div_eq_of_lt this, Nat.zero_mod]

theorem byteOf_div (x l j : Nat) : byteOf (x / 2 ^ (8 * l)) j = byteOf x (l + j) := by
  rw [byteOf, byteOf, Nat.div_div_eq_div_mul, ← pow_add, Nat.mul_add]

theorem byteOf_add {x p : Nat} (h : x < 2 ^ (8 * p)) (y j : Nat) :
    byteOf (x + 2 ^ (8 * p) * y) j = if j < p then byteOf x j else byteOf y (j - p) := by
  have hp : 0 < 2 ^ (8 * p) := by positivity
  split
  · rename_i hj
    have := byteOf_mod (x + 2 ^ (8 * p) * y) (n := p) (j := j)
    rw [if_pos hj, Nat.add_mul_mod_self_left, Nat.mod_eq_of_lt h] at this
    exact this.symm
  · rename_i hj
    obtain ⟨i, rfl⟩ := Nat.exists_eq_add_of_le (Nat.not_lt.1 hj)
    rw [← byteOf_div, Nat.add_mul_div_left _ _ hp, Nat.div_eq_of_lt h, zero_add, Nat.add_sub_cancel_left]

theorem add_mul_lt_pow {x y p q : Nat} (hx : x < 2 ^ (8 * p)) (hy : y < 2 ^ (8 * q)) : x + 2 ^ (8 * p) * y < 2 ^ (8 * (p + q)) := by
  rw [Nat.mul_add, pow_add]
  calc x + 2 ^ (8 * p) * y < 2 ^ (8 * p) * (y + 1) := by rw [mul_add, mul_one]; omega
    _ ≤ 2 ^ (8 * p) * 2 ^ (8 * q) := Nat.mul_le_mul_left _ hy

theorem vlane_one_ofNat (x : Nat) {j : Nat} (hj : j < 256) : vlane (BitVec.ofNat 2048 x) 1 j = byteOf x j := by
  have h : ∀ n, j < n → byteOf (BitVec.ofNat (8 * n) x).toNat j = byteOf x j := fun n hn => by
    rw [BitVec.toNat_ofNat, byteOf_mod, if_pos hn]
  rw [vlane_eq]
  exact h 256 hj

theorem vlane_one (v : BitVec 2048) (j : Nat) : vlane v 1 j = byteOf v.toNat j := vlane_eq ..

theorem byteOf_part (v : BitVec 2048) (lo n j : Nat) : byteOf (part v lo n) j = if j < n then vlane v 1 (lo + j) else 0 := by
  rw [part, byteOf_mod, byteOf_div, vlane_one]

theorem part_lt (v : BitVec 2048) (lo n : Nat) : part v lo n < 2 ^ (8 * n) := Nat.mod_lt _ (by positivity)

/-- From z to o the bytes of register d have become those of f; nothing else changed (R263). -/
def VCtx.Moves (z o : VCtx) (d : VReg) (f : Nat → Nat) : Prop :=
  ((∀ r, r ≠ d → o.vr r = z.vr r) ∧ ∀ m, o.kr m = z.kr m) ∧ o.nstat = z.nstat ∧ ∀ j < 256, vlane (o.vr d) 1 j = f j

theorem VCtx.setV_moves (z : VCtx) (d : VReg) {x : Nat} {f : Nat → Nat} (h : ∀ j < 256, byteOf x j = f j) :
    z.Moves (z.setV d (BitVec.ofNat 2048 x)) d f :=
  ⟨⟨fun _ hr => z.setV_vr_ne hr _, fun _ => rfl⟩, rfl, fun j hj => by rw [VCtx.setV_vr_self, vlane_one_ofNat x hj, h j hj]⟩

theorem VCtx.vunpk_moves (z : VCtx) (d a : VReg) (n q : Nat) :
    z.Moves (z.setV d (BitVec.ofNat 2048 (part (z.vr a) (n * q) n))) d fun j => if j < n then vlane (z.vr a) 1 (n * q + j) else 0 :=
  VCtx.setV_moves z d fun _ _ => byteOf_part ..

/-- VPACK of 16-bit lanes (R263). -/
theorem VCtx.vpack_moves_half (z : VCtx) (d a b : VReg) {m : Nat} (hm : m = 8 * 128) :
    z.Moves (z.setV d (BitVec.ofNat 2048 (part (z.vr a) 0 128 + 2 ^ m * part (z.vr b) 0 128))) d
      fun j => if j < 128 then vlane (z.vr a) 1 j else vlane (z.vr b) 1 (j - 128) := by
  subst hm
  refine VCtx.setV_moves z d fun j hj => ?_
  rw [byteOf_add (part_lt ..), byteOf_part, byteOf_part, zero_add, zero_add]
  split
  · rfl
  · rw [if_pos (by omega)]

/-- VPACK of 8-bit lanes (R263). -/
theorem VCtx.vpack_moves_quarter (z : VCtx) (d a b : VReg) {m n : Nat} (hm : m = 8 * 128) (hn : n = 8 * (128 + 64)) :
    z.Moves (z.setV d (BitVec.ofNat 2048 (part (z.vr d) 128 128 + 2 ^ m * part (z.vr a) 0 64
      + 2 ^ n * part (z.vr b) 0 64))) d fun j => if j < 128 then vlane (z.vr d) 1 (j + 128)
        else if j < 192 then vlane (z.vr a) 1 (j - 128) else vlane (z.vr b) 1 (j - 192) := by
  subst hm hn
  have hlow : part (z.vr d) 128 128 + 2 ^ (8 * 128) * part (z.vr a) 0 64 < 2 ^ (8 * (128 + 64)) :=
    add_mul_lt_pow (part_lt ..) (part_lt ..)
  refine VCtx.setV_moves z d fun j hj => ?_
  rw [byteOf_add hlow, byteOf_add (part_lt ..), byteOf_part, byteOf_part, byteOf_part, zero_add, zero_add, Nat.add_comm 128 j]
  split
  · split
    · rfl
    · rw [if_pos (by omega)]
  · rw [if_pos (by omega), if_neg (by omega)]

/-! ### The tree of R83 -/

/-- One level of the tree: the pairs in order, and the flags of their operations. -/
theorem pairUp_map (f : Nat → Nat → Nat × BitVec 32) (g : Nat → Nat) (n : Nat) (fl : BitVec 32) :
    (pairUp f ((List.range (2 * n)).map g) fl).1 = (List.range n).map (fun j => (f (g (2 * j)) (g (2 * j + 1))).1) ∧
      ∀ m, (pairUp f ((List.range (2 * n)).map g) fl).2.getLsbD m = true ↔
        fl.getLsbD m = true ∨ ∃ j < n, (f (g (2 * j)) (g (2 * j + 1))).2.getLsbD m = true := by
  induction n generalizing g fl with
  | zero => simp [pairUp]
  | succ n ih =>
    have hr : (List.range (2 * (n + 1))).map g = g 0 :: g 1 :: (List.range (2 * n)).map fun j => g (j + 2) := by
      rw [Nat.mul_succ, List.range_succ_eq_map, List.range_succ_eq_map]
      simp [Function.comp_def]
    obtain ⟨h1, h2⟩ := ih (fun j => g (j + 2)) (fl ||| (f (g 0) (g 1)).2)
    rw [hr]
    refine ⟨?_, fun m => ?_⟩
    · rw [List.range_succ_eq_map]
      simp only [pairUp, h1, List.map_cons, List.map_map]
      rfl
    · refine (h2 m).trans ?_
      rw [BitVec.getLsbD_or, Bool.or_eq_true, or_assoc]
      refine or_congr Iff.rfl ⟨?_, ?_⟩
      · rintro (h | ⟨j, hj, h⟩)
        · exact ⟨0, by omega, h⟩
        · exact ⟨j + 1, by omega, h⟩
      · rintro ⟨_ | j, hj, h⟩
        · exact .inl h
        · exact .inr ⟨j, by omega, h⟩

/-- The tree over 2^n values, given the values of all its nodes by level: its root, and the flags of all its operations. -/
theorem tree_map {f : Nat → Nat → Nat × BitVec 32} {T : Nat → Nat → Nat}
    (hT : ∀ l j, T (l + 1) j = (f (T l (2 * j)) (T l (2 * j + 1))).1) (n l : Nat) (fl : BitVec 32) :
    (tree f n ((List.range (2 ^ n)).map (T l)) fl).1 = T (l + n) 0 ∧
      ∀ m, (tree f n ((List.range (2 ^ n)).map (T l)) fl).2.getLsbD m = true ↔
        fl.getLsbD m = true ∨ ∃ i j, (j + 1) * 2 ^ (i + 1) ≤ 2 ^ n ∧
          (f (T (l + i) (2 * j)) (T (l + i) (2 * j + 1))).2.getLsbD m = true := by
  induction n generalizing l fl with
  | zero =>
    refine ⟨rfl, fun m => ⟨.inl, ?_⟩⟩
    rintro (h | ⟨i, j, h, -⟩)
    · exact h
    · have := Nat.mul_le_mul (Nat.le_add_left 1 j) (Nat.one_le_two_pow (n := i))
      rw [pow_succ, ← mul_assoc] at h
      omega
  | succ n ih =>
    obtain ⟨h1, h2⟩ := pairUp_map f (T l) (2 ^ n) fl
    have hstep : tree f (n + 1) ((List.range (2 ^ (n + 1))).map (T l)) fl =
        tree f n ((List.range (2 ^ n)).map (T (l + 1))) (pairUp f ((List.range (2 * 2 ^ n)).map (T l)) fl).2 := by
      rw [tree, pow_succ', ← funext (hT l)] at *
      simp only [h1]
    obtain ⟨h3, h4⟩ := ih (l + 1) (pairUp f ((List.range (2 * 2 ^ n)).map (T l)) fl).2
    rw [hstep]
    refine ⟨by rw [h3]; congr 1; omega, fun m => ?_⟩
    rw [h4, h2, or_assoc]
    refine or_congr Iff.rfl ⟨?_, ?_⟩
    · rintro (⟨j, hj, h⟩ | ⟨i, j, hj, h⟩)
      · exact ⟨0, j, by rw [pow_succ]; omega, h⟩
      · exact ⟨i + 1, j, by rw [pow_succ, pow_succ 2 n, ← mul_assoc]; omega, by rwa [← Nat.add_assoc, Nat.add_right_comm]⟩
    · rintro ⟨_ | i, j, hj, h⟩
      · exact .inl ⟨j, by rw [pow_succ] at hj; omega, h⟩
      · refine .inr ⟨i, j, ?_, by rwa [← Nat.add_assoc, Nat.add_right_comm] at h⟩
        rw [pow_succ, pow_succ 2 n, ← mul_assoc] at hj
        omega

theorem two_pow_log2_tyN (t : Ty) : 2 ^ Nat.log2 (tyN t) = tyN t := by cases t <;> decide

/-- A reduction writes the root of the tree to every lane and adds the flags of its operations (R83, R259). -/
theorem VCtx.reduce_does (z : VCtx) (g : RedFn) (d a : VReg) (t : Ty) (k : KReg) {T : Nat → Nat → Nat}
    (hleaf : ∀ j < tyN t, T 0 j = if z.sel k j then vlane (z.vr a) (tyW t) j else redId g t)
    (hT : ∀ l j, T (l + 1) j = (redOp g t (T l (2 * j)) (T l (2 * j + 1))).1) :
    let o := z.reduce g d a t k
    ((∀ r, r ≠ d → o.vr r = z.vr r) ∧ ∀ m, o.kr m = z.kr m) ∧
    (∀ m, o.nstat.getLsbD m = true ↔ z.nstat.getLsbD m = true ∨ ∃ l j, (j + 1) * 2 ^ (l + 1) ≤ tyN t ∧
      (redOp g t (T l (2 * j)) (T l (2 * j + 1))).2.getLsbD m = true) ∧
    ∀ j < tyN t, vlane (o.vr d) (tyW t) j = T (Nat.log2 (tyN t)) 0 % 2 ^ (8 * tyW t) := by
  intro o
  have hl : ((List.range (tyN t)).map fun i => if z.sel k i then vlane (z.vr a) (tyW t) i else redId g t) =
      (List.range (2 ^ Nat.log2 (tyN t))).map (T 0) := by
    rw [two_pow_log2_tyN]
    exact List.map_congr_left fun j hj => (hleaf j (List.mem_range.1 hj)).symm
  obtain ⟨hroot, hflags⟩ := tree_map hT (Nat.log2 (tyN t)) 0 z.nstat
  rw [← hl] at hroot hflags
  refine ⟨⟨fun q hq => VCtx.write_vr_ne z d (tyW t) (tyN t) 0 _ (fun _ => 0) hq, fun m => rfl⟩, fun m => ?_, fun j hj => ?_⟩
  · refine (hflags m).trans ?_
    simp only [two_pow_log2_tyN, zero_add]
  · have hlane := VCtx.vlane_lanes (z := z) (d := d) (k := 0) (f := fun _ => (T (Nat.log2 (tyN t)) 0, 0)) hj (z.sel_zero j)
    rw [zero_add] at hroot
    rw [← hlane, ← hroot]
    rfl

end Sys2Proof.Machine
end

section
/-!
PROOF. Floating-point arithmetic, estimates, conversions and reductions of the vector engine (O44).
-/
namespace Sys2Proof.Machine

/-! ### The operations and identities of the reductions (R83) -/

theorem lane_of_fmt {t : Ty} {F : Fmt} (hF : tyFmt t = some F) (hw : tyW t ≠ 1) : t = .f32 ∨ t = .bf16 ∨ t = .f16 := by
  revert hF hw
  cases t <;> simp [tyFmt, tyW]

section
variable {t : Ty} {F : Fmt} (hF : tyFmt t = some F)
include hF

theorem redOp_sum_float (p q : Nat) : redOp .sum t p q = F.once [F.value p, F.value q] ((F.value p).add (F.value q)) := by
  simp only [redOp, hF]
  exact fop2_eq hF ..

theorem redOp_max_float (p q : Nat) : redOp .max t p q = (F.minmax true p q, 0) := by simp only [redOp, hF]

theorem redOp_min_float (p q : Nat) : redOp .min t p q = (F.minmax false p q, 0) := by simp only [redOp, hF]

theorem redId_float (hw : tyW t ≠ 1) : redId .sum t = 2 ^ (8 * tyW t - 1) ∧ redId .max t = F.inf + 2 ^ (8 * tyW t - 1) ∧
    redId .min t = F.inf := by
  obtain ⟨G, hG, -, hn, -⟩ := laneFmt (lane_of_fmt hF hw)
  obtain rfl : F = G := Option.some.inj (hF.symm.trans hG)
  have hs : 8 * tyW t - 1 = F.sbit := by omega
  simp [redId, hF, Fmt.signed_eq, hs, Nat.add_comm]

end

section
variable {t : Ty} (ht : tyFmt t = none)
include ht

theorem redOp_sum_int (p q : Nat) :
    redOp .sum t p q = ((BitVec.ofNat (8 * tyW t) p + BitVec.ofNat (8 * tyW t) q).toNat, 0) := by
  simp only [redOp, ht, iop, sint_eq_toInt (tyW_pos t), wrap_eq_ofInt, BitVec.ofInt_add, BitVec.ofInt_toInt]

theorem redOp_max_int (p q : Nat) : redOp .max t p q =
    (if (BitVec.ofNat (8 * tyW t) p).sle (BitVec.ofNat (8 * tyW t) q) then q else p, 0) := by
  simp only [redOp, ht, iop, sint_eq_toInt (tyW_pos t), BitVec.sle_iff_toInt_le]

theorem redOp_min_int (p q : Nat) : redOp .min t p q =
    (if (BitVec.ofNat (8 * tyW t) p).sle (BitVec.ofNat (8 * tyW t) q) then p else q, 0) := by
  simp only [redOp, ht, iop, sint_eq_toInt (tyW_pos t), BitVec.sle_iff_toInt_le]

theorem redId_int : redId .sum t = 0 ∧ redId .max t = 2 ^ (8 * tyW t - 1) ∧ redId .min t = 2 ^ (8 * tyW t - 1) - 1 := by
  simp [redId, ht]

end

/-- Settles O44: each instruction writes its lanes by `VCtx.write`, whose lane is its operation; the reductions by the tree. -/
theorem floatLaneResults : Obligations.FloatLaneResults := by
  unfold Obligations.FloatLaneResults
  intro z d a b g k t u rm x y kept gains does at_
  have est := fun (f : Nat → Nat × BitVec 32) => VCtx.lanes_does z d k .f32 (f := f) fun _ => rfl
  refine ⟨fun F hF hw => ?_, ⟨est _, est _, est _, est _, est _, est _, ?_, ?_, ?_, fun F hF => ⟨?_, ?_⟩⟩,
    ⟨fun hw => ⟨?_, fun q hq => ?_⟩, fun hw => ⟨?_, fun q => ?_⟩⟩, ?_⟩
  · intro A B D X lanes
    have two := fun (f : FV → FV → FV) (p q : Nat → Nat) =>
      VCtx.lanes_does z d k t fun j => (fop2_eq hF f (p j) (q j)).trans (Fmt.once_eq F _ _)
    have three := fun (minus : Bool) (p q r : Nat → Nat) =>
      VCtx.lanes_does z d k t fun j => (fop3_eq hF minus (p j) (q j) (r j)).trans (Fmt.once_eq F _ _)
    exact ⟨two FV.add _ _, two (fun v w => v.add w.neg) _ _, two FV.mul _ _, three false _ _ _, three true _ _ _,
      two FV.add _ fun _ => _, two FV.mul _ fun _ => _, three false _ (fun _ => _) _⟩
  · have hpos := Nat.pos_of_dvd_of_pos (tyW_dvd t) (by decide)
    exact VCtx.write_does _ _ _ (tyW_dvd t) (Nat.div_le_div_left (Nat.le_max_right ..) hpos) fun _ => rfl
  · exact VCtx.write_does z d k (w := 2) (n := 64) (by decide) (by decide) fun j =>
      Prod.ext (stochastic_fst (vlane_lt ..) (vlane_lt ..)) rfl
  · exact VCtx.lanes_does _ _ _ .i32 fun j => Prod.ext (mix32_eq x j) rfl
  · exact VCtx.lanes_does _ _ _ _ fun e => by rw [fmtOf_eq hF]
  · exact VCtx.narrow4_does z d a rm hF k
  · show z.Moves (if tyW t = 1 then _ else _) d _
    rw [if_neg (by omega)]
    exact VCtx.vpack_moves_half z d a b rfl
  · have hn : (if tyW t = 1 then 64 else 128) = 128 := if_neg (by omega)
    exact hn ▸ VCtx.vunpk_moves z d a (if tyW t = 1 then 64 else 128) q.toNat
  · show z.Moves (if tyW t = 1 then _ else _) d _
    rw [if_pos hw]
    exact VCtx.vpack_moves_quarter z d a b rfl rfl
  · have hn : (if tyW t = 1 then 64 else 128) = 64 := if_pos hw
    exact hn ▸ VCtx.vunpk_moves z d a (if tyW t = 1 then 64 else 128) q.toNat
  · rintro op id i T sum n hi hleaf hT
    have hred : ∃ g, z.run i x y = z.reduce g d a t k ∧ op = redOp g t ∧ id = redId g t := by
      rcases hi with ⟨F, hF, hw, h⟩ | ⟨ht, h⟩
      · obtain ⟨hsum, hmax, hmin⟩ := redId_float hF hw
        rcases h with ⟨rfl, rfl, rfl⟩ | ⟨rfl, rfl, rfl⟩ | ⟨rfl, rfl, rfl⟩
        · refine ⟨.sum, rfl, funext₂ fun p q => ?_, hsum.symm⟩
          rw [redOp_sum_float hF, Fmt.once_eq]
          simp [sum, not_or, eq_comm]
        · exact ⟨.max, rfl, funext₂ fun p q => (redOp_max_float hF p q).symm, hmax.symm⟩
        · exact ⟨.min, rfl, funext₂ fun p q => (redOp_min_float hF p q).symm, hmin.symm⟩
      · obtain ⟨hsum, hmax, hmin⟩ := redId_int ht
        rcases h with ⟨rfl, rfl, rfl⟩ | ⟨rfl, rfl, rfl⟩ | ⟨rfl, rfl, rfl⟩
        · exact ⟨.sum, rfl, funext₂ fun p q => (redOp_sum_int ht p q).symm, hsum.symm⟩
        · exact ⟨.max, rfl, funext₂ fun p q => (redOp_max_int ht p q).symm, hmax.symm⟩
        · exact ⟨.min, rfl, funext₂ fun p q => (redOp_min_int ht p q).symm, hmin.symm⟩
    obtain ⟨g, hrun, rfl, rfl⟩ := hred
    rw [hrun]
    exact VCtx.reduce_does z g d a t k hleaf hT

end Sys2Proof.Machine
end

section
/-!
SUPPORT and PROOF. The integer and logical instructions and their immediate forms (O8, O9).
-/
namespace Sys2Proof.Machine

/-- An instruction that only writes a register, with its value in the words of the table (R96). -/
theorem aluOp_writes {s : State} {i : Instr} {d : GReg} {v : Fibre → Word} {c : BayCtx} {f : Fibre} {w : Word}
    (h : s.Issues (namedRegs i) c f) (e : v f = w) : aluOp i d v s = .next (s.result f d w) :=
  e ▸ aluOp_runs h

theorem boolW_decide (p : Prop) [Decidable p] : boolW (decide p) = if p then 1 else 0 := by
  by_cases h : p <;> simp [boolW, h]

theorem boolW_beq (x y : Word) : boolW (x == y) = if x = y then 1 else 0 := boolW_decide (x = y)

theorem sh6_lt (y : Word) : sh6 y < 64 := Nat.mod_lt _ (by decide)

/-- The signed order of numbers is that of words (R96). -/
theorem ite_toInt_lt {α : Type} (x y : Word) (a b : α) :
    (if x.toInt < y.toInt then a else b) = if x.slt y = true then a else b := by
  simp [BitVec.slt]

/-- Rotation by fewer places than the word has bits (R96). -/
theorem rolW_eq_rotateLeft (x : Word) {n : Nat} (h : n < 64) : rolW x n = x.rotateLeft n := by
  rw [BitVec.rotateLeft_def, Nat.mod_eq_of_lt h]
  unfold rolW
  split
  · subst_vars
    simp [BitVec.ushiftRight_eq_zero]
  · rfl

/-- Settles O8: each of them writes one register; the comparisons, minima, maxima and the rotation read their row of R96 on
words. -/
theorem integerResults : Obligations.IntegerResults := by
  unfold Obligations.IntegerResults
  intro s c f d a b m
  refine ⟨fun h => ?_, fun h => ⟨aluOp_runs h, aluOp_runs h, aluOp_runs h⟩⟩
  exact ⟨aluOp_runs h, aluOp_runs h, aluOp_runs h, aluOp_runs h, aluOp_runs h, aluOp_runs h, aluOp_runs h, aluOp_runs h,
    aluOp_runs h, aluOp_writes h (rolW_eq_rotateLeft _ (sh6_lt _)), aluOp_runs h, aluOp_writes h (boolW_decide _),
    aluOp_writes h (boolW_beq _ _), aluOp_writes h (ite_toInt_lt _ _ _ _), aluOp_writes h (ite_toInt_lt _ _ _ _),
    aluOp_runs h, aluOp_runs h, aluOp_runs h, aluOp_runs h, aluOp_runs h⟩

/-- Settles O9: the words are those of the I format, and each instruction writes one register. -/
theorem immediateResults : Obligations.ImmediateResults := by
  unfold Obligations.ImmediateResults
  intro s c f d a m
  refine ⟨⟨rfl, rfl, rfl, rfl, rfl, rfl⟩, fun h => ⟨aluOp_runs h, aluOp_runs h, aluOp_runs h, aluOp_runs h,
    aluOp_runs h, aluOp_writes h (boolW_decide _)⟩⟩

end Sys2Proof.Machine
end

section
/-!
SUPPORT and PROOF. Multiplications and divisions (O11).
-/
namespace Sys2Proof.Machine

/-! ### Products (R99) -/

theorem mulhW_eq (x y : Word) : mulhW x y = ((x.signExtend 128) * (y.signExtend 128)).extractLsb' 64 64 := by
  apply BitVec.eq_of_toNat_eq
  have hp : (x.signExtend 128) * (y.signExtend 128) = BitVec.ofInt 128 (x.toInt * y.toInt) := (BitVec.ofInt_mul ..).symm
  rw [hp, mulhW, BitVec.extractLsb'_toNat, BitVec.toNat_ofInt, BitVec.toNat_ofInt, Nat.shiftRight_eq_div_pow]
  generalize x.toInt * y.toInt = p
  omega

theorem mulhuW_eq (x y : Word) : mulhuW x y = ((x.setWidth 128) * (y.setWidth 128)).extractLsb' 64 64 := by
  apply BitVec.eq_of_toNat_eq
  have hp : x.toNat * y.toNat < 2 ^ 128 := lt_of_lt_of_eq (Nat.mul_lt_mul'' x.isLt y.isLt) (by decide)
  rw [mulhuW, BitVec.extractLsb'_toNat, BitVec.toNat_mul, BitVec.toNat_setWidth_of_le (by decide),
    BitVec.toNat_setWidth_of_le (by decide), Nat.mod_eq_of_lt hp, Nat.shiftRight_eq_div_pow, BitVec.toNat_ofNat]

theorem sextW_mul_zextW (x y : Word) : sextW (zextW x 32 * zextW y 32) 32 = (x.setWidth 32 * y.setWidth 32).signExtend 64 := by
  unfold sextW zextW
  rw [BitVec.setWidth_mul _ _ (by decide)]
  simp

/-! ### Quotients and remainders (R99) -/

theorem divW_eq (x y : Word) : divW x y = if y = 0 then 0xFFFFFFFFFFFFFFFF
    else if x = 0x8000000000000000 ∧ y = 0xFFFFFFFFFFFFFFFF then x else x.sdiv y := by
  have hs : BitVec.ofInt 64 (x.toInt.tdiv y.toInt) = x.sdiv y := by
    apply BitVec.eq_of_toInt_eq
    rw [BitVec.toInt_sdiv, BitVec.toInt_ofInt]
  unfold divW
  rw [hs]
  split
  · rfl
  · split
    · rename_i hc
      rw [hc.1, hc.2]
      decide
    · rfl

theorem remW_eq (x y : Word) : remW x y = if y = 0 then x
    else if x = 0x8000000000000000 ∧ y = 0xFFFFFFFFFFFFFFFF then 0 else x.srem y := by
  have hs : BitVec.ofInt 64 (x.toInt - y.toInt * x.toInt.tdiv y.toInt) = x.srem y := by
    rw [← Int.tmod_def, ← BitVec.toInt_srem, BitVec.ofInt_toInt]
  unfold remW
  rw [hs]
  split
  · rfl
  · split
    · rename_i hc
      rw [hc.1, hc.2]
      decide
    · rfl

theorem divuW_eq (x y : Word) : divuW x y = if y = 0 then 0xFFFFFFFFFFFFFFFF else x / y := by
  have hs : toW (x.toNat / y.toNat) = x / y := BitVec.eq_of_toNat_eq (by
    rw [BitVec.toNat_ofNat, BitVec.toNat_udiv, Nat.mod_eq_of_lt (lt_of_le_of_lt (Nat.div_le_self ..) x.isLt)])
  unfold divuW
  rw [hs]
  rfl

theorem remuW_eq (x y : Word) : remuW x y = if y = 0 then x else x % y := by
  have hs : toW (x.toNat - y.toNat * (x.toNat / y.toNat)) = x % y := BitVec.eq_of_toNat_eq (by
    rw [← Nat.mod_eq_sub_mul_div, BitVec.toNat_ofNat, BitVec.toNat_umod,
      Nat.mod_eq_of_lt (lt_of_le_of_lt (Nat.mod_le ..) x.isLt)])
  unfold remuW
  rw [hs]

/-! ### The divider (R100) -/

/-- What a bay holds beside its contexts is no part of them. -/
theorem State.bctx_modBay_of_ctxs (s : State) {b : Nat} {g : Bay → Bay} (hg : (g (s.bay b)).ctxs = (s.bay b).ctxs) (j i : Nat) :
    (s.modBay b g).bctx j i = s.bctx j i := by
  unfold State.bctx
  by_cases e : j = b
  · rw [e, State.bay_modBay_self, hg]
  · rw [State.bay_modBay_ne _ _ e]

theorem State.curF_modBay_of_ctxs {s : State} {g : Bay → Bay} (hg : (g (s.bay s.cur.bay)).ctxs = (s.bay s.cur.bay).ctxs) :
    (s.modBay s.cur.bay g).curF = s.curF := by
  unfold State.curF State.fib
  rw [State.modBay_cur, State.bctx_modBay_of_ctxs s hg]

/-- A division with the divider free takes it (R99, R100). -/
theorem divOp_divides {s : State} {i : Instr} {d a b : GReg} {v : Word → Word → Word} {c : BayCtx} {f : Fibre}
    (h : s.Issues (namedRegs i) c f) (hb : (s.bay s.cur.bay).divBusy = false) {w : Word} (hw : v (f.reg a) (f.reg b) = w) :
    divOp i d a b v s = .next (s.divides f d w) := by
  have hf := (State.curF_modBay_of_ctxs (s := s) (g := fun x => { x with divBusy := true, divEnd := x.cycle + 19 }) rfl).trans h.fibre
  unfold divOp
  rw [hb, Bool.false_and, if_neg Bool.false_ne_true, issue_runs h.ctx h.fibre h.full rfl h.frame, State.modCur_eq_asFibre hf, hw]
  rfl

/-- A division does not issue while the divider is busy (R100). -/
theorem divOp_waits {s : State} {i : Instr} {d a b : GReg} {v : Word → Word → Word} {f : Fibre}
    (hf : s.curF = some f) (hb : (s.bay s.cur.bay).divBusy = true) : divOp i d a b v s = .next s := by
  simp [divOp, hb, hf]

/-- Settles O11: the products write one register; a division takes the free divider, or leaves the state alone. -/
theorem multiplyDivideResults : Obligations.MultiplyDivideResults := by
  unfold Obligations.MultiplyDivideResults
  intro s c f d a b h
  exact ⟨aluOp_runs h, aluOp_writes h (mulhW_eq ..), aluOp_writes h (mulhuW_eq ..), aluOp_writes h (sextW_mul_zextW ..),
    fun hb => ⟨divOp_divides h hb (divW_eq ..), divOp_divides h hb (divuW_eq ..), divOp_divides h hb (remW_eq ..),
      divOp_divides h hb (remuW_eq ..)⟩,
    fun hb => ⟨divOp_waits h.fibre hb, divOp_waits h.fibre hb, divOp_waits h.fibre hb, divOp_waits h.fibre hb⟩⟩

end Sys2Proof.Machine
end

section
/-!
SUPPORT and PROOF. The bit instructions (O12).
-/
namespace Sys2Proof.Machine

/-! ### Counts of bits (R101) -/

theorem popcN_eq (n x : Nat) : popcN n x = (List.range n).countP fun k => x.testBit k := by
  induction n generalizing x with
  | zero => rfl
  | succ n ih =>
    have hbit : x % 2 = if x.testBit 0 = true then 1 else 0 := by
      rw [Nat.testBit_zero]
      split <;> simp_all
    rw [popcN, ih, List.range_succ_eq_map, List.countP_cons, List.countP_map, hbit, Nat.add_comm]
    simp only [Function.comp_def, Nat.succ_eq_add_one, Nat.testBit_succ]

/-- The count of trailing zeros is the place of the lowest 1 bit, or n. -/
theorem ctzN_spec (n x : Nat) :
    ctzN n x ≤ n ∧ (∀ k < ctzN n x, x.testBit k = false) ∧ (ctzN n x < n → x.testBit (ctzN n x) = true) := by
  induction n generalizing x with
  | zero => simp [ctzN]
  | succ n ih =>
    obtain ⟨hle, hzero, hone⟩ := ih (x / 2)
    unfold ctzN
    split
    · rename_i hx
      exact ⟨by omega, by simp, fun _ => by simp [hx]⟩
    · rename_i hx
      refine ⟨by omega, fun k hk => ?_, fun h => ?_⟩
      · cases k with
        | zero => simp; omega
        | succ k => rw [Nat.testBit_succ, hzero k (by omega)]
      · rw [Nat.add_comm, Nat.testBit_succ, hone (by omega)]

/-- The count of leading zeros among the low n bits is that of the places above the highest 1 bit, or n. -/
theorem clzN_spec (n x : Nat) :
    clzN n x ≤ n ∧ (∀ k < clzN n x, x.testBit (n - 1 - k) = false) ∧
      (clzN n x < n → x.testBit (n - 1 - clzN n x) = true) := by
  induction n with
  | zero => simp [clzN]
  | succ n ih =>
    obtain ⟨hle, hzero, hone⟩ := ih
    have htop : x.testBit n = decide (x / 2 ^ n % 2 = 1) := Nat.testBit_eq_decide_div_mod_eq
    unfold clzN
    split
    · rename_i hx
      exact ⟨by omega, by simp, fun _ => by simp [htop, hx]⟩
    · rename_i hx
      refine ⟨by omega, fun k hk => ?_, fun h => ?_⟩
      · cases k with
        | zero => simp [htop, hx]
        | succ k => rw [show n + 1 - 1 - (k + 1) = n - 1 - k by omega, hzero k (by omega)]
      · rw [show n + 1 - 1 - (1 + clzN n x) = n - 1 - clzN n x by omega, hone (by omega)]

theorem toNat_toW_of_le {n : Nat} (h : n ≤ 64) : (toW n).toNat = n := by
  rw [BitVec.toNat_ofNat, Nat.mod_eq_of_lt (by omega)]

/-! ### Bytes (R101) -/

theorem leNat_lt (l : List Byte) : leNat l < 2 ^ (8 * l.length) := by
  induction l with
  | nil => simp [leNat]
  | cons b r ih =>
    have hb := b.isLt
    have hp : 2 ^ (8 * (r.length + 1)) = 256 * 2 ^ (8 * r.length) := by rw [Nat.mul_succ, Nat.pow_add, Nat.mul_comm]
    simp only [leNat, List.length_cons, hp]
    omega

/-- A byte of the number that bytes hold (R4). -/
theorem leNat_byte (l : List Byte) {k : Nat} (h : k < l.length) : leNat l / 2 ^ (8 * k) % 2 ^ 8 = l[k].toNat := by
  induction l generalizing k with
  | nil => simp at h
  | cons b r ih =>
    have hb := b.isLt
    cases k with
    | zero => simp [leNat]; omega
    | succ k =>
      have hp : 2 ^ (8 * (k + 1)) = 256 * 2 ^ (8 * k) := by rw [Nat.mul_succ, Nat.pow_add, Nat.mul_comm]
      rw [leNat, hp, ← Nat.div_div_eq_div_mul, show (b.toNat + 256 * leNat r) / 256 = leNat r by omega]
      exact ih (by simpa using h)

theorem bswapW_byte (x : Word) {k : Nat} (h : k < 8) : (bswapW x).extractLsb' (8 * k) 8 = x.extractLsb' (56 - 8 * k) 8 := by
  have hlen : (leBytes 8 x.toNat).reverse.length = 8 := by simp
  have hlt := leNat_lt (leBytes 8 x.toNat).reverse
  rw [hlen] at hlt
  apply BitVec.eq_of_toNat_eq
  rw [bswapW, BitVec.extractLsb'_toNat, BitVec.toNat_ofNat, Nat.mod_eq_of_lt hlt, Nat.shiftRight_eq_div_pow,
    leNat_byte _ (by omega), List.getElem_reverse, leBytes_word, leBytes_length, show 8 * (8 - 1 - k) = 56 - 8 * k by omega]

/-! ### Fields (R101) -/

/-- The position of a field is gb[5:0]. -/
theorem sh6_eq (y : Word) : sh6 y = (y.extractLsb' 0 6).toNat := by
  rw [BitVec.extractLsb'_toNat]
  rfl

/-- The width of a field is gb[12:6], at most 64. -/
theorem fieldW_eq (y : Word) : fieldW y = min (y.extractLsb' 6 7).toNat 64 := by
  rw [BitVec.extractLsb'_toNat]
  rfl

theorem bextW_bit (x y : Word) {j : Nat} (h : j < 64) :
    (bextW x y).getLsbD j = (decide (j < fieldW y) && x.getLsbD (sh6 y + j)) := by
  rw [bextW, BitVec.getLsbD_ofNat, Nat.testBit_mod_two_pow, Nat.testBit_shiftRight, BitVec.testBit_toNat]
  simp [h]

theorem fieldMask_bit (y : Word) {j : Nat} (h : j < 64) :
    (fieldMask y).getLsbD j = decide (sh6 y ≤ j ∧ j < sh6 y + fieldW y) := by
  rw [fieldMask, BitVec.getLsbD_ofNat, Nat.testBit_shiftLeft, Nat.testBit_two_pow_sub_one]
  simp only [h, decide_true, Bool.true_and, ← Bool.decide_and, decide_eq_decide]
  omega

theorem binsW_bit (old x y : Word) {j : Nat} (h : j < 64) :
    (binsW old x y).getLsbD j = if sh6 y ≤ j ∧ j < sh6 y + fieldW y then x.getLsbD (j - sh6 y) else old.getLsbD j := by
  rw [binsW, BitVec.getLsbD_or, BitVec.getLsbD_and, BitVec.getLsbD_and, BitVec.getLsbD_not, BitVec.getLsbD_shiftLeft,
    fieldMask_bit y h]
  by_cases hin : sh6 y ≤ j ∧ j < sh6 y + fieldW y
  · simp [h, hin, Nat.not_lt.2 hin.1]
  · simp [h, hin]

/-- Settles O12: each instruction writes one register, whose bits the lemmas on its value give. -/
theorem bitResults : Obligations.BitResults := by
  unfold Obligations.BitResults
  intro s c f d a b m
  refine ⟨fun h => ?_, fun h => ?_⟩
  · obtain ⟨hcle, hczero, hcone⟩ := clzN_spec 64 (f.reg a).toNat
    obtain ⟨htle, htzero, htone⟩ := ctzN_spec 64 (f.reg a).toNat
    refine ⟨aluOp_writes h (congrArg toW (popcN_eq ..)), ⟨_, aluOp_runs h, ?_⟩, ⟨_, aluOp_runs h, ?_⟩,
      ⟨_, aluOp_runs h, fun k hk => bswapW_byte _ hk⟩, aluOp_runs h, aluOp_runs h⟩
    · rw [toNat_toW_of_le hcle]
      exact ⟨hcle, hczero, hcone⟩
    · rw [toNat_toW_of_le htle]
      exact ⟨htle, htzero, htone⟩
  · simp only [← sh6_eq, ← fieldW_eq]
    exact ⟨⟨_, aluOp_runs h, fun j hj => bextW_bit _ _ hj⟩, ⟨_, aluOp_runs h, fun j hj => binsW_bit _ _ _ hj⟩⟩

end Sys2Proof.Machine
end

section
/-!
SUPPORT and PROOF. The PC after an instruction, branches, jumps and hardware loops (O13, O14).
-/
namespace Sys2Proof.Machine

/-! ### The loop-end test (R108, R110) -/

theorem loopEnd_cons_ne {a : Word} {x : LoopEnt} (h : x.stop ≠ a) (r : List LoopEnt) : loopEnd a (x :: r) = (x :: r, none) := by
  simp [loopEnd, h]

theorem loopEnd_cons_again {a : Word} {x : LoopEnt} (h : x.stop = a) (hx : 1 < x.rem) (r : List LoopEnt) :
    loopEnd a (x :: r) = ({ x with rem := x.rem - 1 } :: r, some x.start) := by
  have hx : 1 < x.rem.toNat := hx
  simp [loopEnd, h, hx]

theorem loopEnd_cons_last {a : Word} {x : LoopEnt} (h : x.stop = a) (hx : x.rem ≤ 1) (r : List LoopEnt) :
    loopEnd a (x :: r) = loopEnd a r := by
  have hx : x.rem.toNat ≤ 1 := hx
  simp [loopEnd, h, hx]

theorem Fibre.nextPc_handler {f : Fibre} (h : f.hm = true) : f.nextPc = { f with pc := f.pc + 4 } := by
  simp [Fibre.nextPc, h]

theorem Fibre.nextPc_ordinary {f : Fibre} (h : f.hm = false) :
    f.nextPc = { f with loops := (loopEnd f.pc f.loops).1, pc := (loopEnd f.pc f.loops).2.getD (f.pc + 4) } := by
  simp [Fibre.nextPc, h]

/-- Settles O14: along the loop-end test of the innermost loop. -/
theorem nextPcRule : Obligations.NextPcRule := by
  unfold Obligations.NextPcRule
  intro f x r
  refine ⟨Fibre.nextPc_handler, fun hm hl => ?_, fun hm hl hs => ?_, fun hm hl hs hx => ?_, fun hm hl hs hx => ?_⟩ <;>
    rw [Fibre.nextPc_ordinary hm, hl]
  · simp [loopEnd, ← hl]
  · rw [loopEnd_cons_ne hs, ← hl]
    rfl
  · simp [loopEnd_cons_again hs hx]
  · rw [loopEnd_cons_last hs hx, Fibre.nextPc_ordinary (f := { f with loops := r }) hm]

/-! ### Branches and jumps (R104, R105) -/

/-- A body that changed the issuing fibre, PC included. -/
theorem finish_jumped {s : State} {f : Fibre} (e : s.curF = some f) (h : Fibre → Fibre) :
    s.finish f (.jumped (s.modCur h)) = s.retired { h f with wait := .ready } := by
  rw [State.modCur_eq_asFibre e, finish_jumped_asFibre]

section
variable {s : State} {c : BayCtx} {f : Fibre} {a b : GReg} {o : BitVec 17} {i : Instr} {cond : Word → Word → Bool}
variable (h : s.Issues (namedRegs i) c f) {p : Prop} [Decidable p]
include h

theorem branchOp_runs : branchOp i a b o cond s = .next
    (if cond (f.reg a) (f.reg b) = true then s.jumpedTo f (f.pc + 4 * o.signExtend 64) else s.retired f.retire) := by
  unfold branchOp
  rw [issue_runs h.ctx h.fibre h.full rfl h.frame, apply_ite (s.finish f), finish_jumped h.fibre, finish_done_self h.fibre]
  rfl

/-- A branch taken where p holds. -/
theorem branchOp_taken_if (e : cond (f.reg a) (f.reg b) = decide p) : branchOp i a b o cond s = .next
    (if p then s.jumpedTo f (f.pc + 4 * o.signExtend 64) else s.retired f.retire) := by
  simp only [branchOp_runs h, e, decide_eq_true_eq]

/-- A branch taken where p fails. -/
theorem branchOp_taken_unless (e : cond (f.reg a) (f.reg b) = !decide p) : branchOp i a b o cond s = .next
    (if p then s.retired f.retire else s.jumpedTo f (f.pc + 4 * o.signExtend 64)) := by
  simp only [branchOp_runs h, e, Bool.not_eq_true', decide_eq_false_iff_not, ite_not]

end

theorem decide_toInt_lt (x y : Word) : decide (x.toInt < y.toInt) = decide (x.slt y = true) := by simp [BitVec.slt]

theorem decide_toInt_le (x y : Word) : decide (y.toInt ≤ x.toInt) = !decide (x.slt y = true) := by
  simp only [BitVec.slt, decide_eq_true_eq, ← decide_not, not_lt]

theorem decide_toNat_le (x y : Word) : decide (y.toNat ≤ x.toNat) = !decide (x < y) := by
  rw [← decide_not]
  exact decide_eq_decide.2 Nat.not_lt.symm

/-- A jump to a register, which faults where that is misaligned (R105). -/
theorem finish_jump_aligned {s : State} {f : Fibre} (e : s.curF = some f) (x : Word) (g : Fibre → Fibre) :
    s.finish f (if x.toNat % 4 ≠ 0 then .fault .align x else .jumped (s.modCur g)) =
      if x.toNat % 4 = 0 then s.retired { g f with wait := .ready } else s.raise f .align x := by
  rw [apply_ite (s.finish f), finish_jumped e, finish_fault, ite_not]

theorem execJmp_runs {s : State} {c : BayCtx} {f : Fibre} {o : BitVec 26} (h : s.Issues [] c f) :
    exec (.jmp o) s = .next (s.jumpedTo f (f.pc + 4 * o.signExtend 64)) := by
  show execJmp o s = _
  rw [execJmp, issue_runs (i := .jmp o) h.ctx h.fibre h.full rfl h.frame, finish_jumped h.fibre]
  rfl

theorem execCall_runs {s : State} {c : BayCtx} {f : Fibre} {o : BitVec 26} (h : s.Issues [7] c f) :
    exec (.call o) s = .next (s.jumpedTo (f.setReg 7 (f.pc + 4)) (f.pc + 4 * o.signExtend 64)) := by
  show execCall o s = _
  rw [execCall, issue_runs (i := .call o) h.ctx h.fibre h.full rfl h.frame, finish_jumped h.fibre]
  rfl

theorem execJr_runs {s : State} {c : BayCtx} {f : Fibre} {a : GReg} (h : s.Issues [a] c f) :
    exec (.jr a) s = .next (if (f.reg a).toNat % 4 = 0 then s.jumpedTo f (f.reg a) else s.raise f .align (f.reg a)) := by
  show execJr a s = _
  rw [execJr, issue_runs (i := .jr a) h.ctx h.fibre h.full rfl h.frame, finish_jump_aligned h.fibre]
  rfl

theorem execCallr_runs {s : State} {c : BayCtx} {f : Fibre} {a : GReg} (h : s.Issues [a, 7] c f) :
    exec (.callr a) s = .next (if (f.reg a).toNat % 4 = 0 then s.jumpedTo (f.setReg 7 (f.pc + 4)) (f.reg a)
      else s.raise f .align (f.reg a)) := by
  show execCallr a s = _
  rw [execCallr, issue_runs (i := .callr a) h.ctx h.fibre h.full rfl h.frame, finish_jump_aligned h.fibre]
  rfl

/-! ### Hardware loops (R106 to R110) -/

/-- The fibre after LOOP with a count w (R107). -/
def Fibre.looped (f : Fibre) (l : BitVec 2) (w : Word) (e : BitVec 10) : Fibre :=
  let stop := f.pc + 4 * e.setWidth 64
  if w = 0 then { f with pc := stop + 4, wait := .ready } else
    { f with
      loops := { start := f.pc + 4, stop := stop, rem := w } :: f.loops.drop (f.loops.length - l.toNat)
      pc := f.pc + 4
      wait := .ready }

theorem finish_loopOp {s : State} {f : Fibre} (hf : s.curF = some f) {l : BitVec 2} (hl : l.toNat ≤ f.loops.length) (w : Word)
    (e : BitVec 10) : s.finish f (loopOp l w e f s) = s.retired (f.looped l w e) := by
  unfold loopOp Fibre.looped
  rw [if_neg (Nat.not_lt.2 hl)]
  by_cases hw : w = 0
  · simp only [if_pos hw, finish_jumped hf]
  · simp only [if_neg hw, finish_jumped hf]

theorem finish_loopOp_lstack {s : State} {f : Fibre} {l : BitVec 2} (hl : f.loops.length < l.toNat) (w : Word) (e : BitVec 10) :
    s.finish f (loopOp l w e f s) = s.raise f .lstack (l.setWidth 64) := by
  unfold loopOp
  rw [if_pos hl, finish_fault]

section
variable {s : State} {c : BayCtx} {f : Fibre} {a : GReg} {l : BitVec 2} {k e : BitVec 10}

theorem notHandler_ordinary {i : Instr} (hm : f.hm = false) : notHandler i c f = none := by simp [notHandler, hm]

/-- LOOP and LBRK are ILLEGAL in handler mode (R110). -/
theorem issue_notHandler {i : Instr} {body : BayCtx → Fibre → State → Res} (h : s.Issues (namedRegs i) c f) (hm : f.hm = true) :
    issue i (notHandler i) body s = .next (s.raise f .illegal (wordOf i)) :=
  issue_early h.ctx h.fibre h.full (by simp [notHandler, hm])

theorem execLoop_runs (h : s.Issues [] c f) (hm : f.hm = false) :
    exec (.loop l k e) s = .next (s.finish f (loopOp l (k.setWidth 64) e f s)) :=
  issue_runs (i := .loop l k e) h.ctx h.fibre h.full (notHandler_ordinary hm) h.frame

theorem execLoopReg_runs (h : s.Issues [a] c f) (hm : f.hm = false) :
    exec (.loopReg l a e) s = .next (s.finish f (loopOp l (f.reg a) e f s)) :=
  issue_runs (i := .loopReg l a e) h.ctx h.fibre h.full (notHandler_ordinary hm) h.frame

end

/-- A level above the innermost one has no entry (R106). -/
theorem Fibre.loopAt_none {f : Fibre} {l : Nat} (h : f.loops.length ≤ l) : f.loopAt l = none := if_neg (Nat.not_lt.2 h)

/-- The entry of a level is the one with as many loops outside it (R106). -/
theorem Fibre.loopAt_append {f : Fibre} {inner outer : List LoopEnt} {x : LoopEnt} (h : f.loops = inner ++ x :: outer) :
    f.loopAt outer.length = some x := by
  have hlen : f.loops.length = inner.length + (outer.length + 1) := by rw [h, List.length_append, List.length_cons]
  rw [Fibre.loopAt, if_pos (by omega), hlen, show inner.length + (outer.length + 1) - 1 - outer.length = inner.length by omega, h,
    List.getElem?_append_right (le_refl _), Nat.sub_self]
  rfl

theorem execLbrk_none {s : State} {c : BayCtx} {f : Fibre} {l : BitVec 2} (h : s.Issues [] c f) (hm : f.hm = false)
    (hl : f.loops.length ≤ l.toNat) : exec (.lbrk l) s = .next (s.raise f .lstack (l.setWidth 64)) := by
  show execLbrk l s = _
  rw [execLbrk, issue_runs (i := .lbrk l) h.ctx h.fibre h.full (notHandler_ordinary hm) h.frame, Fibre.loopAt_none hl]
  rfl

theorem execLbrk_leaves {s : State} {c : BayCtx} {f : Fibre} {l : BitVec 2} {inner outer : List LoopEnt} {x : LoopEnt}
    (h : s.Issues [] c f) (hm : f.hm = false) (hl : f.loops = inner ++ x :: outer) (ho : outer.length = l.toNat) :
    exec (.lbrk l) s = .next (s.retired { f with pc := x.stop + 4, loops := outer, wait := .ready }) := by
  have hdrop : f.loops.drop (f.loops.length - outer.length) = outer := by
    rw [hl, List.length_append, List.length_cons, List.append_cons]
    exact List.drop_left' (by simp; omega)
  show execLbrk l s = _
  rw [execLbrk, issue_runs (i := .lbrk l) h.ctx h.fibre h.full (notHandler_ordinary hm) h.frame, ← ho, Fibre.loopAt_append hl, hdrop]
  exact congrArg _ (finish_jumped h.fibre _)

/-- Settles O13: branches along their condition, jumps along the alignment of their target, loops along their level. -/
theorem branchAndLoopResults : Obligations.BranchAndLoopResults := by
  unfold Obligations.BranchAndLoopResults
  refine ⟨fun s c f a b q r => ⟨fun h => ⟨?_, ?_, ?_, ?_, ?_, ?_, ?_, ?_⟩, execJmp_runs, execCall_runs, execJr_runs, execCallr_runs⟩,
    fun s c f d a l k e => ⟨fun h hm hl => ?_, fun h hm hl => ?_, fun h hm hl => ?_, fun h hm hl => ?_, fun h hm => ⟨?_, ?_⟩,
      fun h hm => ?_, execLbrk_none, fun outer inner x hl ho => ⟨fun h hm => execLbrk_leaves h hm hl ho, fun h => ?_⟩,
      fun h hl => ?_⟩⟩
  · exact (branchOp_taken_if h rfl : execBeq a b q s = _)
  · exact (branchOp_taken_unless h rfl : execBne a b q s = _)
  · exact (branchOp_taken_if h (decide_toInt_lt ..) : execBlt a b q s = _)
  · exact (branchOp_taken_unless h (decide_toInt_le ..) : execBge a b q s = _)
  · exact (branchOp_taken_if h rfl : execBltu a b q s = _)
  · exact (branchOp_taken_unless h (decide_toNat_le ..) : execBgeu a b q s = _)
  · exact (branchOp_taken_unless h (congrArg _ Bool.decide_eq_true.symm) : execBbc a b q s = _)
  · exact (branchOp_taken_if h Bool.decide_eq_true.symm : execBbs a b q s = _)
  · rw [execLoop_runs h hm, finish_loopOp h.fibre hl]
    rfl
  · rw [execLoopReg_runs h hm, finish_loopOp h.fibre hl]
    rfl
  · rw [execLoop_runs h hm, finish_loopOp_lstack hl]
  · rw [execLoopReg_runs h hm, finish_loopOp_lstack hl]
  · exact issue_notHandler (i := .loop l k e) h hm
  · exact (issue_notHandler (i := .lbrk l) h hm : execLbrk l s = _)
  · exact issue_notHandler (i := .loopReg l a e) h hm
  · exact aluOp_writes h (by rw [← ho, Fibre.loopAt_append hl])
  · exact aluOp_writes h (by rw [Fibre.loopAt_none hl])

end Sys2Proof.Machine
end

section
/-!
SUPPORT and PROOF. The state in which a fibre starts, its status word, and NOP, TRAP and HRET (O15, O16, O17).
-/
namespace Sys2Proof.Machine

/-! ### Fields of a word given as a sum (R8) -/

/-- A bit of a word. -/
theorem getLsbD_toW {n k : Nat} {b : Bool} (hk : k < 64) (h : n / 2 ^ k % 2 = b.toNat) : (toW n).getLsbD k = b := by
  rw [BitVec.getLsbD_ofNat, Nat.testBit_eq_decide_div_mod_eq, h]
  cases b <;> simp [hk]

/-- A field of a word. -/
theorem extractLsb'_toW {n k w : Nat} (hk : k + w ≤ 64) : ((toW n).extractLsb' k w).toNat = n / 2 ^ k % 2 ^ w := by
  rw [BitVec.extractLsb'_toNat, BitVec.toNat_ofNat, ← Nat.shiftRight_eq_div_pow]
  refine Nat.eq_of_testBit_eq fun i => ?_
  simp only [Nat.testBit_mod_two_pow, Nat.testBit_shiftRight]
  by_cases hi : i < w
  · simp [hi, show k + i < 64 by omega]
  · simp [hi]

theorem extractLsb'_toW_eq {n k w : Nat} {v : BitVec w} (hk : k + w ≤ 64) (h : n / 2 ^ k % 2 ^ w = v.toNat) :
    (toW n).extractLsb' k w = v :=
  BitVec.eq_of_toNat_eq ((extractLsb'_toW hk).trans h)

theorem ite_toNat (b : Bool) (n : Nat) : (if b then n else 0) = b.toNat * n := by cases b <;> simp

/-! ### The start of a fibre (R87) -/

theorem Fibre.start_reg (u : Nat) (entry arg : Word) (p : BitVec 3) (r : GReg) :
    (Fibre.start u entry arg p).reg r = if r = 1 then arg else 0 := by
  have hr : 1 = r.toNat ↔ r = 1 := eq_comm.trans (BitVec.toNat_inj (y := 1#3))
  simp only [Fibre.reg, Fibre.start, Vector.getElem_set, Vector.getElem_replicate, hr]

/-- Settles O15: every field of the fibre stands in its start. -/
theorem fibreStart : Obligations.FibreStart := by
  unfold Obligations.FibreStart
  intro u entry arg p
  refine ⟨rfl, by rw [Fibre.start_reg]; rfl, fun r hr => by rw [Fibre.start_reg, if_neg hr], fun r => by simp [Fibre.isEmpty, Fibre.start],
    rfl, rfl, rfl, rfl, rfl, rfl, rfl, ?_⟩
  apply BitVec.eq_of_toNat_eq
  simp [Fibre.fstat, Fibre.start]

/-! ### The status word (R88, R115) -/

/-- The instructions of an open frame that are still to be captured (R111). -/
def Fibre.toCapture (f : Fibre) : Nat := match f.frame with | some x => x.left | none => 0

theorem Fibre.fstat_eq (f : Fibre) : f.fstat = toW (f.toCapture * 2 ^ 16 + f.vctx.isSome.toNat * 2 ^ 11 + f.vctx.getD 0 * 2 ^ 8
    + f.loops.length * 16 + f.hm.toNat * 8 + f.pri.toNat) := by
  have hv : (match f.vctx with | some v => 2 ^ 11 + v * 2 ^ 8 | none => 0)
      = f.vctx.isSome.toNat * 2 ^ 11 + f.vctx.getD 0 * 2 ^ 8 := by
    cases f.vctx <;> simp
  rw [Nat.add_assoc (f.toCapture * 2 ^ 16), ← hv, ← ite_toNat f.hm 8]
  rfl

theorem execSysrd_runs {s : State} {c : BayCtx} {f : Fibre} {d : GReg} (h : s.Issues [d] c f) (n : BitVec 14) :
    exec (.sysrd d n) s = .next (s.result f d (sysReg s c f n.toNat)) := by
  show execSysrd d n s = _
  rw [execSysrd, issue_runs (i := .sysrd d n) h.ctx h.fibre h.full rfl h.frame, finish_setReg h.fibre]

theorem execSyswr_runs {s : State} {c : BayCtx} {f : Fibre} {a : GReg} (h : s.Issues [a] c f) {n : BitVec 14}
    (hn : (isHandlerReg n.toNat && !f.hm) = false) :
    exec (.syswr a n) s = .next (writeSys s n.toNat (f.reg a)).retireCur := by
  show execSyswr a n s = _
  rw [execSyswr, issue_runs (i := .syswr a n) h.ctx h.fibre h.full (by rw [hn]; rfl) h.frame]
  rfl

theorem State.retireCur_eq {s : State} {f : Fibre} (e : s.curF = some f) : s.retireCur = s.retired f.retire :=
  finish_done_self e

/-- Settles O16: the fields of FSTAT stand side by side in its sum. -/
theorem statusWord_fields : Obligations.StatusWord := by
  unfold Obligations.StatusWord
  intro f hl hv hf
  have hcap : f.toCapture ≤ 16 := by
    unfold Fibre.toCapture
    split
    · exact hf _ ‹_›
    · omega
  have hvc : f.vctx.getD 0 < 8 := by
    cases hx : f.vctx with
    | none => simp
    | some v => exact hv v hx
  have hb := f.vctx.isSome.toNat_le
  have hm := f.hm.toNat_le
  have hp := f.pri.isLt
  refine ⟨?_, ?_, ?_, ?_, ?_, ?_, ?_, ?_, ?_, fun s c d a => ⟨fun h => execSysrd_runs h 0, fun h => ?_⟩⟩
  case refine_10 =>
    rw [execSyswr_runs h rfl]
    exact congrArg _ (State.retireCur_eq h.fibre)
  all_goals rw [f.fstat_eq]
  · exact extractLsb'_toW_eq (by decide) (by omega)
  · exact getLsbD_toW (by decide) (by omega)
  · rw [extractLsb'_toW (by decide)]
    omega
  · exact getLsbD_toW (by decide) (by simp only [Bool.toNat_false]; omega)
  · rw [extractLsb'_toW (by decide)]
    omega
  · exact getLsbD_toW (by decide) (by omega)
  · exact extractLsb'_toW_eq (by decide) (by simp only [BitVec.ofNat_eq_ofNat, BitVec.toNat_ofNat]; omega)
  · rw [extractLsb'_toW (by decide)]
    show _ = f.toCapture
    omega
  · exact extractLsb'_toW_eq (by decide) (by simp only [BitVec.ofNat_eq_ofNat, BitVec.toNat_ofNat]; omega)

/-! ### NOP, TRAP and HRET (R117, R409, R411) -/

/-- The PC rule of R108 changes PC and the loop stack alone. -/
theorem Fibre.nextPc_eq (f : Fibre) : f.nextPc = { f with pc := f.nextPc.pc, loops := f.nextPc.loops } := by
  unfold Fibre.nextPc
  split <;> rfl

@[simp] theorem Fibre.retire_hm (f : Fibre) : f.retire.hm = f.hm := by rw [Fibre.retire, f.nextPc_eq]
@[simp] theorem Fibre.retire_ring (f : Fibre) : f.retire.ring = f.ring := by rw [Fibre.retire, f.nextPc_eq]
@[simp] theorem Fibre.retire_dfaults (f : Fibre) : f.retire.dfaults = f.dfaults := by rw [Fibre.retire, f.nextPc_eq]

@[simp] theorem State.retired_cur (s : State) (g : Fibre) : (s.retired g).cur = s.cur := State.countRetired_cur ..

theorem State.curF_retired {s : State} {f : Fibre} (e : s.curF = some f) (g : Fibre) : (s.retired g).curF = some g := by
  unfold State.curF
  rw [State.retired_cur, State.retired, State.countRetired_fib]
  exact State.curF_asFibre e g

/-- An entry to handler mode in ordinary mode with nothing outstanding (R409). -/
theorem State.enterHandler_ordinary {s : State} {f : Fibre} (e : s.curF = some f) (h : f.hm = false) (q : f.quiet)
    (c v w r : Word) : s.enterHandler s.cur f c v w r = s.entered f c v w r := by
  obtain ⟨hring, hdf⟩ := q
  simp only [State.enterHandler, State.enterNow, h, hring, hdf, List.isEmpty_nil, if_true, State.entered, Bool.false_eq_true,
    if_false]
  exact congrArg (State.countEntry · s.cur) (State.modCur_eq_asFibre e fun x => x.enter (s.hentryOf s.cur) c v w r)

/-- An instruction that retires its fibre as g and enters handler mode with an address of its own (R117). -/
theorem finish_enter_retired {s : State} {f g : Fibre} (e : s.curF = some f) (h : g.hm = false) (q : g.quiet) (k : Cause)
    (v r : Word) : s.finish f (.enter (s.retired g) k v r) = (s.retired g).entered g (causeWord k) v 0 r := by
  have hg := State.curF_retired e g
  simp only [State.finish, hg]
  rw [← State.enterHandler_ordinary hg h q, State.retired_cur]

theorem State.modCur_countRetired {s : State} {f : Fibre} (e : s.curF = some f) (h : Fibre → Fibre) :
    (s.modCur h).countRetired s.cur.bay s.cur.idx = s.retired (h f) := by
  rw [State.modCur_eq_asFibre e]
  rfl

section
variable {s : State} {c : BayCtx} {f : Fibre} {k : BitVec 14} (h : s.Issues [] c f)
include h

theorem execTrap_enters (hm : f.hm = false) (q : f.quiet) :
    exec (.trap k) s = .next ((s.retired f.retire).entered f.retire 8 (k.setWidth 64) 0 f.nextPc.pc) := by
  have hq : f.retire.quiet := ⟨by rw [Fibre.retire_ring, q.1], by rw [Fibre.retire_dfaults, q.2]⟩
  show execTrap k s = _
  rw [execTrap, issue_runs (i := .trap k) h.ctx h.fibre h.full rfl h.frame, hm, q.1, q.2, State.modCur_countRetired h.fibre]
  exact congrArg _ (finish_enter_retired h.fibre ((Fibre.retire_hm f).trans hm) hq ..)

theorem execHret_illegal (hm : f.hm = false) : exec .hret s = .next (s.raise f .illegal 0xF8200000) :=
  (issue_early (i := .hret) h.ctx h.fibre h.full (if_neg (by simp [hm])) : execHret s = _)

/-- The body of HRET in handler mode (R117). -/
theorem execHret_runs (hm : f.hm = true) : exec .hret s = .next (s.finish f
    (if !f.ring.isEmpty then .block 9
    else if !f.dfaults.isEmpty then .deferred
    else if f.hpc.toNat % 4 ≠ 0 then .enter (s.retired f.leave) .align f.hpc f.hpc
    else .jumped (s.modCur Fibre.leave))) := by
  show execHret s = _
  rw [execHret, issue_runs (i := .hret) h.ctx h.fibre h.full (if_pos hm) h.frame]
  simp only [State.modCur_countRetired h.fibre]

end

theorem oldest_nil : oldest [] = none := rfl

/-- Settles O17: each instruction along the checks of R117. -/
theorem nopTrapHret : Obligations.NopTrapHret := by
  unfold Obligations.NopTrapHret
  intro s c f k h
  refine ⟨?_, execTrap_enters h, execHret_illegal h, fun hm q ha => ?_, fun hm q ha => ?_, fun hm hr hw => ?_, fun hm hr x hx => ?_⟩
  · show execNop s = _
    rw [execNop, issue_runs (i := .nop) h.ctx h.fibre h.full rfl h.frame, finish_done_self h.fibre]
  all_goals rw [execHret_runs h hm]
  · rw [if_neg (by simp [q.1]), if_neg (by simp [q.2]), if_neg (not_not.2 ha), finish_jumped h.fibre]
    rfl
  · have hq : f.leave.quiet := q
    rw [if_neg (by simp [q.1]), if_neg (by simp [q.2]), if_pos ha]
    exact congrArg _ (finish_enter_retired h.fibre rfl hq ..)
  · rw [if_pos (by simpa using hr), State.finish, State.modCur_eq_asFibre h.fibre, if_neg (by rw [hw]; exact Wait.noConfusion)]
  · have hdf : f.dfaults ≠ [] := fun e => by rw [e, oldest_nil] at hx; cases hx
    rw [if_neg (by simp [hr]), if_pos (by simpa using hdf), State.finish, State.reportDeferred, hx]
    exact congrArg _ (if_pos hm)

end Sys2Proof.Machine
end

section
/-!
SUPPORT and PROOF. The system registers, the event counters, TIME and the instruction cache (O18, O19).
-/
namespace Sys2Proof.Machine

/-! ### System registers (R114, R417) -/

/-- The number of a register of a fault-ring window (R417). -/
theorem window_toNat {k j : Nat} (hk : k < 4) (hj : j < 16) : (BitVec.ofNat 14 (0x40 + 16 * k + j)).toNat = 0x40 + 16 * k + j := by
  rw [BitVec.toNat_ofNat]
  omega

theorem sysReg_window (s : State) (c : BayCtx) (f : Fibre) {k j : Nat} (hk : k < 4) (hj : j < 16) :
    sysReg s c f (BitVec.ofNat 14 (0x40 + 16 * k + j)).toNat = ringReg (c.ringOf k) k j := by
  rw [window_toNat hk hj]
  unfold sysReg
  iterate 9 rw [if_neg (by omega)]
  rw [if_pos (by omega), show (0x40 + 16 * k + j - 0x40) / 16 = k by omega, show (0x40 + 16 * k + j - 0x40) % 16 = j by omega]

theorem ringReg_zero_above (r : FRing) (e : Nat) {j : Nat} (h : 6 ≤ j) : ringReg r e j = 0 := by
  unfold ringReg
  dsimp only
  iterate 6 rw [if_neg (by omega)]

/-- RAUX of the copy engine holds the segment of a fault in its low 28 bits (R418). -/
theorem toW_mod_28 (x : Word) : toW (x.toNat % 2 ^ 28) = (x.setWidth 28).setWidth 64 := by
  apply BitVec.eq_of_toNat_eq
  simp only [BitVec.toNat_ofNat, BitVec.toNat_setWidth]

theorem FEnt.stat_eq (x : FEnt) : x.stat = toW (x.valid.toNat * 2 ^ 63 + x.done.toNat * 2 ^ 62 + x.flt.toNat * 2 ^ 61
    + x.pend.toNat * 2 ^ 60 + x.orph.toNat * 2 ^ 59 + x.sub.toNat * 2 ^ 8) := by
  simp only [FEnt.stat, ite_toNat]

/-- The fields of RSTAT (R418). -/
theorem FEnt.stat_fields (x : FEnt) : x.stat.getLsbD 63 = x.valid ∧ x.stat.getLsbD 62 = x.done ∧ x.stat.getLsbD 61 = x.flt ∧
    x.stat.getLsbD 60 = x.pend ∧ x.stat.getLsbD 59 = x.orph ∧ x.stat.extractLsb' 16 43 = 0 ∧ x.stat.extractLsb' 8 8 = x.sub ∧
    x.stat.extractLsb' 0 8 = 0 := by
  have hv := x.valid.toNat_le
  have hd := x.done.toNat_le
  have hf := x.flt.toNat_le
  have hp := x.pend.toNat_le
  have ho := x.orph.toNat_le
  have hs := x.sub.isLt
  rw [x.stat_eq]
  refine ⟨getLsbD_toW (by decide) ?_, getLsbD_toW (by decide) ?_, getLsbD_toW (by decide) ?_, getLsbD_toW (by decide) ?_,
    getLsbD_toW (by decide) ?_, extractLsb'_toW_eq (by decide) ?_, extractLsb'_toW_eq (by decide) ?_,
    extractLsb'_toW_eq (by decide) ?_⟩
  case refine_6 => show _ = 0; omega
  case refine_8 => show _ = 0; omega
  all_goals omega

/-- The fields of the bay's own word (R116). -/
theorem ownWord_fields {idx slots asid : Nat} (chip : BitVec 22) (hi : idx < 4) (h1 : 1 ≤ slots) (h2 : slots ≤ 256)
    (ha : asid < 65536) :
    let v := toW (chip.toNat * 2 ^ 42 + idx % 4 * 2 ^ 24 + (slots - 1) % 256 * 2 ^ 16 + asid % 2 ^ 16)
    v.extractLsb' 42 22 = chip ∧ v.extractLsb' 26 16 = 0 ∧ (v.extractLsb' 24 2).toNat = idx ∧
      (v.extractLsb' 16 8).toNat = slots - 1 ∧ (v.extractLsb' 0 16).toNat = asid := by
  have hc := chip.isLt
  refine ⟨extractLsb'_toW_eq (by decide) (by omega), extractLsb'_toW_eq (by decide) (by show _ = 0; omega), ?_, ?_, ?_⟩ <;>
    rw [extractLsb'_toW (by decide)] <;> omega

/-- SYSWR of a fibre's own register (R115). -/
theorem execSyswr_modCur {s : State} {c : BayCtx} {f : Fibre} {a : GReg} (h : s.Issues [a] c f) {n : BitVec 14}
    {g : Fibre → Fibre} (hn : (isHandlerReg n.toNat && !f.hm) = false) (hw : writeSys s n.toNat (f.reg a) = s.modCur g) :
    exec (.syswr a n) s = .next (s.retired (g f).retire) := by
  rw [execSyswr_runs h hn, hw, State.modCur_eq_asFibre h.fibre]
  exact congrArg _ (finish_done_asFibre s f (g f))

/-- SYSWR of a register that ignores it (R115). -/
theorem execSyswr_ignored {s : State} {c : BayCtx} {f : Fibre} {a : GReg} (h : s.Issues [a] c f) {n : BitVec 14}
    (hn : isHandlerReg n.toNat = false) (hw : writeSys s n.toNat (f.reg a) = s) :
    exec (.syswr a n) s = .next (s.retired f.retire) := by
  rw [execSyswr_runs h (by rw [hn]; rfl), hw, State.retireCur_eq h.fibre]

theorem writeSys_window (s : State) {k j : Nat} (hk : k < 4) (hj : 1 ≤ j) (hj' : j < 16) (v : Word) :
    writeSys s (BitVec.ofNat 14 (0x40 + 16 * k + j)).toNat v = s := by
  rw [window_toNat hk hj']
  unfold writeSys
  iterate 6 rw [if_neg (by omega)]

/-- A Handler register is ILLEGAL outside handler mode (R115, R123). -/
theorem execSyswr_illegal {s : State} {c : BayCtx} {f : Fibre} {a : GReg} (h : s.Issues [a] c f) {n : BitVec 14}
    (hn : isHandlerReg n.toNat = true) (hm : f.hm = false) :
    exec (.syswr a n) s = .next (s.raise f .illegal (wordOf (.syswr a n))) :=
  (issue_early (i := .syswr a n) h.ctx h.fibre h.full (if_pos (by rw [hn, hm]; rfl)) : execSyswr a n s = _)

/-- Settles O18: a read is the value of its register, a write the change of its own. -/
theorem systemRegisters : Obligations.SystemRegisters := by
  unfold Obligations.SystemRegisters
  intro s c f d a rings
  refine ⟨fun h => ?_, fun h => ?_⟩
  · refine ⟨execSysrd_runs h _, execSysrd_runs h _, execSysrd_runs h _, execSysrd_runs h _, execSysrd_runs h _, execSysrd_runs h _,
      execSysrd_runs h _, fun hi h1 h2 ha => ⟨_, execSysrd_runs h _, ownWord_fields s.chip hi h1 h2 ha⟩, execSysrd_runs h _,
      fun k r hr => ?_⟩
    have hk : k < 4 ∧ r = c.ringOf k := by
      rcases hr with ⟨rfl, rfl⟩ | ⟨rfl, rfl⟩ | ⟨rfl, rfl⟩ | ⟨rfl, rfl⟩ <;> exact ⟨by decide, rfl⟩
    obtain ⟨hk, rfl⟩ := hk
    have reads : ∀ {j v}, j < 16 → ringReg (c.ringOf k) k j = v →
        exec (.sysrd d (BitVec.ofNat 14 (0x40 + 16 * k + j))) s = .next (s.result f d v) := fun hj hv => by
      rw [execSysrd_runs h, sysReg_window s c f hk hj, hv]
    refine ⟨reads (by decide) rfl, reads (by decide) rfl, reads (by decide) rfl, reads (by decide) rfl, reads (by decide) ?_,
      fun j hj hj' => reads hj' (ringReg_zero_above _ _ hj), _, reads (by decide) rfl, FEnt.stat_fields _⟩
    rw [← toW_mod_28]
    rfl
  · refine ⟨execSyswr_modCur (n := 5) (g := fun x => { x with hscr := f.reg a }) h rfl rfl, fun hm => ?_, fun hm n hn => ?_,
      fun n hn => ?_, fun k j hk hj hj' => ?_, ?_⟩
    · have hn : ∀ n, (isHandlerReg n && !f.hm) = false := fun n => by rw [hm]; exact Bool.and_false _
      exact ⟨execSyswr_modCur (n := 1) (g := fun x => { x with hpc := f.reg a }) h (hn _) rfl,
        execSyswr_modCur (n := 2) (g := fun x => { x with hcause := f.reg a &&& 0xC00000000000FFFF#64 }) h (hn _) rfl,
        execSyswr_modCur (n := 3) (g := fun x => { x with hval := f.reg a }) h (hn _) rfl,
        execSyswr_modCur (n := 4) (g := fun x => { x with hseq := f.reg a }) h (hn _) rfl⟩
    · rcases hn with rfl | rfl | rfl | rfl <;> exact execSyswr_illegal h rfl hm
    · rcases hn with rfl | rfl | rfl | rfl <;> exact execSyswr_ignored h rfl rfl
    · have hn : isHandlerReg (BitVec.ofNat 14 (0x40 + 16 * k + j)).toNat = false := by
        rw [window_toNat hk hj', isHandlerReg, decide_eq_false (p := 0x40 + 16 * k + j ≤ 4) (by omega), Bool.and_false]
      exact execSyswr_ignored h hn (writeSys_window s hk hj hj' _)
    · exact ⟨execSyswr_runs h rfl, execSyswr_runs h rfl, execSyswr_runs h rfl, execSyswr_runs h rfl⟩

/-! ### The instruction cache (R120, R121) -/

theorem tfind_filter_key {α : Type} (q : Nat → Bool) (l : Tab α) (k : Nat) :
    tfind (l.filter fun p => q p.1) k = if q k then tfind l k else none := by
  induction l with
  | nil => simp [tfind]
  | cons p r ih =>
    obtain ⟨j, x⟩ := p
    by_cases hk : k = j
    · subst hk
      by_cases hq : q k <;> simp [tfind, hq, ih]
    · by_cases hq : q j <;> simp [tfind, hq, hk, ih]

/-- The lines that ICINV names are those of its context that begin in its n lines from the line of a on (R120). -/
theorem icDrop_find (l : Tab (BitVec 512)) (asid : Nat) (a : Word) (n : BitVec 14) (b : Nat) {line : Word}
    (hl : line.toNat % 64 = 0) :
    tfind (icDrop l asid a n.toNat) (b * 2 ^ 64 + line.toNat) =
      if b = asid ∧ (line - a / 64 * 64) / 64 < n.setWidth 64 then none else tfind l (b * 2 ^ 64 + line.toNat) := by
  have hline := line.isLt
  have ha := a.isLt
  have hn := n.isLt
  have hb : (b * 2 ^ 64 + line.toNat) / 2 ^ 64 = b := by omega
  have hd : (b * 2 ^ 64 + line.toNat + 2 ^ 64 - a.toNat / 64 * 64) % 2 ^ 64 < 64 * n.toNat ↔
      (line - a / 64 * 64) / 64 < n.setWidth 64 := by
    rw [BitVec.lt_def, BitVec.toNat_udiv, BitVec.toNat_sub, BitVec.toNat_mul, BitVec.toNat_udiv,
      BitVec.toNat_setWidth_of_le (by decide)]
    simp only [BitVec.reduceToNat]
    omega
  unfold icDrop
  rw [tfind_filter_key (fun k => !(decide (k / 2 ^ 64 = asid) && decide ((k + 2 ^ 64 - a.toNat / 64 * 64) % 2 ^ 64 < 64 * n.toNat)))]
  simp only [hb, hd, Bool.not_eq_true', Bool.and_eq_false_iff, decide_eq_false_iff_not, ← not_and_or, ite_not]

/-- What a retirement counts is no part of the instruction cache. -/
theorem State.countRetired_icache (s : State) (b i j : Nat) : ((s.countRetired b i).bay j).icache = (s.bay j).icache := by
  unfold State.countRetired
  split
  · unfold State.bump
    by_cases e : j = b
    · rw [e, State.bay_modBay_self]
      split <;> rfl
    · rw [State.bay_modBay_ne _ _ e]
      rfl
  · rfl

theorem State.modU_icache (s : State) (u : Nat) (h : Fibre → Fibre) (j : Nat) : ((s.modU u h).bay j).icache = (s.bay j).icache := by
  unfold State.bay State.modU
  rw [tget_tmap rfl]

theorem State.retireU_icache (s : State) (u : Nat) (h : Fibre → Fibre) (j : Nat) : ((s.retireU u h).bay j).icache = (s.bay j).icache := by
  unfold State.retireU
  dsimp only
  split
  · rw [State.countRetired_icache, State.modU_icache]
  · exact State.modU_icache ..

/-- A fibre that is named and retires (R95). -/
theorem State.fib_retireU {s : State} {u b i k : Nat} {f : Fibre} (e : s.fib b i k = some f) (hu : f.uid = u) (h : Fibre → Fibre) :
    (s.retireU u h).fib b i k = some (h f).retire := by
  have hs : (s.modU u fun x => (h x).retire).fib b i k = some (h f).retire := by
    rw [State.fib_modU, e]
    exact congrArg some (onU_of_uid hu _)
  unfold State.retireU
  dsimp only
  split
  · rwa [State.countRetired_fib]
  · exact hs

/-- What a bay holds beside its contexts is no part of their fibres. -/
theorem State.fib_modBay_of_ctxs (s : State) {b : Nat} {g : Bay → Bay} (hg : (g (s.bay b)).ctxs = (s.bay b).ctxs) (j i k : Nat) :
    (s.modBay b g).fib j i k = s.fib j i k := by
  unfold State.fib
  rw [State.bctx_modBay_of_ctxs s hg]

theorem State.modCur_icache (s : State) (h : Fibre → Fibre) (b : Nat) : ((s.modCur h).bay b).icache = (s.bay b).icache := by
  unfold State.modCur State.modF State.modC
  by_cases e : b = s.cur.bay
  · rw [e, State.bay_modBay_self]
  · rw [State.bay_modBay_ne _ _ e]

/-- ICINV removes its lines, and its fibre waits for the last of them (R120). -/
theorem execIcinv_waits {s : State} {c : BayCtx} {f : Fibre} {a : GReg} (h : s.Issues [a] c f) (n : BitVec 14) :
    ∃ t, exec (.icinv a n) s = .next t ∧ t.curF = some (f.block (.queued 0x0C) (s.bay s.cur.bay).cycle) ∧
      t.agenda = s.agenda ++ [s.newItem (.icinvDone f.uid (f.reg a) n.toNat)] ∧ SameMemory s t ∧
      (t.bay s.cur.bay).icache = icDrop (s.bay s.cur.bay).icache c.asid (f.reg a) n.toNat := by
  obtain ⟨z, hz⟩ : ∃ z, z = s.modBay s.cur.bay fun x => { x with icache := icDrop x.icache c.asid (f.reg a) n.toNat } := ⟨_, rfl⟩
  have hf : z.curF = some f := by
    rw [hz]
    exact (State.curF_modBay_of_ctxs rfl).trans h.fibre
  have hic : (z.bay s.cur.bay).icache = icDrop (s.bay s.cur.bay).icache c.asid (f.reg a) n.toNat := by rw [hz, State.bay_modBay_self]
  refine ⟨(z.modCur fun x => x.block (.queued 0x0C) (s.bay s.cur.bay).cycle).postFree (.icinvDone f.uid (f.reg a) n.toNat), ?_, ?_, ?_,
    fun b => ?_, ?_⟩
  · show execIcinv a n s = _
    rw [execIcinv, issue_runs (i := .icinv a n) h.ctx h.fibre h.full rfl h.frame, hz]
    rfl
  · exact (congrArg State.curF (State.modCur_eq_asFibre hf _)).trans (State.curF_asFibre hf _)
  · rw [hz]
    rfl
  · rw [hz]
    rfl
  · exact (State.modCur_icache ..).trans hic

/-- ICINV_DONE removes the lines once more and retires ICINV (R120). -/
theorem execIcinvDone_retires {s : State} {u n : Nat} {p : Cur} {x : Word} {f : Fibre} {y : BayCtx} (he : s.ev = .icinvDone u x n)
    (hp : s.findU u = some (p, f)) (hf : s.fib p.bay p.idx p.slot = some f) (hu : f.uid = u) (hw : f.wait = .queued 0x0C)
    (hy : s.bctx p.bay p.idx = some y) :
    ∃ t, exec .icinvDone s = .next t ∧ t.fib p.bay p.idx p.slot = some f.retire ∧ SameMemory s t ∧
      (t.bay p.bay).icache = icDrop (s.bay p.bay).icache y.asid x n := by
  refine ⟨(s.modBay p.bay fun b => { b with icache := icDrop b.icache y.asid x n }).retireU u id, ?_, ?_,
    fun b => by rw [State.retireU_mem]; rfl, ?_⟩
  · show execIcinvDone s = _
    simp only [execIcinvDone, he, hp, hw, hy, if_true]
  · exact State.fib_retireU ((State.fib_modBay_of_ctxs s (b := p.bay) rfl ..).trans hf) hu id
  · rw [State.retireU_icache, State.bay_modBay_self]

/-- Settles O19: the counters and the time are read into one register, and ICINV drops its lines at both ends of its wait. -/
theorem countersAndCache : Obligations.CountersAndCache := by
  unfold Obligations.CountersAndCache
  intro s c f d a k n
  refine ⟨fun h => ⟨?_, ?_⟩, fun h => ⟨?_, ?_⟩, fun u p x q y he hp hf hu hw hy => ?_⟩
  · show execEvsel a k s = _
    rw [execEvsel, issue_runs (i := .evsel a k) h.ctx h.fibre h.full rfl h.frame]
    rfl
  · obtain ⟨t, ht, hfib, hag, hmem, hic⟩ := execIcinv_waits h n
    exact ⟨t, ht, hfib, hag, hmem, fun asid _ line hl => by rw [hic, icDrop_find _ _ _ _ _ hl]⟩
  · show execTime d s = _
    rw [execTime, issue_runs (i := .time d) h.ctx h.fibre h.full rfl h.frame, finish_setReg h.fibre]
  · show execEvrd d k s = _
    rw [execEvrd, issue_runs (i := .evrd d k) h.ctx h.fibre h.full rfl h.frame, finish_setReg h.fibre]
  · obtain ⟨t, ht, hfib, hmem, hic⟩ := execIcinvDone_retires he hp hf hu hw hy
    exact ⟨t, ht, hfib, hmem, fun asid _ line hl => by rw [hic, icDrop_find _ _ _ _ _ hl]⟩

end Sys2Proof.Machine
end

section
/-!
SUPPORT and PROOF. An instruction that names an empty register does not issue (O20).
-/
namespace Sys2Proof.Machine

/-! ### Vector instructions that a frame may hold (R111, R248) -/

/-- The check of its own that a vector instruction has at issue (R254, R255, R259). -/
def vecOwnCheck (i : Instr) : BayCtx → Word → Word → Nat → Nat → Option (Cause × Word) :=
  match i with
  | .vins _ _ _ t | .vbcast _ _ _ t _ => laneCheck t
  | .vld .. | .vldb .. | .vst .. => vecMemCheck i false
  | .vlds .. | .vsts .. => vecMemCheck i true
  | _ => noVecCheck

/-- Every instruction of majors 0x34 to 0x39 goes into a queue or a frame with its operands and its own check (R247). -/
theorem exec_framed {i : Instr} (h : vecFramed i = true) (s : State) :
    exec i s = vecIssue i (vecX i) (vecY i) (vecOwnCheck i) s := by
  cases i with
  | vld | vlds | vldb | vst | vsts | vadd | vsub | vmul | vfma | vfms | vmin | vmax | vabs | vneg | vrsq | vrcp
  | vexp2 | vlog2 | vsqrt | vdiv | vadds | vmuls | vfmas | viadd | visub | vimul | vimin | vimax | viminu | vimaxu
  | vand | vor | vxor | vshl | vshr | vsar | viadds | vidx | vcmpeq | vcmplt | vcmple | vsel | vrsum | vrmax
  | vrmin | vshuf | vbcast | vrot | kand | kor | knot | vcvt | vcvtsr | vrng | vpack | vunpk | vcvtn4 | vcvtw4 => rfl
  | _ => cases h

/-! ### Every instruction issues as itself -/

/-- An answer that is an issue of i, or nothing changed (R51, R89). -/
def Issued (i : Instr) (s : State) (o : Out) : Prop := o = .next s ∨ ∃ e k, o = issue i e k s

theorem issue_issued (i e k s) : Issued i s (issue i e k s) := .inr ⟨e, k, rfl⟩
theorem aluOp_issued (i d v s) : Issued i s (aluOp i d v s) := issue_issued ..
theorem branchOp_issued (i a b o v s) : Issued i s (branchOp i a b o v s) := issue_issued ..
theorem openFrame_issued (i n v y t u s) : Issued i s (openFrame i n v y t u s) := issue_issued ..
theorem atomicOp_issued (i fn d a b g r p z s) : Issued i s (atomicOp i fn d a b g r p z s) := issue_issued ..
theorem fenceOp_issued (i a s) : Issued i s (fenceOp i a s) := issue_issued ..
theorem vecAsk_issued (i x c k n s) : Issued i s (vecAsk i x c k n s) := issue_issued ..
theorem vecIssue_issued (i x y c s) : Issued i s (vecIssue i x y c s) := issue_issued ..
theorem matIssue_issued (i m x y s) : Issued i s (matIssue i m x y s) := issue_issued ..
theorem rdvIssue_issued (i s) : Issued i s (rdvIssue i s) := issue_issued ..
theorem fabDesc_issued (i a x r p s) : Issued i s (fabDesc i a x r p s) := issue_issued ..

/-- A division waits for a busy divider, and issues as every other instruction where it is free (R89, R99). -/
theorem divOp_issued (i d a b v s) : Issued i s (divOp i d a b v s) := by
  unfold divOp
  split
  · exact .inl rfl
  · exact issue_issued ..

/-- Every instruction that has a word issues as itself, or leaves the state as it was (R51, R90). -/
theorem exec_issued {i : Instr} (h : encode i ≠ none) (s : State) : Issued i s (exec i s) := by
  cases i with
  | add | sub | and | or | xor | andn | sll | srl | sra | rol | slt | sltu | seq | min | max | minu | maxu | slli
  | srli | srai | sel | addw | subw | addi | andi | ori | xori | slti | sltiu | limm | lshi | mul | mulh | mulhu
  | mulw | popc | clz | ctz | bswap | bext | bins | sext | zext | addpc | lea | lcnt => exact aluOp_issued ..
  | vld | vlds | vldb | vst | vsts | vadd | vsub | vmul | vfma | vfms | vmin | vmax | vabs | vneg | vrsq | vrcp
  | vexp2 | vlog2 | vsqrt | vdiv | vadds | vmuls | vfmas | viadd | visub | vimul | vimin | vimax | viminu | vimaxu
  | vand | vor | vxor | vshl | vshr | vsar | viadds | vidx | vcmpeq | vcmplt | vcmple | vsel | vrsum | vrmax
  | vrmin | vshuf | vbcast | vrot | kand | kor | knot | vcvt | vcvtsr | vrng | vpack | vunpk | vcvtn4 | vcvtw4 => 
    rw [exec_framed rfl]
    exact vecIssue_issued ..
  | div d a b => exact (divOp_issued .. : Issued _ s (execDiv d a b s))
  | divu d a b => exact (divOp_issued .. : Issued _ s (execDivu d a b s))
  | rem d a b => exact (divOp_issued .. : Issued _ s (execRem d a b s))
  | remu d a b => exact (divOp_issued .. : Issued _ s (execRemu d a b s))
  | beq a b o => exact (branchOp_issued .. : Issued _ s (execBeq a b o s))
  | bne a b o => exact (branchOp_issued .. : Issued _ s (execBne a b o s))
  | blt a b o => exact (branchOp_issued .. : Issued _ s (execBlt a b o s))
  | bge a b o => exact (branchOp_issued .. : Issued _ s (execBge a b o s))
  | bltu a b o => exact (branchOp_issued .. : Issued _ s (execBltu a b o s))
  | bgeu a b o => exact (branchOp_issued .. : Issued _ s (execBgeu a b o s))
  | bbc a b o => exact (branchOp_issued .. : Issued _ s (execBbc a b o s))
  | bbs a b o => exact (branchOp_issued .. : Issued _ s (execBbs a b o s))
  | vrep n c y t u => exact (openFrame_issued .. : Issued _ s (execVrep n c y t u s))
  | vrepReg n a y t u => exact (openFrame_issued .. : Issued _ s (execVrepReg n a y t u s))
  | aadd d a b g r p y => exact (atomicOp_issued .. : Issued _ s (execAadd d a b g r p y s))
  | aand d a b g r p y => exact (atomicOp_issued .. : Issued _ s (execAand d a b g r p y s))
  | aor d a b g r p y => exact (atomicOp_issued .. : Issued _ s (execAor d a b g r p y s))
  | axor d a b g r p y => exact (atomicOp_issued .. : Issued _ s (execAxor d a b g r p y s))
  | amin d a b g r p y => exact (atomicOp_issued .. : Issued _ s (execAmin d a b g r p y s))
  | amax d a b g r p y => exact (atomicOp_issued .. : Issued _ s (execAmax d a b g r p y s))
  | aminu d a b g r p y => exact (atomicOp_issued .. : Issued _ s (execAminu d a b g r p y s))
  | amaxu d a b g r p y => exact (atomicOp_issued .. : Issued _ s (execAmaxu d a b g r p y s))
  | aswap d a b g r p y => exact (atomicOp_issued .. : Issued _ s (execAswap d a b g r p y s))
  | acas d a b g r p y => exact (atomicOp_issued .. : Issued _ s (execAcas d a b g r p y s))
  | stadd a b g r p y => exact (atomicOp_issued .. : Issued _ s (execStadd a b g r p y s))
  | stand a b g r p y => exact (atomicOp_issued .. : Issued _ s (execStand a b g r p y s))
  | stor a b g r p y => exact (atomicOp_issued .. : Issued _ s (execStor a b g r p y s))
  | stxor a b g r p y => exact (atomicOp_issued .. : Issued _ s (execStxor a b g r p y s))
  | stmin a b g r p y => exact (atomicOp_issued .. : Issued _ s (execStmin a b g r p y s))
  | stmax a b g r p y => exact (atomicOp_issued .. : Issued _ s (execStmax a b g r p y s))
  | stminu a b g r p y => exact (atomicOp_issued .. : Issued _ s (execStminu a b g r p y s))
  | stmaxu a b g r p y => exact (atomicOp_issued .. : Issued _ s (execStmaxu a b g r p y s))
  | fence k p => exact (fenceOp_issued .. : Issued _ s (execFence k p s))
  | fencea k p => exact (fenceOp_issued .. : Issued _ s (execFencea k p s))
  | vfree => exact (vecAsk_issued .. : Issued _ s (execVfree s))
  | vdrain => exact (vecAsk_issued .. : Issued _ s (execVdrain s))
  | vget imm a b t => exact (vecAsk_issued .. : Issued _ s (execVget imm a b t s))
  | mpass c a b f y => exact (matIssue_issued .. : Issued _ s (execMpass c a b f y s))
  | mzero c y => exact (matIssue_issued .. : Issued _ s (execMzero c y s))
  | mldw m a b y => exact (matIssue_issued .. : Issued _ s (execMldw m a b y s))
  | mrd c a y => exact (matIssue_issued .. : Issued _ s (execMrd c a y s))
  | mwr c a y => exact (matIssue_issued .. : Issued _ s (execMwr c a y s))
  | vtld c v q => exact (rdvIssue_issued .. : Issued _ s (execVtld c v q s))
  | vtst c v q => exact (rdvIssue_issued .. : Issued _ s (execVtst c v q s))
  | rput a x r p => exact (fabDesc_issued .. : Issued _ s (execRput a x r p s))
  | rget a x r p => exact (fabDesc_issued .. : Issued _ s (execRget a x r p s))
  | ramo a x r p => exact (fabDesc_issued .. : Issued _ s (execRamo a x r p s))
  | rspawn a x r p => exact (fabDesc_issued .. : Issued _ s (execRspawn a x r p s))
  | crd a x r p => exact (fabDesc_issued .. : Issued _ s (execCrd a x r p s))
  | crdg a x r p => exact (fabDesc_issued .. : Issued _ s (execCrdg a x r p s))
  | bayn d a b => exact (issue_issued .. : Issued _ s (execBayn d a b s))
  | baya d a b => exact (issue_issued .. : Issued _ s (execBaya d a b s))
  | jmp o => exact (issue_issued .. : Issued _ s (execJmp o s))
  | call o => exact (issue_issued .. : Issued _ s (execCall o s))
  | jr a => exact (issue_issued .. : Issued _ s (execJr a s))
  | callr a => exact (issue_issued .. : Issued _ s (execCallr a s))
  | loop l n e => exact (issue_issued .. : Issued _ s (execLoop l n e s))
  | loopReg l a e => exact (issue_issued .. : Issued _ s (execLoopReg l a e s))
  | lbrk l => exact (issue_issued .. : Issued _ s (execLbrk l s))
  | nop => exact (issue_issued .. : Issued _ s (execNop s))
  | trap imm => exact (issue_issued .. : Issued _ s (execTrap imm s))
  | hret => exact (issue_issued .. : Issued _ s (execHret s))
  | sysrd d n => exact (issue_issued .. : Issued _ s (execSysrd d n s))
  | syswr a n => exact (issue_issued .. : Issued _ s (execSyswr a n s))
  | evsel a c => exact (issue_issued .. : Issued _ s (execEvsel a c s))
  | evrd d c => exact (issue_issued .. : Issued _ s (execEvrd d c s))
  | time d => exact (issue_issued .. : Issued _ s (execTime d s))
  | icinv a l => exact (issue_issued .. : Issued _ s (execIcinv a l s))
  | fspawn d a b => exact (issue_issued .. : Issued _ s (execFspawn d a b s))
  | fspawnb d a b => exact (issue_issued .. : Issued _ s (execFspawnb d a b s))
  | fexit => exact (issue_issued .. : Issued _ s (execFexit s))
  | fid d => exact (issue_issued .. : Issued _ s (execFid d s))
  | fpri a => exact (issue_issued .. : Issued _ s (execFpri a s))
  | fyield => exact (issue_issued .. : Issued _ s (execFyield s))
  | fgo a => exact (issue_issued .. : Issued _ s (execFgo a s))
  | fpark => exact (issue_issued .. : Issued _ s (execFpark s))
  | fctx d => exact (issue_issued .. : Issued _ s (execFctx d s))
  | cbudget d => exact (issue_issued .. : Issued _ s (execCbudget d s))
  | spost a x r p => exact (issue_issued .. : Issued _ s (execSpost a x r p s))
  | swait a x r p => exact (issue_issued .. : Issued _ s (execSwait a x r p s))
  | stry a b x r p => exact (issue_issued .. : Issued _ s (execStry a b x r p s))
  | sread b x => exact (issue_issued .. : Issued _ s (execSread b x s))
  | sinit a x => exact (issue_issued .. : Issued _ s (execSinit a x s))
  | barr x r p => exact (issue_issued .. : Issued _ s (execBarr x r p s))
  | bwait x r p => exact (issue_issued .. : Issued _ s (execBwait x r p s))
  | bsync x r p => exact (issue_issued .. : Issued _ s (execBsync x r p s))
  | bmask a x => exact (issue_issued .. : Issued _ s (execBmask a x s))
  | bstat b x => exact (issue_issued .. : Issued _ s (execBstat b x s))
  | qpush a r => exact (issue_issued .. : Issued _ s (execQpush a r s))
  | qpop d r => exact (issue_issued .. : Issued _ s (execQpop d r s))
  | qpusht d a r => exact (issue_issued .. : Issued _ s (execQpusht d a r s))
  | qpopt d b r => exact (issue_issued .. : Issued _ s (execQpopt d b r s))
  | qfwd d r => exact (issue_issued .. : Issued _ s (execQfwd d r s))
  | qstat d r => exact (issue_issued .. : Issued _ s (execQstat d r s))
  | ldl d a y z o => exact (issue_issued .. : Issued _ s (execLdl d a y z o s))
  | stl d a y o => exact (issue_issued .. : Issued _ s (execStl d a y o s))
  | ldg d a y z o => exact (issue_issued .. : Issued _ s (execLdg d a y z o s))
  | stg d a y o => exact (issue_issued .. : Issued _ s (execStg d a y o s))
  | vbind => exact (issue_issued .. : Issued _ s (execVbind s))
  | cpy a x r p => exact (issue_issued .. : Issued _ s (execCpy a x r p s))
  | cpym a x r p => exact (issue_issued .. : Issued _ s (execCpym a x r p s))
  | cpyt a b x r p => exact (issue_issued .. : Issued _ s (execCpyt a b x r p s))
  | cpyq a b => exact (issue_issued .. : Issued _ s (execCpyq a b s))
  | mrcmd a b y => exact (issue_issued .. : Issued _ s (execMrcmd a b y s))
  | mgrant a b => exact (issue_issued .. : Issued _ s (execMgrant a b s))
  | rputi a b x r p => exact (issue_issued .. : Issued _ s (execRputi a b x r p s))
  | rsig a b x r p => exact (issue_issued .. : Issued _ s (execRsig a b x r p s))
  | crdq a b => exact (issue_issued .. : Issued _ s (execCrdq a b s))
  | flush p => exact (issue_issued .. : Issued _ s (execFlush p s))
  | flushc a p => exact (issue_issued .. : Issued _ s (execFlushc a p s))
  | strmq d a => exact (issue_issued .. : Issued _ s (execStrmq d a s))
  | carm a b x => exact (issue_issued .. : Issued _ s (execCarm a b x s))
  | cadd a b r p => exact (issue_issued .. : Issued _ s (execCadd a b r p s))
  | cread a b => exact (issue_issued .. : Issued _ s (execCread a b s))
  | cdisarm a b => exact (issue_issued .. : Issued _ s (execCdisarm a b s))
  | vsplat d b t k => exact (vecIssue_issued .. : Issued _ s (execVsplat d b t k s))
  | vins d imm b t => exact (vecIssue_issued .. : Issued _ s (execVins d imm b t s))
  | _ => exact absurd rfl h

/-- Settles O20: what issues tests its registers before it does anything else. -/
theorem emptyRegisterWaits : Obligations.EmptyRegisterWaits := by
  unfold Obligations.EmptyRegisterWaits
  intro i w s c f hw hc hf he hn
  obtain h | ⟨e, k, h⟩ := exec_issued (by rw [hw]; exact Option.some_ne_none w) s
  · exact h
  · obtain ⟨r, hr, hre⟩ := he
    rw [h]
    exact issue_waits hc hf (List.any_eq_true.2 ⟨r, hr, hre⟩) (List.any_eq_false.2 fun q hq => by rw [hn q hq]; decide)

end Sys2Proof.Machine
end

section
/-!
SUPPORT and PROOF. What the sequencer's register instructions leave alone (O7).
-/
namespace Sys2Proof.Machine

/-! ### The frame of one fibre -/

/-- A context that differs from x at most in its silence, the fault count of its launch and its end with the time of it. -/
def Ctx.Keeps (x y : Ctx) : Prop :=
  y = { x with silence := y.silence, launch := y.launch, ended := y.ended, endTime := y.endTime } ∧
    ∃ n, y.launch = x.launch.map fun l => { l with faults := n }

/-- From s to t nothing changed but the fibre at p, the event counters of the bays, the context a as `Ctx.Keeps` says, and what is in
flight. -/
structure FibreFrame (p : Cur) (a : Nat) (s t : State) : Prop where
  units : t = { s with bays := t.bays, ctxs := t.ctxs, agenda := t.agenda }
  fibs : ∀ b j k, (b, j, k) ≠ (p.bay, p.idx, p.slot) → t.fib b j k = s.fib b j k
  held : ∀ b j, (t.bctx b j).map (fun c => { c with slots := [] }) = (s.bctx b j).map fun c => { c with slots := [] }
  bays : ∀ b, t.bay b = { s.bay b with ctxs := (t.bay b).ctxs, evc := (t.bay b).evc }
  others : ∀ k, k ≠ a → t.ctx k = s.ctx k
  own : ∀ k x, s.ctx k = some x → ∃ y, t.ctx k = some y ∧ x.Keeps y

/-- The context at p, if there is one, is that of ASID a. -/
def State.HasAsid (s : State) (p : Cur) (a : Nat) : Prop := ∀ c, s.bctx p.bay p.idx = some c → c.asid = a

theorem Ctx.Keeps.refl (x : Ctx) : x.Keeps x := by
  refine ⟨rfl, ?_⟩
  cases h : x.launch with
  | none => exact ⟨0, rfl⟩
  | some l => exact ⟨l.faults, rfl⟩

theorem Ctx.Keeps.trans {x y z : Ctx} (h : x.Keeps y) (k : y.Keeps z) : x.Keeps z := by
  obtain ⟨h, n, hn⟩ := h
  obtain ⟨k, m, hm⟩ := k
  refine ⟨k.trans (by rw [h]), m, ?_⟩
  rw [hm, hn, Option.map_map]
  rfl

namespace FibreFrame

variable {p : Cur} {a : Nat} {s t u : State}

theorem refl (p : Cur) (a : Nat) (s : State) : FibreFrame p a s s :=
  ⟨rfl, fun _ _ _ _ => rfl, fun _ _ => rfl, fun _ => rfl, fun _ _ => rfl, fun _ x h => ⟨x, h, .refl x⟩⟩

theorem trans (h : FibreFrame p a s t) (k : FibreFrame p a t u) : FibreFrame p a s u where
  units := k.units.trans (by rw [h.units])
  fibs b j i e := (k.fibs b j i e).trans (h.fibs b j i e)
  held b j := (k.held b j).trans (h.held b j)
  bays b := (k.bays b).trans (by rw [h.bays b])
  others i e := (k.others i e).trans (h.others i e)
  own i x e := by
    obtain ⟨y, hy, hxy⟩ := h.own i x e
    obtain ⟨z, hz, hyz⟩ := k.own i y hy
    exact ⟨z, hz, hxy.trans hyz⟩

theorem cur (h : FibreFrame p a s t) : t.cur = s.cur := by rw [h.units]

theorem mem (h : FibreFrame p a s t) : t.mem = s.mem := by rw [h.units]

/-- Which context stands at p is part of what stays. -/
theorem hasAsid (h : FibreFrame p a s t) (hs : s.HasAsid p a) : t.HasAsid p a := by
  intro c hc
  have e := h.held p.bay p.idx
  rw [hc] at e
  obtain ⟨x, hx, hxc⟩ := Option.map_eq_some_iff.1 e.symm
  exact (congrArg BayCtx.asid hxc).symm.trans (hs x hx)

/-! ### The operations of an issue -/

/-- A change of the fibre at p. -/
theorem modF (p : Cur) (a : Nat) (s : State) (g : Fibre → Fibre) : FibreFrame p a s (s.modF p.bay p.idx p.slot g) where
  units := rfl
  fibs b j k e := State.fib_modF_ne s g (by simpa only [ne_eq, Prod.mk.injEq, not_and_or] using e)
  held b j := by
    unfold State.modF
    by_cases e : b = p.bay ∧ j = p.idx
    · obtain ⟨rfl, rfl⟩ := e
      rw [State.bctx_modC_self, Option.map_map]
      rfl
    · rw [State.bctx_modC_ne _ _ (not_and_or.1 e)]
  bays b := by
    unfold State.modF State.modC
    by_cases e : b = p.bay
    · rw [e, State.bay_modBay_self]
    · rw [State.bay_modBay_ne _ _ e]
  others _ _ := rfl
  own _ x e := ⟨x, e, .refl x⟩

/-- A change of context a that keeps what `Ctx.Keeps` names. -/
theorem modCtx (p : Cur) (a : Nat) (s : State) {g : Ctx → Ctx} (hg : ∀ x : Ctx, x.Keeps (g x)) : FibreFrame p a s (s.modCtx a g) where
  units := rfl
  fibs _ _ _ _ := rfl
  held _ _ := rfl
  bays _ := rfl
  others _ e := tfind_tmod_ne _ _ e
  own k x e := by
    by_cases hk : k = a
    · subst hk
      exact ⟨g x, (tfind_tmod_self ..).trans (congrArg (Option.map g) e), hg x⟩
    · exact ⟨x, (tfind_tmod_ne _ _ hk).trans e, .refl x⟩

/-- The event counters of a bay. -/
theorem bump (p : Cur) (a : Nat) (s : State) (b asid : Nat) (code : BitVec 16) (n : Nat) :
    FibreFrame p a s (s.bump b asid code n) where
  units := rfl
  fibs _ _ _ _ := by
    unfold State.fib
    rw [State.bctx_bump]
  held _ _ := by rw [State.bctx_bump]
  bays j := by
    unfold State.bump
    by_cases e : j = b
    · rw [e, State.bay_modBay_self]
      split <;> rfl
    · rw [State.bay_modBay_ne _ _ e]
  others _ _ := rfl
  own _ x e := ⟨x, e, .refl x⟩

theorem post (p : Cur) (a : Nat) (s : State) (lane : Nat) (ev : Ev) : FibreFrame p a s (s.post lane ev) :=
  ⟨rfl, fun _ _ _ _ => rfl, fun _ _ => rfl, fun _ => rfl, fun _ _ => rfl, fun _ x h => ⟨x, h, .refl x⟩⟩

theorem countRetired (h : s.HasAsid p a) : FibreFrame p a s (s.countRetired p.bay p.idx) := by
  unfold State.countRetired
  split
  · rename_i c hc
    rw [h c hc]
    exact (modCtx p a s (g := fun x => { x with silence := 0 }) fun x => ⟨rfl, (Ctx.Keeps.refl x).2⟩).trans (bump ..)
  · exact refl ..

theorem countEntry (h : s.HasAsid p a) : FibreFrame p a s (s.countEntry p) := by
  unfold State.countEntry
  split
  · rename_i c hc
    rw [h c hc]
    refine modCtx p a s fun x => ⟨rfl, ?_⟩
    cases x.launch with
    | none => exact ⟨0, rfl⟩
    | some l => exact ⟨l.faults + 1, rfl⟩
  · exact refl ..

theorem endCtx (p : Cur) (a : Nat) (s : State) (r : EndReason) (b : Nat) (l : List Word) : FibreFrame p a s (s.endCtx a r b l) :=
  (modCtx p a s (g := fun c => { c with
    ended := some (c.ended.getD r), endTime := if c.ended.isSome then c.endTime else s.time.count })
    fun x => ⟨rfl, (Ctx.Keeps.refl x).2⟩).trans (post ..)

theorem doubleFault (h : s.HasAsid p a) (f : Fibre) (x v q w : Word) : FibreFrame p a s (s.doubleFault p f x v q w) := by
  unfold State.doubleFault
  split
  · rename_i c hc
    rw [h c hc]
    exact (modF ..).trans (endCtx ..)
  · exact refl ..

theorem reportDeferred (h : s.HasAsid p a) (f : Fibre) : FibreFrame p a s (s.reportDeferred p f) := by
  unfold State.reportDeferred
  split
  · exact refl ..
  · split
    · exact doubleFault h ..
    · have k : ∀ g, FibreFrame p a s ((s.modF p.bay p.idx p.slot g).countEntry p) := fun g =>
        (modF p a s g).trans (countEntry ((modF p a s g).hasAsid h))
      dsimp only
      split
      · exact (k _).trans (bump ..)
      · exact k _

theorem enterHandler (h : s.HasAsid p a) (f : Fibre) (x v q w : Word) : FibreFrame p a s (s.enterHandler p f x v q w) := by
  unfold State.enterHandler
  split
  · exact doubleFault h ..
  · split
    · unfold State.enterNow
      split
      · exact (modF ..).trans (countEntry ((modF ..).hasAsid h))
      · exact reportDeferred h ..
    · exact modF ..

end FibreFrame

/-! ### What an issue of a register instruction answers -/

/-- At most one item more is in flight. -/
def AgendaGrows (s t : State) : Prop := t.agenda = s.agenda ∨ ∃ x, t.agenda = s.agenda ++ [x]

theorem doubleFault_agendaGrows (s : State) (p : Cur) (f : Fibre) (x v q w : Word) : AgendaGrows s (s.doubleFault p f x v q w) := by
  unfold State.doubleFault
  split
  · exact .inr ⟨_, rfl⟩
  · exact .inl rfl

theorem countEntry_agenda (s : State) (p : Cur) : (s.countEntry p).agenda = s.agenda := by
  unfold State.countEntry
  split <;> rfl

theorem reportDeferred_agendaGrows (s : State) (p : Cur) (f : Fibre) : AgendaGrows s (s.reportDeferred p f) := by
  unfold State.reportDeferred
  split
  · exact .inl rfl
  · split
    · exact doubleFault_agendaGrows ..
    · dsimp only
      split <;> exact .inl (countEntry_agenda ..)

theorem enterHandler_agendaGrows (s : State) (p : Cur) (f : Fibre) (x v q w : Word) : AgendaGrows s (s.enterHandler p f x v q w) := by
  unfold State.enterHandler
  split
  · exact doubleFault_agendaGrows ..
  · split
    · unfold State.enterNow
      split
      · exact .inl (countEntry_agenda ..)
      · exact reportDeferred_agendaGrows ..
    · exact .inl rfl

theorem AgendaGrows.of_eq {s t u : State} (h : AgendaGrows t u) (e : t.agenda = s.agenda) : AgendaGrows s u := by
  unfold AgendaGrows at h ⊢
  rwa [← e]

/-- The issuing fibre's own doing: what `FibreFrame` lets change, with nothing new in flight. -/
def OwnFrame (a : Nat) (s t : State) : Prop := FibreFrame s.cur a s t ∧ t.agenda = s.agenda

theorem OwnFrame.refl (a : Nat) (s : State) : OwnFrame a s s := ⟨.refl .., rfl⟩

theorem OwnFrame.modCur (a : Nat) (s : State) (g : Fibre → Fibre) : OwnFrame a s (s.modCur g) := ⟨.modF .., rfl⟩

/-- A retirement, or a jump: the fibre changes and is counted. -/
theorem OwnFrame.counted {a : Nat} {s t : State} (h : s.HasAsid s.cur a) (k : OwnFrame a s t) (g : Fibre → Fibre) :
    OwnFrame a s ((t.modCur g).countRetired s.cur.bay s.cur.idx) := by
  obtain ⟨k, ka⟩ := k
  have km : FibreFrame s.cur a t (t.modCur g) := by
    unfold State.modCur
    rw [k.cur]
    exact .modF ..
  have kt := k.trans km
  exact ⟨kt.trans (.countRetired (kt.hasAsid h)), (State.countRetired_agenda ..).trans ka⟩

/-- What the body of a register instruction answers: a state that the fibre's own doing gives, or a fault or a wait. -/
def Res.OwnOnly (a : Nat) (s : State) : Res → Prop
  | .done t => OwnFrame a s t
  | .jumped t => OwnFrame a s t
  | .enter t _ _ _ => OwnFrame a s t
  | .stay _ => False
  | .block _ => True
  | .fault _ _ => True
  | .deferred => True

theorem Res.ownOnly_ite {a : Nat} {s : State} {P : Prop} [Decidable P] {r q : Res} (hr : r.OwnOnly a s) (hq : q.OwnOnly a s) :
    (if P then r else q).OwnOnly a s := by
  split
  · exact hr
  · exact hq

/-- Every next state is s but for the issuing fibre and what `FibreFrame` lets change. -/
def OwnOnly (s : State) (o : Out) : Prop :=
  ∀ t, o = .next t → ∃ c, s.curC = some c ∧ FibreFrame s.cur c.asid s t ∧ AgendaGrows s t

theorem State.finish_frame {s : State} {a : Nat} (h : s.HasAsid s.cur a) (f : Fibre) {r : Res} (hr : r.OwnOnly a s) :
    FibreFrame s.cur a s (s.finish f r) ∧ AgendaGrows s (s.finish f r) := by
  cases r with
  | done t =>
    have k := OwnFrame.counted h hr Fibre.retire
    rw [← hr.1.cur] at k
    exact ⟨hr.1.cur ▸ k.1, .inl k.2⟩
  | jumped t =>
    have k := OwnFrame.counted h hr fun x => { x with wait := .ready }
    exact ⟨k.1, .inl k.2⟩
  | enter t x v q =>
    obtain ⟨k, ka⟩ := hr
    simp only [State.finish]
    split
    · exact ⟨k.trans (.enterHandler (k.hasAsid h) ..), (enterHandler_agendaGrows ..).of_eq ka⟩
    · exact ⟨k, .inl ka⟩
  | stay t => exact hr.elim
  | block code => exact ⟨.modF .., .inl rfl⟩
  | fault x v => exact ⟨.enterHandler h .., enterHandler_agendaGrows ..⟩
  | deferred => exact ⟨.reportDeferred h .., reportDeferred_agendaGrows ..⟩

theorem State.curC_hasAsid {s : State} {c : BayCtx} (h : s.curC = some c) : s.HasAsid s.cur c.asid :=
  fun _ hx => congrArg BayCtx.asid (Option.some.inj (hx.symm.trans h))

theorem issue_ownOnly {s : State} {i : Instr} {e : BayCtx → Fibre → Option (Cause × Word)} {k : BayCtx → Fibre → State → Res}
    (hk : ∀ c f, s.curC = some c → (k c f s).OwnOnly c.asid s) : OwnOnly s (issue i e k s) := by
  intro t h
  obtain ⟨c, f, hc, -, h⟩ := issue_cases h
  have ha := State.curC_hasAsid hc
  refine ⟨c, hc, ?_⟩
  obtain rfl | rfl | rfl | ⟨x, v, rfl⟩ | rfl := h
  · exact ⟨.refl .., .inl rfl⟩
  · exact ⟨.reportDeferred ha f, reportDeferred_agendaGrows ..⟩
  · exact ⟨.modF .., .inl rfl⟩
  · exact ⟨.enterHandler ha .., enterHandler_agendaGrows ..⟩
  · exact State.finish_frame ha f (hk c f hc)

/-! ### Each register instruction -/

theorem aluOp_ownOnly (i d v s) : OwnOnly s (aluOp i d v s) := issue_ownOnly fun _ _ _ => OwnFrame.modCur ..

theorem branchOp_ownOnly (i a b o v s) : OwnOnly s (branchOp i a b o v s) :=
  issue_ownOnly fun _ _ _ => Res.ownOnly_ite (OwnFrame.modCur ..) (OwnFrame.refl ..)

theorem loopOp_ownOnly (a : Nat) (l : BitVec 2) (n : Word) (e : BitVec 10) (f : Fibre) (s : State) : (loopOp l n e f s).OwnOnly a s :=
  Res.ownOnly_ite trivial (Res.ownOnly_ite (OwnFrame.modCur ..) (OwnFrame.modCur ..))

theorem execBayn_ownOnly (d a b s) : OwnOnly s (execBayn d a b s) :=
  issue_ownOnly fun _ _ _ => Res.ownOnly_ite trivial (Res.ownOnly_ite trivial (OwnFrame.modCur ..))

theorem execBaya_ownOnly (d a b s) : OwnOnly s (execBaya d a b s) :=
  issue_ownOnly fun _ _ _ => Res.ownOnly_ite trivial (Res.ownOnly_ite trivial (OwnFrame.modCur ..))

theorem execJr_ownOnly (a s) : OwnOnly s (execJr a s) :=
  issue_ownOnly fun _ _ _ => Res.ownOnly_ite trivial (OwnFrame.modCur ..)

theorem execCallr_ownOnly (a s) : OwnOnly s (execCallr a s) :=
  issue_ownOnly fun _ _ _ => Res.ownOnly_ite trivial (OwnFrame.modCur ..)

theorem execLbrk_ownOnly (l s) : OwnOnly s (execLbrk l s) := issue_ownOnly fun _ f _ => by
  cases f.loopAt l.toNat with
  | some e => exact OwnFrame.modCur ..
  | none => trivial

theorem execTrap_ownOnly (i s) : OwnOnly s (execTrap i s) := issue_ownOnly fun _ _ hc =>
  Res.ownOnly_ite (OwnFrame.refl ..) (Res.ownOnly_ite trivial (Res.ownOnly_ite trivial
    (OwnFrame.counted (State.curC_hasAsid hc) (OwnFrame.refl ..) _)))

theorem execHret_ownOnly (s) : OwnOnly s (execHret s) := issue_ownOnly fun _ _ hc =>
  Res.ownOnly_ite trivial (Res.ownOnly_ite trivial (Res.ownOnly_ite
    (OwnFrame.counted (State.curC_hasAsid hc) (OwnFrame.refl ..) _) (OwnFrame.modCur ..)))

/-- Every instruction of the class changes its own fibre alone (R95 to R110, R117). -/
theorem exec_registerOnly {i : Instr} (h : registerOnly i = true) (s : State) : OwnOnly s (exec i s) := by
  cases i with
  | add | sub | and | or | xor | andn | sll | srl | sra | rol | slt | sltu | seq | min | max | minu | maxu | slli
  | srli | srai | sel | addw | subw | addi | andi | ori | xori | slti | sltiu | limm | lshi | mul | mulh | mulhu
  | mulw | popc | clz | ctz | bswap | bext | bins | sext | zext | addpc | lea | lcnt => exact aluOp_ownOnly _ _ _ _
  | beq a b o => exact (branchOp_ownOnly _ _ _ _ _ _ : OwnOnly s (execBeq a b o s))
  | bne a b o => exact (branchOp_ownOnly _ _ _ _ _ _ : OwnOnly s (execBne a b o s))
  | blt a b o => exact (branchOp_ownOnly _ _ _ _ _ _ : OwnOnly s (execBlt a b o s))
  | bge a b o => exact (branchOp_ownOnly _ _ _ _ _ _ : OwnOnly s (execBge a b o s))
  | bltu a b o => exact (branchOp_ownOnly _ _ _ _ _ _ : OwnOnly s (execBltu a b o s))
  | bgeu a b o => exact (branchOp_ownOnly _ _ _ _ _ _ : OwnOnly s (execBgeu a b o s))
  | bbc a b o => exact (branchOp_ownOnly _ _ _ _ _ _ : OwnOnly s (execBbc a b o s))
  | bbs a b o => exact (branchOp_ownOnly _ _ _ _ _ _ : OwnOnly s (execBbs a b o s))
  | bayn d a b => exact execBayn_ownOnly d a b s
  | baya d a b => exact execBaya_ownOnly d a b s
  | jmp o => exact (issue_ownOnly fun _ _ _ => OwnFrame.modCur .. : OwnOnly s (execJmp o s))
  | call o => exact (issue_ownOnly fun _ _ _ => OwnFrame.modCur .. : OwnOnly s (execCall o s))
  | jr a => exact execJr_ownOnly a s
  | callr a => exact execCallr_ownOnly a s
  | loop l n e => exact (issue_ownOnly fun _ _ _ => loopOp_ownOnly .. : OwnOnly s (execLoop l n e s))
  | loopReg l a e => exact (issue_ownOnly fun _ _ _ => loopOp_ownOnly .. : OwnOnly s (execLoopReg l a e s))
  | lbrk l => exact execLbrk_ownOnly l s
  | nop => exact (issue_ownOnly fun _ _ _ => OwnFrame.refl .. : OwnOnly s (execNop s))
  | trap i => exact execTrap_ownOnly i s
  | hret => exact execHret_ownOnly s
  | time d => exact (issue_ownOnly fun _ _ _ => OwnFrame.modCur .. : OwnOnly s (execTime d s))
  | evrd d k => exact (issue_ownOnly fun _ _ _ => OwnFrame.modCur .. : OwnOnly s (execEvrd d k s))
  | _ => cases h

/-- Settles O7: what each instruction of the class may change is a frame that is transitive, so the operations of its issue compose. -/
theorem registerFrame : Obligations.RegisterFrame := by
  unfold Obligations.RegisterFrame
  intro i s t hi h
  obtain ⟨c, hc, k, ka⟩ := exec_registerOnly hi s t h
  refine ⟨k.units, fun b => by rw [k.mem], k.fibs, k.held, k.bays, fun a ha => k.others a (ha c hc).symm, fun a _ x _ hx => ?_, ka⟩
  obtain ⟨y, hy, he, hl⟩ := k.own a x hx
  exact ⟨y, hy, he, hl⟩

end Sys2Proof.Machine
end

section
/-!
SUPPORT and PROOF. Atomics on the scratchpad and on global memory (O23).
-/
namespace Sys2Proof.Machine

/-! ### The release component (R162, R372) -/

theorem withRelease_runs {s : State} {r : MemOrd} {p : Scope} {f : Fibre} (h : s.mayRelease r p f) (k : State → Res) :
    withRelease r p f s k = k (s.releaseMark r) := by
  obtain ⟨hw, hu⟩ := h
  have e : s.releaseWaits r p f = false := by
    unfold State.releaseWaits
    rw [hw, Bool.false_or, Bool.and_eq_false_iff]
    cases hr : hasRel r with
    | false => exact .inl rfl
    | true => exact .inr (hu hr)
  rw [withRelease, e]
  rfl

theorem State.releaseMark_frame (s : State) (a : Nat) (r : MemOrd) : OwnFrame a s (s.releaseMark r) := by
  unfold State.releaseMark
  split
  · exact .modCur ..
  · exact .refl ..

theorem State.curF_releaseMark {s : State} {f : Fibre} (h : s.curF = some f) (r : MemOrd) :
    (s.releaseMark r).curF = some (f.marked s r) := by
  unfold State.releaseMark Fibre.marked
  split
  · rw [State.modCur_eq_asFibre h, State.curF_asFibre h]
  · exact h

theorem State.releaseMark_bad (s : State) (r : MemOrd) (key n : Nat) : (s.releaseMark r).bad key n = s.bad key n := by
  rw [State.bad, State.bad, (s.releaseMark_frame 0 r).1.units]

theorem State.releaseMark_nextId (s : State) (r : MemOrd) : (s.releaseMark r).nextId = s.nextId := by
  rw [(s.releaseMark_frame 0 r).1.units]

theorem State.releaseMark_cur (s : State) (r : MemOrd) : (s.releaseMark r).cur = s.cur := (s.releaseMark_frame 0 r).1.cur

theorem State.releaseMark_agenda (s : State) (r : MemOrd) : (s.releaseMark r).agenda = s.agenda := (s.releaseMark_frame 0 r).2

/-- A mark on the streams is no part of what an instruction names. -/
theorem Fibre.marked_eq (f : Fibre) (s : State) (r : MemOrd) : f.marked s r = { f with relMark := (f.marked s r).relMark } := by
  unfold Fibre.marked
  split <;> rfl

theorem Fibre.marked_uid (f : Fibre) (s : State) (r : MemOrd) : (f.marked s r).uid = f.uid := by rw [Fibre.marked_eq]

theorem Fibre.marked_locals (f : Fibre) (s : State) (r : MemOrd) : (f.marked s r).locals = f.locals := by rw [Fibre.marked_eq]

/-! ### The operations (R141) -/

/-- The bytes of a number that memory holds are those of memory (R4). -/
theorem leNat_memBytes_byte (m : List Host.Cell) {n k : Nat} (h : k < n) (a : Nat) :
    leNat (memBytes m a n) / 2 ^ (8 * k) % 256 = (memGet m (a + k)).toNat := by
  induction n generalizing a k with
  | zero => omega
  | succ n ih =>
    have hb := (memGet m a).isLt
    cases k with
    | zero =>
      simp only [memBytes, leNat, Nat.mul_zero, Nat.pow_zero, Nat.div_one, Nat.add_zero]
      omega
    | succ k =>
      have hp : 2 ^ (8 * (k + 1)) = 256 * 2 ^ (8 * k) := by rw [Nat.mul_succ, Nat.pow_add, Nat.mul_comm]
      have hd : leNat (memBytes m a (n + 1)) / 256 = leNat (memBytes m (a + 1) n) := by
        simp only [memBytes, leNat]
        omega
      rw [hp, ← Nat.div_div_eq_div_mul, hd, ih (by omega), show a + (k + 1) = a + 1 + k by omega]

theorem State.valueAt_byte (s : State) {n k : Nat} (hn : n ≤ 8) (h : k < n) (a : Nat) :
    memGet s.mem (a + k) = (s.valueAt a n).extractLsb' (8 * k) 8 := by
  have hlt : leNat (memBytes s.mem a n) < 2 ^ 64 :=
    lt_of_lt_of_le (leNat_memBytes_lt ..) (Nat.pow_le_pow_right (by decide) (by omega))
  apply BitVec.eq_of_toNat_eq
  rw [BitVec.extractLsb'_toNat, State.valueAt, BitVec.toNat_ofNat, Nat.mod_eq_of_lt hlt, Nat.shiftRight_eq_div_pow]
  exact (leNat_memBytes_byte _ h a).symm

theorem State.read_value (s : State) (key n : Nat) : toW (leNat (s.read key n)) = s.valueAt key n := rfl

/-- What an atomic leaves in memory: its new value, or what stood there (R141, R142). -/
theorem State.atomicAt_bytes (s : State) (key : Nat) {n : Nat} (hn : n ≤ 8) (fn : AtFn) (b e : Word) :
    SameMemoryBut key n s (s.atomicAt key n fn b e).1 ∧
      ∀ k, k < n → memGet (s.atomicAt key n fn b e).1.mem (key + k)
        = ((atNew fn (8 * n) (s.valueAt key n) b e).getD (s.valueAt key n)).extractLsb' (8 * k) 8 := by
  unfold State.atomicAt
  dsimp only
  rw [State.read_value]
  cases atNew fn (8 * n) (s.valueAt key n) b e with
  | none => exact ⟨fun _ _ => rfl, fun k hk => s.valueAt_byte hn hk key⟩
  | some v =>
    refine ⟨fun x hx => ?_, fun k hk => ?_⟩
    · exact memGet_memPuts_out _ _ _ _ (by simpa using hx)
    · exact (memGet_memPuts_in _ _ _ _ (by simpa using hk)).trans (leBytes_word ..)

/-- What an atomic changes of the state is memory, with its error marks. -/
theorem State.atomicAt_units (s : State) (key n : Nat) (fn : AtFn) (b e : Word) :
    (s.atomicAt key n fn b e).1 = { s with mem := (s.atomicAt key n fn b e).1.mem, poison := (s.atomicAt key n fn b e).1.poison } := by
  unfold State.atomicAt
  dsimp only
  split <;> rfl

theorem extend_signed (v : Word) {n : Nat} (h : n = 8 ∨ n = 4) : extend true n v.toNat = (v.setWidth (8 * n)).signExtend 64 := by
  have hv : toW v.toNat = v := BitVec.eq_of_toNat_eq (by simp)
  obtain rfl | rfl := h
  · show toW (v.toNat % 2 ^ 64) = _
    rw [Nat.mod_eq_of_lt v.isLt, hv]
    simp
  · show sextW (toW v.toNat) 32 = _
    rw [hv]
    rfl

/-! ### Local atomics (R141, R142) -/

theorem atomicOp_runs {s : State} {c : BayCtx} {f : Fibre} {i : Instr} (h : s.Issues (namedRegs i) c f) (fn : AtFn) (d : Option GReg)
    (a b : GReg) (g : Bool) (r : MemOrd) (p : Scope) (z : AtSz) :
    atomicOp i fn d a b g r p z s = .next (s.finish f (
      if !g then
        localCheck c (f.reg a) (atBytes z) (withRelease r p f s fun s =>
          .done (s.bankAtomic f c.asid s.cur.bay (f.reg a).toNat (f.reg a) (atBytes z) fn (f.reg b)
            (match d with | some d => f.reg d | none => 0) d))
      else
        globalCheck f (f.reg a) (atBytes z) (withRelease r p f s fun s =>
          let t := s.globalIssue c f (f.reg a) (atBytes z) (.atomic fn d.isSome) d (f.reg b)
            (match d with | some d => f.reg d | none => 0)
          if hasAcq r && d.isSome then .stay t.awaitNewest else .done t))) :=
  issue_runs h.ctx h.fibre h.full rfl h.frame

theorem atBytes_eq (z : AtSz) : atBytes z = if z = .d then 8 else 4 := by cases z <;> rfl

theorem atBytes_le (z : AtSz) : (if z = .d then 8 else 4) ≤ 8 := by cases z <;> simp

theorem State.atomicAt_old (s : State) (key n : Nat) (fn : AtFn) (b e : Word) : (s.atomicAt key n fn b e).2 = s.valueAt key n := by
  unfold State.atomicAt
  dsimp only
  rw [State.read_value]
  cases atNew fn (8 * n) (s.valueAt key n) b e <;> rfl

/-- A local atomic without an uncorrectable error: a returning form puts its old value on its way, the others are counted by
cisterns (R89, R390).  The key stands as an unknown, as in `State.bankAtomic_Inv`. -/
theorem State.bankAtomic_ok {s t : State} {asid bay off n key : Nat} {old : Word} (hk : spadKey asid bay off = key)
    (hb : s.bad key n = none) {fn : AtFn} {b e : Word} (h : s.atomicAt key n fn b e = (t, old)) (f : Fibre) (ea : Word)
    (d : Option GReg) :
    s.bankAtomic f asid bay off ea n fn b e d =
      match d with
      | some d => t.localReturn f.uid d (extend true n old.toNat)
      | none => t.countLocal asid bay off n := by
  obtain ⟨g, hg⟩ : ∃ g, g = State.bankAtomic := ⟨_, rfl⟩
  obtain ⟨q, hq⟩ : ∃ q, q = spadKey := ⟨_, rfl⟩
  rw [← hg]
  delta State.bankAtomic at hg
  rw [← hq] at hg hk
  clear hq
  subst hg hk
  dsimp only
  rw [hb, h] <;> rfl

theorem counters_idle (a n : Nat) {l : Tab Cist} (h : ∀ x ∈ l, x.2.st = .idle) : counters a n l = [] := by
  induction l with
  | nil => rfl
  | cons x r ih =>
    obtain ⟨k, e⟩ := x
    have he : e.st = .idle := h (k, e) List.mem_cons_self
    rw [counters, if_neg fun hc => hc.1 he]
    exact ih fun y hy => h y (List.mem_cons_of_mem _ hy)

/-- Where every cistern of the bay is idle, a counted write changes nothing (R391). -/
theorem State.countLocal_idle {s : State} {b : Nat} (h : ∀ j y, s.bctx b j = some y → ∀ x ∈ y.cists, x.2.st = .idle)
    (asid off n : Nat) : s.countLocal asid b off n = s := by
  unfold State.countLocal
  split
  · rename_i c hc
    obtain ⟨j, _, hj⟩ := Option.bind_eq_some_iff.1 hc
    rw [counters_idle off n (h j c hj)]
    rfl
  · rfl

/-- The cisterns of a bay are no part of what the issuing fibre changes. -/
theorem FibreFrame.cists {p : Cur} {a b j : Nat} {s t : State} (h : FibreFrame p a s t) {y : BayCtx} (hy : t.bctx b j = some y) :
    ∃ x, s.bctx b j = some x ∧ x.cists = y.cists := by
  have e := h.held b j
  rw [hy] at e
  obtain ⟨x, hx, hxy⟩ := Option.map_eq_some_iff.1 e.symm
  exact ⟨x, hx, (congrArg BayCtx.cists hxy :)⟩

section
variable {s : State} {c : BayCtx} {f : Fibre} {i : Instr} {r : MemOrd} {p : Scope} {a b : GReg} {z : AtSz} {o : Out} {fn : AtFn}
  {new : Option Word}

/-- The bank's state at a local atomic: the streams are marked and memory written (R141, R162). -/
theorem State.curF_atomicAt_marked (h : s.curF = some f) (r : MemOrd) (key n : Nat) (fn : AtFn) (b e : Word) :
    ((s.releaseMark r).atomicAt key n fn b e).1.curF = some (f.marked s r) := by
  rw [State.atomicAt_units]
  exact State.curF_releaseMark h r

/-- Memory after a local atomic, that has retired (R141). -/
theorem State.atomicAt_marked_bytes (s : State) (r : MemOrd) (key : Nat) {n : Nat} (hn : n ≤ 8) (fn : AtFn) (b e : Word) :
    SameMemoryBut key n s ((s.releaseMark r).atomicAt key n fn b e).1 ∧
      ∀ k, k < n → memGet ((s.releaseMark r).atomicAt key n fn b e).1.mem (key + k)
        = ((atNew fn (8 * n) (s.valueAt key n) b e).getD (s.valueAt key n)).extractLsb' (8 * k) 8 := by
  have h := (s.releaseMark r).atomicAt_bytes key hn fn b e
  unfold SameMemoryBut State.valueAt at *
  rwa [State.releaseMark_mem] at h

theorem State.atomicAt_marked_agenda (s : State) (r : MemOrd) (key n : Nat) (fn : AtFn) (b e : Word) :
    ((s.releaseMark r).atomicAt key n fn b e).1.agenda = s.agenda := by
  rw [State.atomicAt_units]
  exact s.releaseMark_agenda r

theorem State.atomicAt_marked_nextId (s : State) (r : MemOrd) (key n : Nat) (fn : AtFn) (b e : Word) :
    ((s.releaseMark r).atomicAt key n fn b e).1.nextId = s.nextId := by
  rw [State.atomicAt_units]
  exact s.releaseMark_nextId r

theorem State.atomicAt_marked_old (s : State) (r : MemOrd) (key n : Nat) (fn : AtFn) (b e : Word) :
    ((s.releaseMark r).atomicAt key n fn b e).2 = s.valueAt key n := by
  rw [State.atomicAt_old, State.valueAt, State.valueAt, State.releaseMark_mem]

/-- A local atomic that is not held back: its checks, QUOTA before ALIGN, and then the bank (R141, R162). -/
theorem atomicOp_local (h : s.Issues (namedRegs i) c f) (d : Option GReg) :
    (s.mayRelease r p f → (f.reg a).toNat + atBytes z ≤ c.quota.scratch → (f.reg a).toNat % atBytes z = 0 →
      atomicOp i fn d a b false r p z s = .next ((s.releaseMark r).bankAtomic f c.asid s.cur.bay (f.reg a).toNat (f.reg a)
        (atBytes z) fn (f.reg b) (match d with | some d => f.reg d | none => 0) d).retireCur) ∧
    (c.quota.scratch < (f.reg a).toNat + atBytes z →
      atomicOp i fn d a b false r p z s = .next (s.raise f .quota (f.reg a))) ∧
    ((f.reg a).toNat + atBytes z ≤ c.quota.scratch → (f.reg a).toNat % atBytes z ≠ 0 →
      atomicOp i fn d a b false r p z s = .next (s.raise f .align (f.reg a))) := by
  rw [atomicOp_runs h]
  simp only [Bool.not_false, if_true]
  refine ⟨fun hr hq ha => ?_, fun hq => ?_, fun hq ha => ?_⟩
  · rw [localCheck_ok hq ha, withRelease_runs hr, State.releaseMark_cur]
    rfl
  · rw [localCheck_quota hq, finish_fault]
  · rw [localCheck_align hq ha, finish_fault]

/-- A value on its way from a bank of this bay: its register is empty when the instruction has retired (R89). -/
theorem State.localReturn_retires {t : State} {m : Fibre} (e : t.curF = some m) (d : GReg) (v : Word) :
    (t.localReturn m.uid d v).retireCur.curF = some ({ m.setEmpty d with locals := m.locals + 1 } : Fibre).retire ∧
      (t.localReturn m.uid d v).retireCur.agenda = t.agenda ++ [t.newItem (.loadDataReturn m.uid d v 0)] ∧
      (t.localReturn m.uid d v).retireCur.mem = t.mem :=
  ⟨State.curF_retireCur (State.curF_modU_self e _), State.retireCur_agenda _, State.retireCur_mem _⟩

/-- A returning form (R89, R141). -/
theorem atomicOp_local_returning {d : GReg} (h : s.Issues (namedRegs i) c f) {n key : Nat} (hn : n = atBytes z)
    (hk : spadKey c.asid s.cur.bay (f.reg a).toNat = key) (ho : o = atomicOp i fn (some d) a b false r p z s)
    (hnew : atNew fn (8 * n) (s.valueAt key n) (f.reg b) (f.reg d) = new) :
    (s.mayRelease r p f ∧ (f.reg a).toNat + n ≤ c.quota.scratch ∧ (f.reg a).toNat % n = 0 ∧ s.bad key n = none →
      ∃ t, o = .next t ∧ (SameMemoryBut key n s t ∧
          ∀ k, k < n → memGet t.mem (key + k) = (new.getD (s.valueAt key n)).extractLsb' (8 * k) 8) ∧
        t.curF = some ({ (f.marked s r).setEmpty d with locals := f.locals + 1 } : Fibre).retire ∧
        t.agenda = s.agenda ++
          [s.newItem (.loadDataReturn f.uid d (((s.valueAt key n).setWidth (8 * n)).signExtend 64) 0)]) ∧
    (c.quota.scratch < (f.reg a).toNat + n → o = .next (s.raise f .quota (f.reg a))) ∧
    ((f.reg a).toNat + n ≤ c.quota.scratch → (f.reg a).toNat % n ≠ 0 → o = .next (s.raise f .align (f.reg a))) := by
  subst hn ho hnew
  obtain ⟨hok, hquota, halign⟩ := atomicOp_local (fn := fn) (a := a) (b := b) (r := r) (p := p) (z := z) h (some d)
  refine ⟨fun ⟨hr, hq, ha, hb⟩ => ⟨_, hok hr hq ha, ?_⟩, hquota, halign⟩
  have hz : atBytes z = 8 ∨ atBytes z = 4 := by cases z <;> simp [atBytes]
  obtain ⟨t, old, ht⟩ : ∃ t old, (s.releaseMark r).atomicAt key (atBytes z) fn (f.reg b) (f.reg d) = (t, old) := ⟨_, _, rfl⟩
  rw [State.bankAtomic_ok hk ((s.releaseMark_bad r _ _).trans hb) ht]
  have hbytes := s.atomicAt_marked_bytes r key (n := atBytes z) (by omega) fn (f.reg b) (f.reg d)
  have hold := s.atomicAt_marked_old r key (atBytes z) fn (f.reg b) (f.reg d)
  have hcur := State.curF_atomicAt_marked h.fibre r key (atBytes z) fn (f.reg b) (f.reg d)
  have hag := s.atomicAt_marked_agenda r key (atBytes z) fn (f.reg b) (f.reg d)
  have hid := s.atomicAt_marked_nextId r key (atBytes z) fn (f.reg b) (f.reg d)
  rw [ht] at hbytes hold hcur hag hid
  dsimp only at hbytes hold hcur hag hid ⊢
  subst hold
  rw [extend_signed _ hz]
  obtain ⟨hf, ha, hm⟩ := State.localReturn_retires hcur d (((s.valueAt key (atBytes z)).setWidth (8 * atBytes z)).signExtend 64)
  rw [Fibre.marked_uid] at hf ha hm
  refine ⟨?_, by rw [hf, Fibre.marked_locals], ?_⟩
  · unfold SameMemoryBut at *
    rwa [hm]
  · rw [ha, hag, State.newItem, State.newItem, hid]

/-- A form without a return, where every cistern of the bay is idle (R141, R390). -/
theorem atomicOp_local_plain (h : s.Issues (namedRegs i) c f) {n key : Nat} (hn : n = atBytes z)
    (hk : spadKey c.asid s.cur.bay (f.reg a).toNat = key) (ho : o = atomicOp i fn none a b false r p z s)
    (hnew : atNew fn (8 * n) (s.valueAt key n) (f.reg b) 0 = new) :
    (s.mayRelease r p f ∧ (f.reg a).toNat + n ≤ c.quota.scratch ∧ (f.reg a).toNat % n = 0 ∧ s.bad key n = none →
      (∀ j y, s.bctx s.cur.bay j = some y → ∀ x ∈ y.cists, x.2.st = .idle) → ∃ t, o = .next t ∧ (SameMemoryBut key n s t ∧
          ∀ k, k < n → memGet t.mem (key + k) = (new.getD (s.valueAt key n)).extractLsb' (8 * k) 8) ∧
        t.curF = some (f.marked s r).retire) ∧
    (c.quota.scratch < (f.reg a).toNat + n → o = .next (s.raise f .quota (f.reg a))) ∧
    ((f.reg a).toNat + n ≤ c.quota.scratch → (f.reg a).toNat % n ≠ 0 → o = .next (s.raise f .align (f.reg a))) := by
  subst hn ho hnew
  obtain ⟨hok, hquota, halign⟩ := atomicOp_local (fn := fn) (a := a) (b := b) (r := r) (p := p) (z := z) h none
  refine ⟨fun ⟨hr, hq, ha, hb⟩ hc => ⟨_, hok hr hq ha, ?_⟩, hquota, halign⟩
  have hz : atBytes z = 8 ∨ atBytes z = 4 := by cases z <;> simp [atBytes]
  have hidle : ∀ j y, (((s.releaseMark r).atomicAt key (atBytes z) fn (f.reg b) 0).1.bctx s.cur.bay j = some y →
      ∀ x ∈ y.cists, x.2.st = .idle) := fun j y hy x hx => by
    rw [State.atomicAt_units] at hy
    obtain ⟨w, hw, hwy⟩ := (s.releaseMark_frame c.asid r).1.cists hy
    exact hc j w hw x (hwy ▸ hx)
  obtain ⟨t, old, ht⟩ : ∃ t old, (s.releaseMark r).atomicAt key (atBytes z) fn (f.reg b) 0 = (t, old) := ⟨_, _, rfl⟩
  rw [State.bankAtomic_ok hk ((s.releaseMark_bad r _ _).trans hb) ht]
  have hbytes := s.atomicAt_marked_bytes r key (n := atBytes z) (by omega) fn (f.reg b) 0
  have hcur := State.curF_atomicAt_marked h.fibre r key (atBytes z) fn (f.reg b) 0
  rw [ht] at hbytes hcur hidle
  dsimp only at hbytes hcur hidle ⊢
  rw [State.countLocal_idle hidle]
  refine ⟨?_, State.curF_retireCur hcur⟩
  unfold SameMemoryBut at *
  rwa [State.retireCur_mem]

/-! ### Global atomics (R141, R144) -/

theorem globalCheck_ok {f : Fibre} {ea : Word} {n : Nat} (ha : ea.toNat % n = 0) (hg : globalForm ea = true)
    (hl : f.ring.length < 16) (k : Res) : globalCheck f ea n k = k := by
  rw [globalCheck, if_neg (by simpa using ha), if_neg (by rw [hg]; decide), if_neg (by omega)]

theorem globalCheck_align {f : Fibre} {ea : Word} {n : Nat} (ha : ea.toNat % n ≠ 0) (k : Res) :
    globalCheck f ea n k = .fault .align ea := by
  rw [globalCheck, if_pos ha]

theorem globalCheck_gaddr {f : Fibre} {ea : Word} {n : Nat} (ha : ea.toNat % n = 0) (hg : globalForm ea = false) (k : Res) :
    globalCheck f ea n k = .fault .gaddr ea := by
  rw [globalCheck, if_neg (by simpa using ha), if_pos (by rw [hg]; rfl)]

/-- An access that takes a ring entry: its register is empty, and it is on its way to its bank or its station (R144). -/
def State.onItsWay (s : State) (u : Nat) (ea : Word) : List Item :=
  if isAperture ea then [{ lane := laneBank (apBay ea) (apOff ea), ev := .apertureAccess u s.nextId }]
  else [{ lane := laneLine ea, ev := .globalAccessAtStation u s.nextId }]

theorem State.enterRing_eq (s : State) (f : Fibre) (x : Access) :
    s.enterRing f x = { s.takeEntry x with agenda := s.agenda ++ s.onItsWay f.uid x.ea } := by
  unfold State.enterRing State.onItsWay
  dsimp only
  split <;> rfl

/-- The fibre with an access in its ring (R144). -/
def Fibre.took (g : Fibre) (x : Access) : Fibre :=
  { (match x.dest with | some d => g.setEmpty d | none => g) with ring := g.ring ++ [x] }

theorem Fibre.took_ring_eq (g : Fibre) (x : Access) :
    ({ (match x.dest with | some d => g.setEmpty d | none => g) with
        ring := (match x.dest with | some d => g.setEmpty d | none => g).ring ++ [x] } : Fibre) = g.took x := by
  unfold Fibre.took
  cases x.dest <;> rfl

theorem State.curF_takeEntry {s : State} {g : Fibre} (e : s.curF = some g) (x : Access) : (s.takeEntry x).curF = some (g.took x) := by
  have hm := congrArg State.curF (State.modCur_eq_asFibre e fun g =>
    { (match x.dest with | some d => g.setEmpty d | none => g) with
        ring := (match x.dest with | some d => g.setEmpty d | none => g).ring ++ [x] })
  rw [State.curF_asFibre e, Fibre.took_ring_eq] at hm
  exact hm

/-- A global access that has entered the ring and retired (R95, R144). -/
theorem State.enterRing_retires {s : State} {g : Fibre} (e : s.curF = some g) (f : Fibre) (x : Access) :
    (s.enterRing f x).retireCur.curF = some (g.took x).retire ∧
      (s.enterRing f x).retireCur.agenda = s.agenda ++ s.onItsWay f.uid x.ea ∧ (s.enterRing f x).retireCur.mem = s.mem := by
  rw [State.enterRing_eq]
  exact ⟨State.curF_retireCur (State.curF_takeEntry e x), State.retireCur_agenda _, State.retireCur_mem _⟩

/-- The cycles of the bays are no part of a retirement. -/
theorem State.enterRing_cycle (s : State) (f : Fibre) (x : Access) (b : Nat) : ((s.enterRing f x).bay b).cycle = (s.bay b).cycle := by
  rw [State.enterRing_eq]
  exact (congrArg Bay.cycle ((FibreFrame.modF s.cur 0 s _).bays b) :)

theorem State.enterRing_cur (s : State) (f : Fibre) (x : Access) : (s.enterRing f x).cur = s.cur := by
  rw [State.enterRing_eq]
  rfl

/-- A fibre that waits for its newest access to be accepted (R162). -/
theorem State.awaitNewest_blocks {s : State} {g : Fibre} (e : s.retireCur.curF = some g) :
    s.awaitNewest.curF = some (g.block (.queued 0x0D) (s.bay s.cur.bay).cycle) ∧ s.awaitNewest.agenda = s.agenda := by
  refine ⟨?_, State.retireCur_agenda s⟩
  unfold State.awaitNewest
  rw [State.modCur_eq_asFibre e, State.curF_asFibre e]

/-- A global atomic that issues (R141, R144, R162). -/
theorem State.globalIssue_ok {ea : Word} (hown : ownAperture s ea = false) (n : Nat) (kind : AKind) (d : Option GReg) (x e : Word) :
    (s.releaseMark r).globalIssue c f ea n kind d x e = (s.releaseMark r).enterRing f
      { rid := s.nextId, asid := c.asid, bay := s.cur.bay, pc := f.pc, ea := ea, size := n, kind := kind, dest := d,
        data := x, exp := e } := by
  unfold State.globalIssue
  have ho : ownAperture (s.releaseMark r) ea = false := by
    unfold ownAperture at *
    rwa [State.releaseMark_cur]
  rw [if_neg (by rw [ho]; decide), State.mkAccess, State.releaseMark_nextId, State.releaseMark_cur]

theorem atomicOp_global (h : s.Issues (namedRegs i) c f) {n : Nat} (hn : n = atBytes z) (d : Option GReg) {e : Word}
    (he : e = match d with | some d => f.reg d | none => 0) (ho : o = atomicOp i fn d a b true r p z s) {x : Access}
    (hx : x = { rid := s.nextId, asid := c.asid, bay := s.cur.bay, pc := f.pc, ea := f.reg a, size := n,
                kind := .atomic fn d.isSome, dest := d, data := f.reg b, exp := e }) :
    ((f.reg a).toNat % n = 0 → globalForm (f.reg a) = true → ownAperture s (f.reg a) = false → f.ring.length < 16 →
      s.mayRelease r p f → ∃ t, o = .next t ∧ t.agenda = s.agenda ++ s.onItsWay f.uid (f.reg a) ∧ SameMemory s t ∧
        t.curF = some (if hasAcq r = true ∧ d.isSome = true then
          ((f.marked s r).took x).retire.block (.queued 0x0D) (s.bay s.cur.bay).cycle else ((f.marked s r).took x).retire)) ∧
    ((f.reg a).toNat % n ≠ 0 → o = .next (s.raise f .align (f.reg a))) ∧
    ((f.reg a).toNat % n = 0 → globalForm (f.reg a) = false → o = .next (s.raise f .gaddr (f.reg a))) := by
  subst hn ho
  rw [atomicOp_runs h]
  simp only [Bool.not_true, Bool.false_eq_true, if_false]
  refine ⟨fun ha hg hown hl hr => ?_, fun ha => ?_, fun ha hg => ?_⟩
  · rw [globalCheck_ok ha hg hl, withRelease_runs hr, State.globalIssue_ok hown, ← he, ← hx]
    obtain ⟨hf, hag, hm⟩ := State.enterRing_retires (State.curF_releaseMark h.fibre r) f x
    have hxe : x.ea = f.reg a := by rw [hx]
    have hway : (s.releaseMark r).onItsWay f.uid x.ea = s.onItsWay f.uid (f.reg a) := by
      rw [State.onItsWay, State.releaseMark_nextId, hxe]
      rfl
    rw [hway, State.releaseMark_agenda] at hag
    rw [State.releaseMark_mem] at hm
    by_cases hw : hasAcq r = true ∧ d.isSome = true
    · rw [if_pos hw, if_pos (Bool.and_eq_true_iff.2 hw)]
      obtain ⟨hb, hba⟩ := State.awaitNewest_blocks hf
      refine ⟨_, rfl, hba.trans ?_, fun k => congrArg (memGet · k) (?_ : _ = s.mem), hb.trans ?_⟩
      · rwa [State.retireCur_agenda] at hag
      · exact (State.awaitNewest_mem _).trans ((State.retireCur_mem _).symm.trans hm)
      · rw [State.enterRing_cur, State.enterRing_cycle, State.releaseMark_cur,
          congrArg Bay.cycle ((s.releaseMark_frame 0 r).1.bays s.cur.bay)]
    · rw [if_neg hw, if_neg (mt Bool.and_eq_true_iff.1 hw)]
      exact ⟨_, rfl, hag, fun k => congrArg (memGet · k) hm, hf⟩
  · rw [globalCheck_align ha, finish_fault]
  · rw [globalCheck_gaddr ha hg, finish_fault]

theorem Fibre.marked_took (x : Access) : (f.marked s r).took x =
    { (match x.dest with | some d => (f.marked s r).setEmpty d | none => f.marked s r) with ring := f.ring ++ [x] } := by
  have e : (f.marked s r).ring = f.ring := by rw [Fibre.marked_eq]
  rw [Fibre.took, e]

end

/-! ### Values (R141) -/

theorem sextW_lt {w : Nat} (hw : w ≤ 64) (x y : Word) :
    (sextW x w).toInt < (sextW y w).toInt ↔ (x.setWidth w).slt (y.setWidth w) = true := by
  rw [sextW, sextW, BitVec.toInt_signExtend_of_le hw, BitVec.toInt_signExtend_of_le hw, BitVec.slt_iff_toInt_lt]

theorem mod_lt_ult (w : Nat) (x y : Word) : x.toNat % 2 ^ w < y.toNat % 2 ^ w ↔ (x.setWidth w).ult (y.setWidth w) = true := by
  rw [BitVec.ult_iff_lt, BitVec.lt_def, BitVec.toNat_setWidth, BitVec.toNat_setWidth]

theorem mod_eq_setWidth (w : Nat) (x y : Word) : x.toNat % 2 ^ w = y.toNat % 2 ^ w ↔ x.setWidth w = y.setWidth w := by
  rw [← BitVec.toNat_inj, BitVec.toNat_setWidth, BitVec.toNat_setWidth]

theorem atNew_min {w : Nat} (hw : w ≤ 64) (x y e : Word) :
    atNew .min w x y e = some (if (x.setWidth w).slt (y.setWidth w) then x else y) := by
  simp only [atNew, sextW_lt hw]

theorem atNew_max {w : Nat} (hw : w ≤ 64) (x y e : Word) :
    atNew .max w x y e = some (if (y.setWidth w).slt (x.setWidth w) then x else y) := by
  simp only [atNew, sextW_lt hw]

theorem atNew_minu (w : Nat) (x y e : Word) :
    atNew .minu w x y e = some (if (x.setWidth w).ult (y.setWidth w) then x else y) := by
  simp only [atNew, mod_lt_ult]

theorem atNew_maxu (w : Nat) (x y e : Word) :
    atNew .maxu w x y e = some (if (y.setWidth w).ult (x.setWidth w) then x else y) := by
  simp only [atNew, mod_lt_ult]

theorem atNew_cas (w : Nat) (x y e : Word) : atNew .cas w x y e = if x.setWidth w = e.setWidth w then some y else none := by
  simp only [atNew, mod_eq_setWidth]

/-- Settles O23: a local atomic is its bank's write and the old value on its way, a global one an entry of the access ring. -/
theorem atomics : Obligations.Atomics := by
  unfold Obligations.Atomics
  refine ⟨fun s c f d a b r p z => ?_, fun s c f d a b r p z => ?_⟩
  · intro ea y n w key old lt ltu ok stores returning plain
    have hn : n = atBytes z := (atBytes_eq z).symm
    have hw : w ≤ 64 := by
      have := atBytes_le z
      omega
    refine ⟨fun h => ⟨atomicOp_local_returning (i := .aadd d a b false r p z) (fn := .add) h hn rfl rfl rfl,
      atomicOp_local_returning (i := .aand d a b false r p z) (fn := .and) h hn rfl rfl rfl,
      atomicOp_local_returning (i := .aor d a b false r p z) (fn := .or) h hn rfl rfl rfl,
      atomicOp_local_returning (i := .axor d a b false r p z) (fn := .xor) h hn rfl rfl rfl,
      atomicOp_local_returning (i := .amin d a b false r p z) (fn := .min) h hn rfl rfl (atNew_min hw ..),
      atomicOp_local_returning (i := .amax d a b false r p z) (fn := .max) h hn rfl rfl (atNew_max hw ..),
      atomicOp_local_returning (i := .aminu d a b false r p z) (fn := .minu) h hn rfl rfl (atNew_minu ..),
      atomicOp_local_returning (i := .amaxu d a b false r p z) (fn := .maxu) h hn rfl rfl (atNew_maxu ..),
      atomicOp_local_returning (i := .aswap d a b false r p z) (fn := .swap) h hn rfl rfl rfl,
      atomicOp_local_returning (i := .acas d a b false r p z) (fn := .cas) h hn rfl rfl (atNew_cas ..)⟩,
      fun h => ⟨atomicOp_local_plain (i := .stadd a b false r p z) (fn := .add) h hn rfl rfl rfl,
      atomicOp_local_plain (i := .stand a b false r p z) (fn := .and) h hn rfl rfl rfl,
      atomicOp_local_plain (i := .stor a b false r p z) (fn := .or) h hn rfl rfl rfl,
      atomicOp_local_plain (i := .stxor a b false r p z) (fn := .xor) h hn rfl rfl rfl,
      atomicOp_local_plain (i := .stmin a b false r p z) (fn := .min) h hn rfl rfl (atNew_min hw ..),
      atomicOp_local_plain (i := .stmax a b false r p z) (fn := .max) h hn rfl rfl (atNew_max hw ..),
      atomicOp_local_plain (i := .stminu a b false r p z) (fn := .minu) h hn rfl rfl (atNew_minu ..),
      atomicOp_local_plain (i := .stmaxu a b false r p z) (fn := .maxu) h hn rfl rfl (atNew_maxu ..)⟩⟩
  · intro ea n m acc sent goes
    have hn : n = atBytes z := (atBytes_eq z).symm
    have took : ∀ fn x, (f.marked s r).took (acc fn x) =
        { (match x with | some y => m.setEmpty y | none => m) with ring := f.ring ++ [acc fn x] } := fun fn x => Fibre.marked_took _
    have all : ∀ {i fn x}, s.Issues (namedRegs i) c f → exec i s = atomicOp i fn x a b true r p z s → goes i fn x := by
      intro i fn x h ho
      obtain ⟨hgo, hrest⟩ := atomicOp_global h hn x rfl ho (x := acc fn x) rfl
      rw [took] at hgo
      exact ⟨hgo, hrest⟩
    exact ⟨fun h => ⟨all (i := .aadd d a b true r p z) (fn := .add) h rfl,
      all (i := .aand d a b true r p z) (fn := .and) h rfl,
      all (i := .aor d a b true r p z) (fn := .or) h rfl,
      all (i := .axor d a b true r p z) (fn := .xor) h rfl,
      all (i := .amin d a b true r p z) (fn := .min) h rfl,
      all (i := .amax d a b true r p z) (fn := .max) h rfl,
      all (i := .aminu d a b true r p z) (fn := .minu) h rfl,
      all (i := .amaxu d a b true r p z) (fn := .maxu) h rfl,
      all (i := .aswap d a b true r p z) (fn := .swap) h rfl,
      all (i := .acas d a b true r p z) (fn := .cas) h rfl⟩,
      fun h => ⟨all (i := .stadd a b true r p z) (fn := .add) h rfl,
      all (i := .stand a b true r p z) (fn := .and) h rfl,
      all (i := .stor a b true r p z) (fn := .or) h rfl,
      all (i := .stxor a b true r p z) (fn := .xor) h rfl,
      all (i := .stmin a b true r p z) (fn := .min) h rfl,
      all (i := .stmax a b true r p z) (fn := .max) h rfl,
      all (i := .stminu a b true r p z) (fn := .minu) h rfl,
      all (i := .stmaxu a b true r p z) (fn := .maxu) h rfl⟩⟩

end Sys2Proof.Machine
end

section
/-!
SUPPORT and PROOF. VREP frames, binding and waiting for the vector engine (O41).
-/
namespace Sys2Proof.Machine

/-! ### Frames (R111, R112) -/

/-- The instructions of majors 0x34 to 0x39 may stand in a frame (R111). -/
theorem inFrame_framed {i : Instr} (h : vecFramed i = true) : inFrame i = true := by
  rw [← h]
  cases i with
  | vld => exact Laws.Framed.vld ..
  | vlds => exact Laws.Framed.vlds ..
  | vldb => exact Laws.Framed.vldb ..
  | vst => exact Laws.Framed.vst ..
  | vsts => exact Laws.Framed.vsts ..
  | vadd => exact Laws.Framed.vadd ..
  | vsub => exact Laws.Framed.vsub ..
  | vmul => exact Laws.Framed.vmul ..
  | vfma => exact Laws.Framed.vfma ..
  | vfms => exact Laws.Framed.vfms ..
  | vmin => exact Laws.Framed.vmin ..
  | vmax => exact Laws.Framed.vmax ..
  | vabs => exact Laws.Framed.vabs ..
  | vneg => exact Laws.Framed.vneg ..
  | vrsq => exact Laws.Framed.vrsq ..
  | vrcp => exact Laws.Framed.vrcp ..
  | vexp2 => exact Laws.Framed.vexp2 ..
  | vlog2 => exact Laws.Framed.vlog2 ..
  | vsqrt => exact Laws.Framed.vsqrt ..
  | vdiv => exact Laws.Framed.vdiv ..
  | vadds => exact Laws.Framed.vadds ..
  | vmuls => exact Laws.Framed.vmuls ..
  | vfmas => exact Laws.Framed.vfmas ..
  | viadd => exact Laws.Framed.viadd ..
  | visub => exact Laws.Framed.visub ..
  | vimul => exact Laws.Framed.vimul ..
  | vimin => exact Laws.Framed.vimin ..
  | vimax => exact Laws.Framed.vimax ..
  | viminu => exact Laws.Framed.viminu ..
  | vimaxu => exact Laws.Framed.vimaxu ..
  | vand => exact Laws.Framed.vand ..
  | vor => exact Laws.Framed.vor ..
  | vxor => exact Laws.Framed.vxor ..
  | vshl => exact Laws.Framed.vshl ..
  | vshr => exact Laws.Framed.vshr ..
  | vsar => exact Laws.Framed.vsar ..
  | viadds => exact Laws.Framed.viadds ..
  | vidx => exact Laws.Framed.vidx ..
  | vcmpeq => exact Laws.Framed.vcmpeq ..
  | vcmplt => exact Laws.Framed.vcmplt ..
  | vcmple => exact Laws.Framed.vcmple ..
  | vsel => exact Laws.Framed.vsel ..
  | vrsum => exact Laws.Framed.vrsum ..
  | vrmax => exact Laws.Framed.vrmax ..
  | vrmin => exact Laws.Framed.vrmin ..
  | vshuf => exact Laws.Framed.vshuf ..
  | vbcast => exact Laws.Framed.vbcast ..
  | vrot => exact Laws.Framed.vrot ..
  | kand => exact Laws.Framed.kand ..
  | kor => exact Laws.Framed.kor ..
  | knot => exact Laws.Framed.knot ..
  | vcvt => exact Laws.Framed.vcvt ..
  | vcvtsr => exact Laws.Framed.vcvtsr ..
  | vrng => exact Laws.Framed.vrng ..
  | vpack => exact Laws.Framed.vpack ..
  | vunpk => exact Laws.Framed.vunpk ..
  | vcvtn4 => exact Laws.Framed.vcvtn4 ..
  | vcvtw4 => exact Laws.Framed.vcvtw4 ..
  | _ => cases h

/-- At a frame position, an instruction that may stand there does what its body says (R111). -/
theorem issue_framed {s : State} {i : Instr} {k : BayCtx → Fibre → State → Res} {c : BayCtx} {f : Fibre} (hc : s.curC = some c)
    (hf : s.curF = some f) (hr : ∀ r ∈ namedRegs i, f.isEmpty r = false) (hi : inFrame i = true) :
    issue i noEarly k s = .next (s.finish f (k c f s)) := by
  have he : (namedRegs i).any f.isEmpty = false := List.any_eq_false.2 fun r hm => by simp [hr r hm]
  simp [issue, hc, hf, he, hi, noEarly]

/-- At a frame position, any other instruction is VFRAME (R112). -/
theorem issue_outsider {s : State} {i : Instr} {k : BayCtx → Fibre → State → Res} {c : BayCtx} {f : Fibre} (hc : s.curC = some c)
    (hf : s.curF = some f) (hr : ∀ r ∈ namedRegs i, f.isEmpty r = false) (hi : inFrame i = false) (ho : f.frame.isSome = true) :
    issue i noEarly k s = .next (s.raise f .vframe (wordOf i)) := by
  have he : (namedRegs i).any f.isEmpty = false := List.any_eq_false.2 fun r hm => by simp [hr r hm]
  simp [issue, hc, hf, he, hi, noEarly, ho]

/-! ### The checks of an instruction's own (R254, R255, R259) -/

/-- The first chunk beyond the quota, over the iterations in order (R255). -/
theorem badChunk_eq (i : Instr) (x y : Word) (quota sd j n : Nat) :
    badChunk i x y quota sd j n =
      ((List.range' j n).flatMap fun j => vecChunks i (stepX j sd i x) y).find? fun a => decide (quota < a.toNat + 32) := by
  induction n generalizing j with
  | zero => rfl
  | succ n ih =>
    rw [badChunk, List.range'_succ, List.flatMap_cons, List.find?_append, ← ih]
    cases (vecChunks i (stepX j sd i x) y).find? fun a => decide (quota < a.toNat + 32) <;> rfl

/-- The check of a vector load or store, chunk by chunk. -/
theorem vecMemCheck_eq (i : Instr) (strided : Bool) (c : BayCtx) (x y : Word) (n sd : Nat) :
    vecMemCheck i strided c x y n sd =
      if x.toNat % 32 ≠ 0 then some (.align, x)
      else if strided ∧ y.toNat % 32 ≠ 0 then some (.align, y)
      else (((List.range n).flatMap fun j => vecChunks i (stepX j sd i x) y).find? fun a =>
        decide (c.quota.scratch < a.toNat + 32)).map fun a => (.quota, a) := by
  rw [vecMemCheck, badChunk_eq, List.range_eq_range']

theorem add_toW_add (x : Word) (a b : Nat) : x + toW a + toW b = x + BitVec.ofNat 64 (a + b) := by
  rw [BitVec.ofNat_add, BitVec.add_assoc]

/-- The checks of an instruction's own are those of its rule. -/
theorem vecOwnCheck_eq (i : Instr) (c : BayCtx) (f : Fibre) (n sd : Nat) :
    vecOwnCheck i c (vecX i f) (vecY i f) n sd = vecFault i f c.quota.scratch n sd := by
  cases i with
  | vins | vbcast => rfl
  | vld d a k o =>
    rw [vecOwnCheck, vecMemCheck_eq]
    simp only [vecChunks, stepX, add_toW_add]
    simp [vecFault, vecY]
  | vst d a k o =>
    rw [vecOwnCheck, vecMemCheck_eq]
    simp only [vecChunks, stepX, add_toW_add]
    simp [vecFault, vecY]
  | vlds d a b k o =>
    rw [vecOwnCheck, vecMemCheck_eq]
    simp [vecFault, vecChunks, stepX]
  | vsts d a b k o =>
    rw [vecOwnCheck, vecMemCheck_eq]
    simp [vecFault, vecChunks, stepX]
  | vldb d a k o =>
    rw [vecOwnCheck, vecMemCheck_eq]
    simp [vecFault, vecChunks, stepX, vecY]
  | _ => rfl

/-! ### The queue (R243, R247) -/

theorem State.vecNext_bays (s : State) (b i v : Nat) : (s.vecNext b i v).bays = s.bays ∧ (s.vecNext b i v).cur = s.cur := by
  unfold State.vecNext
  repeat' split
  all_goals exact ⟨rfl, rfl⟩

/-- A context's state with an entry at the tail of a queue: the fibres are as they were. -/
def BayCtx.queued (c : BayCtx) (v : Nat) (x : VEnt) : BayCtx :=
  { c.modV v fun y => { y with queue := y.queue ++ [x] } with vring := c.vring.accept x.tag }

/-- The issuing context after an entry was placed (R247). -/
theorem State.placeVec_curC {s : State} {c : BayCtx} (h : s.curC = some c) (v : Nat) (e : VEnt) :
    (s.placeVec s.cur.bay s.cur.idx v s.cur.slot e).cur = s.cur ∧
      (s.placeVec s.cur.bay s.cur.idx v s.cur.slot e).bctx s.cur.bay s.cur.idx =
        some (c.queued v (s.vecEntry c e)) := by
  unfold State.curC at h
  have hb : ∀ (g : BayCtx → BayCtx) (n : Nat), (((s.modC s.cur.bay s.cur.idx g).bump s.cur.bay c.asid 6 n).pulse c.asid).bctx
      s.cur.bay s.cur.idx = some (g c) := fun g n => by
    have hp : ∀ t : State, (t.pulse c.asid).bctx s.cur.bay s.cur.idx = t.bctx s.cur.bay s.cur.idx := fun _ => rfl
    rw [hp, State.bctx_bump, State.bctx_modC_self, h]
    rfl
  unfold State.placeVec
  rw [h]
  dsimp only
  split
  · obtain ⟨hbays, hcur⟩ := State.vecNext_bays (((s.modC s.cur.bay s.cur.idx fun y =>
      y.queued v (s.vecEntry c e)).bump s.cur.bay c.asid 6 (if e.isRdv then 0 else 1)).pulse c.asid)
      s.cur.bay s.cur.idx v
    refine ⟨hcur, ?_⟩
    unfold State.bctx State.bay at hb ⊢
    exact (congrArg (fun l => tfind (tget Bay.init l s.cur.bay).ctxs s.cur.idx) hbays).trans (hb _ _)
  · exact ⟨rfl, hb _ _⟩

theorem BayCtx.queued_vctx (c : BayCtx) (v : Nat) (x : VEnt) :
    ((c.queued v x).vctx v).queue = (c.vctx v).queue ++ [x] := by
  have e : (c.queued v x).vctx v = { c.vctx v with queue := (c.vctx v).queue ++ [x] } := tget_tset_self ..
  rw [e]

/-- The vector contexts are no part of what the issuing fibre changes. -/
theorem FibreFrame.vecQueue {a : Nat} {s t : State} (h : FibreFrame s.cur a s t) (v : Nat) : t.vecQueue v = s.vecQueue v := by
  have e := congrArg (Option.map fun c : BayCtx => (c.vctx v).queue) (h.held s.cur.bay s.cur.idx)
  rw [Option.map_map, Option.map_map] at e
  unfold State.vecQueue State.curC
  rw [h.cur]
  exact e

theorem State.placeVec_vecQueue {s : State} {c : BayCtx} (h : s.curC = some c) (v : Nat) (e : VEnt) :
    (s.placeVec s.cur.bay s.cur.idx v s.cur.slot e).vecQueue v = some ((c.vctx v).queue ++ [s.vecEntry c e]) := by
  obtain ⟨hcur, hb⟩ := State.placeVec_curC h v e
  rw [State.vecQueue, State.curC, hcur, hb, Option.map_some, BayCtx.queued_vctx]

theorem State.placeVec_curF {s : State} {c : BayCtx} {f : Fibre} (h : s.curC = some c) (hf : s.curF = some f) (v : Nat) (e : VEnt) :
    (s.placeVec s.cur.bay s.cur.idx v s.cur.slot e).curF = some f := by
  obtain ⟨hcur, hb⟩ := State.placeVec_curC h v e
  rw [← hf]
  unfold State.curF State.fib
  unfold State.curC at h
  rw [hcur, hb, h]
  rfl

/-- An entry that found room: it is at the tail of its queue, whatever the issuing fibre then does (R247, R248). -/
theorem State.placeVec_places {s : State} {c : BayCtx} {f : Fibre} (h : s.curC = some c) (hf : s.curF = some f) (v : Nat) (e : VEnt)
    (g : Fibre → Fibre) :
    let t := (s.placeVec s.cur.bay s.cur.idx v s.cur.slot e).modCur g
    SameMemory s t ∧ t.curF = some (g f) ∧ t.vecQueue v = some ((c.vctx v).queue ++ [s.vecEntry c e]) := by
  refine ⟨fun k => ?_, ?_, ?_⟩
  · rw [State.modCur_mem, State.placeVec_mem]
  · have hp := State.placeVec_curF h hf v e
    rw [State.modCur_eq_asFibre hp, State.curF_asFibre hp]
  · exact ((FibreFrame.modF _ 0 _ g).vecQueue v).trans (State.placeVec_vecQueue h v e)

theorem State.vecQueue_retireCur (s : State) (v : Nat) : s.retireCur.vecQueue v = s.vecQueue v := by
  have e : s.retireCur.vecQueue v = (s.modCur Fibre.retire).vecQueue v := by
    unfold State.retireCur State.vecQueue State.curC
    rw [State.countRetired_cur, State.countRetired_bctx]
  exact e.trans ((FibreFrame.modF _ 0 _ Fibre.retire).vecQueue v)

/-- The same where the instruction retires. -/
theorem State.placeVec_retires {s : State} {c : BayCtx} {f : Fibre} (h : s.curC = some c) (hf : s.curF = some f) (v : Nat) (e : VEnt)
    (g : Fibre → Fibre) :
    let t := ((s.placeVec s.cur.bay s.cur.idx v s.cur.slot e).modCur g).retireCur
    SameMemory s t ∧ t.curF = some (g f).retire ∧ t.vecQueue v = some ((c.vctx v).queue ++ [s.vecEntry c e]) := by
  obtain ⟨hm, hf', hq⟩ := State.placeVec_places h hf v e g
  refine ⟨fun k => ?_, State.curF_retireCur hf', ?_⟩
  · rw [State.retireCur_mem]
    exact hm k
  · rw [State.vecQueue_retireCur]
    exact hq

/-! ### Opening a frame (R111) -/

theorem openFrame_runs {s : State} {c : BayCtx} {f : Fibre} {i : Instr} (h : s.Issues (namedRegs i) c f) (n : BitVec 4)
    {count : Fibre → Word} {q : Word} (hq : count f = q) (y u w : BitVec 2) {o : Out} (ho : o = openFrame i n count y u w s) :
    (f.vctx = none → o = .next (s.raise f .vnobind (wordOf i))) ∧
    (f.vctx ≠ none →
      (65535 < q.toNat → o = .next (s.raise f .vframe q)) ∧
      (q = 0 → o = .next (s.jumpedTo f (f.pc + 4 + 4 * BitVec.ofNat 64 (n.toNat + 1)))) ∧
      (q ≠ 0 → q.toNat ≤ 65535 →
        o = .next (s.retired ({ f with frame := some { n := n.toNat + 1, left := n.toNat + 1, count := q.toNat,
                                                       sd := stepCode y, sa := stepCode u, sb := stepCode w,
                                                       ins := [] } } : Fibre).retire))) := by
  subst hq ho
  rw [openFrame, issue_runs h.ctx h.fibre h.full rfl h.frame]
  cases hv : f.vctx with
  | none => exact ⟨fun _ => rfl, fun hn => absurd rfl hn⟩
  | some v =>
    refine ⟨fun hn => (Option.some_ne_none _ hn).elim, fun _ => ⟨fun hl => ?_, fun h0 => ?_, fun h0 hl => ?_⟩⟩
    · dsimp only
      rw [if_pos hl, finish_fault]
    · dsimp only
      rw [if_neg (by rw [h0]; decide), if_pos h0, finish_jumped h.fibre, toW, BitVec.ofNat_mul]
      rfl
    · dsimp only
      rw [if_neg (by omega), if_neg h0, State.modCur_eq_asFibre h.fibre, finish_done_asFibre, ← hv]

/-! ### Positions of a frame (R111, R112) -/

/-- A frame with one more instruction captured. -/
def Frame.capture (x : Frame) (i : VIns) : Frame := { x with left := x.left - 1, ins := x.ins ++ [i] }

theorem exec_capture {s : State} {c : BayCtx} {f : Fibre} {fr : Frame} {i : Instr} {v : Nat} (hc : s.curC = some c)
    (hf : s.curF = some f) (hfr : f.frame = some fr) (hr : ∀ r ∈ namedRegs i, f.isEmpty r = false) (hv : f.vctx = some v)
    (hi : vecFramed i = true) :
    exec i s = .next (s.finish f (
      if fr.left ≠ 1 ∧ f.loopMoves = true then .fault .vframe (wordOf i)
      else match vecFault i f c.quota.scratch fr.count fr.sd with
        | some (k, w) => .fault k w
        | none =>
          if fr.left = 1 then vecPlace v c f (fr.entry { op := i, x := vecX i f, y := vecY i f }) s
          else .done (s.modCur fun g => { g with frame := some (fr.capture { op := i, x := vecX i f, y := vecY i f }) }))) := by
  rw [exec_framed hi, vecIssue, issue_framed hc hf hr (inFrame_framed hi), hv, hfr, ← vecOwnCheck_eq i c f fr.count fr.sd] <;> rfl

theorem vecPlace_room {c : BayCtx} {v : Nat} (h : (c.vctx v).queue.length < 16) (f : Fibre) (e : VEnt) (s : State) :
    vecPlace v c f e s = .done ((s.placeVec s.cur.bay s.cur.idx v s.cur.slot e).modCur fun g => { g with frame := none }) := by
  rw [vecPlace, if_pos (by rw [BayCtx.vecRoom, decide_eq_true h])]

/-- A position of a frame: captured, or, the last one, in the queue with the whole frame (R111, R112). -/
theorem exec_frame_position {s : State} {c : BayCtx} {f : Fibre} {fr : Frame} {i : Instr} {v : Nat} (hc : s.curC = some c)
    (hf : s.curF = some f) (hfr : f.frame = some fr) (hr : ∀ r ∈ namedRegs i, f.isEmpty r = false) (hv : f.vctx = some v)
    (hi : vecFramed i = true) {cap : Frame} (hcap : cap = fr.capture { op := i, x := vecX i f, y := vecY i f }) :
    (fr.left ≠ 1 → f.loopMoves = true → exec i s = .next (s.raise f .vframe (wordOf i))) ∧
    (fr.left = 1 ∨ f.loopMoves = false →
      (∀ k q, vecFault i f c.quota.scratch fr.count fr.sd = some (k, q) → exec i s = .next (s.raise f k q)) ∧
      (vecFault i f c.quota.scratch fr.count fr.sd = none →
        (fr.left ≠ 1 → exec i s = .next (s.retired ({ f with frame := some cap } : Fibre).retire)) ∧
        (fr.left = 1 → (c.vctx v).queue.length < 16 → ∃ t, exec i s = .next t ∧ SameMemory s t ∧
          t.curF = some ({ f with frame := none } : Fibre).retire ∧
          t.vecQueue v = some ((c.vctx v).queue ++ [s.vecEntry c ⟨.ins, cap.ins, fr.count, fr.sd, fr.sa, fr.sb, 0, 0, 0⟩])))) := by
  subst hcap
  rw [exec_capture hc hf hfr hr hv hi]
  refine ⟨fun hl hm => ?_, fun hl => ?_⟩
  · rw [if_pos ⟨hl, hm⟩, finish_fault]
  · have hgo : ¬(fr.left ≠ 1 ∧ f.loopMoves = true) := fun hn => hl.elim hn.1 fun hm => Bool.false_ne_true (hm.symm.trans hn.2)
    rw [if_neg hgo]
    refine ⟨fun k q hk => ?_, fun hk => ⟨fun h1 => ?_, fun h1 hroom => ?_⟩⟩
    · rw [hk, finish_fault]
    · rw [hk]
      dsimp only
      rw [if_neg h1, State.modCur_eq_asFibre hf, finish_done_asFibre]
    · rw [hk]
      dsimp only
      rw [if_pos h1, vecPlace_room hroom]
      exact ⟨_, rfl, State.placeVec_retires hc hf v _ fun g => { g with frame := none }⟩

/-- NOP, VREP and VSPLAT may not stand in a frame (R112). -/
theorem exec_frame_outsider {s : State} {c : BayCtx} {f : Fibre} {fr : Frame} {i : Instr} (hc : s.curC = some c)
    (hf : s.curF = some f) (hfr : f.frame = some fr) (hr : ∀ r ∈ namedRegs i, f.isEmpty r = false)
    (hi : i = .nop ∨ (∃ n m y u w, i = .vrep n m y u w) ∨ ∃ x b z k, i = .vsplat x b z k) :
    exec i s = .next (s.raise f .vframe (wordOf i)) := by
  have ho : f.frame.isSome = true := by rw [hfr]; rfl
  rcases hi with rfl | ⟨n, m, y, u, w, rfl⟩ | ⟨x, b, z, k, rfl⟩
  · exact (issue_outsider hc hf hr Laws.Framed.nop ho : execNop s = _)
  · show execVrep n m y u w s = _
    rw [execVrep, openFrame]
    exact issue_outsider hc hf hr (Laws.Framed.vrep n m y u w) ho
  · show execVsplat x b z k s = _
    rw [execVsplat, vecIssue]
    exact issue_outsider hc hf hr (Laws.Framed.vsplat x b z k) ho

/-! ### Asking the engine (R253, R254) -/

/-- VGET, VDRAIN and VFREE (R247, R248). -/
theorem vecAsk_runs {s : State} {c : BayCtx} {f : Fibre} {i : Instr} (h : s.Issues (namedRegs i) c f) {x : Fibre → Word} {q : Word}
    (hq : x f = q) (chk : BayCtx → Word → Word → Nat → Nat → Option (Cause × Word)) (kind : Nat → VKind) (code : Nat) {o : Out}
    (ho : o = vecAsk i x chk kind code s) :
    (f.vctx = none → o = .next (s.raise f .vnobind (wordOf i))) ∧
    (∀ k w, f.vctx ≠ none → chk c q 0 1 0 = some (k, w) → o = .next (s.raise f k w)) ∧
    (chk c q 0 1 0 = none → ∀ v, f.vctx = some v → (c.vctx v).queue.length < 16 → ∃ t, o = .next t ∧ SameMemory s t ∧
      t.curF = some (f.block (.queued code) (s.bay s.cur.bay).cycle) ∧
      t.vecQueue v = some ((c.vctx v).queue ++ [s.vecEntry c (VEnt.one (kind f.uid) { op := i, x := q, y := 0 })])) := by
  subst hq ho
  rw [vecAsk, issue_runs h.ctx h.fibre h.full rfl h.frame]
  cases f.vctx with
  | none => exact ⟨fun _ => rfl, fun _ _ hn => absurd rfl hn, fun _ _ hn => (Option.some_ne_none _ hn.symm).elim⟩
  | some v =>
    refine ⟨fun hn => (Option.some_ne_none _ hn).elim, fun k w _ hk => ?_, fun hk u hu hroom => ?_⟩
    · dsimp only
      rw [hk, finish_fault]
    · obtain rfl := Option.some.inj hu
      dsimp only
      rw [hk]
      dsimp only
      rw [if_pos (by rw [BayCtx.vecRoom, decide_eq_true hroom])]
      exact ⟨_, rfl, State.placeVec_places h.ctx h.fibre v _ fun g => g.block (.queued code) (s.bay s.cur.bay).cycle⟩

/-- The index of VGET is right where it names a lane, or NSTAT with the other bits 0 (R254). -/
theorem getCheck_none_iff (t : Ty) (c : BayCtx) (q : Word) :
    getCheck t c q 0 1 0 = none ↔
      (q.getLsbD 63 = true → q.extractLsb' 0 62 = 0) ∧ (q.getLsbD 63 = false → q.toNat < tyN t) := by
  have hbits : bits q 61 0 = 0 ↔ q.extractLsb' 0 62 = 0 := by
    rw [← BitVec.toNat_inj, BitVec.extractLsb'_toNat]
    rfl
  unfold getCheck
  cases q.getLsbD 63 <;> simp [hbits]

theorem getCheck_some {t : Ty} {c : BayCtx} {q : Word} (h : getCheck t c q 0 1 0 ≠ none) : getCheck t c q 0 1 0 = some (.range, q) := by
  unfold getCheck at h ⊢
  split
  · rename_i hq
    rw [if_pos hq] at h
    exact if_pos (by_contra fun hn => h (if_neg hn))
  · rename_i hq
    rw [if_neg hq] at h
    exact if_pos (by_contra fun hn => h (if_neg hn))

/-! ### Binding (R253) -/

theorem execVbind_runs {s : State} {c : BayCtx} {f : Fibre} (h : s.Issues [] c f) :
    exec .vbind s = .next (s.finish f (
      if f.vctx.isSome then .fault .fstate (wordOf .vbind)
      else if c.quota.vctxs = 0 then .fault .quota 0
      else
        match c.freeV with
        | some v =>
          if c.vbindq.isEmpty then
            .done ((s.modCurC fun y => y.modV v fun _ => { VCtx.init with owner := some f.uid }).modCur fun g =>
              { g with vctx := some v })
          else .stay ((s.modCurC fun y => { y with vbindq := y.vbindq ++ [f.uid] }).modCur fun g =>
            g.block (.queued 0x1A) (s.bay s.cur.bay).cycle)
        | none => .stay ((s.modCurC fun y => { y with vbindq := y.vbindq ++ [f.uid] }).modCur fun g =>
            g.block (.queued 0x1A) (s.bay s.cur.bay).cycle))) :=
  (issue_runs (i := .vbind) h.ctx h.fibre h.full rfl h.frame : execVbind s = _)

/-- The lowest free vector context (R253). -/
theorem BayCtx.freeV_eq_some {c : BayCtx} {v : Nat} (hv : v < c.quota.vctxs) (ho : (c.vctx v).owner = none)
    (hk : ∀ k < v, (c.vctx k).owner ≠ none) : c.freeV = some v := by
  refine List.find?_range_eq_some.2 ⟨by rw [ho]; rfl, List.mem_range.2 hv, fun k hkv => ?_⟩
  simpa [Option.isSome_iff_ne_none] using hk k hkv

theorem BayCtx.freeV_eq_none {c : BayCtx} (h : ∀ k < c.quota.vctxs, (c.vctx k).owner ≠ none) : c.freeV = none :=
  List.find?_eq_none.2 fun k hk => by simpa using h k (List.mem_range.1 hk)

theorem State.curC_modCurC {s : State} {c : BayCtx} (e : s.curC = some c) (g : BayCtx → BayCtx) : (s.modCurC g).curC = some (g c) :=
  (State.bctx_modC_self ..).trans (congrArg (Option.map g) e)

/-- A change of the issuing context that leaves its slots leaves the fibre. -/
theorem State.curF_modCurC {s : State} {c : BayCtx} {f : Fibre} {g : BayCtx → BayCtx} (e : s.curC = some c) (hf : s.curF = some f)
    (hg : (g c).slots = c.slots) : (s.modCurC g).curF = some f := by
  have hc := State.curC_modCurC e g
  unfold State.curF State.fib State.curC at *
  rw [e] at hf
  rw [hc]
  simpa [BayCtx.slot, hg] using hf

/-- A vector context that a fibre takes (R253). -/
theorem State.binds {s : State} {c : BayCtx} {f : Fibre} (h : s.Issues [] c f) (v : Nat) (x : VCtx) :
    let t := ((s.modCurC fun y => y.modV v fun _ => x).modCur fun g => { g with vctx := some v }).retireCur
    SameMemory s t ∧ t.curF = some ({ f with vctx := some v } : Fibre).retire ∧ t.curC.map (fun q => q.vctx v) = some x := by
  have hc : (s.modCurC fun y => y.modV v fun _ => x).curC = some (c.modV v fun _ => x) := State.curC_modCurC h.ctx _
  have hf : (s.modCurC fun y => y.modV v fun _ => x).curF = some f := State.curF_modCurC (g := fun y => y.modV v fun _ => x) h.ctx h.fibre rfl
  refine ⟨fun k => ?_, State.curF_retireCur ?_, ?_⟩
  · rw [State.retireCur_mem]
    rfl
  · rw [State.modCur_eq_asFibre hf, State.curF_asFibre hf]
  · rw [State.curC_retireCur (State.curC_modCur hc _)]
    exact congrArg some (tget_tset_self ..)

/-- A fibre that waits for a vector context (R253). -/
theorem State.waitsForBind {s : State} {c : BayCtx} {f : Fibre} (h : s.Issues [] c f) (w : Wait) (k : Nat) :
    let t := (s.modCurC fun y => { y with vbindq := y.vbindq ++ [f.uid] }).modCur fun g => g.block w k
    SameMemory s t ∧ t.curF = some (f.block w k) ∧ t.curC.map BayCtx.vbindq = some (c.vbindq ++ [f.uid]) := by
  have hc : (s.modCurC fun y => { y with vbindq := y.vbindq ++ [f.uid] }).curC = some { c with vbindq := c.vbindq ++ [f.uid] } :=
    State.curC_modCurC h.ctx _
  have hf : (s.modCurC fun y => { y with vbindq := y.vbindq ++ [f.uid] }).curF = some f :=
    State.curF_modCurC (g := fun y => { y with vbindq := y.vbindq ++ [f.uid] }) h.ctx h.fibre rfl
  refine ⟨fun _ => rfl, ?_, ?_⟩
  · rw [State.modCur_eq_asFibre hf, State.curF_asFibre hf]
  · rw [State.curC_modCur hc]
    rfl

/-- Settles O41: a frame opens by `openFrame`, its positions are captured by `vecIssue`, and the queue takes what leaves it. -/
theorem vectorFrames : Obligations.VectorFrames := by
  unfold Obligations.VectorFrames
  intro s c f n m y u w a b x z step opens
  refine ⟨fun h => ?_, fun h => ?_, ?_, fun h => ⟨fun hv => ?_, fun hv hq => ?_, fun v hv hq hlt ho hk hb => ?_, fun hv hq hb => ?_⟩, ?_⟩
  · exact openFrame_runs (i := .vrep n m y u w) h n rfl y u w rfl
  · exact openFrame_runs (i := .vrepReg n a y u w) (count := fun f => f.reg a) h n rfl y u w rfl
  · intro fr i v hc hf hfr hr hv
    refine ⟨fun hi => exec_frame_outsider hc hf hfr hr ?_, fun hi _ => exec_frame_position hc hf hfr hr hv hi rfl⟩
    exact hi.imp_right (Or.imp (fun e => ⟨n, m, y, u, w, e⟩) fun e => ⟨x, b, z, 0, e⟩)
  · rw [execVbind_runs h, if_pos (Option.isSome_iff_ne_none.2 hv), finish_fault]
  · rw [execVbind_runs h, if_neg (by rw [hv]; decide), if_pos hq, finish_fault]
  · rw [execVbind_runs h, if_neg (by rw [hv]; decide), if_neg hq, BayCtx.freeV_eq_some hlt ho hk]
    dsimp only
    rw [if_pos (by rw [hb]; rfl)]
    exact ⟨_, rfl, State.binds h v _⟩
  · have hw := State.waitsForBind h (.queued 0x1A) (s.bay s.cur.bay).cycle
    rw [execVbind_runs h, if_neg (by rw [hv]; decide), if_neg hq]
    split
    · rename_i v hfree
      have hbusy : ¬c.vbindq.isEmpty = true := by
        rcases hb with hb | hb
        · simpa using hb
        · rw [BayCtx.freeV_eq_none hb] at hfree
          cases hfree
      rw [if_neg hbusy]
      exact ⟨_, rfl, hw⟩
    · exact ⟨_, rfl, hw⟩
  · intro asks
    refine ⟨fun h => ⟨?_, ?_⟩, fun h => ?_⟩
    · obtain ⟨hn, -, hok⟩ := vecAsk_runs (i := .vdrain) (x := fun _ => 0) h rfl noVecCheck (fun u => .drain u) 0x41 rfl
      exact ⟨hn, hok rfl⟩
    · obtain ⟨hn, -, hok⟩ := vecAsk_runs (i := .vfree) (x := fun _ => 0) h rfl noVecCheck (fun u => .free u) 0x41 rfl
      exact ⟨hn, hok rfl⟩
    · obtain ⟨hn, hbad, hok⟩ := vecAsk_runs (i := .vget a x b z) (x := fun f => f.reg a) h rfl (getCheck z) (fun u => .get u b) 0x40 rfl
      intro q ok
      have hcheck := getCheck_none_iff z c q
      exact ⟨fun h => ⟨hn, hok (hcheck.2 h)⟩, fun h hv => hbad _ _ hv (getCheck_some (mt hcheck.1 h))⟩

end Sys2Proof.Machine
end

section
/-!
SUPPORT and PROOF. The divider, the instruction cache, the watchdog and the ends of launches and contexts (O57).
-/
namespace Sys2Proof.Machine

/-! ### Finding a fibre by its name (R91) -/

section
variable {u : Nat} {h : Fibre → Fibre} (hu : ∀ f, (h f).uid = f.uid)
include hu

theorem findSlot_onU (l : Tab Slot) :
    findSlot u (tmap (fun x => { x with fib := x.fib.map (onU u h) }) l) = (findSlot u l).map fun q => (q.1, h q.2) := by
  induction l with
  | nil => rfl
  | cons p r ih =>
    obtain ⟨k, x⟩ := p
    cases hx : x.fib with
    | none => simpa [tmap, findSlot, hx] using ih
    | some f =>
      by_cases e : f.uid = u
      · simp [tmap, findSlot, hx, onU, e, hu]
      · simpa [tmap, findSlot, hx, onU, e] using ih

theorem findCtx_onU (l : Tab BayCtx) :
    findCtx u (tmap (BayCtx.mapF (onU u h)) l) = (findCtx u l).map fun q => (q.1, q.2.1, h q.2.2) := by
  induction l with
  | nil => rfl
  | cons p r ih =>
    obtain ⟨i, c⟩ := p
    have hs := findSlot_onU (u := u) hu c.slots
    simp only [tmap, findCtx, BayCtx.mapF]
    rw [hs]
    cases findSlot u c.slots with
    | none => exact ih
    | some q => rfl

theorem findBay_onU (l : Tab Bay) :
    findBay u (tmap (fun x => { x with ctxs := tmap (BayCtx.mapF (onU u h)) x.ctxs }) l) =
      (findBay u l).map fun q => (q.1, h q.2) := by
  induction l with
  | nil => rfl
  | cons p r ih =>
    obtain ⟨b, x⟩ := p
    have hc := findCtx_onU (u := u) hu x.ctxs
    simp only [tmap, findBay]
    rw [hc]
    cases findCtx u x.ctxs with
    | none => exact ih
    | some q => rfl

theorem State.findU_modU (s : State) : (s.modU u h).findU u = (s.findU u).map fun q => (q.1, h q.2) := findBay_onU hu s.bays

end

/-- A search passes the bays before the one it finds. -/
theorem findBay_cons {u : Nat} {p : Cur} {f : Fibre} {b : Nat} {x : Bay} {r : Tab Bay} (h : findBay u ((b, x) :: r) = some (p, f)) :
    (p.bay = b ∧ findCtx u x.ctxs = some (p.idx, p.slot, f)) ∨ (findCtx u x.ctxs = none ∧ findBay u r = some (p, f)) := by
  simp only [findBay] at h
  split at h
  · rename_i hx
    cases h
    exact .inl ⟨rfl, hx⟩
  · rename_i hx
    exact .inr ⟨hx, h⟩

/-- Where a fibre is found on a bay, the first table of that number holds it or no fibre of the name. -/
theorem findCtx_of_findBay {u : Nat} {p : Cur} {f : Fibre} {l : Tab Bay} (h : findBay u l = some (p, f)) :
    findCtx u (tget .init l p.bay).ctxs = none ∨ findCtx u (tget .init l p.bay).ctxs = some (p.idx, p.slot, f) := by
  induction l with
  | nil => cases h
  | cons q r ih =>
    obtain ⟨b, x⟩ := q
    rw [tget]
    by_cases e : p.bay = b
    · rw [if_pos e]
      rcases findBay_cons h with ⟨-, hx⟩ | ⟨hx, -⟩
      · exact .inr hx
      · exact .inl hx
    · rw [if_neg e]
      rcases findBay_cons h with ⟨hb, -⟩ | ⟨-, hr⟩
      · exact absurd hb e
      · exact ih hr

/-- A bay that changes beside its contexts still holds the fibre that is found on it. -/
theorem findBay_tset {u : Nat} {p : Cur} {f : Fibre} {y : Bay} {l : Tab Bay} (h : findBay u l = some (p, f))
    (hy : y.ctxs = (tget .init l p.bay).ctxs) : findBay u (tset l p.bay y) = some (p, f) := by
  induction l with
  | nil => cases h
  | cons q r ih =>
    obtain ⟨b, x⟩ := q
    have hfound := findCtx_of_findBay h
    rw [← hy] at hfound
    rw [tset]
    by_cases e : p.bay = b
    · rw [tget, if_pos e] at hy
      rw [if_pos e]
      simp only [findBay] at h ⊢
      rw [hy, e]
      exact h
    · rw [if_neg e]
      split
      · simp only [findBay] at h ⊢
        rcases hfound with hn | hs
        · rw [hn]
          exact h
        · rw [hs]
      · rw [tget, if_neg e] at hy
        rcases findBay_cons h with ⟨hb, -⟩ | ⟨hx, hr⟩
        · exact absurd hb e
        · simp only [findBay]
          rw [hx]
          exact ih hr hy

theorem State.findU_modBay {s : State} {u : Nat} {p : Cur} {f : Fibre} {g : Bay → Bay} (h : s.findU u = some (p, f))
    (hg : (g (s.bay p.bay)).ctxs = (s.bay p.bay).ctxs) : (s.modBay p.bay g).findU u = some (p, f) := findBay_tset h hg

/-- Only a fibre that waits to enter handler mode goes on when its ring is empty (R409). -/
theorem State.entryReady_other {s : State} {u : Nat} {p : Cur} {f : Fibre} (h : s.findU u = some (p, f))
    (hw : ∀ c v q r, f.wait ≠ .entry c v q r) : s.entryReady u = s := by
  unfold State.entryReady
  rw [h]
  dsimp only
  split
  · rename_i c v q r e
    exact absurd e (hw c v q r)
  · rfl

/-! ### The divider (R99, R100) -/

theorem execDivideComplete_waits {s : State} {b u : Nat} {d : GReg} {v : Word} (he : s.ev = .divideComplete b u d v)
    (ha : (s.bay b).active.isSome = true) (hc : (s.bay b).cycle < (s.bay b).divEnd) : exec .divideComplete s = .next s.wait := by
  show execDivideComplete s = _
  rw [execDivideComplete, he]
  dsimp only
  rw [if_pos (by rw [ha, decide_eq_true hc]; rfl)]

theorem execDivideComplete_fills {s : State} {b i k u : Nat} {d : GReg} {v : Word} {f : Fibre} (he : s.ev = .divideComplete b u d v)
    (hf : s.fib b i k = some f) (hu : f.uid = u) (hw : ∀ c v q r, f.wait ≠ .entry c v q r) (hp : s.findU u = some (⟨b, i, k⟩, f))
    (hc : (s.bay b).divEnd ≤ (s.bay b).cycle) :
    ∃ t, exec .divideComplete s = .next t ∧ SameMemory s t ∧ (t.bay b).divBusy = false ∧
      t.fib b i k = some { f.setReg d v with locals := f.locals - 1 } := by
  obtain ⟨z, hz⟩ : ∃ z, z = s.modU u fun x => { x.setReg d v with locals := x.locals - 1 } := ⟨_, rfl⟩
  have hzp : z.findU u = some (⟨b, i, k⟩, { f.setReg d v with locals := f.locals - 1 }) := by
    rw [hz]
    exact (State.findU_modU (h := fun x => { x.setReg d v with locals := x.locals - 1 }) (fun _ => rfl) s).trans (by rw [hp]; rfl)
  have hzf : z.fib b i k = some { f.setReg d v with locals := f.locals - 1 } := by
    rw [hz, State.fib_modU, hf]
    exact congrArg some (onU_of_uid hu _)
  have hready := State.entryReady_other (State.findU_modBay (g := fun x => { x with divBusy := false }) hzp rfl) hw
  refine ⟨z.modBay b fun x => { x with divBusy := false }, ?_, fun a => ?_, ?_, ?_⟩
  · show execDivideComplete s = _
    rw [execDivideComplete, he]
    dsimp only
    rw [if_neg (by rw [decide_eq_false (by omega), Bool.and_false]; decide), ← hz, hready]
  · rw [hz]
    rfl
  · rw [State.bay_modBay_self]
  · rw [State.fib_modBay_of_ctxs z rfl, hzf]

/-! ### The instruction cache (R121) -/

/-- A line that has been read is in the bay's cache. -/
theorem State.icFill_find (s : State) (b key : Nat) (v : BitVec 512) : tfind ((s.icFill b key v).bay b).icache key = some v := by
  have h : ((s.icFill b key v).bay b).icache = icPut (s.bay b).icache key (Config.freeWord s.free).toNat v :=
    (congrArg Bay.icache (State.bay_modBay_self s b fun x =>
      { x with icache := icPut x.icache key (Config.freeWord s.free).toNat v }) :)
  rw [h]
  exact tfind_tset_self ..

theorem execInstructionLineFill_fills {s z : State} {b asid i pa key : Nat} {line : Word} {c : BayCtx}
    (he : s.ev = .instructionLineFill b asid line) (hk : s.keyOf b asid = some i) (ha : s.activeAt b i = true)
    (hc : s.bctx b i = some c) (ht : s.translateAt (homeStation b) asid line .fetch = (.ok (.phys pa), z))
    (hp : physKey pa = some key) (hb : z.bad key 64 = none) :
    ∃ t, exec .instructionLineFill s = .next t ∧ SameMemory z t ∧
      tfind (t.bay b).icache (icKey asid line) = some (BitVec.ofNat 512 (leNat (memBytes z.mem key 64))) := by
  refine ⟨(z.tallyKey key .reads).icFill b (icKey asid line) (BitVec.ofNat 512 (leNat (z.read key 64))), ?_, fun a => ?_, ?_⟩
  · show execInstructionLineFill s = _
    simp only [execInstructionLineFill, he, hk, ha, hc, ht, hp, hb, Bool.not_true, Bool.false_eq_true, if_false, Option.isSome_none]
  · rw [State.icFill_mem, State.tallyKey_mem]
  · exact State.icFill_find ..

/-! ### The watchdog (R430) -/

theorem execWatchdogFire_ends {s : State} {asid : Nat} {x : Ctx} (hx : s.ctx asid = some x) (he : s.ev = .watchdogFire asid)
    (hn : x.ended = none) (hl : x.launch ≠ none) :
    ∃ t secs, exec .watchdogFire s = .next t ∧ SameMemory s t ∧ (t.ctx asid).bind Ctx.ended = some .watchdog ∧
      (t.ctx asid).map Ctx.endTime = some s.time.count ∧
      t.agenda = s.agenda ++ [⟨laneEnd asid, .contextEnd asid .watchdog 0x7FF secs⟩] := by
  have hc : (s.endCtx asid .watchdog 0x7FF (s.watchSections asid)).ctx asid =
      some { x with ended := some .watchdog, endTime := s.time.count } :=
    (tfind_tmod_self ..).trans (by
      unfold State.ctx at hx
      rw [hx, Option.map_some, hn]
      rfl)
  refine ⟨s.endCtx asid .watchdog 0x7FF (s.watchSections asid), _, ?_, fun _ => rfl, by rw [hc]; rfl, by rw [hc]; rfl, rfl⟩
  show execWatchdogFire s = _
  have hlaunch : x.launch.isNone = false := Bool.eq_false_iff.2 (mt Option.isNone_iff_eq_none.1 hl)
  simp only [execWatchdogFire, he, hx, hn, hlaunch, Option.isSome_none, Bool.or_self, Bool.false_eq_true, if_false]

/-! ### Reports to the host (R431, R440, R449) -/

/-- What a report leaves of the state: the bays, what is in flight, the contexts and the copies under way. -/
structure ReportFrame (s t : State) : Prop where
  bays : t.bays = s.bays
  agenda : t.agenda = s.agenda
  ctxs : t.ctxs = s.ctxs
  copies : t.front.copies = s.front.copies

namespace ReportFrame

theorem refl (s : State) : ReportFrame s s := ⟨rfl, rfl, rfl, rfl⟩

theorem trans {s t u : State} (h : ReportFrame s t) (k : ReportFrame t u) : ReportFrame s u :=
  ⟨k.bays.trans h.bays, k.agenda.trans h.agenda, k.ctxs.trans h.ctxs, k.copies.trans h.copies⟩

theorem writeDs (l : List Word) (s : State) (a : Nat) : ReportFrame s (s.writeDs a l) := by
  induction l generalizing s a with
  | nil => exact refl s
  | cons d r ih => exact trans (t := s.write a (leBytes 8 d.toNat)) ⟨rfl, rfl, rfl, rfl⟩ (ih _ _)

theorem foldl {α : Type} {g : State → α → State} (hg : ∀ t x, ReportFrame t (g t x)) (l : List α) (s : State) :
    ReportFrame s (l.foldl g s) := by
  induction l generalizing s with
  | nil => exact refl s
  | cons x r ih => exact (hg s x).trans (ih _)

theorem ite {s t u : State} {P : Prop} [Decidable P] (h : ReportFrame s t) (k : ReportFrame s u) :
    ReportFrame s (if P then t else u) := by
  split
  · exact h
  · exact k

theorem errWrite (s : State) (ws : List Word) : ReportFrame s (s.errWrite ws) := by
  unfold State.errWrite
  refine trans (t := (List.range (ws.length / 8)).foldl _ s) (foldl (fun t j => ?_) _ s) ⟨rfl, rfl, rfl, rfl⟩
  exact writeDs ..

theorem errPush (s : State) (kind : Nat) (ws : List Word) : ReportFrame s (s.errPush kind ws) :=
  ite (errWrite s ws) (ite ⟨rfl, rfl, rfl, rfl⟩ ⟨rfl, rfl, rfl, rfl⟩)

theorem reportNow (s : State) (p : HostPkt) (w : Nat) (l : List Word) : ReportFrame s (s.reportNow p w l) := by
  unfold State.reportNow
  extract_lets s1 s2 a s3
  have h1 : ReportFrame s s1 := ite (refl s) (writeDs ..)
  have h2 : ReportFrame s1 s2 := writeDs ..
  have h3 : ReportFrame s2 s3 := ite (refl s2) (writeDs ..)
  have h := (h1.trans h2).trans h3
  clear_value s3
  exact h.trans ⟨rfl, rfl, rfl, rfl⟩

theorem completeLaunch (s : State) (p : HostPkt) (status result : Nat) (l : List Word) :
    ReportFrame s (s.completeLaunch p status result l) := by
  unfold State.completeLaunch
  dsimp only
  split
  · exact ⟨rfl, rfl, rfl, rfl⟩
  · exact reportNow ..

end ReportFrame

/-- The end of a context's launch (R440): no other context, no bay and nothing in flight changes. -/
theorem State.closeLaunch_frame (s : State) (asid status : Nat) :
    (s.closeLaunch asid status).bays = s.bays ∧ (s.closeLaunch asid status).agenda = s.agenda ∧
      (s.closeLaunch asid status).front.copies = s.front.copies ∧
      (s.closeLaunch asid status).ctx asid = (s.ctx asid).map fun x => { x with launch := none } := by
  unfold State.closeLaunch
  cases hc : s.ctx asid with
  | none => exact ⟨rfl, rfl, rfl, hc⟩
  | some c =>
    dsimp only
    cases hl : c.launch with
    | none => exact ⟨rfl, rfl, rfl, by rw [hc, Option.map_some, ← hl]⟩
    | some l =>
      have h := ReportFrame.completeLaunch s l.pkt status 0
      refine ⟨(h _).bays, (h _).agenda, (h _).copies, (tfind_tmod_self ..).trans ?_⟩
      unfold State.ctx at hc
      rw [(h _).ctxs, hc]

/-! ### The end of a launch (R185) -/

theorem execLaunchEnd_runs {s : State} {asid : Nat} {x : Ctx} (hx : s.ctx asid = some x) (he : s.ev = .launchEnd asid)
    (hl : x.launch ≠ none) (hn : x.ended = none) :
    let busy := x.live ≠ 0 ∨ (s.bayCtxs asid).any BayCtx.engaged = true ∨ s.sending asid = true
    (busy → exec .launchEnd s = .next s.wait) ∧
    (¬busy → ∃ t, exec .launchEnd s = .next t ∧ (t.ctx asid).bind Ctx.launch = none) := by
  have hlaunch : x.launch.isNone = false := Bool.eq_false_iff.2 (mt Option.isNone_iff_eq_none.1 hl)
  have hrun : exec .launchEnd s =
      if x.live != 0 || (s.bayCtxs asid).any BayCtx.engaged || s.sending asid then .next s.wait else .next (s.closeLaunch asid 1) := by
    show execLaunchEnd s = _
    simp only [execLaunchEnd, he, hx, hn, hlaunch, Option.isSome_none, Bool.or_self, Bool.false_eq_true, if_false]
  have hbusy : (x.live != 0 || (s.bayCtxs asid).any BayCtx.engaged || s.sending asid) = true ↔
      x.live ≠ 0 ∨ (s.bayCtxs asid).any BayCtx.engaged = true ∨ s.sending asid = true := by
    rw [Bool.or_eq_true, Bool.or_eq_true, bne_iff_ne, or_assoc]
  intro busy
  rw [hrun]
  refine ⟨fun h => if_pos (hbusy.2 h), fun h => ⟨s.closeLaunch asid 1, if_neg (mt hbusy.1 h), ?_⟩⟩
  obtain ⟨-, -, -, hctx⟩ := s.closeLaunch_frame asid 1
  rw [hctx, hx]
  rfl

/-! ### The end of a context (R427) -/

theorem tfind_mem {α : Type} {l : Tab α} {k : Nat} {v : α} (h : tfind l k = some v) : (k, v) ∈ l := by
  induction l with
  | nil => cases h
  | cons p r ih =>
    obtain ⟨j, x⟩ := p
    rw [tfind] at h
    split at h
    · rename_i e
      cases h
      rw [e]
      exact List.mem_cons_self
    · exact List.mem_cons_of_mem _ (ih h)

theorem tget_mem {α : Type} (d : α) (l : Tab α) (k : Nat) : tget d l k = d ∨ (k, tget d l k) ∈ l := by
  induction l with
  | nil => exact .inl rfl
  | cons p r ih =>
    obtain ⟨j, x⟩ := p
    rw [tget]
    split
    · rename_i e
      rw [e]
      exact .inr List.mem_cons_self
    · exact ih.imp_right (List.mem_cons_of_mem _)

/-- A table whose entries are changed by their key. -/
theorem tget_map_key {α : Type} (d : α) (g : Nat × α → α) (l : Tab α) (k : Nat) :
    tget d (l.map fun p => (p.1, g p)) k = d ∨ ∃ p ∈ l, tget d (l.map fun p => (p.1, g p)) k = g p := by
  rcases tget_mem d (l.map fun p => (p.1, g p)) k with h | h
  · exact .inl h
  · obtain ⟨p, hp, e⟩ := List.mem_map.1 h
    exact .inr ⟨p, hp, (congrArg Prod.snd e).symm⟩

theorem tget_filter_key {α : Type} (d : α) (q : Nat → Bool) (l : Tab α) (k : Nat) :
    tget d (l.filter fun p => q p.1) k = if q k then tget d l k else d := by
  induction l with
  | nil => simp [tget]
  | cons p r ih =>
    obtain ⟨j, x⟩ := p
    by_cases hk : k = j
    · subst hk
      by_cases hq : q k <;> simp [tget, hq, ih]
    · by_cases hq : q j <;> simp [tget, hq, hk, ih]

/-- What a context holds on a bay is among its places. -/
theorem State.mem_places {s : State} {b i : Nat} {c : BayCtx} (h : s.bctx b i = some c) : (b, i) ∈ s.places c.asid := by
  have hi := tfind_mem h
  rcases tget_mem .init s.bays b with hb | hb
  · rw [State.bay, hb] at hi
    cases hi
  · exact List.mem_flatMap.2 ⟨_, hb, List.mem_map.2 ⟨_, List.mem_filter.2 ⟨hi, beq_self_eq_true _⟩, rfl⟩⟩

/-- The items that stay name neither the context nor a place of its own. -/
theorem State.otherItems_spec {s : State} {asid : Nat} {z : Item} (h : z ∈ s.otherItems asid) :
    evAsid z.ev ≠ some asid ∧ ∀ q j o, evPlace z.ev = some (q, j) → s.bctx q j = some o → o.asid ≠ asid := by
  obtain ⟨-, h⟩ := List.mem_filter.1 h
  obtain ⟨ha, hp⟩ := Bool.and_eq_true_iff.1 h
  refine ⟨by simpa using ha, fun q j o he ho hoa => ?_⟩
  rw [he] at hp
  have hm := State.mem_places ho
  rw [hoa] at hm
  simp [hm] at hp

/-- A key of a scratchpad, a weight buffer or a tile is one of its context's units (R127, R296). -/
theorem isUnitOf_key {v asid j n : Nat} (hv : 2 ≤ v) (ha : asid < 65536) (hj : j < 2048) (hn : n < 2 ^ 21) :
    isUnitOf asid none (v * 2 ^ 50 + asid * 2 ^ 32 + j * 2 ^ 21 + n) = true := by
  have h1 : 2 * 2 ^ 50 ≤ v * 2 ^ 50 + asid * 2 ^ 32 + j * 2 ^ 21 + n := by omega
  have h2 : (v * 2 ^ 50 + asid * 2 ^ 32 + j * 2 ^ 21 + n) % 2 ^ 50 / 2 ^ 32 = asid := by omega
  unfold isUnitOf unitKey
  dsimp only
  rw [decide_eq_true h1, h2, beq_self_eq_true]
  rfl

/-- The units of a context read as zero when it is released (R427 item 4). -/
theorem State.zeroUnits_get (s : State) {asid key : Nat} (h : isUnitOf asid none key = true) :
    memGet (s.zeroUnits asid none).mem key = 0 := by
  have e := tget_filter_key (0 : Byte) (fun k => !isUnitOf asid none k) s.mem key
  rw [h] at e
  exact e

theorem State.releaseCtx_get (s : State) {asid key : Nat} (h : isUnitOf asid none key = true) :
    memGet (s.releaseCtx asid).mem key = 0 := State.zeroUnits_get _ h

/-- At its release a context's state leaves every bay (R427). -/
theorem State.releaseCtx_bays (s : State) (asid : Nat) :
    ∃ g : Nat × Bay → Bay, (s.releaseCtx asid).bays = s.bays.map (fun p => (p.1, g p)) ∧
      ∀ p, (g p).ctxs = p.2.ctxs.filter fun q => q.2.asid != asid := ⟨_, rfl, fun _ => rfl⟩

theorem State.releaseCtx_keyOf (s : State) (asid j : Nat) : (s.releaseCtx asid).keyOf j asid = none := by
  obtain ⟨g, hbays, hg⟩ := s.releaseCtx_bays asid
  have h : ∀ p ∈ ((s.releaseCtx asid).bay j).ctxs, ¬(p.2.asid == asid) = true := by
    unfold State.bay
    rw [hbays]
    rcases tget_map_key Bay.init g s.bays j with h | ⟨p, -, h⟩
    · rw [h]
      intro p hp
      cases hp
    · rw [h, hg]
      intro q hq
      simpa using (List.mem_filter.1 hq).2
  unfold State.keyOf
  rw [List.find?_eq_none.2 h]
  rfl

theorem State.dropCopies_none {s : State} (h : s.front.copies = []) (i : BitVec 32) :
    s.dropCopies i = { s with front := { s.front with copies := [] } } := by
  unfold State.dropCopies
  rw [h]
  rfl

/-- The state after the end of a context, but for the context's own entry (R427). -/
def State.released (s : State) (asid b : Nat) (x : Ctx) (secs : List Word) : State :=
  (((s.errPush 1 (s.endRecord x b secs)).closeLaunch asid 2).releaseCtx asid).dropCopies x.ctxid

theorem execContextEnd_runs {s : State} {asid b : Nat} {x : Ctx} {r : EndReason} {secs : List Word} (hx : s.ctx asid = some x)
    (he : s.ev = .contextEnd asid r b secs) (hc : x.closed = false) :
    exec .contextEnd s = .next ((s.released asid b x secs).modCtx asid fun x =>
      { x with closed := true, launch := none, live := 0, backlog := [], slice := [], silence := 0 }) := by
  show execContextEnd s = _
  simp only [execContextEnd, he, hx, hc, Bool.false_eq_true, if_false]
  rfl

/-- What is left after the end of a context is what its release leaves of a state with the same bays, items in flight and context. -/
theorem State.released_eq {s : State} {asid b : Nat} {x : Ctx} {secs : List Word} (hx : s.ctx asid = some x)
    (hcop : s.front.copies = []) :
    ∃ u : State, u.bays = s.bays ∧ u.agenda = s.agenda ∧ u.ctx asid = some { x with launch := none } ∧
      s.released asid b x secs = { u.releaseCtx asid with front := { (u.releaseCtx asid).front with copies := [] } } := by
  have h := ReportFrame.errPush s 1 (s.endRecord x b secs)
  obtain ⟨hbays, hag, hco, hctx⟩ := (s.errPush 1 (s.endRecord x b secs)).closeLaunch_frame asid 2
  obtain ⟨u, hu⟩ : ∃ u, u = (s.errPush 1 (s.endRecord x b secs)).closeLaunch asid 2 := ⟨_, rfl⟩
  rw [← hu] at hbays hag hco hctx
  refine ⟨u, hbays.trans h.bays, hag.trans h.agenda, hctx.trans ?_, ?_⟩
  · unfold State.ctx at hx ⊢
    rw [h.ctxs, hx]
    rfl
  · rw [State.released, ← hu]
    exact State.dropCopies_none (s := u.releaseCtx asid) (hco.trans (h.copies.trans hcop)) _

theorem State.otherItems_congr {s u : State} (hb : u.bays = s.bays) (ha : u.agenda = s.agenda) (asid : Nat) :
    u.otherItems asid = s.otherItems asid := by
  unfold State.otherItems State.places
  rw [hb, ha]

theorem execContextEnd_releases {s : State} {asid b : Nat} {x : Ctx} {r : EndReason} {secs : List Word} (hx : s.ctx asid = some x)
    (he : s.ev = .contextEnd asid r b secs) (hc : x.closed = false) (hcop : s.front.copies = []) :
    ∃ t y, exec .contextEnd s = .next t ∧ t.ctx asid = some y ∧ y.closed = true ∧ y.launch = none ∧ y.live = 0 ∧
      (∀ z ∈ t.agenda, evAsid z.ev ≠ some asid ∧
        ∀ q j o, evPlace z.ev = some (q, j) → s.bctx q j = some o → o.asid ≠ asid) ∧
      (∀ j, t.keyOf j asid = none) ∧ (∀ z ∈ t.windows, z.2.owner ≠ asid) ∧ (asid < 65536 → ∀ z ∈ t.images, z.1 % 65536 ≠ asid) ∧
      (asid < 65536 → ∀ j < 2048, ∀ n < 2 ^ 21, memGet t.mem (spadKey asid j n) = 0 ∧
        memGet t.mem (wbufKey asid j n) = 0 ∧ memGet t.mem (tileKey asid j n) = 0) := by
  obtain ⟨u, hb, ha, hu, hrel⟩ := State.released_eq (b := b) (secs := secs) hx hcop
  rw [execContextEnd_runs hx he hc, hrel]
  refine ⟨_, _, rfl, (tfind_tmod_self ..).trans (congrArg (Option.map _) hu), rfl, rfl, rfl, fun z hz => ?_,
    fun j => u.releaseCtx_keyOf asid j, fun z hz => ?_, fun _ z hz => ?_, fun hlt j hj n hn => ?_⟩
  · have hz' : z ∈ u.otherItems asid := hz
    rw [State.otherItems_congr hb ha] at hz'
    exact State.otherItems_spec hz'
  · have hz' : z ∈ u.windows.filter fun p => p.2.owner != asid := hz
    simpa using (List.mem_filter.1 hz').2
  · have hz' : z ∈ u.images.filter fun p => p.1 % 2 ^ 16 != asid := hz
    simpa using (List.mem_filter.1 hz').2
  · exact ⟨u.releaseCtx_get (isUnitOf_key (v := 2) (by decide) hlt hj hn),
      u.releaseCtx_get (isUnitOf_key (v := 3) (by decide) hlt hj hn), u.releaseCtx_get (isUnitOf_key (v := 4) (by decide) hlt hj hn)⟩

/-- Settles O57: each event's own rule; at the end of a context, its release filters every table that names it. -/
theorem otherEvents : Obligations.OtherEvents := by
  unfold Obligations.OtherEvents
  intro s c f x asid b i k u
  refine ⟨fun d v he hf hu hw _ hp => ⟨execDivideComplete_waits he, execDivideComplete_fills he hf hu hw hp⟩,
    fun line pa key z => execInstructionLineFill_fills, fun hx => ⟨execWatchdogFire_ends hx, fun r secs => execContextEnd_releases hx,
      execLaunchEnd_runs hx⟩⟩

end Sys2Proof.Machine
end

section
/-!
SUPPORT and PROOF. The report of a deferred fault (O25).
-/
namespace Sys2Proof.Machine

/-! ### Registers of recorded accesses (R146, R148) -/

/-- The faulted marks change with a write as the empty marks do (R89, R146). -/
theorem Fibre.isFaulted_setReg_self (f : Fibre) (r : GReg) (v : Word) : (f.setReg r v).isFaulted r = false :=
  Fibre.isEmpty_setReg_self { f with empty := f.faulted } r v

theorem Fibre.isFaulted_setReg_ne (f : Fibre) {r q : GReg} (v : Word) (h : q ≠ r) :
    (f.setReg r v).isFaulted q = f.isFaulted q :=
  Fibre.isEmpty_setReg_ne { f with empty := f.faulted } v h

/-- The registers that no recorded access names stay as they are. -/
theorem Fibre.clearFaulted_other {l : List DFault} {r : GReg} (h : ∀ y ∈ l, y.dest ≠ some r) (f : Fibre) :
    (f.clearFaulted l).reg r = f.reg r ∧ (f.clearFaulted l).isEmpty r = f.isEmpty r ∧
      (f.clearFaulted l).isFaulted r = f.isFaulted r := by
  induction l generalizing f with
  | nil => exact ⟨rfl, rfl, rfl⟩
  | cons y l ih =>
    have hl := ih fun z hz => h z (List.mem_cons_of_mem _ hz)
    have hy := h y List.mem_cons_self
    rw [Fibre.clearFaulted]
    cases hd : y.dest with
    | none => exact hl f
    | some x =>
      have hx : r ≠ x := fun e => hy (hd.trans (congrArg some e.symm))
      obtain ⟨hreg, hempty, hfaulted⟩ := hl (f.setReg x 0)
      exact ⟨hreg.trans (Fibre.reg_setReg_ne f 0 hx), hempty.trans (Fibre.isEmpty_setReg_ne f 0 hx),
        hfaulted.trans (Fibre.isFaulted_setReg_ne f 0 hx)⟩

/-- The register of a recorded access is full and 0. -/
theorem Fibre.clearFaulted_dest {l : List DFault} {r : GReg} (h : ∃ y ∈ l, y.dest = some r) (f : Fibre) :
    (f.clearFaulted l).reg r = 0 ∧ (f.clearFaulted l).isEmpty r = false ∧ (f.clearFaulted l).isFaulted r = false := by
  induction l generalizing f with
  | nil =>
    obtain ⟨y, hy, -⟩ := h
    cases hy
  | cons y l ih =>
    rw [Fibre.clearFaulted]
    by_cases hl : ∃ z ∈ l, z.dest = some r
    · exact ih hl _
    · have hy : y.dest = some r := by
        obtain ⟨z, hz, hr⟩ := h
        rcases List.mem_cons.1 hz with rfl | hz
        · exact hr
        · exact absurd ⟨z, hz, hr⟩ hl
      rw [hy]
      obtain ⟨hreg, hempty, hfaulted⟩ := Fibre.clearFaulted_other (fun z hz e => hl ⟨z, hz, e⟩) (f.setReg r 0)
      exact ⟨hreg.trans (Fibre.reg_setReg_self f r 0), hempty.trans (Fibre.isEmpty_setReg_self f r 0),
        hfaulted.trans (Fibre.isFaulted_setReg_self f r 0)⟩

/-- Registers and their marks are all that changes. -/
theorem Fibre.clearFaulted_eq (f : Fibre) (l : List DFault) : f.clearFaulted l =
    { f with g := (f.clearFaulted l).g, empty := (f.clearFaulted l).empty, faulted := (f.clearFaulted l).faulted } := by
  induction l generalizing f with
  | nil => rfl
  | cons y l ih =>
    rw [Fibre.clearFaulted]
    cases y.dest with
    | none => exact ih f
    | some x => exact ih (f.setReg x 0)

/-! ### The report (R148, R411) -/

theorem State.fib_bump (s : State) (a asid : Nat) (code : BitVec 16) (n b i k : Nat) :
    (s.bump a asid code n).fib b i k = s.fib b i k := by
  rw [State.fib, State.bctx_bump, State.fib]

theorem State.fib_countEntry (s : State) (p : Cur) (b i k : Nat) : (s.countEntry p).fib b i k = s.fib b i k := by
  unfold State.countEntry
  split <;> rfl

/-- HCAUSE of a deferred fault is the cause with bit 63 set (R407). -/
theorem causeDeferred_eq (k : Cause) : causeDeferred k = 0x8000000000000000 + causeWord k := by cases k <;> rfl

/-- A fibre whose deferred fault x has been reported in ordinary mode (R148). -/
def Fibre.reported (f : Fibre) (hentry : Word) (x : DFault) : Fibre :=
  ({ f.clearFaulted f.dfaults with dfaults := [] } : Fibre).enter hentry (causeDeferred x.cause) x.ea 0 x.pc

theorem Fibre.reported_loops (f : Fibre) (e : Word) (x : DFault) : (f.reported e x).loops = f.loops :=
  (congrArg Fibre.loops (f.clearFaulted_eq f.dfaults) :)

theorem Fibre.reported_hscr (f : Fibre) (e : Word) (x : DFault) : (f.reported e x).hscr = f.hscr :=
  (congrArg Fibre.hscr (f.clearFaulted_eq f.dfaults) :)

theorem State.fib_reportDeferred {s : State} {p : Cur} {f : Fibre} {x : DFault} (hf : s.fib p.bay p.idx p.slot = some f)
    (hm : f.hm = false) (hx : oldest f.dfaults = some x) :
    (s.reportDeferred p f).fib p.bay p.idx p.slot = some (f.reported (s.hentryOf p) x) := by
  have hg : ∀ g : Fibre → Fibre, ((s.modF p.bay p.idx p.slot g).countEntry p).fib p.bay p.idx p.slot = some (g f) := fun g => by
    rw [State.fib_countEntry, State.fib_modF_self, hf]
    rfl
  simp only [State.reportDeferred, hx, hm, Bool.false_eq_true, if_false]
  split
  · rw [State.fib_bump]
    exact hg _
  · exact hg _

theorem State.reportDeferred_handler {s : State} {f : Fibre} {x : DFault} (p : Cur) (hm : f.hm = true)
    (hx : oldest f.dfaults = some x) : s.reportDeferred p f = s.doubleFault p f (causeDeferred x.cause) x.ea 0 x.pc := by
  rw [State.reportDeferred, hx]
  exact if_pos hm

/-- A double fault ends its context, unless something has ended it before (R411, R427). -/
theorem State.ctx_doubleFault {s : State} {p : Cur} {c : BayCtx} {y : Ctx} (hc : s.bctx p.bay p.idx = some c)
    (hy : s.ctx c.asid = some y) (f : Fibre) (k v q a : Word) :
    ∃ z, (s.doubleFault p f k v q a).ctx c.asid = some z ∧ z.ended = some (y.ended.getD .double) := by
  rw [State.doubleFault, hc]
  exact ⟨_, (tfind_tmod_self ..).trans (congrArg (Option.map _) hy), rfl⟩

/-- Settles O25: in ordinary mode the fibre has become `Fibre.reported`, in handler mode the report is a double fault. -/
theorem deferredReport : Obligations.DeferredReport := by
  unfold Obligations.DeferredReport
  intro s c f x hc hf hx
  have hmem : SameMemory s (s.reportDeferred s.cur f) := fun a => by rw [State.reportDeferred_mem]
  refine ⟨fun hm => ⟨_, f.reported (s.hentryOf s.cur) x, rfl, ?_, hmem, rfl, rfl, causeDeferred_eq x.cause, rfl, rfl, rfl, rfl, rfl,
    Fibre.reported_hscr .., Fibre.reported_loops .., fun r hr => Fibre.clearFaulted_dest hr f,
    fun r hr => Fibre.clearFaulted_other hr f⟩, fun hm => ⟨_, rfl, hmem, fun y hy => ?_⟩⟩
  · have hasid : s.HasAsid s.cur c.asid := fun e he => by rw [State.curC, he] at hc; cases hc; rfl
    unfold State.curF
    rw [(FibreFrame.reportDeferred hasid f).cur]
    exact State.fib_reportDeferred hf hm hx
  · rw [State.reportDeferred_handler s.cur hm hx]
    exact State.ctx_doubleFault hc hy ..

end Sys2Proof.Machine
end

section
/-!
SUPPORT and PROOF. The events that complete a global access (O26).
-/
namespace Sys2Proof.Machine

/-! ### A fibre whose ring entry is freed (R145, R409) -/

theorem State.hentryOf_modU (s : State) (u : Nat) (h : Fibre → Fibre) (p : Cur) : (s.modU u h).hentryOf p = s.hentryOf p := by
  have hb : (s.modU u h).bctx p.bay p.idx = (s.bctx p.bay p.idx).map (BayCtx.mapF (onU u h)) := by
    unfold State.bctx State.bay State.modU
    rw [tget_tmap rfl]
    exact tfind_tmap ..
  unfold State.hentryOf
  rw [hb]
  cases s.bctx p.bay p.idx <;> rfl

/-- What has become of a fibre at p, from a state s, once it is g and may enter handler mode where it waits for that: g, the
fibre that has entered, or one whose Handler registers show its oldest deferred fault (R148, R409). -/
def State.Proceeds (s t : State) (p : Cur) (g : Fibre) : Prop :=
  ((g.ring ≠ [] ∨ ∀ x y z w, g.wait ≠ .entry x y z w) → t.fib p.bay p.idx p.slot = some g) ∧
  (∀ x y z w, g.ring = [] → g.wait = .entry x y z w →
    (g.dfaults = [] → t.fib p.bay p.idx p.slot = some (g.enter (s.hentryOf p) x y z w)) ∧
    (∀ e, g.hm = false → oldest g.dfaults = some e → ∃ h, t.fib p.bay p.idx p.slot = some h ∧ h.hm = true ∧
      h.pc = s.hentryOf p ∧ h.hpc = e.pc ∧ h.hcause = 0x8000000000000000 + causeWord e.cause ∧ h.hval = e.ea ∧
      h.dfaults = []))

theorem State.entryReady_waits {s : State} {u : Nat} {p : Cur} {g : Fibre} (hu : s.findU u = some (p, g)) (hr : g.ring ≠ []) :
    s.entryReady u = s := by
  unfold State.entryReady
  rw [hu]
  dsimp only
  split
  · exact if_neg (by simpa using hr)
  · rfl

theorem State.entryReady_enters {s : State} {u : Nat} {p : Cur} {g : Fibre} {x y z w : Word} (hu : s.findU u = some (p, g))
    (hr : g.ring = []) (hw : g.wait = .entry x y z w) : s.entryReady u = s.enterNow p g x y z w := by
  simp only [State.entryReady, hu, hw, hr, List.isEmpty_nil, if_true]

/-- The second half of an entry to handler mode (R409). -/
theorem State.fib_enterNow {s : State} {p : Cur} {g : Fibre} (hg : s.fib p.bay p.idx p.slot = some g) (hd : g.dfaults = [])
    (x y z w : Word) : (s.enterNow p g x y z w).fib p.bay p.idx p.slot = some (g.enter (s.hentryOf p) x y z w) := by
  rw [State.enterNow, if_pos (by rw [hd]; rfl), State.fib_countEntry, State.fib_modF_self, hg]
  rfl

theorem State.enterNow_reports {s : State} {p : Cur} {g : Fibre} {e : DFault} (he : oldest g.dfaults = some e) (x y z w : Word) :
    s.enterNow p g x y z w = s.reportDeferred p g := by
  have hd : g.dfaults ≠ [] := fun h => by rw [h, oldest_nil] at he; cases he
  exact if_neg (by simpa using hd)

theorem State.entryReady_proceeds {s : State} {u : Nat} {p : Cur} {g : Fibre} (hu : s.findU u = some (p, g))
    (hg : s.fib p.bay p.idx p.slot = some g) : s.Proceeds (s.entryReady u) p g := by
  refine ⟨fun h => ?_, fun x y z w hr hw => ⟨fun hd => ?_, fun e hm he => ?_⟩⟩
  · rcases h with hr | hw
    · rw [State.entryReady_waits hu hr, hg]
    · rw [State.entryReady_other hu hw, hg]
  · rw [State.entryReady_enters hu hr hw, State.fib_enterNow hg hd]
  · rw [State.entryReady_enters hu hr hw, State.enterNow_reports he]
    exact ⟨_, State.fib_reportDeferred hg hm he, rfl, rfl, rfl, causeDeferred_eq e.cause, rfl, rfl⟩

/-- The fibre g that f has become by the completion of an access, with the ring entry freed; it goes on where it waited for
this newest access to be accepted (R145, R162). -/
def Fibre.freed (f g : Fibre) (rid : Nat) : Fibre :=
  { g with
    ring := f.ring.filter fun a => a.rid != rid
    wait := if f.wait = .queued 0x0D ∧ ∀ a ∈ f.ring, a.rid ≤ rid then .ready else f.wait }

/-- The change of a fibre by a completion h that frees its ring entry, as `State.freeEntry` makes it. -/
def Fibre.freeing (h : Fibre → Fibre) (rid : Nat) (x : Fibre) : Fibre :=
  { h x with
    ring := (h x).ring.filter fun a => a.rid != rid
    wait := if x.wait == .queued 0x0D && x.ring.all fun a => decide (a.rid ≤ rid) then .ready else (h x).wait }

theorem Fibre.freeing_eq {h : Fibre → Fibre} {f : Fibre} (hring : (h f).ring = f.ring) (hwait : (h f).wait = f.wait) (rid : Nat) :
    f.freeing h rid = f.freed (h f) rid := by
  rw [Fibre.freeing, Fibre.freed, hring, hwait]
  simp

theorem State.freeEntry_eq (s : State) (u rid : Nat) (h : Fibre → Fibre) :
    s.freeEntry u rid h = (s.modU u (Fibre.freeing h rid)).entryReady u := rfl

/-- A completion that keeps name, ring and wait of its fibre frees the entry, and the fibre proceeds. -/
theorem State.freeEntry_proceeds {s : State} {u : Nat} {p : Cur} {f : Fibre} (hp : s.findU u = some (p, f))
    (hf : s.fib p.bay p.idx p.slot = some f) (hu : f.uid = u) {h : Fibre → Fibre} (huid : ∀ x, (h x).uid = x.uid)
    (hring : (h f).ring = f.ring) (hwait : (h f).wait = f.wait) (rid : Nat) :
    s.Proceeds (s.freeEntry u rid h) p (f.freed (h f) rid) := by
  have hfound : (s.modU u (Fibre.freeing h rid)).findU u = some (p, f.freeing h rid) := by
    rw [State.findU_modU (h := Fibre.freeing h rid) (fun x => huid x), hp]
    rfl
  have hfib : (s.modU u (Fibre.freeing h rid)).fib p.bay p.idx p.slot = some (f.freeing h rid) := by
    rw [State.fib_modU, hf]
    exact congrArg some (onU_of_uid hu _)
  have hgo := State.entryReady_proceeds hfound hfib
  unfold State.Proceeds at hgo ⊢
  rwa [State.hentryOf_modU, ← State.freeEntry_eq, Fibre.freeing_eq hring hwait] at hgo

/-! ### The events (R143, R145, R146) -/

theorem execAccessAccepted_frees {s : State} {u rid : Nat} (he : s.ev = .accessAccepted u rid) :
    exec .accessAccepted s = .next (s.freeEntry u rid id) := by
  show execAccessAccepted s = _
  rw [execAccessAccepted, he]

theorem execLoadDataReturn_frees {s : State} {u rid : Nat} {d : GReg} {v : Word} (he : s.ev = .loadDataReturn u d v rid)
    (hr : rid ≠ 0) : exec .loadDataReturn s = .next (s.freeEntry u rid fun f => f.setReg d v) := by
  show execLoadDataReturn s = _
  rw [execLoadDataReturn, he]
  exact if_neg hr

/-- The value of a local load has no ring entry to free (R140). -/
theorem execLoadDataReturn_local {s : State} {u : Nat} {d : GReg} {v : Word} (he : s.ev = .loadDataReturn u d v 0) :
    exec .loadDataReturn s = .next (s.modU u fun f => { f.setReg d v with locals := f.locals - 1 }) := by
  show execLoadDataReturn s = _
  rw [execLoadDataReturn, he]
  exact if_pos rfl

/-- The fibre with the fault of an access recorded, its register empty and marked faulted (R146). -/
def Fibre.recordFault (f : Fibre) (rid : Nat) (a : Access) (k : Cause) : Fibre :=
  { (match a.dest with | some d => f.setFaulted d | none => f) with
    dfaults := f.dfaults ++ [{ rid := rid, pc := a.pc, ea := a.ea, cause := k, dest := a.dest }] }

theorem Fibre.recordFault_keeps (f : Fibre) (rid : Nat) (a : Access) (k : Cause) :
    (f.recordFault rid a k).uid = f.uid ∧ (f.recordFault rid a k).ring = f.ring ∧ (f.recordFault rid a k).wait = f.wait := by
  unfold Fibre.recordFault
  split <;> exact ⟨rfl, rfl, rfl⟩

theorem execAccessFaultRecorded_frees {s : State} {u rid : Nat} {k : Cause} {a : Access} (he : s.ev = .accessFaultRecorded u rid k)
    (ha : s.access u rid = some a) :
    exec .accessFaultRecorded s = .next (s.freeEntry u rid fun f => f.recordFault rid a k) := by
  show execAccessFaultRecorded s = _
  simp only [execAccessFaultRecorded, he, ha, Fibre.recordFault]
  cases a.dest <;> rfl

theorem execAccessFaultRecorded_gone {s : State} {u rid : Nat} {k : Cause} (he : s.ev = .accessFaultRecorded u rid k)
    (ha : s.access u rid = none) : exec .accessFaultRecorded s = .next s := by
  show execAccessFaultRecorded s = _
  simp only [execAccessFaultRecorded, he, ha]

theorem State.freeEntry_sameMemory (s : State) (u rid : Nat) (h : Fibre → Fibre) : SameMemory s (s.freeEntry u rid h) :=
  fun _ => by rw [State.freeEntry_mem]

/-- Settles O26: each event frees its entry by `State.freeEntry`, after which the fibre proceeds. -/
theorem accessCompletion : Obligations.AccessCompletion := by
  unfold Obligations.AccessCompletion
  intro s u rid
  refine ⟨fun he => ⟨_, execAccessAccepted_frees he, s.freeEntry_sameMemory u rid _⟩, fun d v he => ?_, fun k he => ?_,
    fun p f hp hf hu hr => ⟨fun he => ⟨_, execAccessAccepted_frees he, ?_⟩, fun d v he => ⟨_, execLoadDataReturn_frees he hr, ?_⟩,
      fun k a he ha => ⟨_, execAccessFaultRecorded_frees he ha, ?_⟩⟩⟩
  · by_cases hr : rid = 0
    · subst hr
      exact ⟨_, execLoadDataReturn_local he, fun _ => rfl⟩
    · exact ⟨_, execLoadDataReturn_frees he hr, s.freeEntry_sameMemory u rid _⟩
  · cases ha : s.access u rid with
    | none => exact ⟨s, execAccessFaultRecorded_gone he ha, fun _ => rfl⟩
    | some a => exact ⟨_, execAccessFaultRecorded_frees he ha, s.freeEntry_sameMemory u rid _⟩
  · exact State.freeEntry_proceeds hp hf hu (h := id) (fun _ => rfl) rfl rfl rid
  · exact State.freeEntry_proceeds hp hf hu (h := fun x => x.setReg d v) (fun _ => rfl) rfl rfl rid
  · obtain ⟨-, hring, hwait⟩ := f.recordFault_keeps rid a k
    exact State.freeEntry_proceeds hp hf hu (h := fun x => x.recordFault rid a k) (fun x => (x.recordFault_keeps ..).1) hring hwait rid

end Sys2Proof.Machine
end

section
/-!
SUPPORT and PROOF. Fences (O24).
-/
namespace Sys2Proof.Machine

/-- A body that blocks a ready fibre (R93). -/
theorem finish_block {s : State} {f : Fibre} (e : s.curF = some f) (hw : f.wait = .ready) (code : Nat) :
    s.finish f (.block code) = s.asFibre (f.block (.retry code) (s.bay s.cur.bay).cycle) := by
  rw [State.finish, State.modCur_eq_asFibre e, if_neg (by rw [hw]; exact Wait.noConfusion)]

section
variable {s : State} {i : Instr} {c : BayCtx} {f : Fibre} {all : Bool} (h : s.Issues (namedRegs i) c f)
include h

/-- The body of a fence, of either kind (R152, R153). -/
theorem fenceOp_runs : fenceOp i all s = .next (s.finish f (
    if !f.ring.isEmpty then .block 9
    else if !f.dfaults.isEmpty then .deferred
    else if s.unsent f.uid (s.tick + 1) || all && s.remoteStores f.uid then .block 0x0D
    else .done (s.releaseMark .ar))) :=
  issue_runs h.ctx h.fibre h.full rfl h.frame

/-- With nothing outstanding and nothing left to send, the streams are marked and the fence retires (R152, R165). -/
theorem fenceOp_orders (hq : f.quiet) (hu : s.unsent f.uid (s.tick + 1) = false) (hr : all = true → s.remoteStores f.uid = false) :
    fenceOp i all s = .next (s.retired (f.marked s .ar).retire) := by
  have hall : (all && s.remoteStores f.uid) = false := Bool.and_eq_false_imp.2 hr
  rw [fenceOp_runs h, if_neg (by simp [hq.1]), if_neg (by simp [hq.2]), if_neg (by rw [hu, hall]; decide)]
  have hmark : s.releaseMark .ar = s.asFibre (f.marked s .ar) := State.modCur_eq_asFibre h.fibre _
  rw [hmark, finish_done_asFibre]

theorem fenceOp_blocks (hr : f.ring ≠ []) (hw : f.wait = .ready) :
    fenceOp i all s = .next (s.asFibre (f.block (.retry 9) (s.bay s.cur.bay).cycle)) := by
  rw [fenceOp_runs h, if_pos (by simpa using hr), finish_block h.fibre hw]

theorem fenceOp_reports (hr : f.ring = []) (hd : f.dfaults ≠ []) : fenceOp i all s = .next (s.reportDeferred s.cur f) := by
  rw [fenceOp_runs h, if_neg (by simp [hr]), if_pos (by simpa using hd)]
  rfl

end

/-- Settles O24: both fences share the checks; FENCEA waits for the remote stores as well. -/
theorem fences : Obligations.Fences := by
  unfold Obligations.Fences
  intro s c f k p h on
  have hf : s.Issues (namedRegs (.fence k p)) c f := h
  have ha : s.Issues (namedRegs (.fencea k p)) c f := h
  refine ⟨fun hq hu => ⟨fenceOp_orders hf hq hu Bool.noConfusion, fun hr => fenceOp_orders ha hq hu fun _ => hr⟩, fun hr hw => ?_,
    fun hr hd => ⟨fenceOp_reports hf hr hd, fenceOp_reports ha hr hd⟩⟩
  exact ⟨fenceOp_blocks hf hr hw, fenceOp_blocks ha hr hw⟩

end Sys2Proof.Machine
end

section
/-!
SUPPORT and PROOF. Loads from and stores to global addresses as they issue (O22).
-/
namespace Sys2Proof.Machine

/-! ### What a ring entry leaves alone (R144) -/

theorem State.takeEntry_eq (s : State) (x : Access) :
    s.takeEntry x = { s.modCur (fun g => g.took x) with nextId := s.nextId + 1 } :=
  congrArg (fun h => ({ s.modCur h with nextId := s.nextId + 1 } : State)) (funext fun g => g.took_ring_eq x)

theorem find?_asid_tmod {h : BayCtx → BayCtx} (hh : ∀ c, (h c).asid = c.asid) (l : Tab BayCtx) (i a : Nat) :
    ((tmod h l i).find? fun p => p.2.asid == a).map Prod.fst = (l.find? fun p => p.2.asid == a).map Prod.fst := by
  induction l with
  | nil => rfl
  | cons p r ih =>
    obtain ⟨j, x⟩ := p
    rw [tmod]
    split
    · simp only [List.find?_cons, hh]
      split <;> rfl
    · simp only [List.find?_cons]
      split
      · rfl
      · exact ih

/-- Which contexts a bay holds, and under which keys, is no matter of a fibre (R178). -/
theorem State.keyOf_modF (s : State) (b i k : Nat) (h : Fibre → Fibre) (j a : Nat) : (s.modF b i k h).keyOf j a = s.keyOf j a := by
  unfold State.keyOf State.modF State.modC
  by_cases e : j = b
  · rw [e, State.bay_modBay_self]
    exact find?_asid_tmod (h := fun c => c.modSlot k fun x => { x with fib := x.fib.map h }) (fun _ => rfl) ..
  · rw [State.bay_modBay_ne _ _ e]

section
variable (s : State) (x : Access)

theorem State.takeEntry_keyOf (b a : Nat) : (s.takeEntry x).keyOf b a = s.keyOf b a := by
  rw [State.takeEntry_eq]
  exact s.keyOf_modF s.cur.bay s.cur.idx s.cur.slot (fun g => g.took x) b a

theorem State.takeEntry_quota (b i : Nat) : ((s.takeEntry x).bctx b i).map BayCtx.quota = (s.bctx b i).map BayCtx.quota := by
  have h := (FibreFrame.modF s.cur 0 s fun g => g.took x).held b i
  have hq := congrArg (Option.map BayCtx.quota) h
  rw [Option.map_map, Option.map_map] at hq
  rw [State.takeEntry_eq]
  exact hq

theorem State.takeEntry_usable (a b : Nat) : (s.takeEntry x).usable a b = s.usable a b := by
  have h := (FibreFrame.modF s.cur 0 s fun g => g.took x).bays b
  have hfenced : ((s.takeEntry x).bay b).fenced = (s.bay b).fenced := by
    rw [State.takeEntry_eq]
    exact (congrArg Bay.fenced h :)
  rw [State.usable, State.usable, State.holds, State.holds, State.takeEntry_keyOf, hfenced]
  rfl

/-- The check of an aperture address is no matter of a fibre (R139). -/
theorem State.takeEntry_aperture (a : Nat) (ea : Word) (n : Nat) : (s.takeEntry x).aperture a ea n = s.aperture a ea n := by
  unfold State.aperture
  dsimp only
  rw [State.takeEntry_keyOf, State.takeEntry_usable]
  cases s.keyOf (apBay ea) a with
  | none => rfl
  | some i =>
    have hq := s.takeEntry_quota x (apBay ea) i
    dsimp only
    cases hs : s.bctx (apBay ea) i with
    | none => rw [Option.map_eq_none_iff.1 (hq.trans (congrArg _ hs))]
    | some c =>
      obtain ⟨e, he, hec⟩ := Option.map_eq_some_iff.1 (hq.trans (congrArg _ hs))
      rw [he]
      dsimp only
      rw [hec]

/-- A context that is resident on a bay is not saved off it. -/
theorem State.takeEntry_saved {j b a : Nat} (hj : j < 4) (h : s.keyOf b a = some j) : (s.takeEntry x).saved b a = none :=
  State.saved_of_resident hj ((s.takeEntry_keyOf x b a).trans h)

end

/-! ### At the bank of an aperture address (R139, R161) -/

/-- Where the fibre has no aperture access under way, no lane holds one to perform before (R160, R163). -/
theorem State.drainBank_idle {s : State} {u : Nat} (h : ∀ x ∈ s.agenda, ∀ rid, x.ev ≠ .apertureAccess u rid) (lane : Nat) :
    s.drainBank u lane = s := by
  unfold State.drainBank
  dsimp only
  rw [List.dropWhile_eq_nil_iff.2 fun x hx => ?_]
  · rfl
  · have hmem : x ∈ s.agenda := List.mem_of_mem_filter (List.mem_reverse.1 hx)
    split
    · rename_i v rid he
      have hv : v ≠ u := fun e => h x hmem rid (e ▸ he)
      simpa using hv
    · rfl

theorem ownAperture_bay {s : State} {ea : Word} (h : ownAperture s ea = true) : apBay ea = s.cur.bay :=
  eq_of_beq (Bool.and_eq_true_iff.1 h).2

theorem State.globalIssue_own {s : State} {f : Fibre} {ea : Word} (hown : ownAperture s ea = true)
    (hidle : ∀ x ∈ s.agenda, ∀ rid, x.ev ≠ .apertureAccess f.uid rid) (c : BayCtx) (n : Nat) (kind : AKind) (d : Option GReg)
    (w e : Word) :
    s.globalIssue c f ea n kind d w e = (s.takeEntry (s.mkAccess c f ea n kind d w e)).apertureAt f.uid s.nextId := by
  rw [State.globalIssue, if_pos hown, State.drainBank_idle hidle]

section
variable {t : State} {u rid key : Nat} {a : Access} (ha : t.access u rid = some a)
  (hk : t.aperture a.asid a.ea a.size = .ok key) (hs : t.saved (apBay a.ea) a.asid = none)
include ha hk hs

/-- A load at the scratchpad of a resident context, without an uncorrectable error (R139, R151). -/
theorem State.apertureAt_load {sg : Bool} (hkind : a.kind = .load sg) (hb : t.bad key a.size = none) :
    t.apertureAt u rid = t.answer (apBay a.ea) a.bay
      (.loadDataReturn u (a.dest.getD 0) (extend sg a.size (leNat (t.read key a.size))) rid) := by
  have hr : t.mayRead (apBay a.ea) a.asid (apOff a.ea) a.size = (t, true) := by rw [State.mayRead, hs]
  simp only [State.apertureAt, ha, hk, hkind, hr, hb, Option.isSome_none, Bool.false_eq_true, if_false]

/-- A store at the scratchpad of a resident context (R139). -/
theorem State.apertureAt_store (hkind : a.kind = .store) :
    t.apertureAt u rid = (t.write key (leBytes a.size a.data.toNat)).answer (apBay a.ea) a.bay (.accessAccepted u rid) := by
  simp only [State.apertureAt, ha, hk, hkind, State.putSaved, State.viaPages_resident _ _ _ hs]

end

/-- An answer is on its way when the instruction has retired (R10, R145). -/
theorem State.answer_retires {t : State} {g : Fibre} (e : t.curF = some g) (a b : Nat) (ev : Ev) :
    (t.answer a b ev).retireCur.curF = some g.retire ∧
      (t.answer a b ev).retireCur.agenda = t.agenda ++ [⟨laneBack a b (answerKind ev), ev⟩] ∧
      (t.answer a b ev).retireCur.mem = t.mem :=
  ⟨State.curF_retireCur e, State.retireCur_agenda _, State.retireCur_mem _⟩

/-! ### LDG and STG (R140) -/

theorem execLdg_runs {s : State} {c : BayCtx} {f : Fibre} {d a : GReg} (h : s.Issues [d, a] c f) (z : Sz) (zx : Bool)
    (q : BitVec 17) :
    exec (.ldg d a z zx q) s = .next (s.finish f (globalCheck f (f.reg a + q.signExtend 64) (2 ^ z.code.toNat)
      (.done (s.globalIssue c f (f.reg a + q.signExtend 64) (2 ^ z.code.toNat) (.load (!zx)) (some d) 0 0)))) := by
  rw [← szBytes_eq]
  show execLdg d a z zx q s = _
  exact issue_runs h.ctx h.fibre h.full rfl h.frame

theorem execStg_runs {s : State} {c : BayCtx} {f : Fibre} {d a : GReg} (h : s.Issues [d, a] c f) (z : Sz) (q : BitVec 17) :
    exec (.stg d a z q) s = .next (s.finish f (globalCheck f (f.reg a + q.signExtend 64) (2 ^ z.code.toNat)
      (.done (s.globalIssue c f (f.reg a + q.signExtend 64) (2 ^ z.code.toNat) .store none (f.reg d) 0)))) := by
  rw [← szBytes_eq]
  show execStg d a z q s = _
  exact issue_runs h.ctx h.fibre h.full rfl h.frame

section
variable {s : State} {c : BayCtx} {f : Fibre} {ea : Word} {n : Nat}

/-- With all 16 entries in use an access blocks its fibre (R144). -/
theorem globalCheck_full (ha : ea.toNat % n = 0) (hg : globalForm ea = true) (hl : 16 ≤ f.ring.length) (k : Res) :
    globalCheck f ea n k = .block 8 := by
  rw [globalCheck, if_neg (by simpa using ha), if_neg (by rw [hg]; decide), if_pos hl]

/-- An access that leaves its bay has taken its ring entry and is on its way when it has retired (R144). -/
theorem State.globalIssue_elsewhere_retires (hf : s.curF = some f) (hown : ownAperture s ea = false) (kind : AKind)
    (d : Option GReg) (w : Word) :
    (s.globalIssue c f ea n kind d w 0).retireCur.curF = some (f.took (s.mkAccess c f ea n kind d w 0)).retire ∧
      (s.globalIssue c f ea n kind d w 0).retireCur.agenda = s.agenda ++ s.onItsWay f.uid ea ∧
      SameMemory s (s.globalIssue c f ea n kind d w 0).retireCur := by
  have hissue : s.globalIssue c f ea n kind d w 0 = s.enterRing f (s.mkAccess c f ea n kind d w 0) :=
    State.globalIssue_ok (r := .rlx) hown ..
  rw [hissue]
  obtain ⟨hfib, hag, hmem⟩ := State.enterRing_retires hf f (s.mkAccess c f ea n kind d w 0)
  exact ⟨hfib, hag, fun k => congrArg (memGet · k) hmem⟩

section
variable {key j : Nat} (hf : s.curF = some f) (hown : ownAperture s ea = true)
  (hidle : ∀ x ∈ s.agenda, ∀ rid, x.ev ≠ .apertureAccess f.uid rid) (hkey : s.aperture c.asid ea n = .ok key)
  (hres : s.keyOf s.cur.bay c.asid = some j) (hj : j < 4)
include hf hown hidle hkey hres hj

/-- A load at an aperture address of its own bay is performed at once, and its value is on the way (R139, R161). -/
theorem State.globalIssue_own_load_retires {sg : Bool} {d : GReg} {x : Access} (hx : x = s.mkAccess c f ea n (.load sg) (some d) 0 0)
    (hb : s.bad key n = none) (hacc : (s.takeEntry x).access f.uid s.nextId = some x) :
    (s.globalIssue c f ea n (.load sg) (some d) 0 0).retireCur.curF = some (f.took x).retire ∧
      (s.globalIssue c f ea n (.load sg) (some d) 0 0).retireCur.agenda = s.agenda ++
        [⟨laneBack s.cur.bay s.cur.bay 0, .loadDataReturn f.uid d (extend sg n (leNat (s.read key n))) s.nextId⟩] ∧
      SameMemory s (s.globalIssue c f ea n (.load sg) (some d) 0 0).retireCur := by
  have hbay := ownAperture_bay hown
  rw [← hbay] at hres
  rw [State.globalIssue_own hown hidle, ← hx]
  subst hx
  have hsaved := s.takeEntry_saved (s.mkAccess c f ea n (.load sg) (some d) 0 0) hj hres
  rw [State.apertureAt_load hacc ((s.takeEntry_aperture ..).trans hkey) hsaved rfl hb]
  obtain ⟨hfib, hag, hmem⟩ := State.answer_retires (State.curF_takeEntry hf (s.mkAccess c f ea n (.load sg) (some d) 0 0))
    (apBay ea) s.cur.bay (.loadDataReturn f.uid d (extend sg n (leNat (s.read key n))) s.nextId)
  refine ⟨hfib, hag.trans ?_, fun k => congrArg (memGet · k) hmem⟩
  rw [hbay]
  rfl

/-- A store there has written its bytes, and its acceptance is on the way (R139, R161). -/
theorem State.globalIssue_own_store_retires {w : Word} {x : Access} (hx : x = s.mkAccess c f ea n .store none w 0)
    (hacc : (s.takeEntry x).access f.uid s.nextId = some x) :
    (s.globalIssue c f ea n .store none w 0).retireCur.curF = some (f.took x).retire ∧
      (s.globalIssue c f ea n .store none w 0).retireCur.agenda = s.agenda ++
        [⟨laneBack s.cur.bay s.cur.bay 1, .accessAccepted f.uid s.nextId⟩] ∧
      (∀ k, k < n → memGet (s.globalIssue c f ea n .store none w 0).retireCur.mem (key + k) = w.extractLsb' (8 * k) 8) ∧
      SameMemoryBut key n s (s.globalIssue c f ea n .store none w 0).retireCur := by
  have hbay := ownAperture_bay hown
  rw [← hbay] at hres
  rw [State.globalIssue_own hown hidle, ← hx]
  subst hx
  have hsaved := s.takeEntry_saved (s.mkAccess c f ea n .store none w 0) hj hres
  rw [State.apertureAt_store hacc ((s.takeEntry_aperture ..).trans hkey) hsaved rfl]
  have htook := State.curF_takeEntry hf (s.mkAccess c f ea n .store none w 0)
  obtain ⟨-, -, hin, hout⟩ := State.write_retires htook key n w
  obtain ⟨hfib, hag, hmem⟩ := State.answer_retires
    (t := (s.takeEntry (s.mkAccess c f ea n .store none w 0)).write key (leBytes n w.toNat)) htook
    (apBay ea) s.cur.bay (.accessAccepted f.uid s.nextId)
  replace hmem := hmem.trans (State.retireCur_mem _).symm
  refine ⟨hfib, hag.trans ?_, fun k hk => (congrArg (memGet · (key + k)) hmem).trans (hin k hk),
    fun b hb => (congrArg (memGet · b) hmem).trans (hout b hb)⟩
  rw [hbay]
  rfl

end

end

/-- Settles O22: after the checks, the access goes by its ring entry to its place, or is performed at the bank of its own bay. -/
theorem globalAccesses : Obligations.GlobalAccesses := by
  unfold Obligations.GlobalAccesses
  intro s c f d a z zx q h ea n acc sent
  have hld := execLdg_runs h z zx q
  have hst := execStg_runs h z q
  refine ⟨fun ha hg hown hl => ?_, fun key ha hg hown hl hidle hkey hbad hres hi => ?_, fun ha => ?_, fun ha hg => ?_,
    fun ha hg hl hw => ?_⟩
  · rw [globalCheck_ok ha hg hl] at hld hst
    exact ⟨⟨_, hld, State.globalIssue_elsewhere_retires h.fibre hown _ (some d) 0⟩,
      ⟨_, hst, State.globalIssue_elsewhere_retires h.fibre hown .store none (f.reg d)⟩⟩
  · rw [globalCheck_ok ha hg hl] at hld hst
    rw [← State.extend_read s zx key (Sz.pow_code_le z)]
    exact ⟨fun hacc => ⟨_, hld, State.globalIssue_own_load_retires h.fibre hown hidle hkey hres hi rfl hbad hacc⟩,
      fun hacc => ⟨_, hst, State.globalIssue_own_store_retires h.fibre hown hidle hkey hres hi rfl hacc⟩⟩
  · rw [globalCheck_align ha, finish_fault] at hld hst
    exact ⟨hld, hst⟩
  · rw [globalCheck_gaddr ha hg, finish_fault] at hld hst
    exact ⟨hld, hst⟩
  · rw [globalCheck_full ha hg hl, finish_block h.fibre hw] at hld hst
    exact ⟨hld, hst⟩

end Sys2Proof.Machine
end

section
/-!
SUPPORT and PROOF. Which of the ready fibres issues (O35).
-/
namespace Sys2Proof.Machine

/-- x comes before y at the issue, or beside it (R191): its effective priority is higher, or as high and its slot as near. -/
def Precedes (q last : Nat) (cong : Bool) (x y : Nat × Fibre × Act) : Prop :=
  effPri cong y.2.1 ≤ effPri cong x.2.1 ∧
    (effPri cong y.2.1 = effPri cong x.2.1 → slotDist q last x.1 ≤ slotDist q last y.1)

section
variable {q last : Nat} {cong : Bool} {x y z : Nat × Fibre × Act}

theorem Precedes.refl : Precedes q last cong x x := ⟨le_rfl, fun _ => le_rfl⟩

theorem Precedes.trans (h : Precedes q last cong x y) (k : Precedes q last cong y z) : Precedes q last cong x z := by
  unfold Precedes at *
  omega

/-- Of two ready fibres, the better one precedes both. -/
theorem better_precedes : Precedes q last cong (better q last cong x y) x ∧ Precedes q last cong (better q last cong x y) y := by
  unfold better Precedes
  dsimp only
  split
  · omega
  · split
    · omega
    · split <;> omega

end

theorem choose_eq_none {q last : Nat} {cong : Bool} {l : List (Nat × Fibre × Act)} : choose q last cong l = none ↔ l = [] := by
  cases l with
  | nil => exact ⟨fun _ => rfl, fun _ => rfl⟩
  | cons x r =>
    rw [choose]
    split <;> simp

/-- The fibre that is chosen precedes every ready one. -/
theorem choose_precedes {q last : Nat} {cong : Bool} {l : List (Nat × Fibre × Act)} {x : Nat × Fibre × Act}
    (h : choose q last cong l = some x) : ∀ y ∈ l, Precedes q last cong x y := by
  induction l generalizing x with
  | nil => cases h
  | cons z r ih =>
    rw [choose] at h
    intro y hy
    cases hr : choose q last cong r with
    | none =>
      rw [hr] at h
      cases h
      rw [choose_eq_none.1 hr, List.mem_singleton] at hy
      rw [hy]
      exact .refl
    | some w =>
      rw [hr] at h
      cases h
      obtain ⟨hz, hw⟩ := better_precedes (q := q) (last := last) (cong := cong) (x := z) (y := w)
      rcases List.mem_cons.1 hy with rfl | hy
      · exact hz
      · exact hw.trans (ih hr y hy)

/-- Settles O35: the choice keeps the better of two fibres, by an order that is transitive. -/
theorem priorityRule : Obligations.PriorityRule := by
  unfold Obligations.PriorityRule
  intro q last cong l x
  refine ⟨choose_eq_none, fun h => ⟨choose_mem h, fun y hy => (choose_precedes h y hy).1, fun y hy => (choose_precedes h y hy).2⟩,
    fun f => ⟨fun h => ?_, fun hm hw => ?_⟩⟩
  · unfold effPri
    split
    · rfl
    · rename_i hm
      exact if_pos (h.resolve_left hm)
  · rw [effPri, hm, if_neg Bool.false_ne_true, if_neg (by omega)]

end Sys2Proof.Machine
end

section
/-!
SUPPORT. What the bookkeeping of a bay's cellar leaves of the state (R177, R208, R209), and a slot that frees (R36).
-/
namespace Sys2Proof.Machine

/-- A change of a context on a bay that keeps its slots changes no fibre there. -/
theorem State.fib_modC_of_slots (s : State) (b i : Nat) {g : BayCtx → BayCtx} (hg : ∀ c, (g c).slots = c.slots) (a j k : Nat) :
    (s.modC b i g).fib a j k = s.fib a j k := by
  unfold State.fib
  by_cases e : a = b ∧ j = i
  · obtain ⟨rfl, rfl⟩ := e
    rw [State.bctx_modC_self]
    cases s.bctx a j with
    | none => rfl
    | some c => simp [BayCtx.slot, hg]
  · rw [State.bctx_modC_ne _ _ (not_and_or.1 e)]

/-! ### The bookkeeping of a cellar (R177, R208, R209) -/

/-- d is c but for reservations, congestion and the acknowledgements held: every slot has its fibre and its generation, and the
records are those of c. -/
structure BayCtx.Books (c d : BayCtx) : Prop where
  kept : d = { c with
    slots := d.slots
    cellar := { c.cellar with order := d.cellar.order, cong := d.cellar.cong, acks := d.cellar.acks } }
  slots : ∀ k, (d.slot k).fib = (c.slot k).fib ∧ (d.slot k).gen = (c.slot k).gen

theorem BayCtx.Books.refl (c : BayCtx) : c.Books c := ⟨rfl, fun _ => ⟨rfl, rfl⟩⟩

theorem BayCtx.Books.trans {c d e : BayCtx} (h : c.Books d) (k : d.Books e) : c.Books e :=
  ⟨k.kept.trans (by rw [h.kept]), fun j => ⟨(k.slots j).1.trans (h.slots j).1, (k.slots j).2.trans (h.slots j).2⟩⟩

theorem BayCtx.Books.sems {c d : BayCtx} (h : c.Books d) : d.sems = c.sems := by rw [h.kept]
theorem BayCtx.Books.ring {c d : BayCtx} (h : c.Books d) : d.cellar.ring = c.cellar.ring := by rw [h.kept]
theorem BayCtx.Books.blocked {c d : BayCtx} (h : c.Books d) : d.cellar.blocked = c.cellar.blocked := by rw [h.kept]

/-- A reservation changes the books alone (R208). -/
theorem BayCtx.books_resv (c : BayCtx) (k : Nat) (v : Bool) : c.Books (c.modSlot k fun z => { z with resv := v }) where
  kept := rfl
  slots j := by
    by_cases e : j = k
    · subst e
      rw [BayCtx.slot_modSlot_self]
      exact ⟨rfl, rfl⟩
    · rw [BayCtx.slot_modSlot_ne _ _ e]
      exact ⟨rfl, rfl⟩

/-- From s to t only the books of the cellars, what is in flight and the names given have changed. -/
structure CellarFrame (s t : State) : Prop where
  units : t = { s with bays := t.bays, agenda := t.agenda, nextId := t.nextId }
  held : ∀ b i, (s.bctx b i = none ∧ t.bctx b i = none) ∨ ∃ c d, s.bctx b i = some c ∧ t.bctx b i = some d ∧ c.Books d

namespace CellarFrame

variable {s t u : State}

/-- A state with the same contexts on its bays. -/
theorem of_bctx (hu : t = { s with bays := t.bays, agenda := t.agenda, nextId := t.nextId })
    (h : ∀ b i, t.bctx b i = s.bctx b i) : CellarFrame s t where
  units := hu
  held b i := by
    rw [h]
    cases s.bctx b i with
    | none => exact .inl ⟨rfl, rfl⟩
    | some c => exact .inr ⟨c, c, rfl, rfl, .refl c⟩

theorem refl (s : State) : CellarFrame s s := of_bctx rfl fun _ _ => rfl

theorem bctx (h : CellarFrame s t) {b i : Nat} {c : BayCtx} (hc : s.bctx b i = some c) :
    ∃ d, t.bctx b i = some d ∧ c.Books d := by
  rcases h.held b i with ⟨hs, -⟩ | ⟨x, d, hs, ht, hb⟩
  · cases hs.symm.trans hc
  · cases hs.symm.trans hc
    exact ⟨d, ht, hb⟩

theorem trans (h : CellarFrame s t) (k : CellarFrame t u) : CellarFrame s u where
  units := k.units.trans (by rw [h.units])
  held b i := by
    rcases h.held b i with ⟨hs, ht⟩ | ⟨c, d, hs, ht, hcd⟩
    · rcases k.held b i with ⟨-, hu⟩ | ⟨x, -, hx, -⟩
      · exact .inl ⟨hs, hu⟩
      · cases ht.symm.trans hx
    · obtain ⟨e, hu, hde⟩ := k.bctx ht
      exact .inr ⟨c, e, hs, hu, hcd.trans hde⟩

theorem fib (h : CellarFrame s t) (b i k : Nat) : t.fib b i k = s.fib b i k := by
  unfold State.fib
  rcases h.held b i with ⟨hs, ht⟩ | ⟨c, d, hs, ht, hb⟩
  · rw [hs, ht]
  · rw [hs, ht]
    exact (hb.slots k).1

theorem sems (h : CellarFrame s t) (b i : Nat) : (t.bctx b i).map BayCtx.sems = (s.bctx b i).map BayCtx.sems := by
  rcases h.held b i with ⟨hs, ht⟩ | ⟨c, d, hs, ht, hb⟩
  · rw [hs, ht]
  · rw [hs, ht]
    exact congrArg some hb.sems

theorem cur (h : CellarFrame s t) : t.cur = s.cur := by rw [h.units]
theorem mem (h : CellarFrame s t) : t.mem = s.mem := by rw [h.units]
theorem ctxs (h : CellarFrame s t) : t.ctxs = s.ctxs := by rw [h.units]

theorem post (s : State) (lane : Nat) (ev : Ev) : CellarFrame s (s.post lane ev) := of_bctx rfl fun _ _ => rfl

theorem postFree (s : State) (ev : Ev) : CellarFrame s (s.postFree ev) := of_bctx rfl fun _ _ => rfl

theorem modC (s : State) (b i : Nat) {g : BayCtx → BayCtx} (hg : ∀ c : BayCtx, c.Books (g c)) : CellarFrame s (s.modC b i g) where
  units := rfl
  held a j := by
    by_cases e : a = b ∧ j = i
    · obtain ⟨rfl, rfl⟩ := e
      rw [State.bctx_modC_self]
      cases s.bctx a j with
      | none => exact .inl ⟨rfl, rfl⟩
      | some c => exact .inr ⟨c, g c, rfl, rfl, hg c⟩
    · rw [State.bctx_modC_ne _ _ (not_and_or.1 e)]
      exact (refl s).held a j

theorem foldl {α : Type} {g : State → α → State} (hg : ∀ t x, CellarFrame t (g t x)) (l : List α) (s : State) :
    CellarFrame s (l.foldl g s) := by
  induction l generalizing s with
  | nil => exact refl s
  | cons x r ih => exact (hg s x).trans (ih _)

theorem congest (s : State) (b i : Nat) : CellarFrame s (s.congest b i) := by
  unfold State.congest
  split
  · exact refl s
  · split
    · exact refl s
    · extract_lets d cong s'
      have hs' : CellarFrame s s' := modC s b i fun _ => ⟨rfl, fun _ => ⟨rfl, rfl⟩⟩
      split
      · exact hs'
      · exact hs'.trans (foldl (fun t _ => post ..) _ _)

theorem reserve (s : State) (b i : Nat) : CellarFrame s (s.reserve b i) := by
  unfold State.reserve
  split
  · exact refl s
  · split
    · split
      · rename_i k _
        refine (modC s b i fun c => ?_).trans (postFree ..)
        exact (c.books_resv k true).trans ⟨rfl, fun _ => ⟨rfl, rfl⟩⟩
      · exact refl s
    · exact refl s

/-- A slot that frees: beyond the slot itself, only the books change (R36, R208, R415). -/
theorem vacate {b i : Nat} {c : BayCtx} (hc : s.bctx b i = some c) (k : Nat) :
    CellarFrame (s.modC b i fun y => y.modSlot k fun x => { gen := x.gen + 1, fib := none, resv := false }) (s.vacate b i k) := by
  have go : ∀ (t : State) (p : Bool), CellarFrame t ((if p then t.postFree (.faultFibreStart c.asid) else t).reserve b i) := by
    intro t p
    cases p with
    | true => exact (postFree t _).trans (reserve ..)
    | false => exact reserve ..
  unfold State.vacate
  rw [hc]
  exact go _ _

end CellarFrame

end Sys2Proof.Machine
end

section
/-!
SUPPORT. Semaphores after a post, a wait and the service of their queues (R193 to R201).
-/
namespace Sys2Proof.Machine

/-! ### The queue (R195) -/

/-- The waiters served are a prefix of the queue, each takes its count, and the head that is left waits for more than is there. -/
theorem serveQ_spec (v : Nat) (q : List (Nat × Nat)) : ∃ served,
    q = served ++ (serveQ v q).2.1 ∧ (serveQ v q).2.2 = served.map Prod.fst ∧
      (serveQ v q).1 + (served.map Prod.snd).sum = v ∧ ∀ u n r, (serveQ v q).2.1 = (u, n) :: r → (serveQ v q).1 < n := by
  induction q generalizing v with
  | nil => exact ⟨[], rfl, rfl, rfl, fun _ _ _ h => by cases h⟩
  | cons p r ih =>
    obtain ⟨u, n⟩ := p
    rw [serveQ]
    split
    · rename_i hn
      obtain ⟨served, hq, hl, hv, hhead⟩ := ih (v - n)
      refine ⟨(u, n) :: served, congrArg _ hq, congrArg _ hl, ?_, hhead⟩
      rw [List.map_cons, List.sum_cons]
      dsimp only
      omega
    · rename_i hn
      refine ⟨[], rfl, rfl, rfl, fun _ _ _ h => ?_⟩
      cases h
      exact Nat.lt_of_not_le hn

/-- Whoever is served waited. -/
theorem serveQ_served_mem {v u : Nat} {q : List (Nat × Nat)} (h : u ∈ (serveQ v q).2.2) : ∃ w ∈ q, w.1 = u := by
  obtain ⟨served, hq, hl, -, -⟩ := serveQ_spec v q
  rw [hl] at h
  obtain ⟨w, hw, e⟩ := List.mem_map.1 h
  exact ⟨w, by rw [hq]; exact List.mem_append_left _ hw, e⟩

/-! ### What changes by name leave -/

theorem State.bctx_modU (s : State) (u : Nat) (h : Fibre → Fibre) (b i : Nat) :
    (s.modU u h).bctx b i = (s.bctx b i).map (BayCtx.mapF (onU u h)) := by
  unfold State.bctx State.bay State.modU
  rw [tget_tmap rfl]
  exact tfind_tmap ..

theorem State.bctx_retireU (s : State) (u : Nat) (h : Fibre → Fibre) (b i : Nat) :
    (s.retireU u h).bctx b i = (s.bctx b i).map (BayCtx.mapF (onU u fun x => (h x).retire)) := by
  unfold State.retireU
  dsimp only
  split <;> simp only [State.countRetired_bctx, State.bctx_modU]

theorem State.retireU_fib (s : State) (u : Nat) (h : Fibre → Fibre) (b i k : Nat) :
    (s.retireU u h).fib b i k = (s.fib b i k).map (onU u fun x => (h x).retire) := by
  unfold State.retireU
  dsimp only
  split <;> simp only [State.countRetired_fib, State.fib_modU]

@[simp] theorem State.retireU_cur (s : State) (u : Nat) (h : Fibre → Fibre) : (s.retireU u h).cur = s.cur := by
  unfold State.retireU
  dsimp only
  split <;> simp

theorem onU_of_ne {u : Nat} {f : Fibre} (e : f.uid ≠ u) (h : Fibre → Fibre) : onU u h f = f := if_neg e

/-! ### Service (R195, R207) -/

/-- From s to t the waits of the fibres in l may have completed: no semaphore and no other fibre has changed. -/
structure WakeFrame (l : List Nat) (s t : State) : Prop where
  cur : t.cur = s.cur
  sems : ∀ b i, (t.bctx b i).map BayCtx.sems = (s.bctx b i).map BayCtx.sems
  fibs : ∀ b i k f, s.fib b i k = some f → f.uid ∉ l → t.fib b i k = some f

theorem WakeFrame.of_cellar {s t : State} (h : CellarFrame s t) (l : List Nat) : WakeFrame l s t :=
  ⟨h.cur, h.sems, fun b i k _ e _ => (h.fib b i k).trans e⟩

theorem WakeFrame.trans {l m : List Nat} {s t u : State} (h : WakeFrame l s t) (k : WakeFrame m t u) : WakeFrame (l ++ m) s u where
  cur := k.cur.trans h.cur
  sems b i := (k.sems b i).trans (h.sems b i)
  fibs b i j f e n := by
    obtain ⟨hl, hm⟩ := not_or.1 (mt List.mem_append.2 n)
    exact k.fibs b i j f (h.fibs b i j f e hl) hm

/-- A change of a context on a bay that keeps its slots and its semaphores. -/
theorem WakeFrame.modC (s : State) (b i : Nat) {g : BayCtx → BayCtx} (hg : ∀ c, (g c).sems = c.sems ∧ (g c).slots = c.slots)
    (l : List Nat) : WakeFrame l s (s.modC b i g) := by
  refine ⟨rfl, fun a j => ?_, fun a j k f e _ => (s.fib_modC_of_slots b i (fun c => (hg c).2) a j k).trans e⟩
  by_cases e : a = b ∧ j = i
  · obtain ⟨rfl, rfl⟩ := e
    rw [State.bctx_modC_self]
    cases s.bctx a j with
    | none => rfl
    | some c => exact congrArg some (hg c).1
  · rw [State.bctx_modC_ne _ _ (not_and_or.1 e)]

theorem WakeFrame.retireU (s : State) (u : Nat) (h : Fibre → Fibre) : WakeFrame [u] s (s.retireU u h) := by
  refine ⟨s.retireU_cur u h, fun b i => ?_, fun b i k f e n => ?_⟩
  · rw [State.bctx_retireU, Option.map_map]
    rfl
  · rw [State.retireU_fib, e]
    exact congrArg some (onU_of_ne (mt List.mem_singleton.2 n) _)

theorem State.wake_frame (s : State) (b i u : Nat) : WakeFrame [u] s (s.wake b i u) := by
  unfold State.wake
  split
  · exact .of_cellar (.refl s) _
  · split
    · refine WakeFrame.trans (l := []) (WakeFrame.modC s b i (fun c => ?_) []) (.of_cellar ((CellarFrame.congest ..).trans (.reserve ..)) _)
      exact ⟨rfl, rfl⟩
    · exact .retireU ..

theorem State.wakes_frame (l : List Nat) (s : State) (b i : Nat) : WakeFrame l s (l.foldl (fun t u => t.wake b i u) s) := by
  induction l generalizing s with
  | nil => exact .of_cellar (.refl s) _
  | cons u r ih => exact (s.wake_frame b i u).trans (ih _)

/-- A waiter that stands in a slot completes its SWAIT (R195, R199). -/
theorem State.fib_wake {s : State} {b i k : Nat} {c : BayCtx} {g : Fibre} (hc : s.bctx b i = some c) (hg : s.fib b i k = some g)
    (hb : ∀ y ∈ c.cellar.blocked, y.2.uid ≠ g.uid) : (s.wake b i g.uid).fib b i k = some g.retire := by
  have hfind : (c.cellar.blocked.find? fun p => p.2.uid == g.uid) = none :=
    List.find?_eq_none.2 fun y hy => by simpa using hb y hy
  unfold State.wake
  rw [hc]
  dsimp only
  rw [hfind]
  dsimp only
  exact State.fib_retireU hg rfl id

/-! ### Semaphores after a change (R193) -/

theorem State.semAt_eq (s : State) (b i n : Nat) : s.semAt b i n = ((s.bctx b i).map BayCtx.sems).map (tget .init · n) := by
  unfold State.semAt
  rw [Option.map_map]
  rfl

theorem State.semAt_of_sems {s t : State} {b i : Nat} (h : (t.bctx b i).map BayCtx.sems = (s.bctx b i).map BayCtx.sems) (n : Nat) :
    t.semAt b i n = s.semAt b i n := by rw [State.semAt_eq, h, ← State.semAt_eq]

theorem State.semAt_of_bctx {s : State} {b i : Nat} {c : BayCtx} (h : s.bctx b i = some c) (n : Nat) :
    s.semAt b i n = some (c.sem n) := by rw [State.semAt, h]; rfl

theorem BayCtx.sem_setSem_self (c : BayCtx) (n : Nat) (x : Sem) : (c.setSem n x).sem n = x := tget_tset_self ..

theorem BayCtx.sem_setSem_ne (c : BayCtx) {n m : Nat} (x : Sem) (h : m ≠ n) : (c.setSem n x).sem m = c.sem m :=
  tget_tset_ne _ _ _ h

theorem State.fib_setSem (s : State) (b i n : Nat) (x : Sem) (a j k : Nat) :
    (s.modC b i fun y => y.setSem n x).fib a j k = s.fib a j k :=
  s.fib_modC_of_slots b i (g := fun y => y.setSem n x) (fun _ => rfl) a j k

section
variable {s : State} {b i : Nat} {c : BayCtx} (hc : s.bctx b i = some c) (n : Nat)
include hc

theorem State.bctx_setSem (x : Sem) : (s.modC b i fun y => y.setSem n x).bctx b i = some (c.setSem n x) :=
  (State.bctx_modC_self ..).trans (congrArg _ hc)

/-- serve(s) of R195 leaves of a semaphore what its queue leaves, and of the others everything. -/
theorem State.semAt_serve (m : Nat) :
    let q := serveQ (c.sem n).value.toNat (c.sem n).queue
    (s.serve b i n).semAt b i m =
      some (if m = n then { c.sem n with value := BitVec.ofNat 24 q.1, queue := q.2.1 } else c.sem m) := by
  intro q
  unfold State.serve
  rw [hc]
  dsimp only
  rw [State.semAt_of_sems ((State.wakes_frame ..).sems b i), State.semAt_of_bctx (State.bctx_setSem hc n _)]
  split
  · rename_i e
    rw [e, BayCtx.sem_setSem_self]
  · rename_i e
    rw [BayCtx.sem_setSem_ne _ _ e]

/-- A fibre whose name is not among those served stays as it is. -/
theorem State.fib_serve_other {a j k : Nat} {f : Fibre} (hf : s.fib a j k = some f)
    (hn : f.uid ∉ (serveQ (c.sem n).value.toNat (c.sem n).queue).2.2) : (s.serve b i n).fib a j k = some f := by
  unfold State.serve
  rw [hc]
  exact (State.wakes_frame ..).fibs _ _ _ _ ((State.fib_setSem ..).trans hf) hn

/-- The one waiter that is served, in a slot of the bay, completes its SWAIT. -/
theorem State.fib_serve_one {k : Nat} {g : Fibre} (hg : s.fib b i k = some g)
    (hq : (serveQ (c.sem n).value.toNat (c.sem n).queue).2.2 = [g.uid]) (hb : ∀ y ∈ c.cellar.blocked, y.2.uid ≠ g.uid) :
    (s.serve b i n).fib b i k = some g.retire := by
  unfold State.serve
  rw [hc]
  dsimp only
  rw [hq]
  exact State.fib_wake (State.bctx_setSem hc n _) ((State.fib_setSem ..).trans hg) hb

theorem State.serve_cur : (s.serve b i n).cur = s.cur := by
  unfold State.serve
  rw [hc]
  exact (State.wakes_frame ..).cur

end

end Sys2Proof.Machine
end

section
/-!
SUPPORT and PROOF. Posts, waits and the other semaphore instructions (O28, O29, O30).
-/
namespace Sys2Proof.Machine

/-! ### Posts (R195, R196, R201) -/

/-- A semaphore with k units more, before its queue is served (R195, R196). -/
def Sem.posted (x : Sem) (k : Nat) : Sem :=
  { x with value := BitVec.ofNat 24 (x.value.toNat + k), ovf := x.ovf || decide (2 ^ 24 ≤ x.value.toNat + k) }

theorem State.postSem_zero (s : State) (b i k : Nat) : s.postSem b i 0 k = s := if_pos rfl

/-- A post to a resident context is the service of the queue with the count added. -/
theorem State.postSem_serves {s : State} {b i n : Nat} {c : BayCtx} (hc : s.bctx b i = some c) (hi : i < 4) (hn : n ≠ 0) (k : Nat) :
    ∃ t : State, s.postSem b i n k = t.serve b i n ∧ t.bctx b i = some (c.setSem n ((c.sem n).posted k)) := by
  unfold State.postSem
  rw [if_neg hn, hc]
  dsimp only
  rw [if_pos hi]
  refine ⟨_, rfl, ?_⟩
  have hp : ∀ (u : State) (a : Nat), (u.pulse a).bctx b i = u.bctx b i := fun _ _ => rfl
  rw [hp, State.bctx_bump, State.bctx_setSem hc]
  rfl

/-- A post that comes over the mesh to a resident context is that post (R201). -/
theorem execMeshPostArrival_posts {s : State} {b i n k asid : Nat} (hi : i < 4) (hk : s.keyOf b asid = some i)
    (he : s.ev = .meshPostArrival b asid n k none) : exec .meshPostArrival s = .next (s.postSem b i n k) := by
  show execMeshPostArrival s = _
  rw [execMeshPostArrival, he]
  dsimp only
  rw [State.postTo, State.tryPost, hk]
  dsimp only
  rw [State.viaImage, State.viaPages_resident _ _ _ (State.saved_of_resident hi hk)]

/-- Settles O28: a post changes VALUE and OVF, and then it is the service of the queue. -/
theorem semaphoreServe : Obligations.SemaphoreServe := by
  unfold Obligations.SemaphoreServe
  refine ⟨serveQ_spec, fun s b i n k c hc hi => ⟨s.postSem_zero b i k, fun hn => ?_, fun asid hk he =>
    execMeshPostArrival_posts hi hk he⟩⟩
  obtain ⟨t, hpost, ht⟩ := State.postSem_serves hc hi hn k
  have hself : (c.setSem n ((c.sem n).posted k)).sem n = (c.sem n).posted k := c.sem_setSem_self n _
  have hval : ((c.sem n).posted k).value.toNat = ((c.sem n).value.toNat + k) % 2 ^ 24 := BitVec.toNat_ofNat ..
  have hsem := State.semAt_serve ht n
  have hone := fun j g => State.fib_serve_one ht n (k := j) (g := g)
  rw [hself, hval] at hsem hone
  have hmem : SameMemory s (s.postSem b i n k) := fun a => by rw [State.postSem_mem]
  rw [hpost] at hmem ⊢
  refine ⟨?_, (hsem n).trans (if_pos rfl ▸ rfl), fun j g hg hq hb => hone j g ?_ hq hb, hmem⟩
  · rw [hsem, if_neg (Ne.symm hn), c.sem_setSem_ne _ (Ne.symm hn), State.semAt_of_bctx hc]
  · rw [State.fib_of_bctx ht]
    exact (State.fib_of_bctx hc j).symm.trans hg

/-! ### The issuing fibre and one semaphore (R198, R199) -/

theorem State.semAt_modC_setSem (s : State) (b i n m : Nat) (z : Sem) :
    (s.modC b i fun c => c.setSem n z).semAt b i m = (s.semAt b i m).map fun x => if m = n then z else x := by
  unfold State.semAt
  rw [State.bctx_modC_self]
  cases s.bctx b i with
  | none => rfl
  | some c =>
    refine congrArg some ?_
    split
    · rename_i e
      rw [e]
      exact c.sem_setSem_self n z
    · rename_i e
      exact c.sem_setSem_ne z e

theorem State.sems_modF (s : State) (b i k : Nat) (h : Fibre → Fibre) (a j : Nat) :
    ((s.modF b i k h).bctx a j).map BayCtx.sems = (s.bctx a j).map BayCtx.sems := by
  have e := congrArg (Option.map BayCtx.sems) ((FibreFrame.modF ⟨b, i, k⟩ 0 s h).held a j)
  rwa [Option.map_map, Option.map_map] at e

/-- From s to t the issuing fibre has become g and semaphore n of its context, c, has become z; no other semaphore and no memory
has changed. -/
structure State.SemBecomes (s : State) (c : BayCtx) (n : Nat) (z : Sem) (g : Fibre) (t : State) : Prop where
  cur : t.cur = s.cur
  fibre : t.curF = some g
  this : t.semAt s.cur.bay s.cur.idx n = some z
  others : ∀ m, m ≠ n → t.semAt s.cur.bay s.cur.idx m = some (c.sem m)
  memory : SameMemory s t

section
variable {s t : State} {c : BayCtx} {n : Nat} {z : Sem} {f g : Fibre}

theorem State.SemBecomes.refl (hc : s.curC = some c) (hf : s.curF = some f) : s.SemBecomes c n (c.sem n) f s :=
  ⟨rfl, hf, State.semAt_of_bctx hc n, fun m _ => State.semAt_of_bctx hc m, fun _ => rfl⟩

theorem State.SemBecomes.modCur (h : s.SemBecomes c n z g t) (k : Fibre → Fibre) : s.SemBecomes c n z (k g) (t.modCur k) where
  cur := h.cur
  fibre := by rw [State.modCur_eq_asFibre h.fibre, State.curF_asFibre h.fibre]
  this := (State.semAt_of_sems (t.sems_modF ..) n).trans h.this
  others m e := (State.semAt_of_sems (t.sems_modF ..) m).trans (h.others m e)
  memory := h.memory

theorem State.SemBecomes.retireCur (h : s.SemBecomes c n z g t) : s.SemBecomes c n z g.retire t.retireCur := by
  obtain ⟨hcur, -, hthis, hothers, hmem⟩ := h.modCur Fibre.retire
  have hsems : ∀ m, t.retireCur.semAt s.cur.bay s.cur.idx m = (t.modCur Fibre.retire).semAt s.cur.bay s.cur.idx m :=
    fun m => State.semAt_of_sems (by rw [State.retireCur, State.countRetired_bctx]) m
  exact ⟨(t.modCur _).countRetired_cur _ _ |>.trans hcur, State.curF_retireCur h.fibre, (hsems n).trans hthis,
    fun m e => (hsems m).trans (hothers m e), fun a => (congrArg (memGet · a) (State.retireCur_mem t)).trans (h.memory a)⟩

theorem State.SemBecomes.setSem (h : s.SemBecomes c n z g t) (y : Sem) :
    s.SemBecomes c n y g (t.modCurC fun c => c.setSem n y) := by
  obtain ⟨hcur, hfibre, hthis, hothers, hmem⟩ := h
  refine ⟨hcur, ?_, ?_, fun m e => ?_, hmem⟩
  · exact (State.fib_setSem ..).trans hfibre
  · rw [State.modCurC, hcur, State.semAt_modC_setSem, hthis, Option.map_some, if_pos rfl]
  · rw [State.modCurC, hcur, State.semAt_modC_setSem, hothers m e, Option.map_some, if_neg e]

/-- A release marks the streams and touches no semaphore (R372). -/
theorem State.SemBecomes.releaseMark (hc : s.curC = some c) (hf : s.curF = some f) (r : MemOrd) :
    s.SemBecomes c n (c.sem n) (f.marked s r) (s.releaseMark r) := by
  have h := State.SemBecomes.refl (n := n) hc hf
  unfold State.releaseMark Fibre.marked
  split
  · exact h.modCur fun x => { x with relMark := relMarks s }
  · exact h

end

/-- A change of the issuing fibre after the release component (R162, R372). -/
theorem State.releaseMark_modCur {s : State} {f : Fibre} (hf : s.curF = some f) (r : MemOrd) (h : Fibre → Fibre) :
    (s.releaseMark r).modCur h = s.asFibre (h (f.marked s r)) := by
  unfold State.releaseMark Fibre.marked
  split
  · rw [State.modCur_modCur, State.modCur_eq_asFibre hf]
  · rw [State.modCur_eq_asFibre hf]

/-- The cycles of a bay are no matter of its fibres. -/
theorem State.releaseMark_cycle (s : State) (r : MemOrd) :
    ((s.releaseMark r).bay (s.releaseMark r).cur.bay).cycle = (s.bay s.cur.bay).cycle := by
  rw [State.releaseMark_cur, (s.releaseMark_frame 0 r).1.bays]

theorem State.releaseMark_retireCur {s : State} {f : Fibre} (hf : s.curF = some f) (r : MemOrd) :
    (s.releaseMark r).retireCur = s.retired (f.marked s r).retire := by
  rw [State.retireCur, State.releaseMark_modCur hf, State.releaseMark_cur, State.retired]

theorem State.releaseMark_modCur_retireCur {s : State} {f : Fibre} (hf : s.curF = some f) (r : MemOrd) (h : Fibre → Fibre) :
    ((s.releaseMark r).modCur h).retireCur = s.retired (h (f.marked s r)).retire := by
  rw [State.releaseMark_modCur hf]
  exact finish_done_asFibre s f _

/-! ### The instructions (R198, R199) -/

/-- n units can be taken at once: none is asked for, or nobody waits and VALUE suffices (R199). -/
def Sem.Gives (y : Sem) (n : Word) : Prop := n = 0 ∨ (y.queue = [] ∧ n ≤ y.value.setWidth 64)

theorem Sem.takes_iff (y : Sem) (n : Word) : y.takes n.toNat = true ↔ y.queue = [] ∧ n ≤ y.value.setWidth 64 := by
  unfold Sem.takes
  rw [Bool.and_eq_true, List.isEmpty_iff, decide_eq_true_iff]
  refine and_congr_right fun _ => ?_
  rw [BitVec.le_def, BitVec.toNat_setWidth_of_le (by decide)]

theorem Sem.take_eq (y : Sem) (n : Word) : y.take n.toNat = { y with value := y.value - n.setWidth 24 } := by
  rw [Sem.take, BitVec.ofNat_toNat]

theorem Sem.minus_zero (y : Sem) : ({ y with value := y.value - (0 : Word).setWidth 24 } : Sem) = y := by simp

theorem word_ne_zero {n : Word} (h : n ≠ 0) : n.toNat ≠ 0 := fun e => h (BitVec.eq_of_toNat_eq e)

theorem word_count_lt {n : Word} (h : n < 0x1000000) : ¬2 ^ 24 ≤ n.toNat := Nat.not_le.2 (BitVec.lt_def.1 h)

theorem word_count_le {n : Word} (h : ¬n < 0x1000000) : 2 ^ 24 ≤ n.toNat := BitVec.le_def.1 (BitVec.not_lt.1 h)

section
variable {s : State} {c : BayCtx} {f : Fibre} {a b : GReg} {x : BitVec 10} {r : MemOrd} {p : Scope}

section
variable (hx : x.toNat < c.quota.sems) (hr : s.mayRelease r p f)
include hx

theorem semEarly_none : semEarly x c f = none := if_neg (by omega)

theorem execSinit_runs (h : s.Issues [a] c f) : exec (.sinit a x) s = .next (s.finish f (
    if 2 ^ 24 ≤ (f.reg a).toNat then .fault .range (f.reg a)
    else if x = 0 then .done s
    else .done ((s.modCurC fun c => c.setSem x.toNat { c.sem x.toNat with value := (f.reg a).setWidth 24, ovf := false }).serve
      s.cur.bay s.cur.idx x.toNat))) := by
  show execSinit a x s = _
  exact issue_runs h.ctx h.fibre h.full (semEarly_none hx) h.frame

theorem execSread_gives (h : s.Issues [b] c f) :
    exec (.sread b x) s = .next (s.result f b (if x = 0 then 0 else (c.sem x.toNat).word)) := by
  show execSread b x s = _
  rw [← finish_setReg h.fibre]
  exact issue_runs h.ctx h.fibre h.full (semEarly_none hx) h.frame

/-- A count of 2^24 or more is a fault before anything else (R199). -/
theorem execSwait_range (h : s.Issues [a] c f) (hn : ¬f.reg a < 0x1000000) :
    exec (.swait a x r p) s = .next (s.raise f .range (f.reg a)) := by
  show execSwait a x r p s = _
  refine (issue_runs (i := .swait a x r p) h.ctx h.fibre h.full (semEarly_none hx) h.frame).trans ?_
  dsimp only
  rw [if_pos (word_count_le hn), finish_fault]

theorem execStry_range (h : s.Issues [a, b] c f) (hn : ¬f.reg a < 0x1000000) :
    exec (.stry a b x r p) s = .next (s.raise f .range (f.reg a)) := by
  show execStry a b x r p s = _
  refine (issue_runs (i := .stry a b x r p) h.ctx h.fibre h.full (semEarly_none hx) h.frame).trans ?_
  dsimp only
  rw [if_pos (word_count_le hn), finish_fault]

include hr

theorem execSpost_posts (h : s.Issues [a] c f) : exec (.spost a x r p) s = .next
    (((s.releaseMark r).postSem s.cur.bay s.cur.idx x.toNat ((f.reg a).toNat % 2 ^ 24)).retireCur) := by
  show execSpost a x r p s = _
  refine (issue_runs (i := .spost a x r p) h.ctx h.fibre h.full (semEarly_none hx) h.frame).trans ?_
  rw [withRelease_runs hr, State.releaseMark_cur]
  rfl

theorem execSwait_runs (h : s.Issues [a] c f) (hn : f.reg a < 0x1000000) : exec (.swait a x r p) s = .next (s.finish f (
    if x = 0 ∨ (f.reg a).toNat = 0 then .done (s.releaseMark r)
    else if (c.sem x.toNat).takes (f.reg a).toNat then
      .done ((s.releaseMark r).modCurC fun d => d.setSem x.toNat ((c.sem x.toNat).take (f.reg a).toNat))
    else .stay (((s.releaseMark r).modCurC fun d => d.setSem x.toNat
      { c.sem x.toNat with queue := (c.sem x.toNat).queue ++ [(f.uid, (f.reg a).toNat)] }).modCur fun g =>
        g.block (.queued 0x10) ((s.releaseMark r).bay (s.releaseMark r).cur.bay).cycle))) := by
  show execSwait a x r p s = _
  refine (issue_runs (i := .swait a x r p) h.ctx h.fibre h.full (semEarly_none hx) h.frame).trans ?_
  dsimp only
  rw [if_neg (word_count_lt hn), withRelease_runs hr]

theorem execStry_runs (h : s.Issues [a, b] c f) (hn : f.reg a < 0x1000000) : exec (.stry a b x r p) s = .next (s.finish f (
    if x = 0 ∨ (f.reg a).toNat = 0 then .done ((s.releaseMark r).modCur fun g => g.setReg b 1)
    else if (c.sem x.toNat).takes (f.reg a).toNat then
      .done (((s.releaseMark r).modCurC fun d => d.setSem x.toNat ((c.sem x.toNat).take (f.reg a).toNat)).modCur fun g =>
        g.setReg b 1)
    else .done ((s.releaseMark r).modCur fun g => g.setReg b 0))) := by
  show execStry a b x r p s = _
  refine (issue_runs (i := .stry a b x r p) h.ctx h.fibre h.full (semEarly_none hx) h.frame).trans ?_
  dsimp only
  rw [if_neg (word_count_lt hn), withRelease_runs hr]

end

end

/-- Settles O29: for s0 each instruction's body leaves the semaphores out. -/
theorem nullSemaphore : Obligations.NullSemaphore := by
  unfold Obligations.NullSemaphore
  intro s c f a b r p hq
  have hx : (0 : BitVec 10).toNat < c.quota.sems := hq
  refine ⟨fun h hr => ?_, fun h hn hr => ?_, fun h hn hr => ?_, fun h => ?_, fun h hn => ?_⟩
  · rw [execSpost_posts hx hr h]
    exact congrArg Host.Outcome.next ((congrArg State.retireCur (State.postSem_zero ..)).trans
      (State.releaseMark_retireCur h.fibre r))
  · rw [execSwait_runs hx hr h hn, if_pos (.inl rfl)]
    exact congrArg Host.Outcome.next (State.releaseMark_retireCur h.fibre r)
  · rw [execStry_runs hx hr h hn, if_pos (.inl rfl)]
    exact congrArg Host.Outcome.next (State.releaseMark_modCur_retireCur h.fibre r _)
  · rw [execSread_gives hx h, if_pos rfl]
  · rw [execSinit_runs hx h, if_neg (word_count_lt hn), if_pos rfl, finish_done_self h.fibre]

/-! ### The effects on a semaphore other than s0 (R198, R199) -/

theorem Sem.word_fields (y : Sem) : y.word.extractLsb' 0 24 = y.value ∧ y.word.getLsbD 24 = y.ovf ∧
    y.word.getLsbD 25 = !y.queue.isEmpty ∧ y.word.extractLsb' 26 38 = 0 := by
  have hw : y.word = toW ((!y.queue.isEmpty).toNat * 2 ^ 25 + y.ovf.toNat * 2 ^ 24 + y.value.toNat) := by
    rw [Sem.word, ← ite_toNat, ← ite_toNat]
    cases y.queue <;> rfl
  have hv := y.value.isLt
  have ho := y.ovf.toNat_le
  have hq := (!y.queue.isEmpty).toNat_le
  rw [hw]
  refine ⟨extractLsb'_toW_eq (by decide) (by omega), getLsbD_toW (by decide) (by omega), getLsbD_toW (by decide) (by omega),
    extractLsb'_toW_eq (by decide) ?_⟩
  simp only [BitVec.ofNat_eq_ofNat, BitVec.toNat_ofNat]
  omega

section
variable {s : State} {c : BayCtx} {f : Fibre} {a b : GReg} {x : BitVec 10} {r : MemOrd} {p : Scope}
  (hz : x ≠ 0) (hx : x.toNat < c.quota.sems)
include hz hx

/-- SINIT sets the semaphore and serves its queue (R199). -/
theorem execSinit_serves (h : s.Issues [a] c f) (hn : f.reg a < 0x1000000)
    (hq : ∀ w ∈ (c.sem x.toNat).queue, w.1 ≠ f.uid) :
    let q := serveQ (f.reg a).toNat (c.sem x.toNat).queue
    ∃ t, exec (.sinit a x) s = .next t ∧
      s.SemBecomes c x.toNat { value := BitVec.ofNat 24 q.1, ovf := false, queue := q.2.1 } f.retire t ∧
      ∀ j g, s.fib s.cur.bay s.cur.idx j = some g → q.2.2 = [g.uid] → (∀ w ∈ c.cellar.blocked, w.2.uid ≠ g.uid) →
        t.fib s.cur.bay s.cur.idx j = some g.retire := by
  intro q
  obtain ⟨y, hy⟩ : ∃ y : Sem, y = { c.sem x.toNat with value := (f.reg a).setWidth 24, ovf := false } := ⟨_, rfl⟩
  obtain ⟨u, hu⟩ : ∃ u : State, u = s.modC s.cur.bay s.cur.idx fun c => c.setSem x.toNat y := ⟨_, rfl⟩
  have huc : u.bctx s.cur.bay s.cur.idx = some (c.setSem x.toNat y) := by rw [hu]; exact State.bctx_setSem h.ctx _ _
  have hset : (s.modCurC fun c => c.setSem x.toNat { c.sem x.toNat with value := (f.reg a).setWidth 24, ovf := false }) = u := by
    rw [hu, hy]
    exact State.modC_congr h.ctx rfl
  have hval : y.value.toNat = (f.reg a).toNat := by
    rw [hy]
    exact (BitVec.toNat_setWidth ..).trans (Nat.mod_eq_of_lt (BitVec.lt_def.1 hn))
  have hserved : serveQ ((c.setSem x.toNat y).sem x.toNat).value.toNat ((c.setSem x.toNat y).sem x.toNat).queue = q := by
    rw [c.sem_setSem_self, hval, hy]
  have hfib : ∀ j, u.fib s.cur.bay s.cur.idx j = s.fib s.cur.bay s.cur.idx j := fun j => by rw [hu]; exact State.fib_setSem ..
  have hcur : (u.serve s.cur.bay s.cur.idx x.toNat).cur = s.cur := (State.serve_cur huc _).trans (by rw [hu]; rfl)
  have hnot : ∀ v, v ∈ q.2.2 → v ≠ f.uid := fun v hv => by
    obtain ⟨w, hw, e⟩ := serveQ_served_mem hv
    exact e ▸ hq w hw
  have hsem := State.semAt_serve huc x.toNat
  have hbecomes : s.SemBecomes c x.toNat { value := BitVec.ofNat 24 q.1, ovf := false, queue := q.2.1 } f
      (u.serve s.cur.bay s.cur.idx x.toNat) := by
    rw [hserved] at hsem
    refine ⟨hcur, ?_, ?_, fun m hm => ?_, fun k => ?_⟩
    · unfold State.curF
      rw [hcur]
      exact State.fib_serve_other huc _ ((hfib _).trans h.fibre) fun hv => hnot f.uid (by rwa [hserved] at hv) rfl
    · rw [hsem, if_pos rfl, c.sem_setSem_self, hy]
    · rw [hsem, if_neg hm, c.sem_setSem_ne _ hm]
    · rw [State.serve_mem, hu]
      rfl
  refine ⟨(u.serve s.cur.bay s.cur.idx x.toNat).retireCur, ?_, hbecomes.retireCur, fun j g hg hone hb => ?_⟩
  · rw [execSinit_runs hx h, if_neg (word_count_lt hn), if_neg hz, hset]
    rfl
  · have hj : j ≠ s.cur.slot := by
      rintro rfl
      cases h.fibre.symm.trans hg
      exact hnot f.uid (by rw [hone]; exact List.mem_singleton_self _) rfl
    unfold State.retireCur State.modCur
    rw [State.countRetired_fib, hcur, State.fib_modF_ne _ _ (.inr (.inr hj))]
    exact State.fib_serve_one huc _ ((hfib j).trans hg) (by rw [hserved, hone]) hb

variable (hr : s.mayRelease r p f)
include hr

/-- SWAIT that need not wait takes its count (R199). -/
theorem execSwait_takes (h : s.Issues [a] c f) (hn : f.reg a < 0x1000000) (hg : (c.sem x.toNat).Gives (f.reg a)) :
    ∃ t, exec (.swait a x r p) s = .next t ∧ s.SemBecomes c x.toNat
      { c.sem x.toNat with value := (c.sem x.toNat).value - (f.reg a).setWidth 24 } (f.marked s r).retire t := by
  have hmark := State.SemBecomes.releaseMark (n := x.toNat) h.ctx h.fibre r
  rw [execSwait_runs hx hr h hn]
  by_cases h0 : f.reg a = 0
  · rw [if_pos (.inr (by rw [h0]; rfl))]
    refine ⟨_, rfl, ?_⟩
    rw [h0, Sem.minus_zero]
    exact hmark.retireCur
  · rw [if_neg (not_or.2 ⟨hz, word_ne_zero h0⟩), if_pos ((Sem.takes_iff ..).2 (hg.resolve_left h0))]
    exact ⟨_, rfl, Sem.take_eq .. ▸ (hmark.setSem _).retireCur⟩

/-- SWAIT that must wait joins the queue (R199). -/
theorem execSwait_waits (h : s.Issues [a] c f) (hn : f.reg a < 0x1000000) (hg : ¬(c.sem x.toNat).Gives (f.reg a)) :
    ∃ t, exec (.swait a x r p) s = .next t ∧ s.SemBecomes c x.toNat
      { c.sem x.toNat with queue := (c.sem x.toNat).queue ++ [(f.uid, (f.reg a).toNat)] }
      ((f.marked s r).block (.queued 0x10) (s.bay s.cur.bay).cycle) t := by
  have hmark := State.SemBecomes.releaseMark (n := x.toNat) h.ctx h.fibre r
  obtain ⟨h0, ht⟩ := not_or.1 hg
  rw [execSwait_runs hx hr h hn, if_neg (not_or.2 ⟨hz, word_ne_zero h0⟩), if_neg (mt (Sem.takes_iff ..).1 ht),
    State.releaseMark_cycle]
  exact ⟨_, rfl, (hmark.setSem _).modCur fun g => g.block (.queued 0x10) (s.bay s.cur.bay).cycle⟩

/-- STRY takes its count where it need not wait (R199). -/
theorem execStry_takes (h : s.Issues [a, b] c f) (hn : f.reg a < 0x1000000) (hg : (c.sem x.toNat).Gives (f.reg a)) :
    ∃ t, exec (.stry a b x r p) s = .next t ∧ s.SemBecomes c x.toNat
      { c.sem x.toNat with value := (c.sem x.toNat).value - (f.reg a).setWidth 24 } ((f.marked s r).setReg b 1).retire t := by
  have hmark := State.SemBecomes.releaseMark (n := x.toNat) h.ctx h.fibre r
  rw [execStry_runs hx hr h hn]
  by_cases h0 : f.reg a = 0
  · rw [if_pos (.inr (by rw [h0]; rfl))]
    refine ⟨_, rfl, ?_⟩
    rw [h0, Sem.minus_zero]
    exact (hmark.modCur fun g => g.setReg b 1).retireCur
  · rw [if_neg (not_or.2 ⟨hz, word_ne_zero h0⟩), if_pos ((Sem.takes_iff ..).2 (hg.resolve_left h0))]
    exact ⟨_, rfl, Sem.take_eq .. ▸ ((hmark.setSem _).modCur fun g => g.setReg b 1).retireCur⟩

/-- STRY gives 0 where SWAIT would wait (R199). -/
theorem execStry_gives_zero (h : s.Issues [a, b] c f) (hn : f.reg a < 0x1000000) (hg : ¬(c.sem x.toNat).Gives (f.reg a)) :
    ∃ t, exec (.stry a b x r p) s = .next t ∧
      s.SemBecomes c x.toNat (c.sem x.toNat) ((f.marked s r).setReg b 0).retire t := by
  have hmark := State.SemBecomes.releaseMark (n := x.toNat) h.ctx h.fibre r
  obtain ⟨h0, ht⟩ := not_or.1 hg
  rw [execStry_runs hx hr h hn, if_neg (not_or.2 ⟨hz, word_ne_zero h0⟩), if_neg (mt (Sem.takes_iff ..).1 ht)]
  exact ⟨_, rfl, (hmark.modCur fun g => g.setReg b 0).retireCur⟩

end

theorem Sem.not_gives {y : Sem} {n : Word} (h0 : n ≠ 0) (h : y.queue ≠ [] ∨ y.value.setWidth 64 < n) : ¬y.Gives n :=
  not_or.2 ⟨h0, not_and_or.2 (h.imp_right BitVec.not_le.2)⟩

/-- An index beyond the quota raises QUOTA, whatever the instruction (R31, R198). -/
theorem issue_sem_quota {s : State} {c : BayCtx} {f : Fibre} {x : BitVec 10} {i : Instr} {k : BayCtx → Fibre → State → Res}
    (hx : c.quota.sems ≤ x.toNat) (h : s.Issues (namedRegs i) c f) :
    issue i (semEarly x) k s = .next (s.raise f .quota (x.setWidth 64)) :=
  issue_early h.ctx h.fibre h.full (if_pos hx)

/-- Settles O30: within the quota each instruction's body says what its semaphore becomes; beyond it every one raises QUOTA. -/
theorem semaphoreResults : Obligations.SemaphoreResults := by
  unfold Obligations.SemaphoreResults
  intro s c f a b x r p hz hi y n sem m
  have hsem : ∀ {z : Sem} {g : Fibre} {t : State}, s.SemBecomes c x.toNat z g t → t.curF = some g ∧ sem t z :=
    fun h => ⟨h.fibre, h.this, h.memory, h.others⟩
  refine ⟨fun hx hr => ⟨fun h => ⟨execSpost_posts hx hr h, fun hn hg => ?_, fun hn h0 hw => ?_, fun hn hq => ?_, fun hn => ?_⟩,
    fun h => ⟨fun hn hg => ?_, fun hn h0 hw => ?_, fun hn => ?_⟩, fun h => ⟨y.word, ?_, y.word_fields⟩⟩, fun hx => ?_⟩
  · obtain ⟨t, he, ht⟩ := execSwait_takes hz hx hr h hn hg
    exact ⟨t, he, hsem ht⟩
  · obtain ⟨t, he, ht⟩ := execSwait_waits hz hx hr h hn (Sem.not_gives h0 hw)
    exact ⟨t, he, hsem ht⟩
  · obtain ⟨t, he, ht, hone⟩ := execSinit_serves hz hx h hn hq
    obtain ⟨hfib, hs⟩ := hsem ht
    exact ⟨t, he, hfib, hs, hone⟩
  · have hn' := BitVec.not_lt.2 hn
    refine ⟨execSwait_range hx h hn', ?_⟩
    rw [execSinit_runs hx h, if_pos (word_count_le hn'), finish_fault]
  · obtain ⟨t, he, ht⟩ := execStry_takes hz hx hr h hn hg
    exact ⟨t, he, hsem ht⟩
  · obtain ⟨t, he, ht⟩ := execStry_gives_zero hz hx hr h hn (Sem.not_gives h0 hw)
    exact ⟨t, he, hsem ht⟩
  · exact execStry_range hx h (BitVec.not_lt.2 hn)
  · rw [execSread_gives hx h, if_neg hz]
  · intro q
    refine ⟨fun h => ⟨?_, ?_, ?_⟩, fun h => ?_, fun h => ?_⟩
    · show execSpost a x r p s = _
      exact issue_sem_quota hx h
    · show execSwait a x r p s = _
      exact issue_sem_quota hx h
    · show execSinit a x s = _
      exact issue_sem_quota hx h
    · show execStry a b x r p s = _
      exact issue_sem_quota hx h
    · show execSread b x s = _
      exact issue_sem_quota hx h

end Sys2Proof.Machine
end

section
/-!
SUPPORT and PROOF. FID, FPRI, FCTX, CBUDGET and FYIELD, and the waiting count (O31).
-/
namespace Sys2Proof.Machine

/-! ### The instructions that read or set a register (R179 to R181, R218) -/

section
variable {s : State} {c : BayCtx} {f : Fibre} {d a : GReg}

theorem execFid_gives (h : s.Issues [d] c f) :
    exec (.fid d) s = .next (s.result f d (s.handle s.cur.bay s.cur.slot (c.slot s.cur.slot).gen)) := by
  show execFid d s = _
  rw [← finish_setReg h.fibre]
  exact issue_runs h.ctx h.fibre h.full rfl h.frame

/-- The fields of a handle (R34). -/
theorem State.handle_fields (s : State) {b k : Nat} (hb : b < 2048) (hk : k < 256) (gen : BitVec 23) :
    (s.handle b k gen).extractLsb' 42 22 = s.chip ∧ ((s.handle b k gen).extractLsb' 31 11).toNat = b ∧
      ((s.handle b k gen).extractLsb' 23 8).toNat = k ∧ (s.handle b k gen).extractLsb' 0 23 = gen := by
  have hc := s.chip.isLt
  have hg := gen.isLt
  unfold State.handle
  refine ⟨extractLsb'_toW_eq (by decide) (by omega), ?_, ?_, extractLsb'_toW_eq (by decide) (by omega)⟩
  · rw [extractLsb'_toW (by decide)]
    omega
  · rw [extractLsb'_toW (by decide)]
    omega

/-- What FCTX gives: slots in use, depth of the ring, congestion (R180). -/
def BayCtx.census (c : BayCtx) : Word :=
  toW (c.cellar.cong.toNat * 2 ^ 32 + min 65535 c.cellar.ring.length * 2 ^ 16 + c.occupied)

theorem execFctx_gives (h : s.Issues [d] c f) : exec (.fctx d) s = .next (s.result f d c.census) := by
  show execFctx d s = _
  rw [BayCtx.census, ← ite_toNat, ← finish_setReg h.fibre]
  exact issue_runs h.ctx h.fibre h.full rfl h.frame

theorem BayCtx.census_fields (c : BayCtx) (ho : c.occupied < 65536) :
    (c.census.extractLsb' 0 16).toNat = c.occupied ∧ (c.census.extractLsb' 16 16).toNat = min 65535 c.cellar.ring.length ∧
      c.census.getLsbD 32 = c.cellar.cong ∧ c.census.extractLsb' 33 31 = 0 := by
  have hg := c.cellar.cong.toNat_le
  have hm : min 65535 c.cellar.ring.length < 65536 := by omega
  generalize hr : min 65535 c.cellar.ring.length = r at hm
  rw [BayCtx.census, hr]
  refine ⟨?_, ?_, getLsbD_toW (by decide) (by omega), extractLsb'_toW_eq (by decide) ?_⟩
  · rw [extractLsb'_toW (by decide)]
    omega
  · rw [extractLsb'_toW (by decide)]
    omega
  · simp only [BitVec.ofNat_eq_ofNat, BitVec.toNat_ofNat]
    omega

theorem execCbudget_gives (h : s.Issues [d] c f) {y : Ctx} (hy : s.ctx c.asid = some y) :
    exec (.cbudget d) s = .next (s.result f d y.budget) := by
  show execCbudget d s = _
  rw [← finish_setReg h.fibre]
  refine (issue_runs (i := .cbudget d) h.ctx h.fibre h.full rfl h.frame).trans ?_
  rw [hy]

theorem Ctx.budget_without {y : Ctx} (h : y.launch.bind Launch.contract = none) : y.budget = 0xFFFFFFFFFFFFFFFF := by
  rw [Ctx.budget, h]
  rfl

theorem Ctx.budget_left {y : Ctx} {k : Contract} (h : y.launch.bind Launch.contract = some k) :
    y.budget = BitVec.ofNat 64 (k.c * 1000 - k.spent) := by rw [Ctx.budget, h]

theorem execFpri_runs (h : s.Issues [a] c f) : exec (.fpri a) s = .next (s.finish f (
    if 6 < f.reg a then .fault .range (f.reg a) else .done (s.modCur fun x => { x with pri := (f.reg a).setWidth 3 }))) := by
  show execFpri a s = _
  exact issue_runs h.ctx h.fibre h.full rfl h.frame

/-! ### FYIELD and its end (R182) -/

/-- A fibre after a FYIELD in a cycle of its bay: it has retired and does not issue until its delay is over. -/
def Fibre.yielded (f : Fibre) (cycle : Nat) : Fibre := { f.retire with w := 0, wait := .queued 5, since := cycle }

theorem State.yieldCur_spec (h : s.curF = some f) (u : Nat) :
    (s.yieldCur u).curF = some (f.yielded (s.bay s.cur.bay).cycle) ∧
      (s.yieldCur u).agenda = s.agenda ++ [s.newItem (.fyieldDelayExpiry u)] ∧ SameMemory s (s.yieldCur u) := by
  have hret := State.curF_retireCur h
  have hname : s.retireCur.nextId = s.nextId := by unfold State.retireCur State.countRetired; split <;> rfl
  refine ⟨?_, ?_, fun k => ?_⟩
  · unfold State.yieldCur
    show ((s.retireCur.modCur _).postFree _).curF = _
    rw [State.modCur_eq_asFibre hret]
    exact State.curF_asFibre hret _
  · show s.retireCur.agenda ++ [s.retireCur.newItem _] = _
    rw [State.retireCur_agenda, State.newItem, hname]
    rfl
  · exact congrArg (memGet · k) (State.retireCur_mem s)

theorem execFyield_yields (h : s.Issues [] c f) : exec .fyield s = .next (s.yieldCur f.uid) := by
  show execFyield s = _
  exact issue_runs h.ctx h.fibre h.full rfl h.frame

end

section
variable {s : State} {f : Fibre} {u : Nat} {p : Cur} (he : s.ev = .fyieldDelayExpiry u) (hu : s.findU u = some (p, f))
  (hw : f.wait = .queued 5)
include he hu hw

theorem execFyieldDelayExpiry_runs : exec .fyieldDelayExpiry s =
    if 4 ≤ p.idx ∨ (s.bay p.bay).cycle < f.since + 63 then .next s.wait
    else .next (s.modF p.bay p.idx p.slot fun x => { x with wait := .ready }) := by
  show execFyieldDelayExpiry s = _
  rw [execFyieldDelayExpiry, he]
  dsimp only
  rw [hu]
  dsimp only
  rw [if_neg (not_not.2 hw)]

end

/-- Settles O31: each instruction has a body of one effect, and each event changes one fibre. -/
theorem fibreResults : Obligations.FibreResults := by
  unfold Obligations.FibreResults
  intro s c f d a
  refine ⟨fun h hb hk => ⟨⟨_, execFid_gives h, s.handle_fields hb hk _⟩, fun ho => ⟨_, execFctx_gives h, c.census_fields ho⟩,
    fun y hy => ⟨fun hn => ?_, fun k hl => ?_⟩⟩, fun h => ⟨fun hp => ?_, fun hp => ?_⟩,
    fun h => ⟨_, execFyield_yields h, State.yieldCur_spec h.fibre f.uid⟩,
    fun u p he hu hf hw => ⟨fun hi hc => ?_, fun hc => ?_⟩, fun b i k he hf hw hi => ?_⟩
  · rw [execCbudget_gives h hy, Ctx.budget_without hn]
  · rw [execCbudget_gives h hy, Ctx.budget_left hl]
  · rw [execFpri_runs h, if_neg (BitVec.not_lt.2 hp), State.modCur_eq_asFibre h.fibre, finish_done_asFibre]
  · rw [execFpri_runs h, if_pos hp, finish_fault]
  · rw [execFyieldDelayExpiry_runs he hu hw, if_neg (by omega)]
    exact ⟨_, rfl, by rw [State.fib_modF_self, hf]; rfl, fun _ => rfl⟩
  · rw [execFyieldDelayExpiry_runs he hu hw, if_pos hc]
    rfl
  · refine ⟨s.modF b i k fun f => if 4095 ≤ f.w then { f with w := 4096 } else f, ?_, ?_, fun _ => rfl⟩
    · show execWaitingCountThreshold s = _
      rw [execWaitingCountThreshold, he]
      dsimp only
      rw [if_neg (by omega)]
    · rw [State.fib_modF_self, hf, Option.map_some, if_pos hw]

end Sys2Proof.Machine
end

section
/-!
PROOF. A refutation of the statement about FSPAWN and FSPAWNB (O32): it speaks of every list of bays, also of one whose numbers do
not rise.
-/
namespace Sys2Proof.Machine

/-- A bay with a context of ASID 1 that has two slots. -/
def twoSlotBay (slots : Tab Slot) : Bay :=
  let quota : Quota := { slots := 2, scratch := 0, sems := 0, chans := 0, cists := 0, vctxs := 0, tiles := 0, wbuf := 0 }
  { Bay.init with ctxs := [(0, { BayCtx.init 1 quota 0 with slots := slots })], active := some 0 }

/-- The spawner, whose registers name entry 0 and argument 0. -/
def spawner : Fibre := Fibre.start 1 0 0 0

/-- A launch runs on bays 0 and 1, and bay 1 is listed first. No step lists bays so: `tset` puts each at its place among the others. -/
def bayOneFirst : State :=
  { State.reset with
    bays := [(1, twoSlotBay []), (0, twoSlotBay [(0, { Slot.init with fib := some spawner })])]
    ctxs := [(1, { bareCtx with
      launch := some { pkt := { queue := 0, tag := 0, blk := 0, num := 0 }, rect := 0, lseq := 1, tfirst := none, spawned := 1,
                       faults := 0, contract := none } })] }

/-- While bay 1 is found first, it is the fault bay (R415) and slot 1 of bay 0 is free. -/
theorem bayOneFirst_freeSlot : bayOneFirst.freeSlot 0 0 = some 1 := by decide +kernel

/-- The mark of the spawn's release (R175) writes bay 0 back, at the front of the list, so that slot 1 of bay 0 has become the fault
slot: nothing is placed there. -/
theorem bayOneFirst_spawn {t : State} (h : exec (.fspawn 1 0 0) bayOneFirst = .next t) : t.fib 0 0 1 = none := by
  cases h
  rfl

/-- Refutes O32: FSPAWN finds slot 1 free at its checks and the fault slot when it places, so that the spawn becomes a record. -/
theorem not_spawnResults : ¬ Obligations.SpawnResults := by
  unfold Obligations.SpawnResults
  intro h
  obtain ⟨hspawn, -⟩ := h bayOneFirst _ spawner 1 0 0
  obtain ⟨-, -, hplace, -⟩ := hspawn ⟨rfl, rfl, by decide, rfl⟩
  obtain ⟨t, ht, ⟨⟨g, hg, -⟩, -⟩, -⟩ :=
    hplace 1 rfl rfl (by decide +kernel) (by decide) rfl bayOneFirst_freeSlot (by decide) (by decide +kernel)
  exact nomatch (bayOneFirst_spawn ht).symm.trans hg

end Sys2Proof.Machine
end

section
/-!
PROOF. A refutation of the statement about switch plans (O36): it speaks of every list of bays, also of one that lists a bay twice.
-/
namespace Sys2Proof.Machine

/-- The entry activates context 1 at index 0 of its bays. -/
def activateEntry : PlanEntry := { time := 0, rect := 0, ctxid := 1, mode := 0, index := 0 }

/-- Context 1 on a bay, with two slots and nothing else. -/
def residentCtx : BayCtx :=
  BayCtx.init 1 { slots := 2, scratch := 0, sems := 0, chans := 0, cists := 0, vctxs := 0, tiles := 0, wbuf := 0 } 0

/-- A bay with context 1 at index 0. -/
def residentBay (incoming : Option Nat) : Bay := { Bay.init with ctxs := [(0, residentCtx)], incoming := incoming }

/-- Bay 0 is listed twice, and its second entry, which no read finds, awaits a restored context. No step lists a bay twice. -/
def bayTwice : State :=
  { State.reset with
    bays := [(0, residentBay none), (0, residentBay (some 0))]
    ctxs := [(1, bareCtx)]
    agenda := []
    ev := .planStep activateEntry 0 false }

/-- The step of the entry, which does not activate its context, reaches the second entry and makes context 1 due on bay 0. -/
theorem bayTwice_due {t : State} (h : exec bayTwice.ev.instr bayTwice = .next t) : (t.bay 0).due = some 1 := by
  cases h
  rfl

/-- Refutes O36: after a plan step that activates nothing (R422), context 1 is due on the bay that is listed twice. -/
theorem not_switchAndContractEvents : ¬ Obligations.SwitchAndContractEvents := by
  unfold Obligations.SwitchAndContractEvents
  intro h
  obtain ⟨-, hstep, -⟩ := h.1 bayTwice 0 0 activateEntry residentCtx bareCtx
  obtain ⟨t, ht, -, hdue, -⟩ := hstep false rfl rfl rfl
  exact nomatch (bayTwice_due ht).symm.trans (hdue rfl)

end Sys2Proof.Machine
end

section
/-!
SUPPORT. What an access to a cellar area leaves (R202, R203), a context but for its watchdog and its end (R427, R428), waits that no
fault ends (R413), and a slot that frees (R36).
-/
namespace Sys2Proof.Machine

/-! ### Memory that is written as it stands (R202; log entry 13) -/

theorem memGet_memPut_memGet (m : List Host.Cell) (a b : Nat) : memGet (memPut m a (memGet m a)) b = memGet m b := by
  by_cases e : b = a
  · rw [e, memGet_memPut_self]
  · exact memGet_memPut_ne _ _ e

theorem memBytes_congr {m m' : List Host.Cell} (h : ∀ b, memGet m' b = memGet m b) (a n : Nat) :
    memBytes m' a n = memBytes m a n := by
  induction n generalizing a with
  | zero => rfl
  | succ n ih => rw [memBytes, memBytes, h, ih]

/-- Bytes written over themselves. -/
theorem memGet_memPuts_memBytes (n : Nat) (m : List Host.Cell) (a b : Nat) : memGet (memPuts m a (memBytes m a n)) b = memGet m b := by
  induction n generalizing m a with
  | zero => rfl
  | succ n ih =>
    have h := memGet_memPut_memGet m a
    rw [memBytes, memPuts, ← memBytes_congr h (a + 1) n, ih, h]

/-! ### The access to a record (R202, R203) -/

theorem State.memError_ctxs (s : State) (key asid : Nat) : (s.memError key asid).ctxs = s.ctxs := by
  unfold State.memError
  rw [(ReportFrame.errPush _ _ _).ctxs]
  unfold State.tallyKey
  split <;> rfl

theorem State.tallyKey_ctxs (s : State) (key : Nat) (k : Tally) : (s.tallyKey key k).ctxs = s.ctxs := by
  unfold State.tallyKey
  split <;> rfl

theorem State.translateAt_ctxs (s : State) (st asid : Nat) (va : Word) (n : Need) : (s.translateAt st asid va n).2.ctxs = s.ctxs := by
  unfold State.translateAt
  split
  · rfl
  · split
    · rfl
    · extract_lets s1
      split
      · exact State.memError_ctxs ..
      · rfl
      · rfl

theorem State.cellarAccess_ctxs (s : State) (b asid rec : Nat) (n : Need) : (s.cellarAccess b asid rec n).1.ctxs = s.ctxs := by
  unfold State.cellarAccess
  split
  · rfl
  · rename_i c _
    have ht := s.translateAt_ctxs (homeStation b) asid (c.cellarVa + toW ((b * 2 ^ c.capK + rec) * 512)) n
    split
    · rename_i pa t e
      rw [e] at ht
      have ht : t.ctxs = s.ctxs := ht
      split
      · exact ht
      · rename_i key _
        split
        · dsimp only
          rwa [State.tallyKey_ctxs, State.write_ctxs]
        · split
          · exact (State.memError_ctxs ..).trans ht
          · exact (State.tallyKey_ctxs ..).trans ht
    · rename_i e
      rw [e] at ht
      exact ht

/-- From s to t a record of a cellar was accessed: caches, counters and the error marks of the record may have changed, and every
byte reads as before. -/
structure RecordAccess (s t : State) : Prop where
  units : t = { s with mem := t.mem, poison := t.poison, tlb := t.tlb, mgmt := t.mgmt }
  memory : SameMemory s t

namespace RecordAccess

variable {s t u : State}

theorem refl (s : State) : RecordAccess s s := ⟨rfl, fun _ => rfl⟩

theorem trans (h : RecordAccess s t) (k : RecordAccess t u) : RecordAccess s u :=
  ⟨k.units.trans (congrArg (fun x : State => { x with mem := u.mem, poison := u.poison, tlb := u.tlb, mgmt := u.mgmt }) h.units),
    fun a => (k.memory a).trans (h.memory a)⟩

theorem bays (h : RecordAccess s t) : t.bays = s.bays := by rw [h.units]
theorem cur (h : RecordAccess s t) : t.cur = s.cur := by rw [h.units]
theorem bctx (h : RecordAccess s t) (b i : Nat) : t.bctx b i = s.bctx b i := by rw [State.bctx, State.bay, h.bays]; rfl

theorem tally (s : State) (unit : Nat) (k : Tally) (n : Nat) : RecordAccess s (s.tally unit k n) := ⟨rfl, fun _ => rfl⟩

theorem tallyKey (s : State) (key : Nat) (k : Tally) : RecordAccess s (s.tallyKey key k) := by
  unfold State.tallyKey
  split
  · exact tally ..
  · exact refl s

/-- A write of the bytes that are there (log entry 13). -/
theorem writeBack (s : State) (key n : Nat) : RecordAccess s (s.write key (s.read key n)) :=
  ⟨rfl, fun _ => memGet_memPuts_memBytes ..⟩

/-- A translation that succeeds fills the station's cache at most (R133, R457). -/
theorem translateAt {st asid : Nat} {va : Word} {n : Need} {p : Place} (h : s.translateAt st asid va n = (.ok p, t)) :
    RecordAccess s t := by
  unfold State.translateAt at h
  split at h
  · cases h
  · split at h
    · cases (Prod.mk.inj h).2
      exact refl s
    · extract_lets s1 at h
      split at h
      · cases h
      · cases h
      · cases (Prod.mk.inj h).2
        exact ((tally s st .misses 1).trans (tally ..)).trans ⟨rfl, fun _ => rfl⟩

/-- An access that does not fault (R203). -/
theorem cellarAccess {b asid rec : Nat} {n : Need} (h : s.cellarAccess b asid rec n = (t, true)) : RecordAccess s t := by
  unfold State.cellarAccess at h
  split at h
  · cases h
  · split at h
    · rename_i pa u e
      have hu := translateAt e
      split at h
      · cases h
      · split at h
        · cases h
          exact hu.trans ((writeBack ..).trans (tallyKey ..))
        · split at h
          · cases h
          · cases h
            exact hu.trans (tallyKey ..)
    · cases h

end RecordAccess

/-! ### A context but for its watchdog and its end (R427, R428) -/

/-- The context with its watchdog at rest, and as if it had not ended. -/
def Ctx.calm (x : Ctx) : Ctx := { x with silence := 0, ended := none, endTime := 0 }

/-- From s to t no context has changed, but for its watchdog and its end. -/
structure CalmFrame (s t : State) : Prop where
  calm : ∀ a, (t.ctx a).map Ctx.calm = (s.ctx a).map Ctx.calm

namespace CalmFrame

variable {s t u : State}

theorem refl (s : State) : CalmFrame s s := ⟨fun _ => rfl⟩
theorem of_ctxs (h : t.ctxs = s.ctxs) : CalmFrame s t := ⟨fun a => by rw [State.ctx, h]; rfl⟩
theorem trans (h : CalmFrame s t) (k : CalmFrame t u) : CalmFrame s u := ⟨fun a => (k.calm a).trans (h.calm a)⟩

theorem ctx (h : CalmFrame s t) {a : Nat} {x : Ctx} (hx : s.ctx a = some x) : ∃ y, t.ctx a = some y ∧ y.calm = x.calm := by
  have e := h.calm a
  rw [hx] at e
  exact Option.map_eq_some_iff.1 e

theorem pulse (s : State) (a : Nat) : CalmFrame s (s.pulse a) := by
  refine ⟨fun k => ?_⟩
  by_cases e : k = a
  · subst e
    rw [State.ctx, State.pulse, State.modCtx, tfind_tmod_self, Option.map_map]
    rfl
  · exact congrArg _ (tfind_tmod_ne _ _ e)

theorem endCtx (s : State) (a : Nat) (r : EndReason) (b : Nat) (l : List Word) : CalmFrame s (s.endCtx a r b l) := by
  refine ⟨fun k => ?_⟩
  by_cases e : k = a
  · subst e
    rw [State.endCtx, State.ctx, State.post, State.modCtx, tfind_tmod_self, Option.map_map]
    rfl
  · exact congrArg _ (tfind_tmod_ne _ _ e)

theorem countRetired (s : State) (b i : Nat) : CalmFrame s (s.countRetired b i) := by
  unfold State.countRetired
  split
  · rename_i c _
    exact ⟨(pulse s c.asid).calm⟩
  · exact refl s

theorem retireU (s : State) (u : Nat) (h : Fibre → Fibre) : CalmFrame s (s.retireU u h) := by
  unfold State.retireU
  dsimp only
  split
  · rename_i p _ _
    exact ⟨(countRetired (s.modU u _) p.bay p.idx).calm⟩
  · exact of_ctxs rfl

end CalmFrame

theorem State.ctx_modCtx_self (s : State) (a : Nat) (g : Ctx → Ctx) : (s.modCtx a g).ctx a = (s.ctx a).map g := tfind_tmod_self ..

theorem State.ctx_modCtx_ne (s : State) {a k : Nat} (g : Ctx → Ctx) (h : k ≠ a) : (s.modCtx a g).ctx k = s.ctx k := tfind_tmod_ne _ _ h

/-! ### Waits that no fault ends (R413) -/

/-- Where no list has grown since, nobody leaves a wait. -/
theorem State.leaveWaits_self (s : State) : s.leaveWaits s = s := by
  unfold State.leaveWaits
  dsimp only
  rw [List.foldl_fixed' fun p : Cur => ?_]
  · refine List.foldl_fixed' (fun p => ?_) _
    cases s.evicted p.1 p.2.1 p.2.2 with
    | none => rfl
    | some f => exact if_neg (Nat.lt_irrefl _)
  · cases s.fib p.bay p.idx p.slot with
    | none => rfl
    | some f => exact if_neg (Nat.lt_irrefl _)

/-! ### A slot that frees (R36, R253) -/

/-- The slot has no fibre, and its generation has advanced since c. -/
def State.Freed (s : State) (b i k : Nat) (c : BayCtx) : Prop :=
  s.fib b i k = none ∧ ∃ y, s.bctx b i = some y ∧ (y.slot k).gen = (c.slot k).gen + 1

section
variable {s : State} {b i k : Nat} {c : BayCtx}

/-- A slot that frees: the records stay as they are. -/
theorem State.vacate_spec (hc : s.bctx b i = some c) (k : Nat) :
    (s.vacate b i k).fib b i k = none ∧
      ∃ y, (s.vacate b i k).bctx b i = some y ∧ (y.slot k).gen = (c.slot k).gen + 1 ∧ y.cellar.ring = c.cellar.ring ∧
        y.cellar.blocked = c.cellar.blocked := by
  have h := CellarFrame.vacate hc k
  have hb : (s.modC b i fun y => y.modSlot k fun x => { gen := x.gen + 1, fib := none, resv := false }).bctx b i =
      some (c.modSlot k fun x => { gen := x.gen + 1, fib := none, resv := false }) :=
    (State.bctx_modC_self ..).trans (congrArg _ hc)
  obtain ⟨y, hy, hbooks⟩ := h.bctx hb
  have hk := hbooks.slots k
  rw [BayCtx.slot_modSlot_self] at hk
  exact ⟨(State.fib_of_bctx hy k).trans hk.1, y, hy, hk.2, hbooks.ring, hbooks.blocked⟩

theorem State.vacate_freed (hc : s.bctx b i = some c) (k : Nat) : (s.vacate b i k).Freed b i k c := by
  obtain ⟨hf, y, hy, hg, -⟩ := State.vacate_spec hc k
  exact ⟨hf, y, hy, hg⟩

theorem State.vacate_ctxs (s : State) (b i k : Nat) : (s.vacate b i k).ctxs = s.ctxs := by
  cases hc : s.bctx b i with
  | none => rw [State.vacate, hc]
  | some c => exact (CellarFrame.vacate hc k).ctxs

theorem State.Freed.modC (h : s.Freed b i k c) {g : BayCtx → BayCtx} (hg : ∀ c, (g c).slots = c.slots) :
    (s.modC b i g).Freed b i k c := by
  obtain ⟨hf, y, hy, hgen⟩ := h
  refine ⟨(State.fib_modC_of_slots _ _ _ hg ..).trans hf, g y, (State.bctx_modC_self ..).trans (congrArg _ hy), ?_⟩
  rwa [BayCtx.slot, hg]

theorem State.Freed.retireU (h : s.Freed b i k c) (u : Nat) (g : Fibre → Fibre) : (s.retireU u g).Freed b i k c := by
  obtain ⟨hf, y, hy, hgen⟩ := h
  refine ⟨by rw [State.retireU_fib, hf]; rfl, _, by rw [State.bctx_retireU, hy]; rfl, ?_⟩
  rw [BayCtx.slot, BayCtx.mapF, tget_tmap rfl]
  exact hgen

/-- A vector context that becomes free goes to another fibre (R253). -/
theorem State.Freed.freeVec (h : s.Freed b i k c) (v : Nat) : (s.freeVec b i v).Freed b i k c := by
  have h1 := h.modC (g := fun y => y.modV v fun _ => .init) fun _ => rfl
  unfold State.freeVec State.serveBind
  split
  · exact h1
  · split
    · refine State.Freed.retireU (State.Freed.modC h1 fun _ => ?_) ..
      rfl
    · exact h1

theorem CalmFrame.freeVec (s : State) (b i v : Nat) : CalmFrame s (s.freeVec b i v) := by
  unfold State.freeVec State.serveBind
  split
  · exact .of_ctxs rfl
  · split
    · have h (t : State) (ht : t.ctxs = s.ctxs) (u : Nat) (g : Fibre → Fibre) : CalmFrame s (t.retireU u g) :=
        (CalmFrame.of_ctxs ht).trans (.retireU t u g)
      refine h _ ?_ _ _
      rfl
    · exact .of_ctxs rfl

end

end Sys2Proof.Machine
end

section
/-!
SUPPORT and PROOF. FEXIT, FGO and FPARK, and the arrival of a fibre (O33).
-/
namespace Sys2Proof.Machine

theorem tfind_tdel_self {α : Type} (l : Tab α) (k : Nat) : tfind (tdel l k) k = none := by
  induction l with
  | nil => rfl
  | cons p r ih =>
    rw [tdel]
    split
    · exact ih
    · rename_i h
      rw [tfind, if_neg h, ih]

theorem State.vacate_cur (s : State) (b i k : Nat) : (s.vacate b i k).cur = s.cur := by
  cases hc : s.bctx b i with
  | none => rw [State.vacate, hc]
  | some c => exact (CellarFrame.vacate hc k).cur

theorem State.freeVec_cur (s : State) (b i v : Nat) : (s.freeVec b i v).cur = s.cur := by
  unfold State.freeVec State.serveBind
  split
  · rfl
  · split
    · rw [State.retireU_cur]
      rfl
    · rfl

/-! ### The fibre that leaves its slot (R183, R187, R188) -/

/-- The issuing fibre, of context c, has left its slot. -/
structure LeftSlot (s : State) (c : BayCtx) (t : State) : Prop where
  cur : t.cur = s.cur
  freed : t.Freed s.cur.bay s.cur.idx s.cur.slot c

theorem LeftSlot.curF {s t : State} {c : BayCtx} (h : LeftSlot s c t) : t.curF = none := by
  rw [State.curF, h.cur]
  exact h.freed.1

theorem LeftSlot.curC {s t : State} {c : BayCtx} (h : LeftSlot s c t) :
    ∃ y, t.curC = some y ∧ (y.slot s.cur.slot).gen = (c.slot s.cur.slot).gen + 1 := by
  rw [State.curC, h.cur]
  exact h.freed.2

section
variable {s : State} {c : BayCtx} {f : Fibre} {a : GReg}

/-- The slot of an instruction that retires and takes its fibre away. -/
theorem LeftSlot.vacate (hc : s.curC = some c) :
    LeftSlot s c ((s.countRetired s.cur.bay s.cur.idx).vacate s.cur.bay s.cur.idx s.cur.slot) where
  cur := (State.vacate_cur ..).trans (State.countRetired_cur ..)
  freed := State.vacate_freed ((State.countRetired_bctx ..).trans hc) _

/-! ### FEXIT (R183) -/

theorem LeftSlot.exitFibre (hc : s.curC = some c) (asid : Nat) (hp : f.pend = []) :
    LeftSlot s c (s.exitFibre s.cur.bay s.cur.idx s.cur.slot asid f) := by
  have h := LeftSlot.vacate hc
  unfold State.exitFibre
  rw [hp]
  dsimp only [List.foldl_nil]
  rw [State.leaveWaits_self]
  split
  · exact ⟨(State.freeVec_cur ..).trans h.cur, h.freed.freeVec _⟩
  · exact ⟨h.cur, h.freed⟩

theorem State.exitFibre_ctx (s : State) (b i k asid : Nat) (hp : f.pend = []) {y : Ctx} (hy : s.ctx asid = some y) :
    ∃ z, (s.exitFibre b i k asid f).ctx asid = some z ∧ z.live = y.live - 1 := by
  have h : CalmFrame s ((s.countRetired b i).vacate b i k) := (CalmFrame.countRetired s b i).trans (.of_ctxs (State.vacate_ctxs ..))
  have sub (t : State) (ht : CalmFrame s t) : ∃ z, (t.subLive asid 1).ctx asid = some z ∧ z.live = y.live - 1 := by
    obtain ⟨z, hz, hcalm⟩ := ht.ctx hy
    refine ⟨{ z with live := z.live - 1 }, (State.ctx_modCtx_self ..).trans (by rw [hz]; rfl), ?_⟩
    exact congrArg (·.live - 1) hcalm
  unfold State.exitFibre
  rw [hp]
  dsimp only [List.foldl_nil]
  rw [State.leaveWaits_self]
  split
  · exact sub _ (h.trans (.freeVec ..))
  · exact sub _ h

theorem execFexit_exits (h : s.Issues [] c f) (hq : f.quiet) (hl : f.locals = 0) (hs : f.spawnUnack = 0)
    (hr : s.remoteWrites f.uid none = false) (hv : vecIdle c f = true) :
    exec .fexit s = .next (s.exitFibre s.cur.bay s.cur.idx s.cur.slot c.asid f) := by
  show execFexit s = _
  refine (issue_runs (i := .fexit) h.ctx h.fibre h.full rfl h.frame).trans ?_
  rw [hq.1, hq.2, hl, hs, hr, hv]
  rfl

theorem execFexit_blocks (h : s.Issues [] c f) (hr : f.ring ≠ []) (hw : f.wait = .ready) :
    exec .fexit s = .next (s.asFibre (f.block (.retry 9) (s.bay s.cur.bay).cycle)) := by
  show execFexit s = _
  refine (issue_runs (i := .fexit) h.ctx h.fibre h.full rfl h.frame).trans ?_
  rw [if_pos (by simpa using hr), finish_block h.fibre hw]

/-! ### FGO (R187, R224) -/

/-- The issuing fibre is on its way to bay b (R187). -/
def State.departs (s : State) (f : Fibre) (asid b : Nat) : State :=
  let s1 := (s.countRetired s.cur.bay s.cur.idx).vacate s.cur.bay s.cur.idx s.cur.slot
  { s1 with mig := tset s1.mig f.uid (f.retire.travel s.free), free := s.free + 4 }.post
    (laneMesh s.cur.bay b) (.migrationArrival b asid f.uid)

theorem LeftSlot.departs (hc : s.curC = some c) (asid b : Nat) : LeftSlot s c (s.departs f asid b) :=
  ⟨(LeftSlot.vacate hc).cur, (LeftSlot.vacate hc).freed⟩

theorem State.departs_mem (s : State) (f : Fibre) (asid b : Nat) : (s.departs f asid b).mem = s.mem :=
  (State.vacate_mem ..).trans (State.countRetired_mem ..)

/-- FGO after its checks of mode and vector context. -/
theorem execFgo_runs (h : s.Issues [a] c f) : exec (.fgo a) s = .next (s.finish f (
    if f.hm || f.vctx.isSome then .fault .fstate (wordOf (.fgo a))
    else if !(decide ((f.reg a).toNat < 1536) && s.usable c.asid (f.reg a).toNat) then .fault .range (f.reg a)
    else if f.locals ≠ 0 ∨ f.ring.any Access.writes = true then .block 0x0B
    else if (f.reg a).toNat = s.cur.bay then .done (s.modCur fun x => { x with ticket := none })
    else .stay (s.departs f c.asid (f.reg a).toNat))) := by
  show execFgo a s = _
  exact issue_runs h.ctx h.fibre h.full rfl h.frame

/-- FGO after its checks. -/
theorem execFgo_moves (h : s.Issues [a] c f) (hm : f.hm = false) (hv : f.vctx = none) (ht : (f.reg a).toNat < 1536)
    (hu : s.usable c.asid (f.reg a).toNat = true) (hl : f.locals = 0) (hw : ∀ x ∈ f.ring, x.writes = false) :
    exec (.fgo a) s = .next (s.finish f (
      if (f.reg a).toNat = s.cur.bay then .done (s.modCur fun x => { x with ticket := none })
      else .stay (s.departs f c.asid (f.reg a).toNat))) := by
  have hring : f.ring.any Access.writes = false := List.any_eq_false.2 fun x hx => by rw [hw x hx]; nofun
  rw [execFgo_runs h, hm, hv, hu, hl, hring, decide_eq_true ht]
  rfl

/-- What travels is the fibre after its instruction, but for its ticket and its handler registers (R86, R187). -/
theorem Fibre.retire_travel (f : Fibre) (n : Nat) :
    let g := f.retire.travel n
    g.g = f.g ∧ g.empty = f.empty ∧ g.pc = f.nextPc.pc ∧ g.loops = f.nextPc.loops ∧ g.pri = f.pri ∧ g.ring = f.ring ∧
      g.dfaults = f.dfaults ∧ g.hscr = f.hscr ∧ g.hm = f.hm ∧ g.ticket = none := by
  dsimp only [Fibre.travel, Fibre.retire]
  rw [f.nextPc_eq]
  exact ⟨rfl, rfl, rfl, rfl, rfl, rfl, rfl, rfl, rfl, rfl⟩

/-! ### MIGRATION_ARRIVAL (R187) -/

theorem State.ackSpawn_frame (s : State) (b i u : Nat) : CellarFrame s (s.ackSpawn b i u) := by
  unfold State.ackSpawn
  split
  · exact .refl s
  · split
    · exact .modC s b i fun _ => ⟨rfl, fun _ => ⟨rfl, rfl⟩⟩
    · exact .post ..

theorem State.fib_occupy {b i k : Nat} {x : BayCtx} (hx : s.bctx b i = some x) (g : Fibre) :
    (s.occupy b i k g).fib b i k = some { g with w := 0, wait := .ready } := by
  rw [State.occupy, State.fib, State.bctx_modC_self, hx]
  exact congrArg Slot.fib (BayCtx.slot_modSlot_self ..)

/-- With no record before it, a request takes the free slot (R174). -/
theorem State.place_slot {b i k : Nat} {x : BayCtx} (hx : s.bctx b i = some x) (hl : s.launched x.asid = true) (hi : i < 4)
    (hr : x.cellar.ring = []) (hk : s.freeSlot b i = some k) (r : CRec) :
    ∃ t, s.place b i r = some (t, some k) ∧
      t = { s.occupy b i k (s.fibreOf x.asid r) with ctxs := t.ctxs, nextId := s.nextId + 1 } := by
  unfold State.place
  rw [hx]
  dsimp only
  rw [hl, decide_eq_true hi, hr]
  dsimp only [List.isEmpty_nil, Bool.and_self, if_true]
  rw [hk]
  refine ⟨_, rfl, ?_⟩
  cases r <;> rfl

/-- A message is placed where none is held before it (R177). -/
theorem State.placeOrHold_placed {b i : Nat} {x : BayCtx} {m : Held} {t : State} {k : Option Nat} (hx : s.bctx b i = some x)
    (hh : x.cellar.held = []) (hp : s.place b i m.msg = some (t, k)) : s.placeOrHold b i m = t.ackSpawn b i m.sender := by
  unfold State.placeOrHold
  rw [hx]
  dsimp only
  rw [hh, hp]
  rfl

/-- A fibre that arrives where nothing waits takes the lowest free slot (R187, R174). -/
theorem execMigrationArrival_places {b i k : Nat} {x : BayCtx} (he : s.ev = .migrationArrival b x.asid f.uid)
    (hf : tfind s.mig f.uid = some f) (hk : s.keyOf b x.asid = some i) (hi : i < 4) (hx : s.bctx b i = some x)
    (hh : x.cellar.held = []) (hr : x.cellar.ring = []) (hl : s.launched x.asid = true) (hs : s.freeSlot b i = some k) :
    ∃ t, exec .migrationArrival s = .next t ∧ SameMemory s t ∧ t.fib b i k = some { f with w := 0, wait := .ready } ∧
      tfind t.mig f.uid = none := by
  obtain ⟨u, hplace, hu⟩ := State.place_slot (s := { s with mig := tdel s.mig f.uid }) hx hl hi hr hs (.fib f)
  have hack := u.ackSpawn_frame b i 0
  refine ⟨u.ackSpawn b i 0, ?_, fun a => ?_, ?_, ?_⟩
  · show execMigrationArrival s = _
    unfold execMigrationArrival
    split
    · rename_i e
      cases e.symm.trans he
      rw [hf, hk]
      exact congrArg _ (State.placeOrHold_placed (s := { s with mig := tdel s.mig f.uid })
        (m := { msg := .fib f, sender := 0 }) hx hh hplace)
    · rename_i e
      exact absurd he (e _ _ _)
  · rw [hack.mem, hu]
    rfl
  · rw [hack.fib, hu]
    exact State.fib_occupy (s := { s with mig := tdel s.mig f.uid }) hx f
  · rw [hack.units, hu]
    exact tfind_tdel_self ..

/-! ### FPARK (R188) -/

/-- The issuing fibre has become the last record of the ring, record n of the area, and its slot frees (R188, R209, R36). -/
def State.parks (s : State) (n : Nat) (r : CRec) : State :=
  let s1 := (s.countRetired s.cur.bay s.cur.idx).modCurC fun y =>
    { y with cellar := { y.cellar with ring := y.cellar.ring ++ [(n, r)] } }
  (s1.congest s.cur.bay s.cur.idx).vacate s.cur.bay s.cur.idx s.cur.slot

theorem execFpark_runs (h : s.Issues [] c f) : exec .fpark s = .next (s.finish f (
    if f.hm || f.vctx.isSome then .fault .fstate (wordOf .fpark)
    else if !f.ring.isEmpty then .block 9
    else if !f.dfaults.isEmpty then .deferred
    else if f.locals ≠ 0 ∨ f.empty ≠ 0 then .block 0x0B
    else if c.cellar.ring.isEmpty then .stay (s.yieldCur f.uid)
    else if s.cellarRoom c = false then .block 0x0B
    else .stay (s.cellarOr s.cur.bay c.asid c.cellar.room .write fun t => t.parks c.cellar.room (.fib f.retire)))) := by
  show execFpark s = _
  exact issue_runs h.ctx h.fibre h.full rfl h.frame

/-- FPARK after its checks. -/
theorem execFpark_parks (h : s.Issues [] c f) (hm : f.hm = false) (hv : f.vctx = none) (hq : f.quiet) (hl : f.locals = 0)
    (hempty : f.empty = 0) : exec .fpark s = .next (s.finish f (
      if c.cellar.ring.isEmpty then .stay (s.yieldCur f.uid)
      else if s.cellarRoom c = false then .block 0x0B
      else .stay (s.cellarOr s.cur.bay c.asid c.cellar.room .write fun t => t.parks c.cellar.room (.fib f.retire)))) := by
  rw [execFpark_runs h, hm, hv, hq.1, hq.2, hl, hempty]
  rfl

theorem State.parks_spec (hc : s.curC = some c) (n : Nat) (r : CRec) :
    (s.parks n r).curF = none ∧ ∃ y, (s.parks n r).curC = some y ∧ y.cellar.ring = c.cellar.ring ++ [(n, r)] := by
  unfold State.parks
  extract_lets s1
  have hcur : s1.cur = s.cur := State.countRetired_cur ..
  have h1 : s1.bctx s.cur.bay s.cur.idx = some { c with cellar := { c.cellar with ring := c.cellar.ring ++ [(n, r)] } } := by
    show (State.modC _ _ _ _).bctx _ _ = _
    rw [State.countRetired_cur, State.bctx_modC_self, State.countRetired_bctx]
    exact congrArg _ hc
  have hcong := CellarFrame.congest s1 s.cur.bay s.cur.idx
  obtain ⟨d, hd, hbooks⟩ := hcong.bctx h1
  obtain ⟨hfib, y, hy, -, hring, -⟩ := State.vacate_spec hd s.cur.slot
  have htcur := (State.vacate_cur _ s.cur.bay s.cur.idx s.cur.slot).trans (hcong.cur.trans hcur)
  refine ⟨?_, y, ?_, hring.trans hbooks.ring⟩
  · rw [State.curF, htcur]
    exact hfib
  · rw [State.curC, htcur]
    exact hy

end

/-- Settles O33: each instruction is its checks and then a slot that frees, and the arrival takes the lowest free slot. -/
theorem fibreMoves : Obligations.FibreMoves := by
  unfold Obligations.FibreMoves
  intro s c f a gone
  refine ⟨fun h hq hl hs hr hv hp => ?_, fun h hr hw => execFexit_blocks h hr hw,
    fun h => ⟨fun hm => ?_, fun hm hv => ⟨fun ht => ?_, fun ht hu hl hw => ⟨fun hb => ?_, fun hb => ?_⟩⟩⟩,
    fun bay i k x he hf hk hi hx hh hr hl hs => execMigrationArrival_places he hf hk hi hx hh hr hl hs,
    fun h hm hv hq hl hempty => ⟨fun hr => ?_, fun s' hr hroom hacc => ?_⟩, fun h hm => ?_⟩
  · have hleft := LeftSlot.exitFibre h.ctx c.asid hp
    exact ⟨_, execFexit_exits h hq hl hs hr hv, ⟨hleft.curF, fun k => by rw [State.exitFibre_mem], hleft.curC⟩,
      fun y hy => State.exitFibre_ctx s _ _ _ _ hp hy⟩
  · rw [execFgo_runs h, if_pos (Bool.or_eq_true_iff.2 hm), finish_fault]
  · have hbay : (!(decide ((f.reg a).toNat < 1536) && s.usable c.asid (f.reg a).toNat)) = true := by
      rcases ht with ht | ht
      · rw [decide_eq_false (Nat.not_lt.2 ht)]
        rfl
      · rw [ht, Bool.and_false]
        rfl
    rw [execFgo_runs h, hm, hv, if_neg nofun, if_pos hbay, finish_fault]
  · rw [execFgo_moves h hm hv ht hu hl hw, if_pos hb, State.modCur_eq_asFibre h.fibre, finish_done_asFibre]
  · have hleft := LeftSlot.departs (f := f) h.ctx c.asid (f.reg a).toNat
    refine ⟨s.departs f c.asid (f.reg a).toNat, _, _, by rw [execFgo_moves h hm hv ht hu hl hw, if_neg hb]; rfl,
      ⟨hleft.curF, fun k => by rw [State.departs_mem], hleft.curC⟩, rfl, tfind_tset_self .., ?_⟩
    · obtain ⟨hg, he, hpc, hloops, hpri, hring, hdf, hscr, hmode, htick⟩ := f.retire_travel s.free
      exact ⟨hg, he, hpc, hloops, hpri, hring, hdf, hscr, hmode.trans hm, htick⟩
  · rw [execFpark_parks h hm hv hq hl hempty, if_pos (by rw [hr]; rfl)]
    exact ⟨_, rfl, (State.yieldCur_spec h.fibre f.uid).1⟩
  · have hu := RecordAccess.cellarAccess hacc
    have hc : s'.curC = some c := by rw [State.curC, hu.cur, hu.bctx]; exact h.ctx
    rw [execFpark_parks h hm hv hq hl hempty, if_neg (by simpa using hr), if_neg (by rw [hroom]; nofun)]
    obtain ⟨hgone, y, hy, hring⟩ := State.parks_spec hc c.cellar.room (.fib f.retire)
    refine ⟨_, y, ?_, hgone, hy, hring⟩
    rw [State.cellarOr, hacc]
    rfl
  · rw [execFpark_runs h, if_pos (by rw [hm]; rfl), finish_fault]

end Sys2Proof.Machine
end

section
/-!
SUPPORT. Eviction, restore and a spawn that waited at its cistern unit (R203, R206, R208, R403).
-/
namespace Sys2Proof.Machine

theorem State.bctx_of_bays {s t : State} (h : t.bays = s.bays) (b i : Nat) : t.bctx b i = s.bctx b i := by
  rw [State.bctx, State.bay, h]
  rfl

theorem State.fib_of_bays {s t : State} (h : t.bays = s.bays) (b i k : Nat) : t.fib b i k = s.fib b i k := by
  rw [State.fib, State.bctx_of_bays h]
  rfl

section
variable {s s' : State} {b i k n : Nat} {c : BayCtx} {f : Fibre}

/-! ### The access to a record that must succeed (R203) -/

theorem State.cellarOr_ok {asid : Nat} {need : Need} (h : s.cellarAccess b asid n need = (s', true)) (g : State → State) :
    s.cellarOr b asid n need g = g s' := by
  rw [State.cellarOr, h]

/-- Where the access fails, the context ends with CELLAR, unless it has ended already. -/
theorem State.cellarOr_ends {asid : Nat} {need : Need} (h : s.cellarAccess b asid n need = (s', false)) (g : State → State) {y : Ctx}
    (hy : s.ctx asid = some y) : ∃ z, (s.cellarOr b asid n need g).ctx asid = some z ∧ z.ended = some (y.ended.getD .cellar) := by
  have hs : s'.ctx asid = some y := by
    have e := s.cellarAccess_ctxs b asid n need
    rw [h] at e
    rw [State.ctx, show s'.ctxs = s.ctxs from e]
    exact hy
  rw [State.cellarOr, h]
  exact ⟨_, (State.ctx_modCtx_self ..).trans (congrArg _ hs), rfl⟩

/-! ### FIBRE_EVICTION (R203, R206) -/

/-- The fibre has become record n of the blocked ones, and its slot frees. -/
def State.evicts (s : State) (b i asid n k : Nat) (f : Fibre) : State :=
  ((s.modC b i fun y => { y with cellar := { y.cellar with blocked := y.cellar.blocked ++ [(n, f)] } }).bump b asid 13 1).vacate b i k

theorem execFibreEviction_evicts (hc : s.bctx b i = some c) (he : s.ev = .fibreEviction b i) (hk : s.evictee b i = some (k, f))
    (hr : s.cellarRoom c = true) : exec .fibreEviction s = .next (s.cellarOr b c.asid c.cellar.room .write fun t =>
      t.evicts b i c.asid c.cellar.room k f) := by
  show execFibreEviction s = _
  unfold execFibreEviction
  split
  · rename_i e
    cases e.symm.trans he
    rw [hc, hk]
    exact if_pos hr
  · rename_i e
    exact absurd he (e _ _)

theorem State.evicts_spec (hc : s.bctx b i = some c) (asid n k : Nat) (f : Fibre) :
    (∃ y, (s.evicts b i asid n k f).bctx b i = some y ∧ y.cellar.blocked = c.cellar.blocked ++ [(n, f)] ∧
      (y.slot k).fib = none) ∧ SameMemory s (s.evicts b i asid n k f) := by
  have h1 : ((s.modC b i fun y => { y with cellar := { y.cellar with blocked := y.cellar.blocked ++ [(n, f)] } }).bump
      b asid 13 1).bctx b i = some { c with cellar := { c.cellar with blocked := c.cellar.blocked ++ [(n, f)] } } := by
    rw [State.bctx_bump, State.bctx_modC_self, hc]
    rfl
  obtain ⟨hfib, y, hy, -, -, hblocked⟩ := State.vacate_spec h1 k
  exact ⟨⟨y, hy, hblocked, (State.fib_of_bctx hy k).symm.trans hfib⟩, fun a => congrArg (memGet · a) (State.vacate_mem ..)⟩

/-! ### CELLAR_RESTORE (R208) -/

/-- The bay with the rest of the ring and of the reserved slots. -/
def State.withoutHead (s : State) (b i : Nat) (rest : List (Nat × CRec)) (slots : List Nat) : State :=
  s.modC b i fun y => { y with cellar := { y.cellar with ring := rest, order := slots } }

/-- The head record's fibre has taken slot k (R208). -/
def State.headIn (s : State) (b i k asid : Nat) (r : CRec) (rest : List (Nat × CRec)) (slots : List Nat) : State :=
  let s1 := (s.withoutHead b i rest slots).occupy b i k (s.fibreOf asid r)
  { (match r with | .spawn _ => s1.countSpawn asid | .fib _ => s1) with nextId := s.nextId + 1 }

/-- What a restore makes of the state after the access to its record (R208, R209, R177). -/
def State.restores (s : State) (b i k : Nat) (c : BayCtx) (r : CRec) (rest : List (Nat × CRec)) (slots : List Nat) : State :=
  let s3 := ((s.headIn b i k c.asid r rest slots).congest b i).pulse c.asid
  (s3.placeHeld b i c.cellar.held).reserve b i

theorem State.headIn_bays (s : State) (b i k asid : Nat) (r : CRec) (rest : List (Nat × CRec)) (slots : List Nat) :
    (s.headIn b i k asid r rest slots).bays = ((s.withoutHead b i rest slots).occupy b i k (s.fibreOf asid r)).bays := by
  cases r <;> rfl

theorem State.headIn_mem (s : State) (b i k asid : Nat) (r : CRec) (rest : List (Nat × CRec)) (slots : List Nat) :
    (s.headIn b i k asid r rest slots).mem = s.mem := by
  cases r <;> rfl

variable {r : CRec} {rest : List (Nat × CRec)} {slots : List Nat}

theorem execCellarRestore_restores (hc : s.bctx b i = some c) (he : s.ev = .cellarRestore b i) (hi : i < 4)
    (ho : c.cellar.order = k :: slots) (hr : c.cellar.ring = (n, r) :: rest) (hf : s.isFaultSlot b i k = false) :
    exec .cellarRestore s = .next (s.cellarOr b c.asid n .read fun t => t.restores b i k c r rest slots) := by
  show execCellarRestore s = _
  unfold execCellarRestore
  split
  · rename_i e
    cases e.symm.trans he
    rw [hc]
    dsimp only
    rw [ho, hr]
    dsimp only
    rw [if_neg (Nat.not_le.2 hi), hf]
    rfl
  · rename_i e
    exact absurd he (e _ _)

theorem State.restores_spec (hc : s.bctx b i = some c) (hh : c.cellar.held = []) (k : Nat) (r : CRec)
    (rest : List (Nat × CRec)) (slots : List Nat) :
    let t := s.restores b i k c r rest slots
    SameMemory s t ∧ t.fib b i k = some { s.fibreOf c.asid r with w := 0, wait := .ready } ∧
      ∀ y, t.bctx b i = some y → y.cellar.ring = rest := by
  intro t
  have hd : (s.withoutHead b i rest slots).bctx b i = some { c with cellar := { c.cellar with ring := rest, order := slots } } :=
    (State.bctx_modC_self ..).trans (congrArg _ hc)
  have hbays := s.headIn_bays b i k c.asid r rest slots
  have hcong := CellarFrame.congest (s.headIn b i k c.asid r rest slots) b i
  have hres := CellarFrame.reserve (((s.headIn b i k c.asid r rest slots).congest b i).pulse c.asid) b i
  have ht : t = (((s.headIn b i k c.asid r rest slots).congest b i).pulse c.asid).reserve b i := by
    show State.restores .. = _
    unfold State.restores
    rw [hh]
    rfl
  refine ⟨fun a => ?_, ?_, fun y hy => ?_⟩
  · rw [ht, hres.mem, State.pulse_mem, hcong.mem, State.headIn_mem]
  · rw [ht, hres.fib]
    refine (hcong.fib b i k).trans ((State.fib_of_bays hbays ..).trans ?_)
    exact State.fib_occupy hd _
  · have hocc : (s.headIn b i k c.asid r rest slots).bctx b i = some _ :=
      (State.bctx_of_bays hbays ..).trans ((State.bctx_modC_self ..).trans (congrArg _ hd))
    obtain ⟨d, hdc, hbd⟩ := hcong.bctx hocc
    obtain ⟨z, hz, hbz⟩ := hres.bctx (show (((s.headIn b i k c.asid r rest slots).congest b i).pulse c.asid).bctx b i = some d from hdc)
    rw [ht] at hy
    cases hz.symm.trans hy
    exact hbz.ring.trans hbd.ring

/-! ### CISTERN_SPAWN_RETRY (R403) -/

theorem State.tallyPages_units (s : State) (b asid : Nat) (k : Tally) (l : List Nat) :
    ∃ mg, s.tallyPages b asid k l = { s with mgmt := mg } := by
  unfold State.tallyPages
  induction l generalizing s with
  | nil => exact ⟨_, rfl⟩
  | cons p l ih =>
    rw [List.foldl_cons]
    exact ih _

theorem State.sealPages_units (s : State) (b : Nat) (c : BayCtx) (ks : List Nat) :
    ∃ im mg, s.sealPages b c ks = { s with images := im, mgmt := mg } := by
  unfold State.sealPages
  dsimp only
  obtain ⟨mg, h⟩ := State.tallyPages_units
    { s with images := tset s.images (imageKey b c.asid) { s.image b c.asid with
      tags := (List.range c.quota.pages).map fun k =>
        if ks.contains k then s.imageTag b c (s.image b c.asid).gen k else (s.image b c.asid).tags.getD k 0 } } b c.asid .writes ks
  exact ⟨_, mg, h⟩

theorem State.putPages_cases (s t : State) (b asid : Nat) (d : BayCtx) (ks : List Nat) (bad : Option (Nat × Bool)) :
    (∃ im mg, (s.putPages t b asid d ks bad).1 = { t with images := im, mgmt := mg }) ∨
      ∃ k m, (s.putPages t b asid d ks bad).1 = s.endImage b asid k m := by
  unfold State.putPages
  split
  · exact .inr ⟨_, _, rfl⟩
  · exact .inl (t.sealPages_units b d ks)

/-- A change that a save image takes is made, but for images and counters, or a page that is found bad ends the context (R425). -/
theorem State.imaged_cases (s t : State) (b asid : Nat) :
    (∃ im mg, s.imaged t b asid = { t with images := im, mgmt := mg }) ∨ ∃ k m, s.imaged t b asid = s.endImage b asid k m := by
  unfold State.imaged State.viaImage State.viaPages
  split
  · exact State.putPages_cases ..
  · exact .inl ⟨_, _, rfl⟩

theorem State.endImage_bays (s : State) (b asid k : Nat) (m : Bool) : (s.endImage b asid k m).bays = s.bays := by
  unfold State.endImage
  split
  · rfl
  · obtain ⟨mg, h⟩ := s.tallyPages_units b asid .uncorrectable [k]
    rw [h]
    rfl

theorem State.imaged_bays (s t : State) (b asid : Nat) :
    (s.imaged t b asid).bays = t.bays ∨ (s.imaged t b asid).bays = s.bays := by
  rcases s.imaged_cases t b asid with ⟨im, mg, h⟩ | ⟨k, m, h⟩
  · exact .inl (by rw [h])
  · exact .inr (by rw [h, State.endImage_bays])

theorem State.setCist_fib (s : State) (asid u n : Nat) (e : Cist) (b i k : Nat) : (s.setCist asid u n e).fib b i k = s.fib b i k := by
  unfold State.setCist
  split
  · split
    · rename_i j _
      rcases State.imaged_bays s (s.modC u j fun c => { c with cists := tset c.cists n e }) u asid with h | h
      · rw [State.fib_of_bays h]
        exact State.fib_modC_of_slots (g := fun c => { c with cists := tset c.cists n e }) _ _ _ (fun _ => rfl) ..
      · exact State.fib_of_bays h ..
    · rfl
  · rfl

theorem State.keyOf_modC (s : State) (b i : Nat) {g : BayCtx → BayCtx} (hg : ∀ c, (g c).asid = c.asid) (a asid : Nat) :
    (s.modC b i g).keyOf a asid = s.keyOf a asid := by
  unfold State.keyOf State.modC
  by_cases e : a = b
  · rw [e, State.bay_modBay_self]
    exact find?_asid_tmod hg ..
  · rw [State.bay_modBay_ne _ _ e]

/-- The cistern entries after a fibre has taken a slot. -/
theorem State.cist_occupy (s : State) (b i k : Nat) (f : Fibre) (asid u n : Nat) : (s.occupy b i k f).cist asid u n = s.cist asid u n := by
  unfold State.cist
  split
  · rw [show (s.occupy b i k f).keyOf u asid = s.keyOf u asid from
        State.keyOf_modC s b i (g := fun c => c.modSlot k fun x => { x with fib := some { f with w := 0, wait := .ready }, resv := false })
          (fun _ => rfl) ..]
    cases s.keyOf u asid with
    | none => rfl
    | some j =>
      dsimp only [Option.bind_some]
      by_cases e : u = b ∧ j = i
      · obtain ⟨rfl, rfl⟩ := e
        rw [State.occupy, State.bctx_modC_self]
        cases s.bctx u j <;> rfl
      · rw [State.occupy, State.bctx_modC_ne _ _ (not_and_or.1 e)]
  · rfl

/-- The one spawn that waited is placed, and nothing waits behind it (R403, R394). -/
theorem execCisternSpawnRetry_places {q : SpawnReq} {u : Nat} (hc : s.bctx b i = some c) (he : s.ev = .cisternSpawnRetry b c.asid q u n)
    (hf : (s.bay b).fenced = false) (hk : s.keyOf b c.asid = some i) (hi : i < 4) (hl : s.launched c.asid = true)
    (hr : c.cellar.ring = []) (hs : s.freeSlot b i = some k) (hp : q.pri ≠ 7) (hq : (s.cist c.asid u n).queued.length ≤ 1) :
    ∃ t, exec .cisternSpawnRetry s = .next t ∧ t.fib b i k = some (Fibre.start s.nextId q.entry q.arg q.pri) ∧ SameMemory s t := by
  obtain ⟨t, hplace, ht⟩ := State.place_slot hc hl hi hr hs (.spawn q)
  have hcist : t.cist c.asid u n = s.cist c.asid u n := by
    rw [ht]
    exact State.cist_occupy ..
  have hdrop : (t.cist c.asid u n).queued.drop 1 = [] := by
    rw [hcist]
    exact List.drop_eq_nil_of_le hq
  have hseat : t.fib b i k = some (Fibre.start s.nextId q.entry q.arg q.pri) := by
    rw [ht]
    refine (State.fib_occupy hc _).trans ?_
    rw [State.fibreOf, if_neg hp]
    rfl
  refine ⟨(t.subLive c.asid 1).setCist c.asid u n { t.cist c.asid u n with queued := [] }, ?_, ?_, fun a => ?_⟩
  · show execCisternSpawnRetry s = _
    unfold execCisternSpawnRetry
    split
    · rename_i e
      cases e.symm.trans he
      rw [hf, hk]
      rw [if_neg nofun]
      dsimp only
      rw [hplace]
      dsimp only
      rw [hdrop]
      rfl
    · rename_i e
      exact absurd he (e _ _ _ _ _)
  · exact (State.setCist_fib ..).trans hseat
  · rw [State.setCist_mem, ht]
    rfl

end

end Sys2Proof.Machine
end

section
/-!
SUPPORT. The fibres of a context wherever they stand (R187, R415), after each kind of change.
-/
namespace Sys2Proof.Machine

/-! ### Tables -/

theorem tmap_eq_map {α : Type} (f : α → α) (l : Tab α) : tmap f l = l.map fun p => (p.1, f p.2) := by
  induction l with
  | nil => rfl
  | cons p r ih => exact congrArg _ ih

/-- Two entries are set in any order, also in a table whose keys do not rise. -/
theorem tset_comm {α : Type} {j k : Nat} (h : j ≠ k) (l : Tab α) (v w : α) : tset (tset l j v) k w = tset (tset l k w) j v := by
  induction l with
  | nil =>
    simp only [tset]
    grind
  | cons p r ih =>
    obtain ⟨i, x⟩ := p
    simp only [tset]
    grind [tset]

theorem mem_tmod {α : Type} {f : α → α} {l : Tab α} {k : Nat} {q : Nat × α} (h : q ∈ tmod f l k) :
    q ∈ l ∨ ∃ v, tfind l k = some v ∧ q = (k, f v) := by
  induction l with
  | nil => cases h
  | cons p r ih =>
    obtain ⟨j, x⟩ := p
    rw [tmod] at h
    rw [tfind]
    split at h
    · rename_i e
      rw [if_pos e]
      subst e
      rcases List.mem_cons.1 h with e | e
      · exact .inr ⟨x, rfl, e⟩
      · exact .inl (List.mem_cons_of_mem _ e)
    · rename_i e
      rw [if_neg e]
      rcases List.mem_cons.1 h with e | e
      · exact .inl (by rw [e]; exact List.mem_cons_self)
      · exact (ih e).imp_left (List.mem_cons_of_mem _)

theorem tmod_comm {α : Type} {j k : Nat} (h : j ≠ k) (f g : α → α) (l : Tab α) : tmod g (tmod f l j) k = tmod f (tmod g l k) j := by
  induction l with
  | nil => rfl
  | cons p r ih =>
    obtain ⟨i, x⟩ := p
    simp only [tmod]
    grind [tmod]

/-! ### Changes of two contexts on bays -/

theorem State.modBay_comm (s : State) {a b : Nat} (h : a ≠ b) (f g : Bay → Bay) :
    (s.modBay a f).modBay b g = (s.modBay b g).modBay a f := by
  unfold State.modBay
  dsimp only
  rw [show State.bay { s with bays := tset s.bays a (f (s.bay a)) } b = s.bay b from tget_tset_ne _ _ _ h.symm,
    show State.bay { s with bays := tset s.bays b (g (s.bay b)) } a = s.bay a from tget_tset_ne _ _ _ h, tset_comm h]

theorem State.modC_comm (s : State) {a b i j : Nat} (h : a ≠ b ∨ i ≠ j) (f g : BayCtx → BayCtx) :
    (s.modC a i f).modC b j g = (s.modC b j g).modC a i f := by
  by_cases e : a = b
  · subst e
    have hij := h.resolve_left (not_not.2 rfl)
    unfold State.modC
    rw [State.modBay_modBay, State.modBay_modBay]
    dsimp only
    simp only [tmod_comm hij]
  · exact State.modBay_comm s e ..

/-! ### The fibres of a context (R187, R415) -/

theorem mem_migrants {a u : Nat} {l : List Item} : (a, u) ∈ migrants l ↔ ∃ t ∈ l, ∃ b, t.ev = .migrationArrival b a u := by
  induction l with
  | nil => exact ⟨nofun, fun ⟨_, h, _⟩ => nomatch h⟩
  | cons t r ih =>
    rw [migrants]
    constructor
    · intro h
      split at h
      · rename_i b a' u' e
        rcases List.mem_cons.1 h with h | h
        · cases h
          exact ⟨t, List.mem_cons_self, b, e⟩
        · obtain ⟨x, hx, hb⟩ := ih.1 h
          exact ⟨x, List.mem_cons_of_mem _ hx, hb⟩
      · obtain ⟨x, hx, hb⟩ := ih.1 h
        exact ⟨x, List.mem_cons_of_mem _ hx, hb⟩
    · rintro ⟨x, hx, b, hb⟩
      rcases List.mem_cons.1 hx with rfl | hx
      · rw [hb]
        exact List.mem_cons_self
      · have hr := ih.2 ⟨x, hx, b, hb⟩
        split
        · exact List.mem_cons_of_mem _ hr
        · exact hr

/-- A fibre of the context stands on a bay that is not fenced. -/
def State.Stands (s : State) (asid : Nat) (f : Fibre) : Prop :=
  ∃ p ∈ s.bays, p.2.fenced = false ∧ ∃ q ∈ p.2.ctxs, q.2.asid = asid ∧ f ∈ q.2.fibres

/-- The item is in flight or parked. -/
def State.Waiting (s : State) (x : Item) : Prop := x ∈ s.agenda ∨ ∃ p ∈ s.bays, ∃ q ∈ p.2.ctxs, x ∈ q.2.park

/-- A fibre of the context is on its way between bays. -/
def State.Travels (s : State) (asid : Nat) (f : Fibre) : Prop :=
  ∃ u, (u, f) ∈ s.mig ∧ ∃ x, s.Waiting x ∧ ∃ b, x.ev = .migrationArrival b asid u

theorem State.mem_fibresOf {s : State} {asid : Nat} {f : Fibre} : f ∈ s.fibresOf asid ↔ s.Stands asid f ∨ s.Travels asid f := by
  have hway (u : Nat) : (migrants (s.agenda ++ s.bays.flatMap fun p => p.2.ctxs.flatMap fun q => q.2.park)).contains (asid, u) = true ↔
      ∃ x, s.Waiting x ∧ ∃ b, x.ev = .migrationArrival b asid u := by
    rw [List.contains_iff_mem, mem_migrants]
    simp only [List.mem_append, List.mem_flatMap]
    exact Iff.rfl
  unfold State.fibresOf
  rw [List.mem_append]
  refine or_congr ?_ ?_
  · rw [List.mem_flatMap]
    refine exists_congr fun p => and_congr_right fun _ => ?_
    split
    · rename_i h
      exact ⟨nofun, fun ⟨e, _⟩ => nomatch h.symm.trans e⟩
    · rename_i h
      simp only [List.mem_flatMap, List.mem_filter, beq_iff_eq, and_assoc]
      exact (and_iff_right (Bool.eq_false_iff.2 h)).symm
  · rw [List.mem_filterMap]
    constructor
    · rintro ⟨p, hp, he⟩
      split at he
      · rename_i hw
        cases he
        exact ⟨p.1, hp, (hway p.1).1 hw⟩
      · cases he
    · rintro ⟨u, hu, hw⟩
      exact ⟨(u, f), hu, if_pos ((hway u).2 hw)⟩

/-- A fibre in a slot is one of its context. -/
theorem BayCtx.mem_fibres_of_slot {c : BayCtx} {k : Nat} {f : Fibre} (h : (c.slot k).fib = some f) : f ∈ c.fibres := by
  unfold BayCtx.fibres
  refine List.mem_append_left _ (List.mem_append_left _ (List.mem_append_left _ (List.mem_filterMap.2 ⟨(k, c.slot k), ?_, h⟩)))
  refine (tget_mem Slot.init c.slots k).resolve_left fun e => ?_
  rw [BayCtx.slot, e] at h
  cases h

/-- A context held on a bay is listed there. -/
theorem State.bctx_mem {s : State} {b i : Nat} {c : BayCtx} (h : s.bctx b i = some c) :
    (b, s.bay b) ∈ s.bays ∧ (i, c) ∈ (s.bay b).ctxs := by
  refine ⟨(tget_mem Bay.init s.bays b).resolve_left fun e => ?_, tfind_mem h⟩
  rw [State.bctx, State.bay, e] at h
  cases h

theorem State.fib_mem_fibresOf {s : State} {b i k : Nat} {c : BayCtx} {f : Fibre} (hc : s.bctx b i = some c)
    (hf : s.fib b i k = some f) (hb : (s.bay b).fenced = false) : f ∈ s.fibresOf c.asid := by
  obtain ⟨hbay, hctx⟩ := State.bctx_mem hc
  exact State.mem_fibresOf.2 (.inl ⟨_, hbay, hb, _, hctx, rfl, BayCtx.mem_fibres_of_slot ((State.fib_of_bctx hc k).symm.trans hf)⟩)

/-! ### The fibres after a change of one context on a bay -/

section
variable {s : State} {b i : Nat} {g : BayCtx → BayCtx}

/-- An entry after the change of a context on a bay is one before it, or that context. -/
theorem State.mem_modC {p : Nat × Bay} (hp : p ∈ (s.modC b i g).bays) {q : Nat × BayCtx} (hq : q ∈ p.2.ctxs) :
    (∃ p' ∈ s.bays, p'.2.fenced = p.2.fenced ∧ q ∈ p'.2.ctxs) ∨
      ∃ c, s.bctx b i = some c ∧ (b, s.bay b) ∈ s.bays ∧ (s.bay b).fenced = p.2.fenced ∧ (i, c) ∈ (s.bay b).ctxs ∧ q = (i, g c) := by
  rcases mem_tset _ _ _ p hp with rfl | hp
  · rcases mem_tmod (show q ∈ tmod g (s.bay b).ctxs i from hq) with hq | ⟨c, hc, rfl⟩
    · refine .inl ⟨_, (tget_mem Bay.init s.bays b).resolve_left fun e => ?_, rfl, hq⟩
      rw [State.bay, e] at hq
      cases hq
    · obtain ⟨hbay, hctx⟩ := State.bctx_mem (s := s) (b := b) (i := i) hc
      exact .inr ⟨c, hc, hbay, rfl, hctx, rfl⟩
  · exact .inl ⟨p, hp, rfl, hq⟩

variable (ha : ∀ c, (g c).asid = c.asid) (hk : ∀ c, (g c).park = c.park)
include ha hk

theorem State.fibresOf_modC {asid : Nat} {f : Fibre} (h : f ∈ (s.modC b i g).fibresOf asid) :
    f ∈ s.fibresOf asid ∨ ∃ c, s.bctx b i = some c ∧ c.asid = asid ∧ (s.bay b).fenced = false ∧ f ∈ (g c).fibres := by
  rcases State.mem_fibresOf.1 h with ⟨p, hp, hfence, q, hq, hasid, hf⟩ | ⟨u, hu, x, hx, hev⟩
  · rcases State.mem_modC hp hq with ⟨p', hp', hfence', hq'⟩ | ⟨c, hc, -, hfence', -, rfl⟩
    · exact .inl (State.mem_fibresOf.2 (.inl ⟨p', hp', hfence'.trans hfence, q, hq', hasid, hf⟩))
    · exact .inr ⟨c, hc, (ha c).symm.trans hasid, hfence'.trans hfence, hf⟩
  · refine .inl (State.mem_fibresOf.2 (.inr ⟨u, hu, x, hx.imp_right fun ⟨p, hp, q, hq, hpark⟩ => ?_, hev⟩))
    rcases State.mem_modC hp hq with ⟨p', hp', -, hq'⟩ | ⟨c, -, hbay, -, hctx, rfl⟩
    · exact ⟨p', hp', q, hq', hpark⟩
    · exact ⟨_, hbay, _, hctx, hk c ▸ hpark⟩

/-- A change that keeps a context's fibres brings none. -/
theorem State.fibresOf_modC_of_fibres (hg : ∀ c, (g c).fibres = c.fibres) {asid : Nat} {f : Fibre}
    (h : f ∈ (s.modC b i g).fibresOf asid) : f ∈ s.fibresOf asid := by
  rcases State.fibresOf_modC ha hk h with h | ⟨c, hc, rfl, hfence, hf⟩
  · exact h
  · obtain ⟨hbay, hctx⟩ := State.bctx_mem hc
    exact State.mem_fibresOf.2 (.inl ⟨_, hbay, hfence, _, hctx, rfl, hg c ▸ hf⟩)

end

/-- A context after a change of one slot holds what it held, and the slot's fibre. -/
theorem BayCtx.mem_fibres_modSlot {c : BayCtx} {k : Nat} {g : Slot → Slot} {f : Fibre} (h : f ∈ (c.modSlot k g).fibres) :
    f ∈ c.fibres ∨ (g (c.slot k)).fib = some f := by
  unfold BayCtx.fibres at h ⊢
  simp only [List.mem_append, List.mem_filterMap] at h ⊢
  rcases h with ((⟨p, hp, hf⟩ | h) | h) | h
  · rcases mem_tset _ _ _ p hp with rfl | hp
    · exact .inr hf
    · exact .inl (.inl (.inl (.inl ⟨p, hp, hf⟩)))
  · exact .inl (.inl (.inl (.inr h)))
  · exact .inl (.inl (.inr h))
  · exact .inl (.inr h)

/-- Items that are no migration change nothing. -/
theorem State.fibresOf_postFree {s : State} {asid : Nat} {f : Fibre} {ev : Ev} (hev : ∀ b a u, ev ≠ .migrationArrival b a u)
    (h : f ∈ (s.postFree ev).fibresOf asid) : f ∈ s.fibresOf asid := by
  rcases State.mem_fibresOf.1 h with h | ⟨u, hu, x, hx, b, hb⟩
  · exact State.mem_fibresOf.2 (.inl h)
  · refine State.mem_fibresOf.2 (.inr ⟨u, hu, x, hx.imp_left fun hx => ?_, b, hb⟩)
    rcases List.mem_append.1 hx with hx | hx
    · exact hx
    · cases List.mem_singleton.1 hx
      exact absurd hb (hev _ _ _)

/-! ### The fibres after a change by name -/

theorem BayCtx.fibres_mapF (g : Fibre → Fibre) (c : BayCtx) : (c.mapF g).fibres = c.fibres.map g := by
  unfold BayCtx.fibres BayCtx.mapF
  simp only [tmap_eq_map, List.map_append, List.filterMap_map, List.map_map, List.map_filterMap]
  refine congrArg₂ _ (congrArg₂ _ (congrArg₂ _ rfl ?_) rfl) ?_
  · refine congrArg (List.filterMap · _) (funext fun p => ?_)
    obtain ⟨n, r⟩ := p
    cases r <;> rfl
  · refine congrArg (List.filterMap · _) (funext fun m => ?_)
    obtain ⟨r, n⟩ := m
    cases r <;> rfl

theorem State.fibresOf_modU {s : State} {u asid : Nat} {g : Fibre → Fibre} {f : Fibre} (h : f ∈ (s.modU u g).fibresOf asid) :
    ∃ x ∈ s.fibresOf asid, f = onU u g x := by
  have entry {p : Nat × Bay} (hp : p ∈ (s.modU u g).bays) {q : Nat × BayCtx} (hq : q ∈ p.2.ctxs) :
      ∃ p' ∈ s.bays, p'.2.fenced = p.2.fenced ∧ ∃ q' ∈ p'.2.ctxs, q.2 = q'.2.mapF (onU u g) := by
    rw [State.modU, tmap_eq_map] at hp
    obtain ⟨p', hp', rfl⟩ := List.mem_map.1 hp
    dsimp only at hq
    rw [tmap_eq_map] at hq
    obtain ⟨q', hq', rfl⟩ := List.mem_map.1 hq
    exact ⟨p', hp', rfl, q', hq', rfl⟩
  rcases State.mem_fibresOf.1 h with ⟨p, hp, hfence, q, hq, hasid, hf⟩ | ⟨v, hv, x, hx, hev⟩
  · obtain ⟨p', hp', hfence', q', hq', e⟩ := entry hp hq
    rw [e, BayCtx.fibres_mapF] at hf
    obtain ⟨y, hy, rfl⟩ := List.mem_map.1 hf
    exact ⟨y, State.mem_fibresOf.2 (.inl ⟨p', hp', hfence'.trans hfence, q', hq', (congrArg BayCtx.asid e).symm.trans hasid, hy⟩), rfl⟩
  · have hv : (v, f) ∈ tmap (onU u g) s.mig := hv
    rw [tmap_eq_map] at hv
    obtain ⟨y, hy, e⟩ := List.mem_map.1 hv
    cases e
    refine ⟨y.2, State.mem_fibresOf.2 (.inr ⟨_, hy, x, hx.imp_right fun ⟨p, hp, q, hq, hpark⟩ => ?_, hev⟩), rfl⟩
    obtain ⟨p', hp', -, q', hq', e⟩ := entry hp hq
    rw [e] at hpark
    exact ⟨p', hp', q', hq', hpark⟩

end Sys2Proof.Machine
end

section
/-!
SUPPORT. A fault fibre that starts, and the faults that it takes (R415, R416).
-/
namespace Sys2Proof.Machine

/-! ### Faults marked pending (R418) -/

/-- From s to t entries of fault rings may have changed, and no fibre. -/
structure RingFrame (s t : State) : Prop where
  units : t = { s with bays := t.bays }
  fib : ∀ b i k, t.fib b i k = s.fib b i k
  fenced : ∀ b, (t.bay b).fenced = (s.bay b).fenced
  asids : ∀ b i, (t.bctx b i).map BayCtx.asid = (s.bctx b i).map BayCtx.asid
  fibres : ∀ a f, f ∈ t.fibresOf a → f ∈ s.fibresOf a

theorem BayCtx.modRing_kept (c : BayCtx) (e : Nat) (h : FRing → FRing) :
    (c.modRing e h).asid = c.asid ∧ (c.modRing e h).park = c.park ∧ (c.modRing e h).fibres = c.fibres := by
  unfold BayCtx.modRing
  split
  · exact ⟨rfl, rfl, rfl⟩
  · split
    · exact ⟨rfl, rfl, rfl⟩
    · split <;> exact ⟨rfl, rfl, rfl⟩

theorem State.fenced_modC (s : State) (b i : Nat) (g : BayCtx → BayCtx) (a : Nat) :
    ((s.modC b i g).bay a).fenced = (s.bay a).fenced := by
  unfold State.modC
  by_cases e : a = b
  · rw [e, State.bay_modBay_self]
  · rw [State.bay_modBay_ne _ _ e]

theorem State.asid_modC (s : State) (b i : Nat) {g : BayCtx → BayCtx} (hg : ∀ c, (g c).asid = c.asid) (a j : Nat) :
    ((s.modC b i g).bctx a j).map BayCtx.asid = (s.bctx a j).map BayCtx.asid := by
  by_cases e : a = b ∧ j = i
  · obtain ⟨rfl, rfl⟩ := e
    rw [State.bctx_modC_self, Option.map_map]
    exact congrArg (Option.map · _) (funext hg)
  · rw [State.bctx_modC_ne _ _ (not_and_or.1 e)]

namespace RingFrame

variable {s t u : State}

theorem refl (s : State) : RingFrame s s := ⟨rfl, fun _ _ _ => rfl, fun _ => rfl, fun _ _ => rfl, fun _ _ h => h⟩

theorem trans (h : RingFrame s t) (k : RingFrame t u) : RingFrame s u where
  units := k.units.trans (by rw [h.units])
  fib b i j := (k.fib b i j).trans (h.fib b i j)
  fenced b := (k.fenced b).trans (h.fenced b)
  asids b i := (k.asids b i).trans (h.asids b i)
  fibres a f hf := h.fibres a f (k.fibres a f hf)

theorem ctxs (h : RingFrame s t) : t.ctxs = s.ctxs := by rw [h.units]

theorem modEnt (s : State) (b i e : Nat) (q : BitVec 32) (h : FEnt → FEnt) : RingFrame s (s.modEnt b i e q h) where
  units := rfl
  fib := s.fib_modC_of_slots b i fun c => c.slots_modRing e _
  fenced := s.fenced_modC b i _
  asids := s.asid_modC b i fun c => (c.modRing_kept e _).1
  fibres _ _ hf := State.fibresOf_modC_of_fibres (fun c => (c.modRing_kept e _).1) (fun c => (c.modRing_kept e _).2.1)
    (fun c => (c.modRing_kept e _).2.2) hf

theorem markPend (s : State) (q : PFault) (h : FEnt → FEnt) : RingFrame s (s.markPend q h) := by
  unfold State.markPend
  split
  · split
    · exact modEnt ..
    · exact refl s
  · exact refl s

theorem markPends (l : List PFault) (s : State) (h : FEnt → FEnt) : RingFrame s (l.foldl (fun t q => t.markPend q h) s) := by
  induction l generalizing s with
  | nil => exact refl s
  | cons q r ih => exact (markPend s q h).trans (ih _)

end RingFrame

theorem BayCtx.modRing_modSlot (c : BayCtx) (e k : Nat) (h : FRing → FRing) (g : Slot → Slot) :
    (c.modRing e h).modSlot k g = (c.modSlot k g).modRing e h := by
  unfold BayCtx.modRing
  split
  · rfl
  · split
    · rfl
    · split <;> rfl

/-- A slot and a fault ring are changed in any order. -/
theorem State.markPend_modF (s : State) (q : PFault) (e : FEnt → FEnt) (b i k : Nat) (h : Fibre → Fibre) :
    (s.markPend q e).modF b i k h = (s.modF b i k h).markPend q e := by
  unfold State.markPend
  split
  · rename_i b' asid x _
    rw [State.keyOf_modF]
    split
    · rename_i i' _
      unfold State.modEnt State.modF
      by_cases hp : b' = b ∧ i' = i
      · obtain ⟨rfl, rfl⟩ := hp
        rw [State.modC_modC, State.modC_modC]
        simp only [BayCtx.modRing_modSlot]
      · exact State.modC_comm s (not_and_or.1 hp) ..
    · rfl
  · rfl

/-! ### The fault fibre in its slot (R415) -/

/-- The context's only fault fibre is g, in slot k of key i of bay b. -/
structure FaultAt (asid b i k : Nat) (g : Fibre) (t : State) : Prop where
  seat : t.fib b i k = some g
  flag : g.isFault = true
  only : ∀ f ∈ t.fibresOf asid, f.isFault = true → f = g
  unfenced : (t.bay b).fenced = false
  owner : (t.bctx b i).map BayCtx.asid = some asid

namespace FaultAt

variable {asid b i k : Nat} {g : Fibre} {t u : State}

theorem faultFibre (h : FaultAt asid b i k g t) : t.faultFibre asid = some g := by
  obtain ⟨c, hc, rfl⟩ := Option.map_eq_some_iff.1 h.owner
  have hmem := State.fib_mem_fibresOf hc h.seat h.unfenced
  unfold State.faultFibre
  obtain ⟨f, hf⟩ := Option.isSome_iff_exists.1 (List.find?_isSome.2 ⟨g, hmem, h.flag⟩)
  rw [hf, h.only f (List.mem_of_find?_eq_some hf) (List.find?_some hf)]

theorem rings (h : FaultAt asid b i k g t) (hr : RingFrame t u) : FaultAt asid b i k g u where
  seat := (hr.fib b i k).trans h.seat
  flag := h.flag
  only f hf := h.only f (hr.fibres asid f hf)
  unfenced := (hr.fenced b).trans h.unfenced
  owner := (hr.asids b i).trans h.owner

theorem modCtx (h : FaultAt asid b i k g t) (a : Nat) (m : Ctx → Ctx) : FaultAt asid b i k g (t.modCtx a m) :=
  ⟨h.seat, h.flag, h.only, h.unfenced, h.owner⟩

theorem countEntry (h : FaultAt asid b i k g t) (p : Cur) : FaultAt asid b i k g (t.countEntry p) := by
  unfold State.countEntry
  split
  · exact h.modCtx ..
  · exact h

theorem postFree (h : FaultAt asid b i k g t) {ev : Ev} (hev : ∀ b a u, ev ≠ .migrationArrival b a u) :
    FaultAt asid b i k g (t.postFree ev) :=
  ⟨h.seat, h.flag, fun f hf => h.only f (State.fibresOf_postFree hev hf), h.unfenced, h.owner⟩

theorem modU (h : FaultAt asid b i k g t) {m : Fibre → Fibre} (hm : ∀ f, (m f).isFault = f.isFault) :
    FaultAt asid b i k (m g) (t.modU g.uid m) where
  seat := by rw [State.fib_modU, h.seat, Option.map_some, onU_of_uid rfl]
  flag := (hm g).trans h.flag
  only f hf hflag := by
    obtain ⟨x, hx, rfl⟩ := State.fibresOf_modU hf
    have hx' : x.isFault = true := by
      rw [onU] at hflag
      split at hflag
      · exact (hm x).symm.trans hflag
      · exact hflag
    rw [h.only x hx hx', onU_of_uid rfl]
  unfenced := by
    have e : (t.modU g.uid m).bay b = { t.bay b with ctxs := tmap (BayCtx.mapF (onU g.uid m)) (t.bay b).ctxs } := tget_tmap rfl ..
    rw [e]
    exact h.unfenced
  owner := by
    rw [State.bctx_modU, Option.map_map]
    exact h.owner

end FaultAt

/-! ### What waits for the fault fibre (R416) -/

/-- The context counts n live fibres, nothing waits at its slice, and its backlog is m. -/
def State.Backlogged (t : State) (asid n : Nat) (m : List PFault) : Prop :=
  ∃ z, t.ctx asid = some z ∧ z.slice = [] ∧ z.backlog = m ∧ z.live = n

theorem State.Backlogged.modCtx {t : State} {asid n : Nat} {m m' : List PFault} (h : t.Backlogged asid n m) {g : Ctx → Ctx}
    (hg : ∀ z : Ctx, z.slice = [] → z.backlog = m → (g z).slice = [] ∧ (g z).backlog = m' ∧ (g z).live = z.live) :
    (t.modCtx asid g).Backlogged asid n m' := by
  obtain ⟨z, hz, hs, hb, hl⟩ := h
  obtain ⟨hs', hb', hl'⟩ := hg z hs hb
  exact ⟨g z, (State.ctx_modCtx_self ..).trans (congrArg _ hz), hs', hb', hl'.trans hl⟩

theorem State.Backlogged.calm {t u : State} {asid n : Nat} {m : List PFault} (h : t.Backlogged asid n m) (hc : CalmFrame t u) :
    u.Backlogged asid n m := by
  obtain ⟨z, hz, hs, hb, hl⟩ := h
  obtain ⟨y, hy, e⟩ := hc.ctx hz
  exact ⟨y, hy, (congrArg Ctx.slice e : _).trans hs, (congrArg Ctx.backlog e : _).trans hb, (congrArg Ctx.live e : _).trans hl⟩

/-- Since s only the lists of fibres named u have grown. -/
def Grown (s : State) (u : Nat) (t : State) : Prop :=
  ∀ b i k a f, s.fib b i k = some a → t.fib b i k = some f → f.uid = u ∨ f.pend.length ≤ a.pend.length

/-- From s to t the context's fault fibre g has started; n fibres of the context are live and its backlog is m. -/
structure FaultStart (s : State) (asid b i k n : Nat) (g : Fibre) (m : List PFault) (t : State) : Prop where
  place : FaultAt asid b i k g t
  grown : Grown s g.uid t
  ctx : t.Backlogged asid n m

namespace FaultStart

variable {s t u : State} {asid b i k n : Nat} {g : Fibre} {m : List PFault}

theorem rings (h : FaultStart s asid b i k n g m t) (hr : RingFrame t u) : FaultStart s asid b i k n g m u where
  place := h.place.rings hr
  grown b' i' k' a f ha hf := h.grown b' i' k' a f ha ((hr.fib ..).symm.trans hf)
  ctx := h.ctx.calm (.of_ctxs hr.ctxs)

theorem countEntry (h : FaultStart s asid b i k n g m t) (p : Cur) : FaultStart s asid b i k n g m (t.countEntry p) := by
  have hfib : (t.countEntry p).bays = t.bays := by
    unfold State.countEntry
    split <;> rfl
  refine ⟨h.place.countEntry p, fun b' i' k' a f ha hf => h.grown b' i' k' a f ha ((State.fib_of_bays hfib ..).symm.trans hf), ?_⟩
  unfold State.countEntry
  split
  · rename_i c _
    by_cases e : c.asid = asid
    · rw [e]
      exact h.ctx.modCtx fun z hs hb => ⟨hs, hb, rfl⟩
    · obtain ⟨z, hz, hrest⟩ := h.ctx
      exact ⟨z, (State.ctx_modCtx_ne _ _ (Ne.symm e)).trans hz, hrest⟩
  · exact h.ctx

/-- Faults join the fault fibre's list (R412). -/
theorem join (h : FaultStart s asid b i k n g m t) (l : List PFault) :
    FaultStart s asid b i k n { g with pend := g.pend ++ l } m (t.modU g.uid fun y => { y with pend := y.pend ++ l }) where
  place := h.place.modU (m := fun y => { y with pend := y.pend ++ l }) fun _ => rfl
  grown b' i' k' a f ha hf := by
    rw [State.fib_modU] at hf
    obtain ⟨x, hx, rfl⟩ := Option.map_eq_some_iff.1 hf
    by_cases e : x.uid = g.uid
    · rw [onU_of_uid e]
      exact .inl e
    · rw [onU_of_ne e]
      exact (h.grown b' i' k' a x ha hx)
  ctx := h.ctx

/-- The oldest faults of the backlog go into the list while that has room (R416). -/
theorem fill (h : FaultStart s asid b i k n g m t) :
    FaultStart s asid b i k n { g with pend := g.pend ++ m.take (16 - g.pend.length) } (m.drop (16 - g.pend.length))
      (t.fillFault asid) := by
  have hf := h.place.faultFibre
  obtain ⟨z, hz, -, hb, -⟩ := h.ctx
  subst hb
  have h1 : FaultStart s asid b i k n g (z.backlog.drop (16 - g.pend.length))
      (t.modCtx asid fun y => { y with backlog := y.backlog.drop (16 - g.pend.length) }) :=
    ⟨h.place.modCtx .., h.grown, h.ctx.modCtx fun x hs hx => ⟨hs, congrArg (List.drop _) hx, rfl⟩⟩
  unfold State.fillFault
  rw [hf, hz]
  exact (h1.rings (.markPends ..)).join _

/-- A fault that comes to the fault fibre joins its list, or its backlog where the list is full or faults wait before it (R416). -/
theorem give (h : FaultStart s asid b i k n g m t) (q : PFault) :
    (g.pend.length < 16 → m = [] → FaultStart s asid b i k n { g with pend := g.pend ++ [q] } [] (t.giveFault asid q)) ∧
      (16 ≤ g.pend.length → m.length < 4096 → FaultStart s asid b i k n g (m ++ [q]) (t.giveFault asid q)) := by
  have hf := h.place.faultFibre
  obtain ⟨z, hz, -, hb, -⟩ := h.ctx
  subst hb
  unfold State.giveFault
  rw [hz, hf]
  dsimp only
  refine ⟨fun hp hm => ?_, fun hp hm => ?_⟩
  · rw [if_pos (by rw [hm, decide_eq_true hp]; rfl)]
    exact hm ▸ (h.rings (.markPend ..)).join [q]
  · rw [if_neg (by rw [decide_eq_false (Nat.not_lt.2 hp)]; nofun)]
    unfold State.toBacklog
    rw [hz]
    dsimp only
    rw [if_neg (Nat.not_le.2 hm)]
    exact ⟨(h.place.modCtx ..).postFree nofun, h.grown, h.ctx.modCtx fun x hs hx => ⟨hs, congrArg (· ++ [q]) hx, rfl⟩⟩

/-- The faults taken so far stand in the list, and from the seventeenth on in the backlog. -/
theorem give_next {l : List PFault} (h : FaultStart s asid b i k n { g with pend := l.take 16 } (l.drop 16) t) (q : PFault)
    (hl : l.length < 4112) :
    FaultStart s asid b i k n { g with pend := (l ++ [q]).take 16 } ((l ++ [q]).drop 16) (t.giveFault asid q) := by
  by_cases hs : l.length < 16
  · have ht : l.take 16 = l := List.take_of_length_le (by omega)
    have hd : l.drop 16 = [] := List.drop_of_length_le (by omega)
    have hg := (h.give q).1 (by rw [ht]; exact hs) hd
    rw [List.take_of_length_le (by rw [List.length_append, List.length_singleton]; omega),
      List.drop_of_length_le (by rw [List.length_append, List.length_singleton]; omega)]
    rwa [ht] at hg
  · have hg := (h.give q).2 (by rw [List.length_take]; omega) (by rw [List.length_drop]; omega)
    rwa [List.take_append_of_le_length (by omega), List.drop_append_of_le_length (by omega)]

theorem give_all (l : List PFault) {l0 : List PFault} {t : State}
    (h : FaultStart s asid b i k n { g with pend := l0.take 16 } (l0.drop 16) t) (hl : l0.length + l.length ≤ 4112) :
    FaultStart s asid b i k n { g with pend := (l0 ++ l).take 16 } ((l0 ++ l).drop 16)
      (l.foldl (fun v q => v.giveFault asid q) t) := by
  induction l generalizing l0 t with
  | nil => rwa [List.append_nil]
  | cons q r ih =>
    rw [List.length_cons] at hl
    have hnext := ih (h.give_next q (by omega)) (by rw [List.length_append, List.length_singleton]; omega)
    rwa [List.append_assoc] at hnext

end FaultStart

end Sys2Proof.Machine
end

section
/-!
SUPPORT. The start of the fault fibre (R415).
-/
namespace Sys2Proof.Machine

/-- The context with a fibre in a slot. -/
def BayCtx.seat (k : Nat) (g : Fibre) (c : BayCtx) : BayCtx := c.modSlot k fun z => { z with fib := some g, resv := false }

theorem State.occupy_eq (s : State) (b i k : Nat) (f : Fibre) :
    s.occupy b i k f = s.modC b i (BayCtx.seat k { f with w := 0, wait := .ready }) := rfl

/-- A fibre that takes a slot and is changed there. -/
theorem State.occupy_modF (s : State) (b i k : Nat) (f : Fibre) (h : Fibre → Fibre) :
    (s.occupy b i k f).modF b i k h = s.modC b i (BayCtx.seat k (h { f with w := 0, wait := .ready })) := by
  rw [State.occupy_eq]
  unfold State.modF
  rw [State.modC_modC]
  unfold BayCtx.seat
  simp only [BayCtx.modSlot_modSlot]
  rfl

/-- The fault fibre of context x as it starts with fault q (R415, R409). -/
def newFaultFibre (u : Nat) (x : Ctx) (q : PFault) : Fibre :=
  ({ Fibre.start u x.fentry 0 6 with isFault := true } : Fibre).enter x.hentry q.hcause q.hval q.hseq x.fentry

theorem State.hentryOf_eq {s : State} {p : Cur} {a : Nat} {x : Ctx} (ho : (s.bctx p.bay p.idx).map BayCtx.asid = some a)
    (hx : s.ctx a = some x) : s.hentryOf p = x.hentry := by
  obtain ⟨c, hc, rfl⟩ := Option.map_eq_some_iff.1 ho
  rw [State.hentryOf, hc, Option.bind_some, hx]

theorem State.faultFibre_none {s : State} {a : Nat} (h : s.faultFibre a = none) {f : Fibre} (hf : f ∈ s.fibresOf a) :
    f.isFault = false :=
  Bool.eq_false_iff.2 (List.find?_eq_none.1 h f hf)

theorem State.fib_seat_ne (s : State) {b i k b' i' k' : Nat} (g : Fibre) (h : ¬(b' = b ∧ i' = i ∧ k' = k)) :
    (s.modC b i (BayCtx.seat k g)).fib b' i' k' = s.fib b' i' k' := by
  unfold State.fib
  by_cases e : b' = b ∧ i' = i
  · obtain ⟨rfl, rfl⟩ := e
    rw [State.bctx_modC_self]
    cases s.bctx b' i' with
    | none => rfl
    | some c => exact congrArg Slot.fib (c.slot_modSlot_ne _ fun hk => h ⟨rfl, rfl, hk⟩)
  · rw [State.bctx_modC_ne _ _ (not_and_or.1 e)]

section
variable {s : State} {b i k : Nat} {c : BayCtx} {x : Ctx}
variable (hc : s.bctx b i = some c) (hn : s.faultFibre c.asid = none) (hb : (s.bay b).fenced = false)
include hc hn hb

/-- A fault fibre that takes a slot is the only one, where none was before. -/
theorem FaultAt.seated (k : Nat) {g : Fibre} (hg : g.isFault = true) : FaultAt c.asid b i k g (s.modC b i (BayCtx.seat k g)) where
  seat := by
    rw [State.fib, State.bctx_modC_self, hc]
    exact congrArg Slot.fib (BayCtx.slot_modSlot_self ..)
  flag := hg
  only f hf hflag := by
    have old (h : f ∈ s.fibresOf c.asid) : f = g := nomatch hflag.symm.trans (State.faultFibre_none hn h)
    rcases State.fibresOf_modC (g := BayCtx.seat k g) (fun _ => rfl) (fun _ => rfl) hf with h | ⟨d, hd, hasid, -, h⟩
    · exact old h
    · rcases BayCtx.mem_fibres_modSlot h with h | h
      · obtain ⟨hbay, hctx⟩ := State.bctx_mem hd
        exact old (State.mem_fibresOf.2 (.inl ⟨_, hbay, hb, _, hctx, hasid, h⟩))
      · exact (Option.some.inj h).symm
  unfenced := (s.fenced_modC b i _ b).trans hb
  owner := (s.asid_modC b i (g := BayCtx.seat k g) (fun _ => rfl) b i).trans (congrArg _ hc)

/-- The fault fibre starts where the slot was free. -/
theorem State.startFaultFibre_start (hx : s.ctx c.asid = some x) (hk : s.fib b i k = none) (hs : x.slice = []) (q : PFault) :
    FaultStart s c.asid b i k (x.live + 1) (newFaultFibre s.nextId x q) x.backlog (s.startFaultFibre c.asid b i k x.fentry q) := by
  let f : Fibre := { Fibre.start s.nextId x.fentry 0 6 with isFault := true }
  let v : State := ({ s.occupy b i k f with nextId := s.nextId + 1 }.addLive c.asid 1).countSpawn c.asid
  let clear (e : FEnt) : FEnt := { e with pend := false }
  let enter (h : Word) (y : Fibre) : Fibre := y.enter h q.hcause q.hval q.hseq x.fentry
  have hvx : v.ctx c.asid = some { x with live := x.live + 1, launch := x.launch.map fun l => { l with spawned := l.spawned + 1 } } := by
    refine (State.ctx_modCtx_self ..).trans ?_
    rw [State.addLive, State.ctx_modCtx_self, show State.ctx { s.occupy b i k f with nextId := s.nextId + 1 } c.asid = some x from hx]
    rfl
  have hrings := RingFrame.markPend v q clear
  have hentry : (v.markPend q clear).hentryOf ⟨b, i, k⟩ = x.hentry := by
    have howner := (s.asid_modC b i (g := BayCtx.seat k { f with w := 0, wait := .ready }) (fun _ => rfl) b i).trans (congrArg _ hc)
    refine Eq.trans (State.hentryOf_eq (x := _) ((hrings.asids b i).trans howner) ((congrArg (tfind · c.asid) hrings.ctxs).trans hvx)) rfl
  have hstart : s.startFaultFibre c.asid b i k x.fentry q =
      ((v.modF b i k (enter x.hentry)).markPend q clear).countEntry ⟨b, i, k⟩ := by
    rw [← State.markPend_modF, ← hentry]
    rfl
  have hseat := FaultAt.seated hc hn hb k (g := newFaultFibre s.nextId x q) rfl
  have hfib (b' i' k' : Nat) (hp : ¬(b' = b ∧ i' = i ∧ k' = k)) := s.fib_seat_ne (newFaultFibre s.nextId x q) hp
  rw [show s.modC b i (BayCtx.seat k (newFaultFibre s.nextId x q)) = (s.occupy b i k f).modF b i k (enter x.hentry) from
    (State.occupy_modF s b i k f (enter x.hentry)).symm] at hseat hfib
  have hmain : FaultStart s c.asid b i k (x.live + 1) (newFaultFibre s.nextId x q) x.backlog (v.modF b i k (enter x.hentry)) := by
    refine ⟨⟨hseat.seat, hseat.flag, hseat.only, hseat.unfenced, hseat.owner⟩, fun b' i' k' a y ha hy => ?_, _, hvx, hs, rfl, rfl⟩
    by_cases hp : b' = b ∧ i' = i ∧ k' = k
    · obtain ⟨rfl, rfl, rfl⟩ := hp
      cases hk.symm.trans ha
    · cases ((hfib b' i' k' hp).trans ha).symm.trans hy
      exact .inr (Nat.le_refl _)
  rw [hstart]
  exact (hmain.rings (RingFrame.markPend _ q clear)).countEntry _

end

/-! ### Where the fault fibre starts (R415) -/

section
variable (s : State) (asid : Nat) {g : Ctx → Ctx}
variable (hg : ∀ x : Ctx, (g x).pkgs = x.pkgs ∧ (g x).rect = x.rect ∧ (g x).ended = x.ended)
include hg

theorem State.inPart_modCtx (a b : Nat) : (s.modCtx asid g).inPart a b = s.inPart a b := by
  unfold State.inPart
  by_cases e : a = asid
  · rw [e, State.ctx_modCtx_self]
    cases s.ctx asid with
    | none => rfl
    | some x =>
      rw [Option.map_some]
      dsimp only
      rw [(hg x).1, (hg x).2.1]
      rfl
  · rw [State.ctx_modCtx_ne _ _ e]
    rfl

theorem State.endsAt_modCtx (b i : Nat) : (s.modCtx asid g).endsAt b i = s.endsAt b i := by
  unfold State.endsAt
  rw [show (s.modCtx asid g).bctx b i = s.bctx b i from rfl]
  cases s.bctx b i with
  | none => rfl
  | some c =>
    rw [Option.bind_some, Option.bind_some]
    by_cases e : c.asid = asid
    · rw [e, State.ctx_modCtx_self]
      cases s.ctx asid with
      | none => rfl
      | some x => exact congrArg Option.isSome (hg x).2.2
    · rw [State.ctx_modCtx_ne _ _ e]

/-- The fault slot stays where it is. -/
theorem State.faultPlace_modCtx (a : Nat) : (s.modCtx asid g).faultPlace a = s.faultPlace a := by
  have hbay : (s.modCtx asid g).faultBay a = s.faultBay a := by
    unfold State.faultBay State.usable
    simp only [State.inPart_modCtx s asid hg]
    rfl
  have hactive (b i : Nat) : (s.modCtx asid g).activeAt b i = s.activeAt b i := by
    unfold State.activeAt
    rw [State.endsAt_modCtx s asid hg]
    rfl
  unfold State.faultPlace State.faultHome
  rw [hbay]
  simp only [hactive]
  rfl

end

section
variable {s : State} {asid b i k : Nat} {c : BayCtx} (hp : s.faultPlace asid = some (b, i, k))
include hp

/-- The fault slot holds no fibre, and its bay is not fenced. -/
theorem State.faultPlace_spec : s.fib b i k = none ∧ (s.bay b).fenced = false := by
  unfold State.faultPlace at hp
  split at hp
  · rename_i b' i' hhome
    split at hp
    · rename_i d hd
      dsimp only at hp
      split at hp
      · rename_i hfree
        cases hp
        obtain ⟨-, hslot⟩ := Bool.and_eq_true_iff.1 hfree
        obtain ⟨hnone, -⟩ := Bool.and_eq_true_iff.1 hslot
        refine ⟨(State.fib_of_bctx hd _).trans (Option.isNone_iff_eq_none.1 hnone), ?_⟩
        obtain ⟨a, ha, hkey⟩ := Option.bind_eq_some_iff.1 hhome
        obtain ⟨j, -, e⟩ := Option.map_eq_some_iff.1 hkey
        cases e
        obtain ⟨p, hfind, rfl⟩ := Option.map_eq_some_iff.1 ha
        have husable := List.find?_some hfind
        unfold State.usable at husable
        simp only [Bool.and_eq_true, Bool.not_eq_true'] at husable
        exact husable.1.2
      · cases hp
    · cases hp
  · cases hp

end

/-! ### FAULT_FIBRE_START (R415, R416) -/

/-- The state of FAULT_FIBRE_START before those leave their waits whose lists have grown (R413). -/
def State.startsFault (s : State) (asid : Nat) (x : Ctx) : State :=
  x.slice.foldl (fun u q => u.giveFault asid q) (((s.startFault asid).fillFault asid).modCtx asid fun y => { y with slice := [] })

theorem execFaultFibreStart_starts {s : State} {asid : Nat} {x : Ctx} (he : s.ev = .faultFibreStart asid) (hx : s.ctx asid = some x)
    (ha : s.faultActive asid = true) : exec .faultFibreStart s = .next ((s.startsFault asid x).leaveWaits s) := by
  show execFaultFibreStart s = _
  unfold execFaultFibreStart
  split
  · rename_i e
    cases e.symm.trans he
    rw [hx]
    dsimp only
    rw [ha]
    rfl
  · rename_i e
    exact absurd he (e _)

theorem State.startsFault_mem (s : State) (asid : Nat) (x : Ctx) : (s.startsFault asid x).mem = s.mem := by
  unfold State.startsFault
  rw [foldl_mem fun t q => t.giveFault_mem asid q]
  exact (State.fillFault_mem ..).trans (State.startFault_mem ..)

section
variable {s : State} {b i k : Nat} {c : BayCtx} {x : Ctx} {q : PFault} {rest : List PFault}
variable (hc : s.bctx b i = some c) (hn : s.faultFibre c.asid = none) (hp : s.faultPlace c.asid = some (b, i, k))
variable (hx : s.ctx c.asid = some x)
include hc hn hp hx

/-- The oldest fault of the backlog starts the fault fibre, and the next sixteen join its list. -/
theorem State.startsFault_backlog (hb : x.backlog = q :: rest) (hs : x.slice = []) :
    FaultStart s c.asid b i k (x.live + 1) { newFaultFibre s.nextId x q with pend := rest.take 16 } (rest.drop 16)
      (s.startsFault c.asid x) := by
  obtain ⟨hfree, hfence⟩ := State.faultPlace_spec hp
  have hx1 : (s.modCtx c.asid fun y => { y with backlog := rest }).ctx c.asid = some { x with backlog := rest } :=
    (State.ctx_modCtx_self ..).trans (congrArg _ hx)
  have h1 := (State.startFaultFibre_start (s := s.modCtx c.asid fun y => { y with backlog := rest }) hc hn hfence hx1 hfree hs q).fill
  have hstart : s.startFault c.asid = (s.modCtx c.asid fun y => { y with backlog := rest }).startFaultFibre c.asid b i k x.fentry q := by
    unfold State.startFault
    rw [hn, hx, hp]
    dsimp only
    rw [hb]
  unfold State.startsFault
  rw [hs, hstart]
  exact ⟨h1.place.modCtx .., h1.grown, h1.ctx.modCtx fun _ _ hz => ⟨rfl, hz, rfl⟩⟩

/-- The oldest fault at the slice starts the fault fibre, and the others follow. -/
theorem State.startsFault_slice (hb : x.backlog = []) (hs : x.slice = q :: rest) (hl : rest.length ≤ 4112) :
    FaultStart s c.asid b i k (x.live + 1) { newFaultFibre s.nextId x q with pend := rest.take 16 } (rest.drop 16)
      (s.startsFault c.asid x) := by
  obtain ⟨hfree, hfence⟩ := State.faultPlace_spec hp
  have hkeep : (s.startFault c.asid).fillFault c.asid = s := by
    have hstart : s.startFault c.asid = s := by
      unfold State.startFault
      rw [hn, hx, hp]
      dsimp only
      rw [hb]
    unfold State.fillFault
    rw [hstart, hn]
  have hx1 : (s.modCtx c.asid fun y => { y with slice := [] }).ctx c.asid = some { x with slice := [] } :=
    (State.ctx_modCtx_self ..).trans (congrArg _ hx)
  have hp1 := (State.faultPlace_modCtx s c.asid (g := fun y => { y with slice := [] }) (fun _ => ⟨rfl, rfl, rfl⟩) c.asid).trans hp
  have h1 := State.startFaultFibre_start (s := s.modCtx c.asid fun y => { y with slice := [] }) hc hn hfence hx1 hfree rfl q
  have hfirst : (s.modCtx c.asid fun y => { y with slice := [] }).giveFault c.asid q =
      (s.modCtx c.asid fun y => { y with slice := [] }).startFaultFibre c.asid b i k x.fentry q := by
    unfold State.giveFault
    rw [hx1, show State.faultFibre (s.modCtx c.asid fun y => { y with slice := [] }) c.asid = none from hn, hp1]
    dsimp only
    rw [hb]
    rfl
  unfold State.startsFault
  rw [hkeep, hs, List.foldl_cons, hfirst]
  have h2 : FaultStart s c.asid b i k (x.live + 1) (newFaultFibre s.nextId x q) x.backlog
      ((s.modCtx c.asid fun y => { y with slice := [] }).startFaultFibre c.asid b i k x.fentry q) := ⟨h1.place, h1.grown, h1.ctx⟩
  rw [hb] at h2
  exact FaultStart.give_all rest (l0 := []) h2 (by rw [List.length_nil, Nat.zero_add]; exact hl)

end

end Sys2Proof.Machine
end

section
/-!
SUPPORT. The fault fibre while others leave their waits (R413).
-/
namespace Sys2Proof.Machine

theorem Fibre.retire_uid (f : Fibre) : f.retire.uid = f.uid := by rw [Fibre.retire, f.nextPc_eq]
theorem Fibre.retire_pend (f : Fibre) : f.retire.pend = f.pend := by rw [Fibre.retire, f.nextPc_eq]

theorem CalmFrame.imaged {s t : State} (h : t.ctxs = s.ctxs) (b asid : Nat) : CalmFrame s (s.imaged t b asid) := by
  rcases s.imaged_cases t b asid with ⟨im, mg, e⟩ | ⟨k, m, e⟩
  · rw [e]
    exact .of_ctxs h
  · rw [e]
    unfold State.endImage
    split
    · exact .endCtx ..
    · obtain ⟨mg, hmg⟩ := s.tallyPages_units b asid .uncorrectable [k]
      rw [hmg]
      exact ⟨(CalmFrame.endCtx { s with mgmt := mg } ..).calm⟩

/-- No page is found changed where all are alike. -/
theorem filter_changed_nil {α : Type} [DecidableEq α] (l : List Nat) {f g : Nat → α} (h : ∀ k, f k = g k) :
    (l.filter fun k => ([] : List Nat).contains k || decide (f k ≠ g k)) = [] :=
  List.filter_eq_nil_iff.2 fun k _ => by simp [h k]

theorem State.putPages_verified {s t : State} {bad : Option (Nat × Bool)} (h : bad = none) (b asid : Nat) (d : BayCtx) (ks : List Nat) :
    ∃ im mg, (s.putPages t b asid d ks bad).1 = { t with images := im, mgmt := mg } := by
  rw [h]
  exact t.sealPages_units b d ks

theorem State.badPage_of_nil (s : State) (b : Nat) (c : BayCtx) {ks : List Nat} (h : ks = []) : s.badPage b c ks = none := by
  rw [h]
  rfl

theorem State.read_congr {s t : State} (hm : t.mem = s.mem) (a n : Nat) : t.read a n = s.read a n := by rw [State.read, hm]; rfl

theorem State.imagePage_congr {s t : State} (hm : t.mem = s.mem) (b : Nat) (c : BayCtx) (k : Nat) :
    t.imagePage b c k = s.imagePage b c k := by
  unfold State.imagePage
  simp only [State.read_congr hm]

theorem State.viaPages_unchanged {s t : State} {b asid : Nat} {c : BayCtx} (hs : s.saved b asid = some c)
    (ht : (s.keyOf b asid).bind (fun i => t.bctx b i) = some c) (hm : t.mem = s.mem) :
    ∃ im mg, (s.viaPages t b asid []).1 = { t with images := im, mgmt := mg } := by
  unfold State.viaPages
  rw [hs, ht]
  exact State.putPages_verified (State.badPage_of_nil _ _ _ (filter_changed_nil _ fun k => (State.imagePage_congr hm b c k).symm)) ..

/-- A change that touches no saved context is made as it is, but for images and counters (R425). -/
theorem State.imaged_resident {s t : State} {b : Nat} (ht : ∀ j, 4 ≤ j → t.bctx b j = s.bctx b j) (hm : t.mem = s.mem) (asid : Nat) :
    ∃ im mg, s.imaged t b asid = { t with images := im, mgmt := mg } := by
  unfold State.imaged State.viaImage
  cases hs : s.saved b asid with
  | none =>
    rw [State.viaPages_resident _ _ _ hs]
    exact ⟨t.images, t.mgmt, rfl⟩
  | some c =>
    refine State.viaPages_unchanged hs ?_ hm
    unfold State.saved at hs
    obtain ⟨j, hj, hc⟩ := Option.bind_eq_some_iff.1 hs
    split at hc
    · cases hc
    · rename_i hj4
      rw [hj, Option.bind_some, ht j (Nat.not_lt.1 hj4), hc]

/-- In t the fibre g stands where it started, and the context and the other lists are as they were. -/
structure Stays (s : State) (asid b i k n : Nat) (g : Fibre) (m : List PFault) (t : State) : Prop where
  seat : t.fib b i k = some g
  grown : Grown s g.uid t
  ctx : t.Backlogged asid n m

theorem FaultStart.stays {s t : State} {asid b i k n : Nat} {g : Fibre} {m : List PFault} (h : FaultStart s asid b i k n g m t) :
    Stays s asid b i k n g m t := ⟨h.place.seat, h.grown, h.ctx⟩

namespace Stays

variable {s t u : State} {asid b i k n : Nat} {g : Fibre} {m : List PFault}

theorem of_fibs (h : Stays s asid b i k n g m t) (hf : ∀ b i k, u.fib b i k = t.fib b i k) (hc : CalmFrame t u) :
    Stays s asid b i k n g m u where
  seat := (hf ..).trans h.seat
  grown b' i' k' a f ha hu := h.grown b' i' k' a f ha ((hf ..).symm.trans hu)
  ctx := h.ctx.calm hc

theorem modC (h : Stays s asid b i k n g m t) (a j : Nat) {e : BayCtx → BayCtx} (he : ∀ c, (e c).slots = c.slots) :
    Stays s asid b i k n g m (t.modC a j e) := h.of_fibs (t.fib_modC_of_slots a j he) (.of_ctxs rfl)

theorem cellar (h : Stays s asid b i k n g m t) (hc : CellarFrame t u) : Stays s asid b i k n g m u :=
  h.of_fibs hc.fib (.of_ctxs hc.ctxs)

theorem imaged (h : Stays s asid b i k n g m t) (hu : Stays s asid b i k n g m u) (hc : u.ctxs = t.ctxs) (a x : Nat) :
    Stays s asid b i k n g m (t.imaged u a x) := by
  rcases t.imaged_bays u a x with e | e
  · exact hu.of_fibs (State.fib_of_bays e) ((CalmFrame.of_ctxs hc.symm).trans (.imaged hc ..))
  · exact h.of_fibs (State.fib_of_bays e) (.imaged hc ..)

/-- Another fibre's wait completes. -/
theorem retireU (h : Stays s asid b i k n g m t) {v : Nat} (hv : g.uid ≠ v) {e : Fibre → Fibre}
    (he : ∀ f, (e f).uid = f.uid ∧ (e f).pend = f.pend) : Stays s asid b i k n g m (t.retireU v e) where
  seat := by rw [State.retireU_fib, h.seat, Option.map_some, onU_of_ne hv]
  grown b' i' k' a f ha hf := by
    rw [State.retireU_fib] at hf
    obtain ⟨x, hx, rfl⟩ := Option.map_eq_some_iff.1 hf
    have hgrown := h.grown b' i' k' a x ha hx
    by_cases hxv : x.uid = v
    · rw [onU_of_uid hxv, Fibre.retire_uid, Fibre.retire_pend, (he x).1, (he x).2]
      exact hgrown
    · rw [onU_of_ne hxv]
      exact hgrown
  ctx := h.ctx.calm (.retireU ..)

/-- Another slot's fibre leaves its wait. -/
theorem unblock (h : Stays s asid b i k n g m t) {a j l : Nat} (hp : b ≠ a ∨ i ≠ j ∨ k ≠ l) :
    Stays s asid b i k n g m (t.modF a j l fun x => { x with wait := .ready }) where
  seat := (State.fib_modF_ne t _ hp).trans h.seat
  grown b' i' k' x f hx hf := by
    by_cases e : b' = a ∧ i' = j ∧ k' = l
    · obtain ⟨rfl, rfl, rfl⟩ := e
      rw [State.fib_modF_self] at hf
      obtain ⟨y, hy, rfl⟩ := Option.map_eq_some_iff.1 hf
      exact h.grown b' i' k' x y hx hy
    · rw [State.fib_modF_ne t _ (by tauto)] at hf
      exact h.grown b' i' k' x f hx hf
  ctx := h.ctx

end Stays

/-! ### Service at a gutter that the fibre does not wait at (R235, R237) -/

/-- No fibre named u waits at a gutter of the context. -/
def BayCtx.GutFree (u : Nat) (c : BayCtx) : Prop := ∀ d, ∀ w, w ∈ (c.gut d).pops ∨ w ∈ (c.gut d).pushes → w.uid ≠ u

/-- Who waits at e waits at z. -/
def Gutter.Within (e z : Gutter) : Prop := e.pops ⊆ z.pops ∧ e.pushes ⊆ z.pushes

theorem BayCtx.GutFree.modGut {u : Nat} {c : BayCtx} (h : c.GutFree u) (d : Dir) {e : Gutter → Gutter}
    (he : (e (c.gut d)).Within (c.gut d)) : (c.modGut d e).GutFree u := by
  intro d' w hw
  cases d <;> cases d'
  · exact h .east w (hw.imp (he.1 ·) (he.2 ·))
  · exact h .west w hw
  · exact h .east w hw
  · exact h .west w (hw.imp (he.1 ·) (he.2 ·))

theorem BayCtx.modGut_slots (c : BayCtx) (d : Dir) (e : Gutter → Gutter) : (c.modGut d e).slots = c.slots := by
  cases d <;> rfl

/-- The fibre g stays, and does not wait at a gutter of the context under key j of bay a. -/
structure Apart (s : State) (asid b i k n : Nat) (g : Fibre) (m : List PFault) (a j : Nat) (t : State) : Prop where
  stays : Stays s asid b i k n g m t
  free : ∀ c, t.bctx a j = some c → c.GutFree g.uid

namespace Apart

variable {s t u : State} {asid b i k n : Nat} {g : Fibre} {m : List PFault} {a j : Nat}

theorem of_bctx (h : Apart s asid b i k n g m a j t) (hb : ∀ b i, u.bctx b i = t.bctx b i) (hc : CalmFrame t u) :
    Apart s asid b i k n g m a j u where
  stays := h.stays.of_fibs (fun b i k => by rw [State.fib, hb]; rfl) hc
  free c hu := h.free c ((hb a j).symm.trans hu)

theorem modGut (h : Apart s asid b i k n g m a j t) (d : Dir) {e : Gutter → Gutter}
    (he : ∀ c, t.bctx a j = some c → (e (c.gut d)).Within (c.gut d)) :
    Apart s asid b i k n g m a j (t.modC a j fun y => y.modGut d e) where
  stays := h.stays.modC a j fun c => c.modGut_slots d e
  free c hc := by
    rw [State.bctx_modC_self] at hc
    obtain ⟨y, hy, rfl⟩ := Option.map_eq_some_iff.1 hc
    exact (h.free y hy).modGut d (he y hy)

theorem takeWord (h : Apart s asid b i k n g m a j t) (d : Dir) : Apart s asid b i k n g m a j (t.takeWord a j d) := by
  unfold State.takeWord
  split
  · have hgut := h.modGut d (e := fun z => { z with q := z.q.drop 1 }) fun _ _ => ⟨List.Subset.refl _, List.Subset.refl _⟩
    exact hgut.of_bctx (fun _ _ => rfl) (.of_ctxs rfl)
  · exact h

theorem sendWord (h : Apart s asid b i k n g m a j t) (d : Dir) (w : Word) : Apart s asid b i k n g m a j (t.sendWord a j d w) := by
  unfold State.sendWord
  split
  · have hgut := h.modGut d (e := fun z => { z with cred := z.cred - 1 }) fun _ _ => ⟨List.Subset.refl _, List.Subset.refl _⟩
    exact hgut.of_bctx (fun _ _ => rfl) (.of_ctxs rfl)
  · exact h

theorem retireU (h : Apart s asid b i k n g m a j t) {v : Nat} (hv : g.uid ≠ v) {e : Fibre → Fibre}
    (he : ∀ f, (e f).uid = f.uid ∧ (e f).pend = f.pend) : Apart s asid b i k n g m a j (t.retireU v e) where
  stays := h.stays.retireU hv he
  free c hc := by
    rw [State.bctx_retireU] at hc
    obtain ⟨y, hy, rfl⟩ := Option.map_eq_some_iff.1 hc
    intro d w hw
    refine h.free y hy d w ?_
    cases d <;> exact hw

/-- Service of those that wait (R235, R237). -/
theorem serveGut (h : Apart s asid b i k n g m a j t) (d : Dir) (l : Nat) : Apart s asid b i k n g m a j (t.serveGut a j d l) := by
  induction l generalizing t with
  | zero => exact h
  | succ l ih =>
    unfold State.serveGut
    split
    · exact h
    · rename_i c hc
      have hfree := h.free c hc d
      have push {p : GutWait} {q : List GutWait} (hp : (c.gut d).pushes = p :: q) (cr : Nat) :
          Apart s asid b i k n g m a j (if p.fwd || cr == 0 then t else
            State.serveGut (((t.modC a j fun y => y.modGut d fun z => { z with pushes := q }).sendWord a j d p.word).retireU
              p.uid id) a j d l) := by
        split
        · exact h
        · refine ih (Apart.retireU (Apart.sendWord (Apart.modGut h d fun y hy => ?_) ..) (Ne.symm (hfree p ?_)) fun _ => ⟨rfl, rfl⟩)
          · cases hc.symm.trans hy
            exact ⟨List.Subset.refl _, hp ▸ List.subset_cons_self ..⟩
          · exact .inr (hp ▸ List.mem_cons_self)
      have pop {x : GutWait} {r : List GutWait} (hp : (c.gut d).pops = x :: r) : x.uid ≠ g.uid :=
        hfree x (.inl (hp ▸ List.mem_cons_self))
      have both {x : GutWait} {r : List GutWait} (hp : (c.gut d).pops = x :: r) (w : Word) :
          Apart s asid b i k n g m a j (State.serveGut ((((t.modC a j fun y => y.modGut d fun z =>
            { z with pops := r, pushes := z.pushes.drop 1 }).takeWord a j d).sendWord a j d w).retireU x.uid
            fun f => f.setReg x.d w) a j d l) := by
        refine ih (Apart.retireU (Apart.sendWord (Apart.takeWord (Apart.modGut h d fun y hy => ?_) _) ..) (Ne.symm (pop hp))
          fun _ => ⟨rfl, rfl⟩)
        cases hc.symm.trans hy
        exact ⟨hp ▸ List.subset_cons_self .., List.drop_subset ..⟩
      extract_lets z cr
      split
      · rename_i w _ x r _ hpops
        split
        · refine ih (Apart.retireU (Apart.takeWord (Apart.modGut h d fun y hy => ?_) _) (Ne.symm (pop hpops)) fun _ => ⟨rfl, rfl⟩)
          cases hc.symm.trans hy
          exact ⟨hpops ▸ List.subset_cons_self .., List.Subset.refl _⟩
        · split
          · split
            · exact both hpops w
            · exact push ‹_› _
          · split
            · exact both hpops w
            · exact h
      · split
        · exact push ‹_› _
        · exact h

theorem gutters (h : Apart s asid b i k n g m a j t) (d : Dir) : Apart s asid b i k n g m a j (t.gutters a j d) := by
  unfold State.gutters
  split
  · split
    · exact h.serveGut ..
    · exact h
  · exact h

end Apart

theorem State.gutters_saved (t : State) (a : Nat) {j : Nat} (hj : ¬j < 4) (d : Dir) : t.gutters a j d = t := by
  unfold State.gutters
  split
  · exact if_neg hj
  · rfl

/-! ### Those that leave their waits (R413) -/

theorem BayCtx.forget_gutFree (c : BayCtx) (u : Nat) : (c.forget u).GutFree u := by
  intro d w hw
  have hne {l : List GutWait} (h : w ∈ l.filter (·.uid != u)) : w.uid ≠ u := by
    simpa using (List.mem_filter.1 h).2
  cases d <;> exact hw.elim hne hne

/-- The fibre at p is no longer in a queue and no longer waits (R413). -/
def State.unqueued (t : State) (p : Cur) (u : Nat) : State :=
  (t.modC p.bay p.idx fun c => c.forget u).modF p.bay p.idx p.slot fun x => { x with wait := .ready }

namespace Stays

variable {s t u : State} {asid b i k n : Nat} {g : Fibre} {m : List PFault} {p : Cur} {f : Fibre}

theorem unqueued (h : Stays s asid b i k n g m t) (hp : b ≠ p.bay ∨ i ≠ p.idx ∨ k ≠ p.slot) (v : Nat) :
    Stays s asid b i k n g m (t.unqueued p v) :=
  (h.modC p.bay p.idx (e := fun c => c.forget v) fun _ => rfl).unblock hp

/-- A fibre in another slot that has the name of g leaves its wait: it no longer stands at a gutter, so that no service there
reaches g. -/
theorem unqueued_served (h : Stays s asid b i k n g m t) (hp : b ≠ p.bay ∨ i ≠ p.idx ∨ k ≠ p.slot) (x : Nat) :
    Stays s asid b i k n g m
      (((t.imaged (t.unqueued p g.uid) p.bay x).gutters p.bay p.idx .east).gutters p.bay p.idx .west) := by
  have hz := h.imaged (h.unqueued hp g.uid) rfl p.bay x
  by_cases hi : p.idx < 4
  · have hsaved (j : Nat) (hj : 4 ≤ j) : (t.unqueued p g.uid).bctx p.bay j = t.bctx p.bay j := by
      have e : j ≠ p.idx := by omega
      exact (State.bctx_modC_ne _ _ (.inr e)).trans (State.bctx_modC_ne _ _ (.inr e))
    obtain ⟨im, mg, e⟩ := State.imaged_resident hsaved rfl x
    have hapart : Apart s asid b i k n g m p.bay p.idx (t.imaged (t.unqueued p g.uid) p.bay x) := by
      refine ⟨hz, fun c hc => ?_⟩
      rw [e] at hc
      have hc : (t.unqueued p g.uid).bctx p.bay p.idx = some c := hc
      unfold State.unqueued State.modF at hc
      rw [State.bctx_modC_self, State.bctx_modC_self, Option.map_map] at hc
      obtain ⟨y, -, rfl⟩ := Option.map_eq_some_iff.1 hc
      exact y.forget_gutFree g.uid
    exact ((hapart.gutters .east).gutters .west).stays
  · rwa [State.gutters_saved _ _ hi, State.gutters_saved _ _ hi]

theorem abandon (h : Stays s asid b i k n g m t) (hp : b ≠ p.bay ∨ i ≠ p.idx ∨ k ≠ p.slot) (hf : f.uid = g.uid) :
    Stays s asid b i k n g m (t.abandon p f) := by
  unfold State.abandon
  rw [hf]
  split
  · exact h.unqueued_served hp _
  · exact h

/-- An evicted fibre leaves its wait. -/
theorem abandonRec (h : Stays s asid b i k n g m t) (a j v : Nat) : Stays s asid b i k n g m (t.abandonRec a j v) := by
  unfold State.abandonRec
  split
  · refine (Stays.cellar (Stays.imaged h (Stays.modC h a j fun _ => ?_) ?_ ..) (.congest ..)).cellar (.reserve ..)
    · rfl
    · rfl
  · exact h

/-- Whoever leaves a wait, the fault fibre stays. -/
theorem leaveWaits (h : Stays s asid b i k n g m t) (hn : s.fib b i k = none) : Stays s asid b i k n g m (t.leaveWaits s) := by
  unfold State.leaveWaits
  dsimp only
  refine List.foldlRecOn _ _ (List.foldlRecOn _ _ h fun v hv p _ => ?_) fun v hv p _ => ?_
  · split
    · rename_i f a hf ha
      split
      · rename_i hlt
        have hp : b ≠ p.bay ∨ i ≠ p.idx ∨ k ≠ p.slot := by
          by_contra hc
          simp only [not_or, not_not] at hc
          obtain ⟨rfl, rfl, rfl⟩ := hc
          cases hn.symm.trans ha
        exact hv.abandon hp ((hv.grown _ _ _ _ _ ha hf).resolve_right (Nat.not_le.2 hlt))
      · exact hv
    · exact hv
  · split
    · split
      · exact hv.abandonRec ..
      · exact hv
    · exact hv

end Stays

end Sys2Proof.Machine
end

section
/-!
PROOF. Eviction, restore, a waiting spawn of a cistern and the start of the fault fibre (O34).
-/
namespace Sys2Proof.Machine

/-- FAULT_FIBRE_START with a fault that waits: the fault fibre starts with the oldest, the next sixteen stand in its list and the
rest in the backlog, and it stays as it is while others leave their waits. -/
theorem State.startsFault_stays {s : State} {b i k : Nat} {c : BayCtx} {x : Ctx} {q : PFault} {rest : List PFault}
    (hc : s.bctx b i = some c) (hn : s.faultFibre c.asid = none) (hp : s.faultPlace c.asid = some (b, i, k))
    (hx : s.ctx c.asid = some x) (hw : x.backlog = q :: rest ∧ x.slice = [] ∨ x.backlog = [] ∧ x.slice = q :: rest)
    (hl : rest.length ≤ 4112) :
    Stays s c.asid b i k (x.live + 1) { newFaultFibre s.nextId x q with pend := rest.take 16 } (rest.drop 16)
      ((s.startsFault c.asid x).leaveWaits s) := by
  have hstart : FaultStart s c.asid b i k (x.live + 1) { newFaultFibre s.nextId x q with pend := rest.take 16 } (rest.drop 16)
      (s.startsFault c.asid x) := by
    rcases hw with ⟨hb, hs⟩ | ⟨hb, hs⟩
    · exact State.startsFault_backlog hc hn hp hx hb hs
    · exact State.startsFault_slice hc hn hp hx hb hs hl
  exact hstart.stays.leaveWaits (State.faultPlace_spec hp).1

/-- Settles O34: an access to a record that succeeds is followed by one change of a slot and its books, one that fails ends the
context, and the fault fibre is the only one of its context and keeps its name. -/
theorem cellarEvents : Obligations.CellarEvents := by
  unfold Obligations.CellarEvents
  intro s s' b i k c f hc ended
  refine ⟨fun he hk hr => ⟨fun hacc => ?_, fun hacc => ?_⟩, fun n r rest slots he hi ho hr hf => ⟨fun hh hacc => ?_, fun hacc => ?_⟩,
    fun q u n he hf hk hi hl hr hs hp hq => execCisternSpawnRetry_places hc he hf hk hi hl hr hs hp hq,
    fun x q rest he hx ha hn hp hw hl => ?_⟩
  · have hrec := RecordAccess.cellarAccess hacc
    obtain ⟨⟨y, hy, hblocked, hfib⟩, hmem⟩ := State.evicts_spec ((hrec.bctx b i).trans hc) c.asid c.cellar.room k f
    rw [execFibreEviction_evicts hc he hk hr, State.cellarOr_ok hacc]
    exact ⟨_, y, rfl, hy, hblocked, hfib, fun a => (hmem a).trans (hrec.memory a)⟩
  · rw [execFibreEviction_evicts hc he hk hr]
    exact ⟨_, rfl, fun y hy => State.cellarOr_ends hacc _ hy⟩
  · have hrec := RecordAccess.cellarAccess hacc
    obtain ⟨hmem, hfib, hring⟩ := State.restores_spec ((hrec.bctx b i).trans hc) hh k r rest slots
    have hsame : s'.fibreOf c.asid r = s.fibreOf c.asid r := by rw [hrec.units]; rfl
    rw [execCellarRestore_restores hc he hi ho hr hf, State.cellarOr_ok hacc]
    exact ⟨_, rfl, fun a => (hmem a).trans (hrec.memory a), hsame ▸ hfib, hring⟩
  · rw [execCellarRestore_restores hc he hi ho hr hf]
    exact ⟨_, rfl, fun y hy => State.cellarOr_ends hacc _ hy⟩
  · obtain ⟨hseat, -, z, hz, hslice, hbacklog, hlive⟩ := State.startsFault_stays hc hn hp hx hw hl
    refine ⟨_, _, execFaultFibreStart_starts he hx ha, hseat, rfl, rfl, rfl, rfl, rfl, rfl, rfl, rfl, rfl,
      ⟨z, hz, hslice, hbacklog, hlive⟩, fun a => ?_⟩
    rw [State.leaveWaits_mem, State.startsFault_mem]

end Sys2Proof.Machine
end
